-- ==== Sys2Proof/Word.lean ====
section
/-!
DEFINITION. Words of the GV4896 model: bytes, 16-, 32- and 64-bit words, SHA-384 digests, and the plainest arithmetic on
them. Bit 0 is the least significant bit of every field (R4); multi-byte fields are little-endian (R5).
-/
namespace Sys2Proof

/-- One byte. -/
abbrev Byte := BitVec 8
/-- A 16-bit field. -/
abbrev Word16 := BitVec 16
/-- A 32-bit register or Brixxel cell. -/
abbrev Word := BitVec 32
/-- A 64-bit field, a mask over 64 outputs or 64 channels. -/
abbrev DWord := BitVec 64
/-- A SHA-384 digest, its first byte in the most significant byte (DIGEST48, R479). -/
abbrev Digest := BitVec 384

/-- Value of a list of bytes read little-endian (R5). -/
def leNat : List Byte → Nat
  | [] => 0
  | b :: bs => b.toNat + 256 * leNat bs

/-- The `n` little-endian bytes of `v` (R5). -/
def leBytes : Nat → Nat → List Byte
  | 0, _ => []
  | n + 1, v => BitVec.ofNat 8 v :: leBytes n (v / 256)

/-- Value of a list of bytes read big-endian. -/
def beNat (bs : List Byte) : Nat := leNat bs.reverse

/-- The `n` big-endian bytes of `v`. -/
def beBytes (n v : Nat) : List Byte := (leBytes n v).reverse

/-- `2^n - 1` at most: an unsigned counter of `n` bits that saturates. -/
def satInc (n v : Nat) : Nat := if v + 1 < 2 ^ n then v + 1 else 2 ^ n - 1

/-- A saturating counter of `n` bits raised by `k`. -/
def satAdd (n v k : Nat) : Nat := min (v + k) (2 ^ n - 1)

/-- Bits `lo + len - 1 : lo` of a number. -/
def bitsOf (v lo len : Nat) : Nat := (v >>> lo) % 2 ^ len

/-- One bit of a number. -/
def bitOf (v i : Nat) : Bool := v.testBit i

/-- A Bool as a bit of a register. -/
def b2n (b : Bool) : Nat := if b then 1 else 0

/-- The mask with bit `i` set. -/
def bitMask (w i : Nat) : BitVec w := BitVec.ofNat w (2 ^ i)

/-- A mask with bit `i` given the value `b`. -/
def putBit {w : Nat} (m : BitVec w) (i : Nat) (b : Bool) : BitVec w :=
  if b then m ||| bitMask w i else m &&& ~~~ bitMask w i

/-- The numbers of the set bits of a mask, lowest first. -/
def setBits {w : Nat} (m : BitVec w) : List Nat := (List.range w).filter fun i => m.getLsbD i

/-- How many bits of a mask are set. -/
def popCount {w : Nat} (m : BitVec w) : Nat := (setBits m).length

/-- A digest from its 48 bytes in order. -/
def digestOfBytes (bs : List Byte) : Digest := BitVec.ofNat 384 (beNat bs)

/-- The 48 bytes of a digest. -/
def digestBytes (d : Digest) : List Byte := beBytes 48 d.toNat

end Sys2Proof
end

