-- ==== Sys2Proof/Machine/Types.lean ====
section
/-!
DEFINITION. The types of the GV4896 model: names, records and codes that the commands (Sys2Proof.Instr) and the state are
built from. Each cites the rule that gives it.
-/
namespace Sys2Proof.Machine

/-- The two control halves: Indigo is 0, Amber is 1 (01 R16, R17). -/
inductive Half where
  | indigo | amber
  deriving DecidableEq, Repr

/-- The other half. -/
def Half.other : Half → Half
  | .indigo => .amber
  | .amber => .indigo

/-- The number of a half in registers and log records (02 R58). -/
def Half.num : Half → Nat
  | .indigo => 0
  | .amber => 1

/-- One value per half. -/
structure Both (α : Type) where
  indigo : α
  amber : α
  deriving DecidableEq, Repr

/-- The value of one half. -/
def Both.get {α : Type} (b : Both α) : Half → α
  | .indigo => b.indigo
  | .amber => b.amber

/-- The pair with one half's value replaced. -/
def Both.set {α : Type} (b : Both α) (h : Half) (v : α) : Both α :=
  match h with
  | .indigo => { b with indigo := v }
  | .amber => { b with amber := v }

/-- The pair with one half's value changed by `f`. -/
def Both.upd {α : Type} (b : Both α) (h : Half) (f : α → α) : Both α := b.set h (f (b.get h))

/-- The same value for both halves. -/
def Both.rep {α : Type} (v : α) : Both α := ⟨v, v⟩

/-- A port number, 0 to 31 (01 R21). -/
abbrev PortId := Fin 32
/-- A channel number: port × 2 + chip select (01 R21). -/
abbrev ChanId := Fin 64
/-- A chip select of a port. -/
abbrev Cs := Fin 2
/-- A hold output of the Headgate (11 R306). -/
abbrev OutId := Fin 64
/-- A sense input of the Headgate (11 R312). -/
abbrev SenseId := Fin 32
/-- A Brixxel core: 0-3 Indigo, 4-7 Amber, 8-9 management, 10-11 measurement (01 R26, R23). -/
abbrev CoreId := Fin 12
/-- An event number, 0 to 1535 (19 R530). -/
abbrev EventId := Fin 1536

/-- The port of a channel (01 R21). -/
def ChanId.port (c : ChanId) : PortId := ⟨c.val / 2, by omega⟩
/-- The chip select of a channel (01 R21). -/
def ChanId.cs (c : ChanId) : Cs := ⟨c.val % 2, by omega⟩
/-- The channel of a port's chip select (01 R21). -/
def chanOf (p : PortId) (cs : Cs) : ChanId := ⟨2 * p.val + cs.val, by omega⟩
/-- The bank of a port (01 R21). -/
def PortId.bank (p : PortId) : Fin 4 := ⟨p.val / 8, by omega⟩
/-- The home half of a port: banks 0 and 1 Indigo, banks 2 and 3 Amber (01 R16). -/
def PortId.home (p : PortId) : Half := if p.val < 16 then .indigo else .amber

/-- The shared status codes (00 R9). -/
inductive Code where
  | ok | busy | refusedState | deniedAccess | deniedAuth | orphaned | fuseIncomplete
  | badIndex | badSubindex | badType | badRange | crcFail | frameAbort | overrun | hole
  | reject | full | empty | domainOff | verifyFail | revoked | rollback | noSource | internal
  deriving DecidableEq, Repr

/-- The 8-bit value of a status code (00 R9). -/
def Code.num : Code → Nat
  | .ok => 0x00 | .busy => 0x01 | .refusedState => 0x2E | .deniedAccess => 0x31
  | .deniedAuth => 0x32 | .orphaned => 0x34 | .fuseIncomplete => 0x38 | .badIndex => 0x40
  | .badSubindex => 0x41 | .badType => 0x42 | .badRange => 0x43 | .crcFail => 0x50
  | .frameAbort => 0x51 | .overrun => 0x52 | .hole => 0x53 | .reject => 0x5A | .full => 0x60
  | .empty => 0x61 | .domainOff => 0x62 | .verifyFail => 0x70 | .revoked => 0x71
  | .rollback => 0x72 | .noSource => 0x73 | .internal => 0x7F

/-- The shared codes, in the order of R9's table (00 R9). -/
def Code.all : List Code :=
  [.ok, .busy, .refusedState, .deniedAccess, .deniedAuth, .orphaned, .fuseIncomplete, .badIndex, .badSubindex, .badType, .badRange,
   .crcFail, .frameAbort, .overrun, .hole, .reject, .full, .empty, .domainOff, .verifyFail, .revoked, .rollback, .noSource, .internal]

/-- The shared code of a value, if any (00 R9). -/
def Code.ofNum (n : Nat) : Option Code := Code.all.find? fun c => c.num == n

/-- Step of R11's order in which a refusal is reported; outcomes stand after every refusal. -/
def Code.rank : Code → Nat
  | .domainOff => 1
  | .crcFail | .frameAbort => 2
  | .badIndex | .badSubindex | .hole | .overrun => 3
  | .deniedAuth => 4
  | .deniedAccess => 5
  | .refusedState => 6
  | .badType | .badRange => 7
  | .fuseIncomplete => 8
  | .full | .empty | .busy => 9
  | _ => 10

/-- The refusal reported among those that apply: the first in R11's order; `none` where none applies. -/
def Code.first : List Code → Option Code
  | [] => none
  | c :: cs =>
    match Code.first cs with
    | none => some c
    | some d => if d.rank < c.rank then some d else some c

/-- The device modes (02 R33). -/
inductive DevMode where
  | cold | hold | guard | update | recover | quarantine | service | dormant
  deriving DecidableEq, Repr

/-- The code of a mode (02 R33). -/
def DevMode.num : DevMode → Nat
  | .cold => 0 | .hold => 1 | .guard => 2 | .update => 3 | .recover => 4
  | .quarantine => 5 | .service => 6 | .dormant => 7

/-- The modes in which a release may be made, verdicts are taken and HG_PUEN is high (11 R308, R316 cause 1). -/
def DevMode.running : DevMode → Bool
  | .hold | .guard | .update => true
  | _ => false

/-- The form of QUARANTINE (02 R39): none, tamper or freeze. -/
inductive QuarForm where
  | none | tamper | freeze
  deriving DecidableEq, Repr

/-- The code of a form (02 R39). -/
def QuarForm.num : QuarForm → Nat
  | .none => 0 | .tamper => 1 | .freeze => 2

/-- The channel states (02 R40). -/
inductive ChanState where
  | absent | probing | filling | held | released | updating | repairing | quarantined
  deriving DecidableEq, Repr

/-- The code of a channel state (02 R40). -/
def ChanState.num : ChanState → Nat
  | .absent => 0 | .probing => 1 | .filling => 2 | .held => 3
  | .released => 4 | .updating => 5 | .repairing => 6 | .quarantined => 7

/-- A half's claim in the stewardship record (11 R333: 0 none, 1 STEWARD, 2 SHADOW, 3 RESTARTING). -/
inductive Claim where
  | none | steward | shadow | restarting
  deriving DecidableEq, Repr

/-- The code of a claim (11 R333). -/
def Claim.num : Claim → Nat
  | .none => 0 | .steward => 1 | .shadow => 2 | .restarting => 3

/-- The lifecycle states (02 R47). -/
inductive Lifecycle where
  | raw | test | provision | mission | rma | scrap
  deriving DecidableEq, Repr

/-- The lifecycle code (02 R47). -/
def Lifecycle.num : Lifecycle → Nat
  | .raw => 0 | .test => 1 | .provision => 2 | .mission => 3 | .rma => 4 | .scrap => 5

/-- The lifecycle state of a code (02 R47). -/
def Lifecycle.ofCode : Nat → Option Lifecycle
  | 0 => some .raw | 1 => some .test | 2 => some .provision
  | 3 => some .mission | 4 => some .rma | 5 => some .scrap | _ => none

/-- Who wrote a log record (17 R489). -/
inductive Origin where
  | indigo | amber | management | measurement | sill
  deriving DecidableEq, Repr

/-- The origin code of a log record (17 R489). -/
def Origin.num : Origin → Nat
  | .indigo => 0 | .amber => 1 | .management => 2 | .measurement => 3 | .sill => 4

/-- The origin code of a half. -/
def Half.origin : Half → Origin
  | .indigo => .indigo
  | .amber => .amber

/-- A field of a log record's body: its width in bytes and its value. -/
abbrev LogField := Nat × Nat

/-- A record of the device log or the measurement log (17 R489, R575). -/
structure LogRec where
  kind : Nat
  seq : Nat
  time : Nat
  event : Nat
  code : Nat
  origin : Nat
  body : List LogField
  deriving DecidableEq, Repr

/-- The kind codes of log records (17 R575). -/
inductive LogKind where
  | event | modeChange | chanState | opRefused | verdict | repair | mutable_ | freeze | gateWait
  | svnExhausted | golden | disturb | psu | fuseAlarm | bootStop | boot | slotReject | service
  | tamper | sillMeas | missionMeas | measurement
  deriving DecidableEq, Repr

/-- The code of a record kind (17 R575). -/
def LogKind.num : LogKind → Nat
  | .event => 0x01 | .modeChange => 0x02 | .chanState => 0x03 | .opRefused => 0x04
  | .verdict => 0x05 | .repair => 0x06 | .mutable_ => 0x07 | .freeze => 0x08 | .gateWait => 0x09
  | .svnExhausted => 0x0A | .golden => 0x0B | .disturb => 0x0C | .psu => 0x0D
  | .fuseAlarm => 0x0E | .bootStop => 0x0F | .boot => 0x10 | .slotReject => 0x11
  | .service => 0x12 | .tamper => 0x13 | .sillMeas => 0x14 | .missionMeas => 0x15
  | .measurement => 0x16

/-- The bookkeeping of R576 for one limited source: the whole second of its last record, how many records it wrote in that
second and how many were withheld since its last record. -/
structure Throttle where
  src : Nat
  sec : Nat
  count : Nat
  withheld : Nat
  deriving DecidableEq, Repr

/-- One entry of the release plan (11 R313). -/
structure PlanEntry where
  used : Bool
  ignoreLoad : Bool
  holdOnSenseLoss : Bool
  holdWithPred : Bool
  delayMs : Word16
  predMask : DWord
  senseMask : Word
  senseLevel : Word
  settleMs : Word16
  senseTimeoutMs : Word16
  chanMask : DWord
  deriving DecidableEq, Repr

/-- An unused release plan entry (11 R331: the plan's default is all unused). -/
def PlanEntry.unused : PlanEntry :=
  ⟨false, false, false, false, 0, 0, 0, 0, 0, 0, 0⟩

/-- A half's posted verdict (02 R43, 11 R320). -/
structure Verdict where
  root : Digest
  gen : Word16
  code : Byte
  deriving DecidableEq, Repr

/-- The load class of a hold net (11 R310, R331). -/
inductive LoadClass where
  | notSensed | pulled | open_ | shorted
  deriving DecidableEq, Repr

/-- The code of a load class (11 R331). -/
def LoadClass.num : LoadClass → Nat
  | .notSensed => 0 | .pulled => 1 | .open_ => 2 | .shorted => 3

/-- The configuration of an event (19 R532, R550): priority 0-7, group 0-3, core 0-15. -/
structure EventCfg where
  priority : BitVec 3
  group : BitVec 2
  core : BitVec 4
  deriving DecidableEq, Repr

/-- A queued power-domain switch request (19 R541). -/
structure DomReq where
  dom : Fin 39
  on : Bool
  deriving DecidableEq, Repr

/-- A watchdog (19 R537, R551). -/
structure Wdog where
  armed : Bool
  periodMs : Word16
  deadline : Nat
  deriving DecidableEq, Repr

/-- A general timer (19 R536, R551): enable, periodic, period in µs, and when it was started. -/
structure GenTimer where
  enable : Bool
  periodic : Bool
  periodUs : BitVec 24
  start : Nat
  deriving DecidableEq, Repr

/-- The disturbance classes (11 R324). -/
inductive DisturbClass where
  | dropout | sag | surge | ripple
  deriving DecidableEq, Repr

/-- The wake sources (19 R545) with the codes of `wake_cause` (19 R549). -/
inductive WakeSource where
  | pin | sense (s : SenseId) | timer
  deriving DecidableEq, Repr

/-- The code of `wake_cause` (19 R549). -/
def WakeSource.num : WakeSource → Nat
  | .pin => 1 | .sense _ => 2 | .timer => 3

/-- What reading one bank of PSU registers over PMBus answered (11 R330): `status` and the further status registers, and
READ_POUT as read, in LINEAR11; `ok = false`: no answer, or a PEC mismatch with PEC in use. -/
structure PsuAnswer where
  ok : Bool
  status : Word16
  statusVout : Byte
  statusIout : Byte
  statusInput : Byte
  statusTemp : Byte
  pout : Word16
  deriving DecidableEq, Repr

/-- What the measurement block keeps of one PSU (11 R330, R331). -/
structure Psu where
  statusWord : Word16
  /-- READ_POUT as last read, in LINEAR11. -/
  pout : Word16
  unanswered : Nat
  arbLosses : Nat
  seen : Bool
  deriving DecidableEq, Repr

/-- A test step of the hold-up measurement (11 R327, R328): MEAS_BUS0 on its zoom path in µV, one sample each 0.25 µs from the start
of the step on, the step in current on MEAS_BUS1 in mA, and whether a disturbance or a trip occurred. -/
structure HuStep where
  samples : List Nat
  deltaMa : Nat
  disturbed : Bool
  deriving DecidableEq, Repr

/-- The monitored clocks of CLK_STATUS (19 R548, R551), in order of events 1524 to 1529. -/
inductive MonClock where
  | eng | core | port | peri | mirror | pakor
  deriving DecidableEq, Repr

/-- The bit of CLK_STATUS of a clock (19 R551). -/
def MonClock.num : MonClock → Nat
  | .eng => 0 | .core => 1 | .port => 2 | .peri => 3 | .mirror => 4 | .pakor => 5

/-- What PWRCLK sees in a monitor window of 100 µs (19 R548): the cycles of ENG, CORE, PORT, SCK, PERI, of the mirror PHY's PLL and of the
Pakor lane PLLs that it counts, and which of the root, mirror and Pakor PLLs lost their lock. Used by CLOCK_MONITOR_WINDOW. -/
structure ClockCounts where
  counts : Vector Nat 7
  rootLost : Bool
  mirrorLost : Bool
  pakorLost : Bool
  deriving DecidableEq, Repr

/-- What a bus window comparator reports (11 R326): a trip below the window, above it, or the trip clearing. -/
inductive BusTrip where
  | low | high | cleared
  deriving DecidableEq, Repr

/-- Where a burn stops before its last cell (14 R416, R421): how many of its cells, in their order, the burn reached, and
whether T_J stopped it (before the next cell) or a loss of power or a tamper response (in the last cell it reached, whose
readings the outcome gives like any other's). -/
structure BurnCut where
  cells : Nat
  temp : Bool
  deriving DecidableEq, Repr

/-- What burning fuse bits left of them, read back as a margin pair (14 R418): the bits of the words burned that read 1
loosely (bit by bit over the burned words), and those that read 1 tightly; `cut` where the burn stops before its last cell.
Used by the commands that burn. -/
structure BurnOutcome where
  loose : Nat
  tight : Nat
  cut : Option BurnCut
  deriving DecidableEq, Repr

/-- Who sends a management request (17 R501, R502, R481): the transport endpoint, and whether the request arrives in a
session that meets R392, as SECURE_FRAME traffic of one, or with Pakor's flag bit 2. -/
structure Requester where
  endpoint : Nat
  authorised : Bool
  deriving DecidableEq, Repr


/-- The protocol modes of a port's flash side, in the order of the table of R62 and the codes of FMODE_CSk (03 R86). -/
inductive FlashMode where
  | m111 | m114 | m144 | m444 | m118 | m888 | m8D
  deriving DecidableEq, Repr

/-- The code of a mode (03 R86 FMODE_CSk.mode). -/
def FlashMode.num : FlashMode → Nat
  | .m111 => 0 | .m114 => 1 | .m144 => 2 | .m444 => 3 | .m118 => 4 | .m888 => 5 | .m8D => 6

/-- The data lanes of a mode (03 R65). -/
def FlashMode.dataLanes : FlashMode → Nat
  | .m111 => 1 | .m114 | .m144 | .m444 => 4 | .m118 | .m888 | .m8D => 8

/-- Lanes of the command and of the address phase together, the tie-breaker of R65. -/
def FlashMode.headLanes : FlashMode → Nat
  | .m111 | .m114 | .m118 => 2 | .m144 => 5 | .m444 => 8 | .m888 | .m8D => 16

/-- The flash-side clocks with the codes 0 to 4 of FMODE_CSk.sck (03 R62, R86). -/
inductive FlashClk where
  | c25 | c66 | c100 | c133 | c200
  deriving DecidableEq, Repr

/-- The code of a clock (03 R86). -/
def FlashClk.num : FlashClk → Nat
  | .c25 => 0 | .c66 => 1 | .c100 => 2 | .c133 => 3 | .c200 => 4

/-- The clock of a code; codes 5 to 7 are unused and act as 200 MHz, the highest clock (03 R86). -/
def FlashClk.ofCode : Nat → FlashClk
  | 0 => .c25 | 1 => .c66 | 2 => .c100 | 3 => .c133 | _ => .c200

/-- Six times the clock in MHz, exact also for 400/3 and 400/6 MHz (03 R62). -/
def FlashClk.mhz6 : FlashClk → Nat
  | .c25 => 150 | .c66 => 400 | .c100 => 600 | .c133 => 800 | .c200 => 1200

/-- The next lower flash-side clock; 25 MHz stays (03 R64, R67). -/
def FlashClk.lower : FlashClk → FlashClk
  | .c25 => .c25 | .c66 => .c25 | .c100 => .c66 | .c133 => .c100 | .c200 => .c133

/-- The smallest calibration window in codes at a clock (03 R66). -/
def FlashClk.minWindow : FlashClk → Nat
  | .c200 | .c133 => 12
  | _ => 8

/-- A mode that the SFDP lists for reading, with the highest clock it allows (03 R65). -/
structure ModeEntry where
  mode : FlashMode
  clk : FlashClk
  deriving DecidableEq, Repr

/-- Where the SFDP's status map places the program-error, erase-error and suspend bits (06 R162): the opcode that reads the
register, and the bit. -/
structure StatusMap where
  progOp : Byte
  progBit : Fin 8
  eraseOp : Byte
  eraseBit : Fin 8
  suspOp : Byte
  suspBit : Fin 8
  deriving DecidableEq, Repr

/-- The host read commands by framing (03 R77). -/
inductive ReadKind where
  | read | fast111 | fast444 | fast888 | dualOut | dualIo | quadOut | quadIo | octal | octalDtr
  deriving DecidableEq, Repr

/-- The program and erase commands (06 R149, R151). -/
inductive WeirKind where
  | program | erase4k | erase32k | erase64k | chip
  deriving DecidableEq, Repr

/-- What the SFDP used in probing states of the part (03 R60, R63-R69, R77, R79; 06 R151, R155, R156, R159, R162, R166): decoded by
the port and mission firmware from the captured bytes, which PORTnn.RAW_SFDP holds. Times in ns. A place is the opcode that reads
the register, and the bit: of quad-enable, WIP, WEL, and of the bit under which WP_N protects the register. `volatileBits` are the
register bits that a host's write sets, `continuous` the mask and value of the mode bits that keep a continuous read, `opcodes` the
real part's opcodes on the flash side where they differ from the host's. -/
structure SfdpInfo where
  density : Nat
  pageSize : Nat
  modes : List ModeEntry
  strobe888 : Bool
  quadBit : Option (Byte × Fin 8)
  fourByteOnly : Bool
  suspend : Bool
  suspendLat : Nat
  typProgram : Option Nat
  typErase4k : Option Nat
  typErase32k : Option Nat
  typErase64k : Option Nat
  typChip : Option Nat
  multiplier : Option Nat
  statusMap : Option StatusMap
  wipAt : Byte × Fin 8
  welAt : Byte × Fin 8
  protectAt : Option (Byte × Fin 8)
  volatileBits : List (Byte × Byte)
  fourByteOps : Bool
  fourByteMode : Bool
  continuous : Option (Byte × Byte)
  opcodes : List (WeirKind × Byte)
  nativeWaits : List (ReadKind × Nat)
  smallestErase : Nat
  deriving DecidableEq, Repr

/-- The emulated protocol modes (03 R86 EMU_CSk.protocol). -/
inductive Protocol where
  | p1S | p444 | p888 | p8D
  deriving DecidableEq, Repr

/-- The code of an emulated protocol mode (03 R86). -/
def Protocol.num : Protocol → Nat
  | .p1S => 0 | .p444 => 1 | .p888 => 2 | .p8D => 3

/-- The timing policies (03 R73). -/
inductive TimingPolicy where
  | learn | native | advertised
  deriving DecidableEq, Repr

/-- The policy of a code of descriptor byte 0x04; other codes fail check 3 of R98 and never come into force. -/
def TimingPolicy.ofCode : Nat → TimingPolicy
  | 1 => .native
  | 2 => .advertised
  | _ => .learn

/-- What a host command has on the wire beside its own operands: the port, the chip select, the host SCK period in ps, whether it
ended on a byte boundary (a word boundary in DTR), the framing of its opcode, and whether SPnn_HDQ2 was low, WP_N of the 1-1-1 mode
(03 R60). -/
structure HostTx where
  port : PortId
  cs : Cs
  sckPs : Nat
  whole : Bool
  framing : Protocol
  wpLow : Bool
  deriving DecidableEq, Repr

/-- The channel a host command addresses (03 R59). -/
def HostTx.chan (t : HostTx) : ChanId := chanOf t.port t.cs

/-- The kind of a mirror fault, with the codes of FAULT_INFO.kind (05 R146). -/
inductive FaultKind where
  | sector | line | linkEcc | digestArea
  deriving DecidableEq, Repr

/-- The code of a fault kind (05 R146). -/
def FaultKind.num : FaultKind → Nat
  | .sector => 1 | .line => 2 | .linkEcc => 3 | .digestArea => 4

/-- What the sectors of a protected page are sealed under (05 R115): page version, line epoch, and the handle of the key. -/
structure Seal where
  version : Nat
  epoch : Nat
  key : Word
  deriving DecidableEq, Repr

/-- A mirror fault found by an access (05 R129): its kind and the leaf within the channel (the line index for a line). -/
structure MirrorFault where
  kind : FaultKind
  leaf : Nat
  deriving DecidableEq, Repr

/-- A host read beside its wire facts: the address, how many whole bytes the host clocks, the form of the opcode with a
4-byte address, the mode bits of a quad I/O read and whether it is sent without an opcode (03 R77), and what the mirror did: its
latency in ps from the address-bit-9 edge, a fault on the way, whether link ECC corrected an error, and whether the SRAM of a pinned
slot met an error that SECDED cannot correct. -/
structure HostReadOp where
  tx : HostTx
  modeBits : Byte
  noOpcode : Bool
  fourByte : Bool
  addr : Nat
  len : Nat
  latPs : Nat
  fault : Option MirrorFault
  linkEcc : Bool
  pinEcc : Bool
  deriving DecidableEq, Repr

/-- The outcome of a probe step (03 R63, R64, R66), by the number of the step: of the calibration sweep the codes that pass, over all
lanes and of each lane, and the flight time. -/
inductive ProbeResult where
  | reset
  | softReset
  | readId (first second : List Byte)
  | readSfdp (signature : Bool) (raw : List Byte) (info : SfdpInfo)
  | readStatus (regs : List Byte)
  | switchMode
  | calibrate (passing : BitVec 256) (lanes : List (BitVec 256)) (flight : Nat)
  deriving DecidableEq, Repr

/-- A write of the host to the emulated registers (03 R77, 01h and the configuration writes): the bytes it writes, each with the
opcode that reads its register; the volatile fields it sets; and whether it names non-volatile or protection bits. -/
structure RegWrite where
  bytes : List (Byte × Byte)
  protocol : Option Protocol
  wait : Option Nat
  quadEnable : Option Bool
  addr4 : Option Bool
  ignored : Bool
  deriving DecidableEq, Repr

/-- What a status or configuration read names (03 R77). -/
inductive StatusReg where
  | status
  | config (op : Byte)
  deriving DecidableEq, Repr

/-- The IO supply of one side of a bank as sensed (03 R61). -/
inductive IoSupply where
  | off | v18 | v33 | outside
  deriving DecidableEq, Repr

/-- The write classes of a region rule (04 R92). -/
inductive RegionClass where
  | locked | journaled | shadowed | loggedDeny
  deriving DecidableEq, Repr

/-- The code of a class (04 R92). -/
def RegionClass.num : RegionClass → Nat
  | .locked => 0 | .journaled => 1 | .shadowed => 2 | .loggedDeny => 3

/-- The class of a code (04 R92). -/
def RegionClass.ofCode : Nat → Option RegionClass
  | 0 => some .locked | 1 => some .journaled | 2 => some .shadowed | 3 => some .loggedDeny | _ => none

/-- The kinds of a region (04 R92). -/
inductive RegionKind where
  | signed | mutable_ | unused
  deriving DecidableEq, Repr

/-- The code of a kind (04 R92). -/
def RegionKind.num : RegionKind → Nat
  | .signed => 0 | .mutable_ => 1 | .unused => 2

/-- The kind of a code (04 R92). -/
def RegionKind.ofCode : Nat → Option RegionKind
  | 0 => some .signed | 1 => some .mutable_ | 2 => some .unused | _ => none

/-- A region rule (04 R92). -/
structure Rule where
  start : Nat
  length : Nat
  cls : RegionClass
  kind : RegionKind
  journalEvent : Bool
  denyRate : Nat
  ruleId : Nat
  deriving DecidableEq, Repr

/-- A channel descriptor (04 R90); the state byte 0x00 is the hardware state vector's copy and stands in memory. -/
structure Desc where
  enable : Bool
  sfdpOverride : Bool
  pinEnable : Bool
  scrubEnable : Bool
  gen : Nat
  policy : Nat
  hostBandMax : Nat
  flashSckMax : Nat
  overrideSfdp : Nat
  holdOutput : Nat
  mirrorPage : Nat
  mirrorExtent : Nat
  ruleBase : Nat
  ruleCount : Nat
  defaultClass : Nat
  manifestRef : Nat
  imageSvn : Nat
  leafCount : Nat
  commitSeq : Nat
  merkleRoot : Digest
  mutableDigest : Digest
  goldenLocal : Nat
  goldenK : Nat
  goldenM : Nat
  goldenState : Nat
  goldenPeers : Nat
  pinMap : Nat
  pinLeaves : Nat
  scrubHours : Nat
  deriving DecidableEq, Repr

/-- The descriptor of a channel that no port has cached: disabled, generation 0, bound to no output. -/
def Desc.none : Desc :=
  { enable := false, sfdpOverride := false, pinEnable := false, scrubEnable := false, gen := 0, policy := 0,
    hostBandMax := 3, flashSckMax := 4, overrideSfdp := 0, holdOutput := 0xFF, mirrorPage := 0, mirrorExtent := 0,
    ruleBase := 0, ruleCount := 0, defaultClass := 0, manifestRef := 0, imageSvn := 0, leafCount := 0, commitSeq := 0,
    merkleRoot := 0, mutableDigest := 0, goldenLocal := 0, goldenK := 0, goldenM := 0, goldenState := 0,
    goldenPeers := 0, pinMap := 0, pinLeaves := 0, scrubHours := 0 }

/-- A staged descriptor reload (04 R98, R99): the descriptor and rules loaded, its generation, when the load is complete, and the
generation that stood in SRAM then, once something has written SRAM since. -/
structure Staged where
  desc : Desc
  rules : List Rule
  gen : Nat
  loadedAt : Nat
  genAfter : Option Nat
  deriving DecidableEq, Repr

/-- Is the command an erase, so that the erase-error bit reports its failure. -/
def WeirKind.isErase : WeirKind → Bool
  | .program => false
  | _ => true

/-- How the Weir carries a command out (06 R154): on flash and mirror, on the mirror alone, refused, or taken into a host
write stream (08 R211). -/
inductive WeirClass where
  | journaled | shadowed | refused | stream
  deriving DecidableEq, Repr

/-- A command that a port issues on its flash side (06 R156, R159, R166): the mode it is framed in, its opcode and address. -/
structure FlashCmd where
  mode : FlashMode
  opcode : Byte
  addr : Nat
  deriving DecidableEq, Repr

/-- Where a command stands (06 R156-R160, R164): waiting for the flash side, running on the real part, the 1 ms reset
recovery, polling after it, its read-back, or an emulated duration or refusal time that ends at a deadline. -/
inductive WeirPhase where
  | waitFlash | running | recovery | busyPoll | readback | timed
  deriving DecidableEq, Repr

/-- A program or erase in flight on a channel (06 R156). -/
structure WeirOp where
  kind : WeirKind
  opcode : Byte
  addr : Nat
  len : Nat
  data : List Byte
  cls : WeirClass
  phase : WeirPhase
  order : Nat
  deadline : Nat
  ran : Nat
  timedOut : Bool
  resetAt : Nat
  hostSusp : Bool
  suspAt : Nat
  suspLat : Option Nat
  deviceSusp : Bool
  afterReset : Bool
  heldForLine : Bool
  innerUsed : Bool
  deriving DecidableEq, Repr

/-- Calibration result of a chip select, PORTnn.CAL_CSk (03 R86). -/
structure CalInfo where
  window : Nat
  flight : Nat
  delay : Nat
  attempts : Nat
  cause : Nat
  valid : Bool
  deriving DecidableEq, Repr

/-- The probe of a chip select under way (03 R63, R64): its attempt, the step that runs next, and the clock in force. -/
structure Probe where
  attempt : Nat
  step : Nat
  mode : FlashMode
  clk : FlashClk
  deriving DecidableEq, Repr

/-- A repair under way (05 R138): the erase unit, whether one retry has been used, and the content's source. -/
structure Repair where
  unit : Nat
  unitLen : Nat
  retried : Bool
  source : Nat
  startAt : Nat
  retryAt : Option Nat
  /-- The unit was to begin within a freeze and waits for its end (08 R229). -/
  waits : Bool
  deriving DecidableEq, Repr

/-- A scrub pass of a channel (05 R135): the next leaf, when it falls due, whether the pass is forced and whether lateness
has been reported for it. -/
structure Scrub where
  next : Nat
  dueAt : Nat
  forced : Bool
  late : Bool
  deriving DecidableEq, Repr

/-- Counters of the channel statistics objects (17 R488, 06 R174). -/
structure ChanStats where
  hostReadBytes : Nat
  pinHitBytes : Nat
  pinMisses : Nat
  underruns : Nat
  extends_ : Nat
  mirrorFaults : Nat
  refills : Nat
  repairs : Nat
  scrubPasses : Nat
  appliedJournaled : Nat
  denied : Nat
  loggedDenied : Nat
  chipEraseDenied : Nat
  appliedShadowed : Nat
  flashFail : Nat
  flashTimeout : Nat
  denySuppressed : Nat
  deriving DecidableEq, Repr

/-- Every counter at 0 (17 R488, 06 R174). -/
def ChanStats.zero : ChanStats := ⟨0, 0, 0, 0, 0, 0, 0, 0, 0, 0, 0, 0, 0, 0, 0, 0, 0⟩

/-- A leaf in a port's prefetch buffer (03 R75). -/
structure Prefetch where
  chan : ChanId
  leaf : Nat
  deriving DecidableEq, Repr

/-- A host read whose data waits (03 R72, 05 R131): what it asked for, from which generation, when its first data was due, and
the bytes it is waiting for. -/
structure HeldRead where
  op : HostReadOp
  kind : ReadKind
  gen : Nat
  dueAt : Nat
  leaf : Nat
  deriving DecidableEq, Repr

/-- What the flash side answered to a read-back (06 R157): whether the real part set a fail bit, and the bytes read. -/
structure Readback where
  failBit : Bool
  data : List Byte
  deriving DecidableEq, Repr

/-- A queued invalidate (04 R98). -/
structure Inval where
  chan : ChanId
  gen : Nat
  deriving DecidableEq, Repr

/-- The source a leaf or unit was taken from (05 R130, R138; 08 R230). -/
inductive Source where
  | flash | mirror | localGolden | peers | management | nowhere
  deriving DecidableEq, Repr

/-- The code of a source in log records: the order of recovery, flash and mirror first (model's own numbering). -/
def Source.num : Source → Nat
  | .flash => 0 | .mirror => 1 | .localGolden => 2 | .peers => 3 | .management => 4 | .nowhere => 5

/-- What a scrub step met (05 R136, R137): a fault of the mirror, the leaf as the port read it from flash at the first and, where that
did not compare, the second and the third read; and what an engine's digest of each read is off by (0 of a sound engine): the one
engine of the first, an engine of each half for the others. -/
structure ScrubRead where
  fault : Option MirrorFault
  first : List Byte
  off1 : Digest
  second : List Byte
  off2 : Both Digest
  third : List Byte
  off3 : Both Digest
  deriving DecidableEq, Repr

/-- A page of a line refill (05 R132): its source and its bytes. -/
structure PageIn where
  src : Source
  data : List Byte
  deriving DecidableEq, Repr

/-- A hash job descriptor (05 R147), with the leaves that it had hashed when it last yielded (01 R28). -/
structure HashJob where
  alg : Nat
  cls : Nat
  tag : Nat
  src : Nat
  length : Nat
  dst : Nat
  outLen : Nat
  srcDram : Bool
  done : Nat
  deriving DecidableEq, Repr

/-- What the mirror's training came to, per DRAM channel (05 R109, R110). -/
structure TrainOutcome where
  ok0 : Bool
  ok1 : Bool
  deriving DecidableEq, Repr


/-- A target of an update: a channel, the mission firmware or the extension firmware (08). -/
inductive Target where
  | chan (c : ChanId)
  | mission
  | extension
  deriving DecidableEq, Repr

/-- The journal's target code (08 R221). -/
def Target.code : Target → Nat
  | .chan c => c.val
  | .mission => 0x40
  | .extension => 0x41

/-- The sub-index of a target's objects (08, after the routes table). -/
def Target.sub (t : Target) : Nat := t.code + 1

/-- The place of a target in the vector of update records. -/
def Target.idx : Target → Fin 66
  | .chan c => ⟨c.val, by omega⟩
  | .mission => 64
  | .extension => 65

/-- The target of a journal code (08 R221). -/
def Target.ofCode (n : Nat) : Option Target :=
  if h : n < 64 then some (.chan ⟨n, h⟩) else if n = 0x40 then some .mission else if n = 0x41 then some .extension else none

/-- The target_kind a container for the target must carry (07 R176, R186). -/
def Target.kind : Target → Nat
  | .chan _ => 0
  | .mission => 1
  | .extension => 2

/-- The verification kinds that run stage by stage (07 R197); those of a reassembled container and of a leaf level are one judgement. -/
inductive VerKind where
  | fill | reconfirm | update
  deriving DecidableEq, Repr

/-- The groups of the container checks, in the order of R186 (07). -/
inductive CheckGroup where
  | structure_ | chain | image | revocation | floor
  deriving DecidableEq, Repr

/-- Place of a group in R186's table. -/
def CheckGroup.num : CheckGroup → Nat
  | .structure_ => 1 | .chain => 2 | .image => 3 | .revocation => 4 | .floor => 5

/-- The code a failing group reports (07 R186). -/
def CheckGroup.fail : CheckGroup → Code
  | .structure_ | .chain | .image => .verifyFail
  | .revocation => .revoked
  | .floor => .rollback

/-- A verification that a half runs (07 R196): its target, kind, container bytes, the next stage to complete, the failing
group found so far, the digests D_i that its engines have given of an update's leaves, and the root it rebuilt. -/
structure Verification where
  target : Target
  kind : VerKind
  gen : Nat
  container : List Byte
  stage : Nat
  failed : Option CheckGroup
  digests : List Digest
  root : Option Digest
  result : Option Code
  deriving DecidableEq, Repr

/-- What faulty engines make of a half's judgement (07 R185, R186): a REJECT of the big-number engine where the signatures are good, and
the difference between the digest it comes to and the right one; false and 0 of sound engines. -/
structure EngineWork where
  reject : Bool
  off : Digest
  deriving DecidableEq, Repr

/-- What a stage adds to the state (07 R196): what the half's engines make of it, the time a leaf's job took, and a leaf of flash part 1 as
the port has read it back (08 R214). -/
structure StageWork where
  engine : EngineWork
  ns : Nat
  back : List Byte
  deriving DecidableEq, Repr

/-- The routes that open an update (08). -/
inductive Route where
  | pldm | upload | stream | recovery
  deriving DecidableEq, Repr

/-- The edits of a descriptor that mission firmware ends with an invalidate (04 R105, R106): of the configuration, of the image at a
commit, of the pin list. -/
inductive EditKind where
  | config | image | pins
  deriving DecidableEq, Repr

/-- What the device holds of one target's update and recovery (08 R213, R230, R240). -/
structure TargetUpd where
  /-- `update_state`: 0 idle ... 7 floor. -/
  state : Nat
  /-- `update_status`. -/
  status : Code
  /-- `update_layout`. -/
  layout : Nat
  /-- The route of the update under way. -/
  route : Option Route
  /-- The container as received so far (payload included). -/
  container : List Byte
  /-- Bytes the opened transfer will carry in all. -/
  expect : Nat
  /-- The staging range reserved: DRAM offset; 08 R219. -/
  staging : Option Nat
  /-- The landing range reserved: mirror page; 08 R219. -/
  landing : Option Nat
  /-- image_size of the update, the bytes of both ranges; 08 R219. -/
  imageSize : Nat
  /-- seq of the INTENT and of the COMMIT of the update. -/
  intent : Nat
  commit : Nat
  /-- The image has been verified by both halves; the golden copy is durable or its wait has ended. -/
  verified : Bool
  golden : Bool
  /-- The update's activation has been asked for. -/
  activate : Bool
  /-- The half whose hold keeps the output asserted for the landing. -/
  heldOut : Option Half
  /-- Leaves of flash part 1 written so far (R214). -/
  part1 : List Nat
  /-- Golden-copy space reserved with the Allotter and not yet taken by the copy, bytes (R219). -/
  goldenHeld : Nat
  /-- The erase units left of flash part 2, by address; whether the first has failed once already (R216, as R138). -/
  switchUnits : List Nat
  switchRetried : Bool
  /-- The next unit was to begin within a freeze and waits for its end (R229). -/
  switchWaits : Bool
  /-- The digests of the image's leaves as each half verified them in step 2 (R215). -/
  digests : Both (List Digest)
  /-- The superseded COMMIT's seq, 0 none. -/
  supersedes : Nat
  /-- `stream_ctl`: 0 closed, 1 open, 2 committing. -/
  stream : Nat
  /-- The leaves staged by the stream, and the staging offset of the first. -/
  staged : List Nat
  /-- Deadline of the stream, the upload's start or the durable wait. -/
  idleAt : Option Nat
  /-- `recovery_state`, `recovery_source`, and the end of the upload wait or of the peers' 60 s. -/
  recState : Nat
  recSource : Nat
  recUntil : Option Nat
  /-- The recovery run has tried its local sources; the codes of the containers it has judged (R230, R233). -/
  recLocal : Bool
  recCodes : List Code
  /-- The update's remaining steps are completed at start-up: their records carry flag bit 2 (R225). -/
  atStart : Bool
  /-- The COMMIT installs a recovered container: no step 6 (R232). -/
  recovered : Bool
  /-- The descriptor's invalidate waits for a place in CHT_INVAL's queue (R105). -/
  invalDue : Bool
  /-- The edit of the descriptor under way, with its generation; the edits that wait for it to end; the code of a configuration edit
  that has ended and is not answered yet (R105). -/
  edit : Option (EditKind × Nat)
  editsDue : List EditKind
  editCode : Option Code
  /-- The mirror range, first byte and bytes, of the image that a commit superseded, until step 5 (R217). -/
  superseded : Option (Nat × Nat)
  deriving DecidableEq, Repr

/-- No update, no recovery. -/
def TargetUpd.idle : TargetUpd :=
  { state := 0, status := .ok, layout := 0, route := none, container := [], expect := 0, staging := none, landing := none, imageSize := 0, intent := 0,
    commit := 0, verified := false, golden := false, activate := false, heldOut := none, part1 := [], goldenHeld := 0, switchUnits := [], switchRetried := false, switchWaits := false, digests := Both.rep [],
    supersedes := 0, stream := 0, staged := [], idleAt := none, recState := 0, recSource := 0, recUntil := none, recLocal := false, recCodes := [],
    atStart := false, recovered := false, invalDue := false, edit := none, editsDue := [], editCode := none, superseded := none }

/-- The types of journal records (08 R221). -/
inductive JType where
  | bankHeader | intent | commit | switched | retired | floor | abandon | trialBoot | confirm | trialFail | recovery
  deriving DecidableEq, Repr

/-- The code of a record type (08 R221). -/
def JType.num : JType → Nat
  | .bankHeader => 0x01 | .intent => 0x10 | .commit => 0x11 | .switched => 0x12 | .retired => 0x13
  | .floor => 0x14 | .abandon => 0x15 | .trialBoot => 0x20 | .confirm => 0x21 | .trialFail => 0x22 | .recovery => 0x30

/-- A journal record (08 R221); its place in the bank is its place in the list. -/
structure JRec where
  type : JType
  target : Nat
  seq : Nat
  refSeq : Nat
  svn : Nat
  time : Nat
  root : Digest
  manifestRef : Nat
  slot : Nat
  flags : Nat
  aux : Nat
  mirrorPage : Nat
  imageSize : Nat
  deriving DecidableEq, Repr

/-- A commit-critical step that waits for the energy gate (08 R227, R228). -/
inductive GateStep where
  | journal (r : JRec)
  | floor (t : Target)
  | catalogue
  deriving DecidableEq, Repr

/-- PLDM requests' common facts (08 R207-R209): who asks, and whether the session holds the authorisation of RWA objects. -/
structure PldmReply where
  completion : Nat
  data : List Byte
  deriving DecidableEq, Repr

/-- The state of the PLDM firmware device (08 R207; states as DSP0267 1.2 numbers them). -/
inductive PldmState where
  | idle | learnComponents | readyXfer | download | verify | apply | activate
  deriving DecidableEq, Repr

/-- The number of a PLDM state (DSP0267 1.2). -/
def PldmState.num : PldmState → Nat
  | .idle => 0 | .learnComponents => 1 | .readyXfer => 2 | .download => 3 | .verify => 4 | .apply => 5 | .activate => 6

/-- The role of a catalogue entry (09 R249). -/
inductive CatRole where
  | localCopy
  | shard (index : Nat)
  deriving DecidableEq, Repr

/-- Units of the Cistern that lie one behind another (09 R244, R249): the target, the first 2 KiB unit on it, and their number. -/
structure Extent where
  target : Nat
  first : Nat
  units : Nat
  deriving DecidableEq, Repr

/-- An entry of the Cistern catalogue (09 R249). -/
structure CatEntry where
  handle : Nat
  owner : Nat
  target : Nat
  svn : Nat
  root : Digest
  role : CatRole
  /-- The unit extents, in lanes: unit n lies in lane n mod the number of lanes (09 R244). -/
  extents : List (List Extent)
  /-- What the units hold: the container, or a shard's header and data. -/
  container : List Byte
  readable : Bool
  deriving DecidableEq, Repr

/-- One of the two copies of the catalogue and the bad-block table on the NAND (09 R244). -/
structure CatCopy where
  entries : List CatEntry
  bad : List Nat
  deriving DecidableEq, Repr

/-- A change of the catalogue that waits for its commit (09 R249): an entry, and for an incoming shard the peer and transfer
that its acknowledgement goes to; or the handles freed. -/
inductive CatChange where
  | add (e : CatEntry) (ack : Option (Nat × Nat))
  | free (handles : List Nat)
  deriving DecidableEq, Repr

/-- A shard of one of this device's golden sets (09 R254-R258): its index, the member that holds it, whether the holder has
acknowledged it. -/
structure ShardLoc where
  index : Nat
  device : Nat
  acked : Bool
  deriving DecidableEq, Repr

/-- A golden set of a target (09 R251-R258): its parameters, where its shards lie or go, the members that answered FULL, the
durability state, and the set it re-encodes, if any. -/
structure GoldenSet where
  /-- The model's own number of the set: a re-encoded set keeps the handle of its local copy. -/
  id : Nat
  handle : Nat
  svn : Nat
  root : Digest
  /-- Bytes of the container. -/
  size : Nat
  k : Nat
  m : Nat
  shards : List ShardLoc
  full : List Nat
  state : Nat
  replaces : Option Nat
  deriving DecidableEq, Repr

/-- A set of another device that no present member owns any more (09 R264). -/
structure OrphanSet where
  ownerDev : Nat
  ownerId : Digest
  target : Nat
  since : Nat
  handles : List Nat
  deriving DecidableEq, Repr

/-- What this device's Allotter keeps of a segment member (09 R260, R261). -/
structure PeerStat where
  laggard : Bool
  acks : List Nat
  sent : Bool
  slow : Nat
  good : Nat
  medianNs : Nat
  absentSince : Option Nat
  deriving DecidableEq, Repr

/-- A Cistern command (09 R270). -/
structure CisCmd where
  op : Nat
  cls : Nat
  tag : Nat
  target : Nat
  flags : Nat
  pages : Nat
  row : Nat
  dram : Nat
  length : Nat
  k : Nat
  m : Nat
  missing : Nat
  shardBase : Nat
  stride : Nat
  deriving DecidableEq, Repr

/-- What reading a codeword met (09 R246, R247): its page within the command, its index in the page, the bits corrected, and whether
it was beyond correction or failed its tag in the re-read too. -/
structure WordRead where
  page : Nat
  word : Fin 8
  corrected : Nat
  uncorr : Bool
  tagFail : Bool
  deriving DecidableEq, Repr

/-- What a Cistern command met on the NAND (09 R246, R247): the codewords that were not read clean, a program or erase failure, and a
fault of the coder. -/
structure CisOutcome where
  words : List WordRead
  opFail : Bool
  coderFault : Bool
  deriving DecidableEq, Repr

/-- A NAND target (09 R270 TARGET_STATUSt). -/
structure NandTarget where
  present : Bool
  bad : Nat
  reserve : Nat
  reserveLeft : Nat
  deriving DecidableEq, Repr

/-- What the parameter pages and training of the targets answered at init (09 R242, R243). -/
structure InitOutcome where
  fitted : BitVec 8
  trained : BitVec 8
  match_ : Bool
  blocksPerTarget : Nat
  pagesPerBlock : Nat
  /-- The factory bad-block marks, by target × 2^32 + block. -/
  factoryBad : List Nat
  deriving DecidableEq, Repr


/-- The Pakor links: A, B, and the trunks on A and B (10 R276). -/
abbrev LinkId := Fin 4

/-- The state of a link, with the codes of `port_state` (10 R303, R304). -/
inductive LinkState where
  | down | training | untrusted | up | upOneLane
  deriving DecidableEq, Repr

/-- The code of a link state (10 R303). -/
def LinkState.num : LinkState → Nat
  | .down => 0 | .training => 1 | .untrusted => 2 | .up => 3 | .upOneLane => 4

/-- A frame that this device sent (10 R279): its type, destination, origin, hops left, the link it leaves on where it is sent on
(routing names it otherwise), whether it is the last of its message, and its payload. -/
structure FrameOut where
  type : Nat
  dst : Nat
  src : Nat
  hops : Nat
  link : Option LinkId
  last : Bool
  payload : List Byte
  deriving DecidableEq, Repr

/-- A Pakor link (10 R276-R286, R304). -/
structure Link where
  /-- LSTATUSn.state. -/
  state : LinkState
  /-- LSTATUSn.peer, 0xFF none. -/
  peer : Nat
  /-- LSTATUSn.lane0_ok, lane1_ok, trunk. -/
  lane0 : Bool
  lane1 : Bool
  trunk : Bool
  /-- RTTn, 10 ps units. -/
  rtt : Nat
  /-- KEY_TXn, KEY_RXn. -/
  keyTx : Word
  keyRx : Word
  /-- CRC_CNTn, TAG_CNTn, DROP_CNTn, saturating. -/
  crcCnt : Nat
  tagCnt : Nat
  dropCnt : Nat
  /-- The training step last completed, failures in a row, when the next try is due. -/
  step : Nat
  fails : Nat
  retryAt : Option Nat
  /-- The instants of the retrains of the last 60 s, and of the tag failures of the last second. -/
  retrains : List Nat
  tagTimes : List Nat
  /-- The session: up, its start, sent and received counters, and the handshake message expected next. -/
  session : Bool
  sessionAt : Nat
  txCounter : Nat
  rxCounter : Nat
  hsStep : Nat
  /-- A lane disabled under R278. -/
  laneOff : Option (Fin 2)
  /-- The peer's DeviceID hash and mode from HELLO. -/
  peerId : Digest
  peerMode : Nat
  /-- The ring order has been complained of in this training. -/
  ringTold : Bool
  /-- The replay buffer: the last 64 frames sent on the link, the oldest first (R278). -/
  replay : List FrameOut
  /-- The session's slots in the vault (R285, R377). -/
  slots : List (Fin 128)
  /-- The other side's certificate chain in DSP0274's form, so far as it has come (R285). -/
  peerChain : List Byte
  /-- As requester of the handshake: the last request, the chunks of it still to be sent, a long response so far, and the ephemeral
  private key, which stands in operand memory (R285, R376). -/
  hsSent : List Byte
  hsLeft : List (List Byte)
  hsPart : List Byte
  hsScalar : Nat
  deriving DecidableEq, Repr

/-- An idle link (10 R304: LSTATUS resets to peer 0xFF). -/
def Link.idle : Link :=
  { state := .down, peer := 0xFF, lane0 := false, lane1 := false, trunk := false, rtt := 0, keyTx := 0, keyRx := 0,
    crcCnt := 0, tagCnt := 0, dropCnt := 0, step := 0, fails := 0, retryAt := none, retrains := [], tagTimes := [],
    session := false, sessionAt := 0, txCounter := 0, rxCounter := 0, hsStep := 0, laneOff := none,
    peerId := 0, peerMode := 0, ringTold := false, replay := [],
    slots := [], peerChain := [], hsSent := [], hsLeft := [], hsPart := [], hsScalar := 0 }

/-- What a receiver finds of a frame before it acts on its payload (10 R279-R281): its header, and whether it is sealed, its
tag verified, and it is the first copy of a broadcast. -/
structure FrameIn where
  link : LinkId
  src : Nat
  dst : Nat
  hops : Nat
  isSealed : Bool
  tagOk : Bool
  fresh : Bool
  deriving DecidableEq, Repr

/-- The BEACON payload (10 R283). -/
structure Beacon where
  mode : Nat
  flags : Byte
  segMaster : Nat
  cascadeMaster : Nat
  segEpoch : Nat
  cascadeEpoch : Nat
  members : Word
  seq : Nat
  deriving DecidableEq, Repr

/-- The CLAIM payload (10 R283). -/
structure ClaimMsg where
  cascade : Bool
  claimant : Nat
  rank : Nat
  epoch : Nat
  seq : Nat
  deriving DecidableEq, Repr

/-- A member of the segment as this device sees it (10 R288-R291). -/
structure Member where
  present : Bool
  lastBeacon : Nat
  healthy : Bool
  /-- The member's last beacon says that it reaches a trunk; 10 R283 flags bit 3. -/
  reachesTrunk : Bool
  /-- The sequence number of the last broadcast accepted from it (10 R282). -/
  lastSeq : Option Nat
  /-- The DeviceID hash the position last had. -/
  deviceId : Digest
  /-- A HELLO has shown another DeviceID at the position than it last had. -/
  changed : Bool
  deriving DecidableEq, Repr

/-- A shard header's fields that a transfer uses (10 R297, 09 R254). -/
structure ShardHead where
  k : Nat
  m : Nat
  index : Nat
  owner : Nat
  target : Nat
  containerLength : Nat
  ownerHandle : Nat
  svn : Nat
  shardLength : Nat
  root : Digest
  ownerId : Digest
  digests : List Digest
  deriving DecidableEq, Repr

/-- A shard as a member supplies it (09 R254): its header and its data. -/
abbrev ShardCopy := ShardHead × List Byte

/-- A shard transfer (10 R297, R298): its number, the other end, the shard's header, the owner's set it belongs to, what has come of it, when it last moved
on, and when its first data frame went (0 before); a probe shard of 09 R260 is marked. -/
structure Transfer where
  number : Nat
  peer : Nat
  set : Nat
  head : ShardHead
  data : List Byte
  granted : Bool
  progressAt : Nat
  startAt : Nat
  probe : Bool
  deriving DecidableEq, Repr

/-- A Pakor send command (10 R304). -/
structure SendCmd where
  type : Nat
  cls : Nat
  tag : Nat
  dst : Nat
  flags : Nat
  src : Nat
  length : Nat
  deriving DecidableEq, Repr

/-- A Rill frame (17 R491), its data as many bytes as the transport delivered. -/
structure RillReq where
  version : Nat
  op : Nat
  tag : Byte
  device : Byte
  index : Nat
  sub : Nat
  status : Nat
  flags : Byte
  rsv : Nat
  offset : Nat
  length : Nat
  total : Nat
  data : List Byte
  deriving DecidableEq, Repr

/-- A forwarded dictionary request that waits for its reply (10 R301). -/
structure Forwarded where
  endpoint : Nat
  frame : RillReq
  deadline : Nat
  deriving DecidableEq, Repr

/-- What the restart in progress is (12 R353 entry). -/
inductive EntryKind where
  | powerOn | warm | wake
  deriving DecidableEq, Repr

/-- The code of an entry kind (12 R353). -/
def EntryKind.num : EntryKind → Nat
  | .powerOn => 0 | .warm => 1 | .wake => 2

/-- The phases of a start-up (12 R337-R354): PORST_N asserted, waiting for the PLL, for the boot fuse load, judging candidates,
accepted, handed over, stopped, in RECOVER's service, in SERVICE. -/
inductive BootPhase where
  | held | pll | fuses | judging | accepted | running | stopped | recover | service | zeroised
  deriving DecidableEq, Repr

/-- A candidate mission slot (12 R346): slot A (0) or B (1), and the COMMIT that names it, if any. -/
structure Candidate where
  slot : Fin 2
  commit : Option Nat
  trial : Bool
  deriving DecidableEq, Repr

/-- Sill's self-check as each half reads the region (12 R342): for each of its at most three reads, what bits read wrong add to the CRC
computed and to the one stored, together (0 where the region reads as it stands). -/
abbrev CrcReads : Type := Both (Vector (BitVec 64) 3)

/-- What the halves' engines make of a judgement by both (12 R347). -/
abbrev Judgement : Type := Both EngineWork

/-- The states of a key-vault slot (13 R361). -/
inductive SlotState where
  | empty | inUse | locked | orphaned | retired
  deriving DecidableEq, Repr

/-- The number of a slot state in SLOT_INFO, in the order of R361's table (13 R400). -/
def SlotState.num : SlotState → Nat
  | .empty => 0 | .inUse => 1 | .locked => 2 | .orphaned => 3 | .retired => 4

/-- The owner of a slot (13 R361). -/
inductive SlotOwner where
  | common
  | half (h : Half)
  deriving DecidableEq, Repr

/-- A key-vault slot (13 R361); the value is a bit string of `bits` bits, first byte most significant. -/
structure KvSlot where
  state : SlotState
  owner : SlotOwner
  bits : Nat
  value : Nat
  dest : BitVec 8
  usage : BitVec 8
  parent : Option (Fin 128 × Nat)
  gen : Nat
  bound : Bool
  depth : Nat
  deriving DecidableEq, Repr

/-- An empty slot at a generation (13 R362). -/
def KvSlot.emptyAt (g : Nat) : KvSlot :=
  { state := .empty, owner := .common, bits := 0, value := 0, dest := 0, usage := 0, parent := none, gen := g,
    bound := false, depth := 0 }

/-- A key-vault command block (13 R372) as the core left it in SRAM, its RSV bytes folded into one flag. -/
structure KvCmd where
  owner : Nat
  length : Nat
  parent : Word
  dest : BitVec 8
  usage : BitVec 8
  target : Word
  src : Nat
  srcLen : Nat
  dst : Nat
  dstLen : Nat
  rsvZero : Bool
  deriving DecidableEq, Repr

/-- The Levee's sensors by number (13 R394). -/
abbrev Sensor := Fin 14

/-- An SPDM session (13 R377, R391, R392): a management session, or one of a Pakor link until the link has its keys. Its slots in the vault
stand in the order in which the key schedule makes them. -/
structure Session where
  id : Nat
  endpoint : Nat
  mutualAuth : Bool
  finished : Bool
  trusted : Bool
  cosigDone : Bool
  lastMsg : Nat
  txSeq : Nat
  rxSeq : Nat
  slots : List (Fin 128)
  /-- The transcript of its handshake: negotiation, hash of the responder's chain, the messages of the exchange. -/
  transcript : List Byte
  /-- The other side's certificates, root first, and the message hash that the requester's FINISH signs (R387). -/
  peer : List (List Byte)
  finHash : List Byte
  /-- The co-signature block of kind 2 (R387). -/
  cosig : List Byte
  deriving DecidableEq, Repr

/-- SPDM messages in the order in which they come. -/
abbrev SpdmMsgs : Type := List (List Byte)

/-- An SPDM error code (DSP0274) as the responder answers it (13 R385, R388, R391, R393). -/
inductive SpdmError where
  | invalidRequest | unexpectedRequest | unspecified | unsupportedRequest | sessionLimitExceeded
  | responseNotReady | busy | largeResponse | versionMismatch
  deriving DecidableEq, Repr

/-- A response that waits for the steward's signature (13 R386): its kind as R387 numbers it (1 CHALLENGE_AUTH, 2 KEY_EXCHANGE_RSP,
4 MEASUREMENTS), the certificate slot that signs, the transcript before the request, the request, the response up to block 0xEF or to the
signature, whether block 0xEF follows, what stands between it and the signature, and the session of kind 2. -/
structure SignWait where
  kind : Nat
  slot : Nat
  base : List Byte
  req : List Byte
  body : List Byte
  block : Bool
  tail : List Byte
  session : Nat
  deriving DecidableEq, Repr

/-- What the responder keeps of the connection with an endpoint (13 R385-R388). -/
structure SpdmConn where
  endpoint : Nat
  /-- How far its negotiation is: 1 GET_VERSION, 2 GET_CAPABILITIES, 3 NEGOTIATE_ALGORITHMS. -/
  negotiated : Nat
  /-- Flags and DataTransferSize of the requester. -/
  peerFlags : Nat
  peerSize : Nat
  /-- The transcripts of DSP0274: the negotiation; digests and certificates since the last CHALLENGE; measurements since the last signed
  ones. -/
  vca : List Byte
  certMsgs : List Byte
  measMsgs : List Byte
  /-- The code of a request answered ResponseNotReady, 0 of none; the response ready to be collected. -/
  deferred : Nat
  ready : Option (List Byte)
  /-- The kind that GET_COSIG may ask for next, and its block (R388). -/
  cosigKind : Option Nat
  cosig : List Byte
  /-- A long response: all of it, how much has been collected, the number of the next chunk. -/
  chunks : List Byte
  chunkDone : Nat
  chunkSeq : Nat
  /-- A long request so far and the number of its next chunk; the acknowledgement that its response goes out in, as handle and number. -/
  inChunks : List Byte
  inSeq : Nat
  ack : Option (Byte × Nat)
  deriving DecidableEq, Repr


/-- A margin pair's two readings of a fuse word (14 R404). -/
structure FuseWord where
  loose : Word
  tight : Word
  deriving DecidableEq, Repr

/-- A blank word: every cell unblown (14). -/
def FuseWord.blank : FuseWord := ⟨0, 0⟩

/-- The bits whose readings differ (14 R404). -/
def FuseWord.weak (w : FuseWord) : Word := w.loose ^^^ w.tight

/-- A privileged word: two cells for each logical bit (14 R403, R405). -/
structure PrivWord where
  a : FuseWord
  b : FuseWord
  deriving DecidableEq, Repr

/-- The logical reading: 1 where either cell reads 1 loose (14 R405). -/
def PrivWord.loose (w : PrivWord) : Word := w.a.loose ||| w.b.loose

/-- The tight reading of a logical word: either cell (14 R404, R405). -/
def PrivWord.tight (w : PrivWord) : Word := w.a.tight ||| w.b.tight

/-- The weak bits of a logical word: a weak cell, or cells that differ loose (14 R405). -/
def PrivWord.weak (w : PrivWord) : Word := w.a.weak ||| w.b.weak ||| (w.a.loose ^^^ w.b.loose)

/-- FUSECTL.CMD_STATUS without the busy bit, which is the time (14 R424). -/
structure FuseStatus where
  weak : Bool
  code : Code
  burned : Nat
  failed : Nat
  deriving DecidableEq, Repr

/-- A redirection in force: a main word and the spare word that replaces it (14 R408). -/
structure Redirect where
  main : Fin 512
  spare : Fin 128
  deriving DecidableEq, Repr

/-- A job of the big-number engine (15 R436): its class, when and at which engine cycle it stands, its marks, and whether
JOB_CLOSE has executed. -/
structure PkeJob where
  cls : Fin 11
  openAt : Nat
  cycles : Nat
  reject : Bool
  cmdErr : Bool
  lost : Bool
  closed : Bool
  overrun : Bool
  deriving DecidableEq, Repr

/-- The sponge's mode (15 R434): SHAKE128 or SHAKE256, by its rate in bytes. -/
inductive SpongeKind where
  | shake128 | shake256
  deriving DecidableEq, Repr

/-- The rate in bytes (FIPS 202). -/
def SpongeKind.rate : SpongeKind → Nat
  | .shake128 => 168
  | .shake256 => 136

/-- The sponge (15 R434): 25 lanes, where the next byte goes, and whether output has begun. -/
structure Sponge where
  lanes : Vector DWord 25
  kind : SpongeKind
  pos : Nat
  squeezing : Bool
  deriving DecidableEq, Repr

/-- A short or long operand of a Brixxel instruction with both forms (16 R453). -/
inductive BImm where
  | short (f : Byte)
  | long (i : BitVec 20)
  deriving DecidableEq, Repr

/-- The displacement of a memory instruction: short field scaled by the size, or 20 signed bits in bytes (16 R455). -/
inductive Disp where
  | short (f : BitVec 5)
  | long (i : BitVec 20)
  deriving DecidableEq, Repr

/-- Where a delayed result lands (16 R463). -/
inductive Dest where
  | cell (pos : Nat)
  | acc (a : Fin 2)
  deriving DecidableEq, Repr

/-- A pending result (16 R462): the instructions still to issue before it lands, its destination and its value. -/
structure Pend where
  left : Nat
  dest : Dest
  value : BitVec 72
  deriving DecidableEq, Repr

/-- The registers of a protection region (16 R476). -/
structure Region where
  base : Word
  limit : Word
  attr : Word
  deriving DecidableEq, Repr

/-- The trap causes (16 R471). -/
inductive Cause where
  | emulate | privilege | fetch | data | align | dover | dunder | rover | runder | svc | break_ | event | slot
  deriving DecidableEq, Repr

/-- The number of a cause (16 R471). -/
def Cause.num : Cause → Nat
  | .emulate => 1 | .privilege => 2 | .fetch => 3 | .data => 4 | .align => 5 | .dover => 6 | .dunder => 7
  | .rover => 8 | .runder => 9 | .svc => 10 | .break_ => 11 | .event => 12 | .slot => 13

/-- The vector offset of a cause (16 R471). -/
def Cause.vector : Cause → Nat
  | .emulate => 0x80
  | .privilege | .fetch | .data | .align | .slot => 0x10
  | .dover | .dunder | .rover | .runder => 0x20
  | .break_ => 0x30
  | .svc => 0x40
  | .event => 0x50

/-- The delay slot that comes next (16 R461): where the core goes on after it, none for the address that follows it, and whether a
return address that is to follow it was pushed with the branch. -/
structure DelaySlot where
  dest : Option Word
  link : Bool
  deriving DecidableEq, Repr

/-- The parcels of an encoding: one, or two in the long form (16 R453). -/
structure Parcels where
  first : Word16
  second : Option Word16
  deriving DecidableEq, Repr

/-- A reply or NOTIFY frame this device sends to an endpoint (model's output; 17 R491). -/
structure RillOut where
  endpoint : Nat
  frame : RillReq
  deriving DecidableEq, Repr

/-- The dictionary types (17 R479). -/
inductive ObjType where
  | u8 | u16 | u32 | u64 | i16 | i32 | q15 | q31 | bool | enum8 | str (n : Nat) | oct (n : Nat) | digest48 | time64
  deriving DecidableEq, Repr

/-- The code of a type (17 R479). -/
def ObjType.code : ObjType → Nat
  | .u8 => 1 | .u16 => 2 | .u32 => 3 | .u64 => 4 | .i16 => 5 | .i32 => 6 | .q15 => 7 | .q31 => 8 | .bool => 9 | .enum8 => 0x0A | .str _ => 0x0B | .oct _ => 0x0C
  | .digest48 => 0x0D | .time64 => 0x0E

/-- The largest value in bytes (17 R479). -/
def ObjType.maxLen : ObjType → Nat
  | .u8 | .bool | .enum8 => 1
  | .u16 | .i16 | .q15 => 2 | .u32 | .i32 | .q31 => 4 | .u64 | .time64 => 8
  | .str n | .oct n => n
  | .digest48 => 48

/-- Has the type one size only (17 R480). -/
def ObjType.fixed : ObjType → Bool
  | .str _ | .oct _ => false
  | _ => true

/-- The access classes (17 R481), in the order of their codes (R494). -/
inductive Access where
  | ro | rw | wo | rwa | rwp | rwh | const
  deriving DecidableEq, Repr

/-- The code of an access class (17 R494). -/
def Access.num : Access → Nat
  | .ro => 0 | .rw => 1 | .wo => 2 | .rwa => 3 | .rwp => 4 | .rwh => 5 | .const => 6

/-- The persistence codes (17 R482, R494). -/
inductive Persist where
  | v | p | f
  deriving DecidableEq, Repr

/-- The code of a persistence (17 R494). -/
def Persist.num : Persist → Nat
  | .v => 0 | .p => 1 | .f => 2

/-- One implemented object, or a run of sub-indices with one meaning (17 R478). -/
structure ObjRow where
  lo : Nat
  hi : Nat
  subLo : Nat
  subHi : Nat
  type : ObjType
  access : Access
  persist : Persist
  dflt : List Byte
  deriving DecidableEq, Repr

/-- An open block write (17 R497, R499); the endpoint here and below carries 0x10000 where the request was authorised. -/
structure BlockWrite where
  endpoint : Nat
  index : Nat
  sub : Nat
  total : Nat
  data : List Byte
  lastAt : Nat
  deriving DecidableEq, Repr

/-- A snapshot of a block read (17 R497, R499). -/
structure Snapshot where
  endpoint : Nat
  tag : Byte
  index : Nat
  sub : Nat
  data : List Byte
  lastAt : Nat
  deriving DecidableEq, Repr

/-- A subscription (17 R500): the value last notified, and when the last NOTIFY went, none before the first. -/
structure Subscription where
  endpoint : Nat
  index : Nat
  sub : Nat
  minMs : Nat
  sentAt : Option Nat
  last : List Byte
  deriving DecidableEq, Repr

/-- A request whose final reply has not gone out (17 R495): its frame, the reply where it is ready and waits for those of earlier
requests, whether the interim reply has gone, whether another device works on it (10 R300), and whether its action has begun
(17 R495). -/
structure Outstanding where
  endpoint : Nat
  frame : RillReq
  reply : Option RillReq
  told : Bool
  forwarded : Bool
  started : Bool
  deriving DecidableEq, Repr

/-- An object that extension firmware registered (17 R490), with its present value. -/
structure ExtObj where
  index : Nat
  sub : Nat
  type : ObjType
  access : Access
  persist : Persist
  value : List Byte
  deriving DecidableEq, Repr

/-- A mailbox (18 R519-R522, R528). -/
structure Mailbox where
  /-- INBUFm, OUTBUFm. -/
  inBuf : Vector Byte 256
  outBuf : Vector Byte 256
  /-- MSTATUS in_full, out_full, in_len, out_len. -/
  inFull : Bool
  outFull : Bool
  inLen : Nat
  outLen : Nat
  /-- INm, IN_MASKm, OUTm, OUT_MASKm. -/
  inBits : Word
  inMask : Word
  outBits : Word
  outMask : Word
  /-- CTLm[1:0] home: 0 management, 1 Indigo, 2 Amber, 3 steward. -/
  home : BitVec 2
  /-- in_full as the last TAKE found it, and out_full as the last POST did: what an access of the other side in the same cycle is judged
  against (R523); the model's own. -/
  tookFull : Bool
  postFound : Bool
  deriving DecidableEq, Repr

/-- A mailbox at reset (18 R519, R528: empty, home 3). -/
def Mailbox.empty : Mailbox :=
  { inBuf := Vector.replicate 256 0, outBuf := Vector.replicate 256 0, inFull := false, outFull := false, inLen := 0,
    outLen := 0, inBits := 0, inMask := 0, outBits := 0, outMask := 0, home := 3,
    tookFull := false, postFound := false }

/-- Who acts on a mailbox from outside (18 R526): the SPI management port, or a Rill requester. -/
inductive MboxFrom where
  | port
  | rill (who : Requester)
  deriving DecidableEq, Repr

/-- An inbound post (18 R520, R526): in_len written through the port, or a write of `mbox_in`, which brings the message. -/
inductive MboxPost where
  | port (len : Nat)
  | rill (who : Requester) (data : List Byte)
  deriving DecidableEq, Repr

/-- A transaction of the SPI management port after its command byte (18 R507): the whole bytes on MOSI, the bits of a partial
byte at its end, and how many busy bytes a read needs before its data is ready. -/
structure SpiTx where
  bytes : List Byte
  bits : Fin 8
  busy : Nat
  deriving DecidableEq, Repr

end Sys2Proof.Machine
end

