-- ==== Sys2Proof/Syntax.lean ====
section
/-!
DEFINITION. The commands of the GV4896, one constructor for each row of spec/opcode_table.json. Operands carry what the row
leaves to the caller: who acts, the ids and values, and outcomes of the device's surroundings (what flash parts, DRAM, NAND,
fuse cells and signature checks answer), which no state of the block determines.
-/
namespace Sys2Proof
open Machine

/-- The commands. Each docstring names the row and the rule. -/
inductive Instr where
  /-- POWER_ON_RESET, R555: PORST_N for 1 µs or more; whether VDD_AON stayed in range. -/
  | powerOnReset (aonKept : Bool)
  /-- BROWN_OUT, R394: an undervoltage of `ns`. -/
  | brownOut (ns : Nat) (aonKept : Bool)
  /-- PORST_N_RELEASE, R337, R287: with the straps as they stand. -/
  | porstNRelease (seg : Fin 4) (pos : Fin 8)
  /-- ROOT_PLL_LOCK, R539: Lock of the root PLL switches on the hardware domains and starts the boot-critical fuse load and the management port. -/
  | rootPllLock
  /-- BOOT_FUSE_LOAD_DONE, R339: the boot-critical load completes, Sill checks itself. -/
  | bootFuseLoadDone (crc : CrcReads)
  /-- FUSE_BACKGROUND_LOAD_DONE, R413: The background read of W96–W511 completes, sets all_loaded and raises FUSE_LOADED. -/
  | fuseBackgroundLoadDone
  /-- MISSION_CANDIDATE_JUDGED, R347: Both halves finish judging a mission slot candidate and Sill accepts it or writes SLOT_REJECT and moves to the next. -/
  | missionCandidateJudged (j : Judgement)
  /-- HANDOVER, R354: Sill takes measurements, derives identity, sets the root lock, writes the handover block and jumps to mission firmware, entering HOLD. -/
  | handover
  /-- BOOT_TIMER_EXPIRED, R341: Expiry of the 25 ms boot timer halts both halves with stop code 4. -/
  | bootTimerExpired
  /-- RECOVER_INSTALL, R358: the installed slot read back and judged again. -/
  | recoverInstall (j : Judgement)
  /-- WARM_RESTART, R355: A warm restart restarts all cores at Sill with the reduced start-up, keeping data-plane state and loaded key slots. -/
  | warmRestart (crc : CrcReads)
  /-- HALF_RESTART, R54: the control cores of half `h` restart. -/
  | halfRestart (h : Half)
  /-- HALF_RESTART_END, R55: half `h` leaves its half restart and claims. -/
  | halfRestartEnd (h : Half)
  /-- STEWARD_CLAIM, R54, R55: half `h` writes its CLAIM register. -/
  | stewardClaim (h : Half) (claim : Claim) (epoch : Word)
  /-- STEWARD_YIELD, R53: half `h` writes YIELD. -/
  | stewardYield (h : Half)
  /-- SHADOW_DIGEST_CHECK, R20: 100 ms on, the shadow's digest of the Channel Table and rules, off by a fault of its engine (0: none). -/
  | shadowDigestCheck (off : Digest)
  /-- TAMPER_DETECT, R396: A detection on an unmasked Levee sensor asserts all holds, zeroises keys and enters QUARANTINE tamper form. -/
  | tamperDetect (sensor : Sensor)
  /-- LEVEE_SELFTEST, R398: a write of LEVEE.CTL. -/
  | leveeSelftest (core : CoreId) (value : Word)
  /-- LEVEE_SELFTEST_DONE, R398: 200 µs later, the sensors that detected their fault. -/
  | leveeSelftestDone (passed : BitVec 14)
  /-- ACFAIL_ASSERT, R229, R326: ACFAIL_N asserted, after its filter. -/
  | acfailAssert
  /-- ACFAIL_DEASSERT, R229, R326: ACFAIL_N deasserted, after its filter. -/
  | acfailDeassert
  /-- PWROK_CHANGE, R326: the new level of PWROK, after its filter. -/
  | pwrokChange (asserted : Bool)
  /-- FREEZE_END, R229: the 1 s wait for the end of the freeze ends. -/
  | freezeEnd
  /-- BUS_WINDOW_TRIP, R326: a window comparator trips or its trip clears. -/
  | busWindowTrip (bus : Fin 2) (trip : BusTrip)
  /-- DORMANT_REQUEST, R39: `dormant_request` written true. -/
  | dormantRequest (who : Requester)
  /-- DORMANT_OUTPUT_ASSERT, R319: the turn of output `h` in the assertion sequence. -/
  | dormantOutputAssert (h : OutId)
  /-- DORMANT_ENTRY, R543: the last output has asserted. -/
  | dormantEntry
  /-- WAKE, R545: a wake source is true. -/
  | wake (src : WakeSource)
  /-- LIFECYCLE_REQUEST, R50: `lifecycle_request` written; what the burn left. -/
  | lifecycleRequest (who : Requester) (code : Byte) (burn : BurnOutcome)
  /-- CHT_BASE_WRITE, R89: a write of MIRCTL.CHT_BASE. -/
  | chtBaseWrite (half : Half) (value : Word)
  /-- CHT_INVAL, R98: a write of MIRCTL.CHT_INVAL. -/
  | chtInval (half : Half) (value : Word)
  /-- INVALIDATE_TAKEN, R98: the mirror controller takes the next invalidate; the staging load's time. -/
  | invalidateTaken (loadPs : Nat)
  /-- DESC_RELOAD, R99: the moment at which the staged reload of `c` may come into force. -/
  | descReload (c : ChanId)
  /-- PROBE_STEP_DONE, R63: a probe step completes with this result. -/
  | probeStepDone (c : ChanId) (r : ProbeResult)
  /-- PROBE_ATTEMPT_DONE, R64: the attempt's result is acted on. -/
  | probeAttemptDone (c : ChanId)
  /-- CALIBRATION_RECHECK, R67: which of the 17 codes around the delay pass the re-check. -/
  | calibrationRecheck (c : ChanId) (passing : BitVec 17)
  /-- IO_SUPPLY_SENSED, R61: one side's IO supply as sensed. -/
  | ioSupplySensed (bank : Fin 4) (hostSide : Bool) (level : IoSupply)
  /-- MIRCTL_TRAIN, R109: a write of MIRCTL.CTL.train. -/
  | mirctlTrain (half : Half)
  /-- MIRROR_TRAIN_DONE, R110: what one training run came to. -/
  | mirrorTrainDone (o : TrainOutcome)
  /-- FILL_LEAF, R121: the next leaf of the fill arrives. -/
  | fillLeaf (c : ChanId) (data : List Byte)
  /-- FILL_LEAF_DIGESTS, R122: both engines' digests of the leaf are in, each off by a fault of the engine (0: none) and in so many ns. -/
  | fillLeafDigests (c : ChanId) (leaf : Nat) (off : Both Digest) (ns : Both Nat)
  /-- FILL_DONE, R123: each half compares its root and checks the hybrid signature; `reject` says that a half's engine rejects a good one. -/
  | fillDone (c : ChanId) (reject : Both Bool)
  /-- VPOST, R320: half `h` writes its VPOST register. -/
  | vpost (h : Half) (value : Word)
  /-- HOLD_OUTPUT_RELEASE, R316: an AON edge at which output `h` is evaluated. -/
  | holdOutputRelease (h : OutId)
  /-- HOLD_REQUEST, R317: a half sets or clears its hold bit for `h`. -/
  | holdRequest (half : Half) (h : OutId) (set : Bool)
  /-- GRANT_WRITE, R578: a half sets its grant bit for `h`. -/
  | grantWrite (half : Half) (h : OutId)
  /-- SENSE_INPUT_CHANGE, R312: the new filtered level of input `inp`. -/
  | senseInputChange (inp : SenseId) (level : Bool)
  /-- SENSE_LOSS_HOLD, R318: a condition of `h` has been unmet for settle_ms. -/
  | senseLossHold (h : OutId)
  /-- SENSE_TIMEOUT, R316: `h` has waited on cause 10 alone past sense_timeout_ms. -/
  | senseTimeout (h : OutId)
  /-- LOAD_SENSING, R310: the nets that read high in steps 1, 2 and 3. -/
  | loadSensing (high1 high2 high3 : DWord)
  /-- PUEN_SETTLED, R309: HG_PUEN has been high for PUEN_SETTLE. -/
  | puenSettled
  /-- PLAN_STAGE_GEN_WRITE, R315: a write of PLAN_STAGE_GEN. -/
  | planStageGenWrite (half : Half) (gen : Word16)
  /-- PLAN_GEN_WRITE, R315: a half's write of its PLAN_GEN. -/
  | planGenWrite (half : Half) (gen : Word16)
  /-- PLAN_ACTIVATION_TIMEOUT, R315: 40 ms since staging without activation. -/
  | planActivationTimeout
  /-- CONFIRM_DISARM, R237: a write of HEADGATE.CONFIRM_DISARM. -/
  | confirmDisarm (half : Half) (value : Word)
  /-- CONFIRM_TIMER_EXPIRED, R238: the confirm timer reaches its end. -/
  | confirmTimerExpired
  /-- HOST_READ, R126: 03h/13h. -/
  | hostRead (op : HostReadOp)
  /-- FAST_READ, R77: 0Bh/0Ch. -/
  | fastRead (op : HostReadOp)
  /-- DUAL_READ, R77: 3Bh/3Ch, or BBh/BCh with `io`. -/
  | dualRead (io : Bool) (op : HostReadOp)
  /-- QUAD_READ, R77: 6Bh/6Ch, or EBh/ECh with `io`. -/
  | quadRead (io : Bool) (op : HostReadOp)
  /-- OCTAL_READ, R77: 1-1-8 read. -/
  | octalRead (op : HostReadOp)
  /-- OCTAL_DTR_READ, R77: 8D-8D-8D read. -/
  | octalDtrRead (op : HostReadOp)
  /-- READ_ID, R68: 9Fh, `len` bytes clocked. -/
  | readId (tx : HostTx) (len : Nat)
  /-- READ_SFDP, R68: 5Ah. -/
  | readSfdp (tx : HostTx) (addr len : Nat)
  /-- READ_REGISTERS, R77: status or configuration read. -/
  | readRegisters (tx : HostTx) (reg : StatusReg) (len : Nat)
  /-- WRITE_ENABLE, R77: 06h. -/
  | writeEnable (tx : HostTx)
  /-- WRITE_DISABLE, R77: 04h. -/
  | writeDisable (tx : HostTx)
  /-- WRITE_REGISTERS, R77: 01h and configuration writes. -/
  | writeRegisters (tx : HostTx) (w : RegWrite)
  /-- ENTER_4BYTE_MODE, R77: B7h. -/
  | enter4ByteMode (tx : HostTx)
  /-- EXIT_4BYTE_MODE, R77: E9h. -/
  | exit4ByteMode (tx : HostTx)
  /-- PAGE_PROGRAM, R152: 02h, 12h, quad and octal forms. -/
  | pageProgram (tx : HostTx) (opcode : Byte) (addr : Nat) (data : List Byte)
  /-- ERASE_4K, R152: 20h/21h. -/
  | erase4K (tx : HostTx) (opcode : Byte) (addr : Nat)
  /-- ERASE_32K, R152: 52h/5Ch. -/
  | erase32K (tx : HostTx) (opcode : Byte) (addr : Nat)
  /-- ERASE_64K, R152: D8h/DCh. -/
  | erase64K (tx : HostTx) (opcode : Byte) (addr : Nat)
  /-- CHIP_ERASE, R165: 60h/C7h. -/
  | chipErase (tx : HostTx) (opcode : Byte)
  /-- PROGRAM_ERASE_SUSPEND, R166: 75h/B0h. -/
  | programEraseSuspend (tx : HostTx) (opcode : Byte)
  /-- PROGRAM_ERASE_RESUME, R166: 7Ah/30h. -/
  | programEraseResume (tx : HostTx) (opcode : Byte)
  /-- RESET_ENABLE, R79: 66h. -/
  | resetEnable (tx : HostTx)
  /-- RESET, R79: 99h. -/
  | reset (tx : HostTx)
  /-- DEEP_POWER_DOWN, R77: B9h. -/
  | deepPowerDown (tx : HostTx)
  /-- RELEASE_DEEP_POWER_DOWN, R77: ABh. -/
  | releaseDeepPowerDown (tx : HostTx)
  /-- UNKNOWN_COMMAND, R78: a command that no row lists. -/
  | unknownCommand (tx : HostTx) (opcode : Byte)
  /-- CS_CONFLICT, R83: both host chip selects asserted together. -/
  | csConflict (p : PortId)
  /-- HOST_RESET, R79: SPnn_HRESET_N held 1 µs. -/
  | hostReset (p : PortId)
  /-- HOST_RESET_RELEASE, R79: SPnn_HRESET_N released. -/
  | hostResetRelease (p : PortId)
  /-- PREFETCH_LEAF_DONE, R75: a leaf prefetched. -/
  | prefetchLeafDone (p : PortId) (c : ChanId) (leaf : Nat) (fault : Option MirrorFault)
  /-- HOLD_LIMIT_REACHED, R72: the hold limit of the held read ends. -/
  | holdLimitReached (p : PortId)
  /-- REFILL_DONE, R130: a leaf refill ends, from `src` or nowhere. -/
  | refillDone (c : ChanId) (leaf : Nat) (src : Source) (data : List Byte)
  /-- LINE_REFILL_DONE, R132: the 64 pages of a line refilled, each from its source. -/
  | lineRefillDone (line : Nat) (pages : List PageIn)
  /-- FAULT_RATE_WINDOW, R134: a second ends. -/
  | faultRateWindow
  /-- WEIR_REFUSAL_END, R164: the refusal time ends. -/
  | weirRefusalEnd (c : ChanId)
  /-- SHADOWED_DURATION_END, R155: the emulated duration ends. -/
  | shadowedDurationEnd (c : ChanId)
  /-- JOURNAL_FLASH_START, R156: the flash side is free for the waiting command. -/
  | journalFlashStart (c : ChanId)
  /-- FLASH_STATUS_POLL, R157: the real part's status as polled. -/
  | flashStatusPoll (c : ChanId) (busy : Bool)
  /-- JOURNAL_READBACK_DONE, R157: the read-back ends. -/
  | journalReadbackDone (c : ChanId) (rb : Readback)
  /-- MIRROR_RESEAL_DONE, R120: the re-seal pass ends. -/
  | mirrorResealDone
  /-- FLASH_TIMEOUT, R159: the maximum time passes. -/
  | flashTimeout (c : ChanId)
  /-- FLASH_TIMEOUT_RESET, R159: four times the maximum passes. -/
  | flashTimeoutReset (c : ChanId)
  /-- FLASH_RESET_RECOVERY_END, R159: the 1 ms wait ends. -/
  | flashResetRecoveryEnd (c : ChanId)
  /-- FLASH_BUSY_GIVE_UP, R159: still busy after 100 ms. -/
  | flashBusyGiveUp (c : ChanId)
  /-- MUTABLE_LEAF_HASHED, R170: a touched leaf is hashed from the mirror. -/
  | mutableLeafHashed (c : ChanId) (leaf : Nat)
  /-- MUTABLE_DIGEST_RECOMPUTE, R172: the mutable digest falls due. -/
  | mutableDigestRecompute (c : ChanId)
  /-- SCRUB_LEAF, R136: a leaf of the scrub pass is read and compared. -/
  | scrubLeaf (c : ChanId) (r : ScrubRead)
  /-- REPAIR_UNIT_DONE, R138: the unit has been read, erased, programmed, read back and hashed, each half's digests off by a fault of its engines (0: none). -/
  | repairUnitDone (c : ChanId) (flashFail : Bool) (before back : List Byte) (off : Both Digest)
  /-- REPAIR_RETRY, R138: 60 s after a failed repair. -/
  | repairRetry (c : ChanId)
  /-- NO_SOURCE_REPORT, R41: 60 s without a source. -/
  | noSourceReport (c : ChanId)
  /-- CHAN_CMD_FILL, R234: MIRCTL.CHAN_CMD 1. -/
  | chanCmdFill (half : Half) (c : ChanId)
  /-- CHAN_CMD_TO_UPDATING, R213: MIRCTL.CHAN_CMD 2. -/
  | chanCmdToUpdating (half : Half) (c : ChanId)
  /-- CHAN_CMD_UPDATE_ENDED, R213: MIRCTL.CHAN_CMD 3. -/
  | chanCmdUpdateEnded (half : Half) (c : ChanId)
  /-- CHAN_CMD_TO_QUARANTINED, R41: MIRCTL.CHAN_CMD 4. -/
  | chanCmdToQuarantined (half : Half) (c : ChanId)
  /-- CHAN_CMD_FORCED_SCRUB, R135: MIRCTL.CHAN_CMD 5. -/
  | chanCmdForcedScrub (half : Half) (c : ChanId)
  /-- CHAN_CMD_REPAIR, R138: MIRCTL.CHAN_CMD 6. -/
  | chanCmdRepair (half : Half) (c : ChanId) (unit unitLen : Nat)
  /-- PIN_LOAD, R144: a write of MIRCTL.PIN_LOAD. -/
  | pinLoad (half : Half) (value : Word)
  /-- PIN_LOAD_DONE, R144: the copy under way completes. -/
  | pinLoadDone (fault : Option MirrorFault)
  /-- HASH_QPUSH, R198: a write of QPUSH with a job descriptor's SRAM address. -/
  | hashQpush (half : Half) (addr : Word)
  /-- HASH_QPOP, R147: a read of QPOP. -/
  | hashQpop (half : Half)
  /-- HASH_DISPATCH, R198: an idle engine of the half may take a job. -/
  | hashDispatch (half : Half)
  /-- HASH_JOB_DONE, R198, R199: engine `e` completes its job, which took `ns` per 4,096 bytes. -/
  | hashJobDone (e : Fin 16) (ns : Nat)
  /-- HASH_CREDIT_REFILL, R198: a millisecond ends. -/
  | hashCreditRefill
  /-- HASH_MEDIAN_WINDOW, R199, R200: a 10 ms window of the half ends. -/
  | hashMedianWindow (half : Half)
  /-- HASH_FENCE_RETRY, R201: a fenced engine's retry falls due. -/
  | hashFenceRetry (e : Fin 16)
  /-- HASH_FENCE_RETRY_DONE, R201: the known-answer job completes. -/
  | hashFenceRetryDone (e : Fin 16) (digestOk : Bool) (ns : Nat)
  /-- VERIFY_STAGE_DONE, R196: the stage under way of the half's verification of `t` completes. -/
  | verifyStageDone (half : Half) (t : Target) (w : StageWork)
  /-- CHANNEL_UPDATE_VERIFIED, R213: both halves have finished step 2. -/
  | channelUpdateVerified (c : ChanId)
  /-- DURABLE_WAIT_EXPIRED, R259: durable_wait_s ends without DURABLE. -/
  | durableWaitExpired (t : Target)
  /-- LANDING_DONE, R215: the landed image has been hashed by both halves, whose engines' digests are off by an error (0 of sound ones). -/
  | landingDone (c : ChanId) (off : Both Digest)
  /-- SWITCH_UNIT_DONE, R216: one erase unit of part 2 has been rewritten and read back. -/
  | switchUnitDone (c : ChanId) (flashFail : Bool) (back : List Byte) (off : Both Digest)
  /-- UPDATE_RETIRE, R217: step 5. -/
  | updateRetire (t : Target)
  /-- UPDATE_FLOOR, R217: step 6, with what the burn left. -/
  | updateFloor (t : Target) (burn : BurnOutcome)
  /-- UPDATE_ABANDON, R218: the update of `t` is abandoned. -/
  | updateAbandon (t : Target) (code : Code)
  /-- GATE_RETRY, R228: 10 ms since the last try of the waiting steps. -/
  | gateRetry
  /-- STREAM_IDLE_EXPIRED, R212: no command in the window for stream_idle_s. -/
  | streamIdleExpired (c : ChanId)
  /-- UPLOAD_START_TIMEOUT, R206: no first segment within stream_idle_s. -/
  | uploadStartTimeout (c : ChanId)
  /-- UPLOAD_WAIT_EXPIRED, R234: the upload wait ends. -/
  | uploadWaitExpired (c : ChanId)
  /-- RECOVERY_RUN, R230: a recovery run over the sources. -/
  | recoveryRun (c : ChanId) (j : Judgement)
  /-- PEER_RECOVERY_TIMEOUT, R230: source 3's 60 s end. -/
  | peerRecoveryTimeout (c : ChanId)
  /-- MISSION_UPDATE_ACTIVATE, R235: ActivateFirmware for the mission firmware. -/
  | missionUpdateActivate
  /-- EXTENSION_UPDATE_APPLY, R239: the extension region is rewritten. -/
  | extensionUpdateApply (readBackOk : Bool)
  /-- QUERY_DEVICE_IDENTIFIERS, R207: PLDM QueryDeviceIdentifiers returns the descriptors. -/
  | queryDeviceIdentifiers (who : Requester)
  /-- GET_FIRMWARE_PARAMETERS, R207: PLDM GetFirmwareParameters returns component entries. -/
  | getFirmwareParameters (who : Requester)
  /-- REQUEST_UPDATE, R208: PLDM RequestUpdate enters update mode inside an authorised session. -/
  | requestUpdate (who : Requester) (maxTransfer : Nat)
  /-- PASS_COMPONENT_TABLE, R207: one entry of the table. -/
  | passComponentTable (who : Requester) (component : Word16)
  /-- UPDATE_COMPONENT, R207: PLDM UpdateComponent opens the target's update. -/
  | updateComponent (who : Requester) (component : Word16) (imageSize : Nat)
  /-- FIRMWARE_DATA_RESPONSE, R208: A response to the device's RequestFirmwareData delivers a chunk of the container. -/
  | firmwareDataResponse (who : Requester) (completion : Nat) (data : List Byte)
  /-- FIRMWARE_DATA_TIMEOUT, R208: 5 s without an answer. -/
  | firmwareDataTimeout
  /-- ACTIVATE_FIRMWARE, R207: PLDM ActivateFirmware activates every applied component. -/
  | activateFirmware (who : Requester)
  /-- GET_STATUS, R207: PLDM GetStatus reports update state. -/
  | getStatus (who : Requester)
  /-- CANCEL_UPDATE_COMPONENT, R207: PLDM CancelUpdateComponent abandons before COMMIT. -/
  | cancelUpdateComponent (who : Requester)
  /-- CANCEL_UPDATE, R207: PLDM CancelUpdate abandons before COMMIT. -/
  | cancelUpdate (who : Requester)
  /-- PLDM_UNSUPPORTED_CMD, R207: any other firmware-update command. -/
  | pldmUnsupportedCmd (who : Requester) (command : Byte)
  /-- CISTERN_INIT, R242, R243: a write of CISTERN.CTL.init. -/
  | cisternInit (half : Half)
  /-- CISTERN_INIT_DONE, R243: init completes. -/
  | cisternInitDone (o : InitOutcome)
  /-- CISTERN_QPOP, R270: a read of CISTERN.QPOP. -/
  | cisternQpop (half : Half)
  /-- CISTERN_READ, R270: op 1 is pushed. -/
  | cisternRead (half : Half) (cmd : CisCmd)
  /-- CISTERN_PROGRAM, R270: op 2 is pushed. -/
  | cisternProgram (half : Half) (cmd : CisCmd)
  /-- CISTERN_ERASE, R270: op 3 is pushed. -/
  | cisternErase (half : Half) (cmd : CisCmd)
  /-- CISTERN_ENCODE, R271: op 4 is pushed. -/
  | cisternEncode (half : Half) (cmd : CisCmd)
  /-- CISTERN_DECODE, R271: op 5 is pushed. -/
  | cisternDecode (half : Half) (cmd : CisCmd)
  /-- CISTERN_PATROL_READ, R247: op 6 is pushed. -/
  | cisternPatrolRead (half : Half) (cmd : CisCmd)
  /-- CISTERN_PARAMETER_PAGE, R270: op 7 is pushed. -/
  | cisternParameterPage (half : Half) (cmd : CisCmd)
  /-- CISTERN_CMD_DONE, R250: the command served next completes. -/
  | cisternCmdDone (o : CisOutcome)
  /-- CATALOGUE_COMMIT_DONE, R249: both copies written and read back. -/
  | catalogueCommitDone (okA okB : Bool)
  /-- GOLDEN_WRITE, R251: the Allotter writes a golden copy. -/
  | goldenWrite (t : Target) (container : List Byte)
  /-- PATROL_PERIOD, R247: a patrol pass over every written page ends. -/
  | patrolPeriod
  /-- LAGGARD_WINDOW, R260: a 10 s window ends. -/
  | laggardWindow
  /-- REPLACE_WAIT_EXPIRED, R263: replace_wait_s ends without a join. -/
  | replaceWaitExpired (device : Fin 32)
  /-- ORPHAN_KEEP_EXPIRED, R264: the keep time of an orphan ends. -/
  | orphanKeepExpired
  /-- SHARD_REASSEMBLY_DONE, R265: a container has been reassembled and is judged. -/
  | shardReassemblyDone (t : Target) (shards : List ShardCopy) (j : Judgement)
  /-- FILL_REMAP, R267: before a fill on port `p`. -/
  | fillRemap (p : PortId)
  /-- PAKOR_LINK_TRAIN_STEP, R276: a training step completes or fails. -/
  | pakorLinkTrainStep (l : LinkId) (step : Fin 7) (ok : Bool)
  /-- PAKOR_LINK_UP, R276: the link has completed its handshake. -/
  | pakorLinkUp (l : LinkId) (oneLane : Bool)
  /-- PAKOR_TRAIN_RETRY, R277: the next try falls due. -/
  | pakorTrainRetry (l : LinkId)
  /-- PAKOR_LINK_DOWN, R305: the link goes down. -/
  | pakorLinkDown (l : LinkId)
  /-- PAKOR_CRC_RETRAIN, R278: 32 CRC failures in 1 s; the lane with the higher error count. -/
  | pakorCrcRetrain (l : LinkId) (worse : Fin 2)
  /-- HELLO, R274: A HELLO frame sets lane roles and detects position conflicts. -/
  | hello (f : FrameIn) (device : Nat) (lane : Fin 2) (sameAsLane0 : Bool) (mode : Nat) (id : Digest) (ringOk : Bool)
  /-- HANDSHAKE, R285: one SPDM message; the requester's certificate chain where it is a FINISH. -/
  | handshake (f : FrameIn) (msg chain : List Byte)
  /-- LINK_TEST, R302: the mean of the rounds in 10 ps units. -/
  | linkTest (f : FrameIn) (rtt : Nat) (copper : Bool)
  /-- BEACON, R290: A received BEACON updates membership and master views. -/
  | beacon (f : FrameIn) (b : Beacon)
  /-- CLAIM, R294: A received CLAIM decides mastership by epoch and position. -/
  | claim (f : FrameIn) (m : ClaimMsg)
  /-- LEAVE, R290: A received LEAVE declares the sender absent at once. -/
  | leave (f : FrameIn)
  /-- HOLDINGS, R291: (owner's handle, index) of shards held for this device. -/
  | holdings (f : FrameIn) (shards : List (Nat × Nat))
  /-- SHARD_OFFER, R297: A SHARD_OFFER is answered with SHARD_GRANT. -/
  | shardOffer (f : FrameIn) (number : Nat) (h : ShardHead)
  /-- SHARD_GRANT, R297: A SHARD_GRANT lets the owner send data or place elsewhere. -/
  | shardGrant (f : FrameIn) (number : Nat) (code : Code)
  /-- SHARD_DATA, R297: A SHARD_DATA frame delivers 4,096 shard bytes. -/
  | shardData (f : FrameIn) (number offset : Nat) (data : List Byte)
  /-- SHARD_ACK, R297: A SHARD_ACK acknowledges a committed shard or reports failure. -/
  | shardAck (f : FrameIn) (number : Nat) (code : Code)
  /-- SHARD_REQ, R299: A SHARD_REQ asks a holder for a shard. -/
  | shardReq (f : FrameIn) (ownerId : Digest) (target svn : Nat) (root : Digest) (index : Nat)
  /-- RILL_FRAME, R300: A RILL frame carries a forwarded dictionary request. -/
  | rillFrame (f : FrameIn) (r : RillReq)
  /-- RILL_REPLY_FRAME, R300: A RILL_REPLY frame carries a forwarded reply. -/
  | rillReplyFrame (f : FrameIn) (tag : Nat) (reply : List Byte)
  /-- BEACON_SEND, R289: 100 ms since the last beacon. -/
  | beaconSend
  /-- BEACON_REFRESH, R289: a write of BEACON_REFRESH. -/
  | beaconRefresh (half : Half)
  /-- BEACON_STALE, R289: 2 s without a refresh. -/
  | beaconStale
  /-- MEMBER_ABSENCE_TIMEOUT, R290: 1.0 s without a beacon. -/
  | memberAbsenceTimeout (device : Fin 32)
  /-- MASTER_CLAIM_START, R293, R295: this device is the rightful master. -/
  | masterClaimStart (cascade : Bool)
  /-- PAKOR_REKEY, R286: the peer's messages of the renewal, its certificate chain. -/
  | pakorRekey (l : LinkId) (msgs : SpdmMsgs) (chain : List Byte)
  /-- SHARD_TRANSFER_STALL, R298: 5 s without progress. -/
  | shardTransferStall (number : Nat) (outgoing : Bool)
  /-- PAKOR_QPUSH, R304: a send command is pushed. -/
  | pakorQpush (half : Half) (cmd : SendCmd)
  /-- PAKOR_RXPOP, R304: a read of RXPOP. -/
  | pakorRxpop (half : Half)
  /-- FORWARD_TIMEOUT, R301: forward_timeout_ms without a reply. -/
  | forwardTimeout (endpoint tag : Nat)
  /-- DISTURBANCE_END, R325: the end of a disturbance on rail 0-15 or bus 16-17. -/
  | disturbanceEnd (input : Fin 18) (cls : DisturbClass) (start durUs extremeMv meanMv : Nat)
  /-- HOLDUP_TEST_STEP, R327: the scheduled test step falls due. -/
  | holdupTestStep
  /-- HU_CTL, R327: a write of MEASURE.HU_CTL. -/
  | huCtl (core : CoreId) (value : Word)
  /-- HOLDUP_STEP_DONE, R328: a test step has been sampled and is fitted. -/
  | holdupStepDone (x : HuStep)
  /-- HOLDUP_ESTIMATE, R329: the 10 ms computation, with what MEAS_BUS0 and a current input on MEAS_BUS1 read. -/
  | holdupEstimate (busMv busMa : Nat)
  /-- PSU_POLL, R330: a poll of one PSU and its answer. -/
  | psuPoll (psu : Fin 4) (arbLost : Bool) (ans : PsuAnswer)
  /-- PSU_CLEAR_FAULTS, R330: a write of `psu_clear_faults`. -/
  | psuClearFaults (who : Requester) (psu : Fin 4)
  /-- MEAS_OVERRUN, R323: a measurement core more than 64 samples behind. -/
  | measOverrun (core : Fin 2)
  /-- GENERATE, R372: Key vault GENERATE fills a new slot from the DRBG. -/
  | generate (half : Half) (cmd : KvCmd)
  /-- DERIVE, R374: Key vault DERIVE creates a lifecycle-bound child by the SP 800-108 KDF. -/
  | derive (half : Half) (cmd : KvCmd)
  /-- EXTRACT, R372: Key vault EXTRACT runs HKDF-Extract. -/
  | extract (half : Half) (cmd : KvCmd)
  /-- EXPAND, R372: Key vault EXPAND runs HKDF-Expand. -/
  | expand (half : Half) (cmd : KvCmd)
  /-- INVALIDATE, R366: Key vault INVALIDATE zeroises a slot and advances its generation. -/
  | invalidate (half : Half) (cmd : KvCmd)
  /-- LOAD_PKE, R444: Key vault LOAD_PKE writes a key into an operand slot and marks it KEYED. -/
  | loadPke (half : Half) (cmd : KvCmd)
  /-- STORE_PKE, R439: Key vault STORE_PKE moves an OUT operand slot into a new vault slot. -/
  | storePke (half : Half) (cmd : KvCmd)
  /-- HMAC, R372: Key vault HMAC computes HMAC-SHA-384 as a class 2 hash job. -/
  | hmac (half : Half) (cmd : KvCmd)
  /-- WRAP, R373: Key vault WRAP exports a key wrapped by AES-KWP. -/
  | wrap (half : Half) (cmd : KvCmd)
  /-- UNWRAP, R373: Key vault UNWRAP creates a slot from a wrapped blob. -/
  | unwrap (half : Half) (cmd : KvCmd)
  /-- KV_ORPHAN_SWEEP, R366: 1 ms since the last sweep. -/
  | kvOrphanSweep
  /-- ROOT_LOCK, R351: KEYVAULT.CTL.root_lock written 1. -/
  | rootLock (half : Half)
  /-- TEST_SECRET, R378: KEYVAULT.CTL.test_secret written 1. -/
  | testSecret (half : Half)
  /-- FUSE_READ, R414: FUSECTL.CMD op 1. -/
  | fuseRead (half : Half) (priv : Bool) (word : BitVec 9)
  /-- FUSE_MARGIN, R404: FUSECTL.CMD op 2. -/
  | fuseMargin (half : Half) (priv : Bool) (word : BitVec 9)
  /-- FUSE_PROGRAM, R418: op 3, the mask in CMD_DATA; what the burn left. -/
  | fuseProgram (half : Half) (priv : Bool) (word : BitVec 9) (burn : BurnOutcome)
  /-- FUSE_REBURN, R420: op 4. -/
  | fuseReburn (half : Half) (priv : Bool) (word : BitVec 9) (burn : BurnOutcome)
  /-- FUSE_LOCK, R410: op 5. -/
  | fuseLock (half : Half) (region : BitVec 9) (burn : BurnOutcome)
  /-- FUSE_REDIRECT, R421: op 6; the spare word's burn, then the entry's. -/
  | fuseRedirect (half : Half) (word : BitVec 9) (burn : BurnOutcome)
  /-- GEN_SECRET, R421: op 7; the burn of W8-W20, W8 first. -/
  | genSecret (half : Half) (burn : BurnOutcome)
  /-- FUSE_RELOAD, R424: op 8. -/
  | fuseReload (half : Half) (priv : Bool) (word : BitVec 9)
  /-- FUSE_OVERRIDE_WRITE, R422: a write of OVR_DATA. -/
  | fuseOverrideWrite (half : Half) (value : Word)
  /-- FUSE_OVERRIDE_CLEAR, R422: a write of OVR_ADDR. -/
  | fuseOverrideClear (half : Half) (value : Word)
  /-- MAC, R431: op 0 pushed; `hi` is CMD_HI[27:0]. -/
  | mac (half : Half) (hi : BitVec 28) (lo : Word)
  /-- VMAC, R432: op 1 pushed. -/
  | vmac (half : Half) (hi : BitVec 28) (lo : Word)
  /-- JOB_OPEN, R436: op 2 pushed. -/
  | jobOpen (half : Half) (hi : BitVec 28) (lo : Word)
  /-- JOB_CLOSE, R438: op 3 pushed. -/
  | jobClose (half : Half) (hi : BitVec 28) (lo : Word)
  /-- JOB_END, R438: the class time of the closed job ends. -/
  | jobEnd (half : Half)
  /-- JOB_OVERRUN, R442: the class time, or 1.01 times it, passes without JOB_CLOSE. -/
  | jobOverrun (half : Half)
  /-- SPONGE_INIT, R434: op 4, action 0 pushed; `hi` is CMD_HI[23:0]. -/
  | spongeInit (half : Half) (hi : BitVec 24) (lo : Word)
  /-- SPONGE_ABSORB, R434: action 1. -/
  | spongeAbsorb (half : Half) (hi : BitVec 24) (lo : Word)
  /-- SPONGE_SQUEEZE, R434: action 2. -/
  | spongeSqueeze (half : Half) (hi : BitVec 24) (lo : Word)
  /-- SPONGE_SAMPLE, R435: action 3. -/
  | spongeSample (half : Half) (hi : BitVec 24) (lo : Word)
  /-- PKE_ABORT, R443: PKE.ABORT written 1, or enable cleared. -/
  | pkeAbort (half : Half)
  /-- PKE_OPERAND_READ, R437, R439: a core of the half reads a word of its operand memory or of EXT. -/
  | pkeOperandRead (half : Half) (addr : Word)
  /-- PKE_SLOT_CFG_WRITE, R427: a write of SLOT_CFGs. -/
  | pkeSlotCfgWrite (half : Half) (slot : Fin 256) (value : Word)
  /-- NOP, R454: Brixxel NOP does nothing. -/
  | nop (k : CoreId)
  /-- DUP, R454: Brixxel DUP copies S0. -/
  | dup (k : CoreId)
  /-- DROP, R454: Brixxel DROP discards S0. -/
  | drop (k : CoreId)
  /-- SWAP, R454: Brixxel SWAP exchanges S0 and S1. -/
  | swap (k : CoreId)
  /-- OVER, R454: Brixxel OVER copies S1. -/
  | over (k : CoreId)
  /-- ROT, R454: Brixxel ROT rotates the top three cells. -/
  | rot (k : CoreId)
  /-- PICK, R454: copy of S(n). -/
  | pick (k : CoreId) (n : Byte)
  /-- TOR, R454: Brixxel TOR moves S0 to the return stack. -/
  | tor (k : CoreId)
  /-- FROMR, R454: Brixxel FROMR pops the return stack. -/
  | fromr (k : CoreId)
  /-- RCOPY, R454: Brixxel RCOPY copies the top return entry. -/
  | rcopy (k : CoreId)
  /-- DEPTH, R454: Brixxel DEPTH pushes the stack depth. -/
  | depth (k : CoreId)
  /-- LIT8, R454: Brixxel LIT8 pushes a sign-extended 8-bit value. -/
  | lit8 (k : CoreId) (f : Byte)
  /-- LIT, R454: Brixxel LIT pushes a sign-extended 20-bit value. -/
  | lit (k : CoreId) (imm : BitVec 20)
  /-- LITU, R454: Brixxel LITU pushes imm × 4,096. -/
  | litu (k : CoreId) (imm : BitVec 20)
  /-- ORI, R454: Brixxel ORI ORs a zero-extended immediate. -/
  | ori (k : CoreId) (imm : BitVec 20)
  /-- ADDI, R454: Brixxel ADDI adds an immediate. -/
  | addi (k : CoreId) (imm : BImm)
  /-- ADD, R454: Brixxel ADD. -/
  | add (k : CoreId)
  /-- SUB, R454: Brixxel SUB. -/
  | sub (k : CoreId)
  /-- AND, R454: Brixxel AND. -/
  | andI (k : CoreId)
  /-- OR, R454: Brixxel OR. -/
  | orI (k : CoreId)
  /-- XOR, R454: Brixxel XOR. -/
  | xorI (k : CoreId)
  /-- NOT, R454: Brixxel NOT. -/
  | notI (k : CoreId)
  /-- NEG, R454: Brixxel NEG. -/
  | negI (k : CoreId)
  /-- SHL, R454: Brixxel SHL by S0. -/
  | shl (k : CoreId)
  /-- SHR, R454: Brixxel SHR by S0. -/
  | shr (k : CoreId)
  /-- SAR, R454: Brixxel SAR by S0. -/
  | sar (k : CoreId)
  /-- SHLI, R454: Brixxel SHLI by field. -/
  | shli (k : CoreId) (n : BitVec 5)
  /-- SHRI, R454: Brixxel SHRI by field. -/
  | shri (k : CoreId) (n : BitVec 5)
  /-- SARI, R454: Brixxel SARI by field. -/
  | sari (k : CoreId) (n : BitVec 5)
  /-- EQ, R460: Brixxel EQ compare. -/
  | eqI (k : CoreId)
  /-- NE, R460: Brixxel NE compare. -/
  | neI (k : CoreId)
  /-- LT, R460: Brixxel LT compare. -/
  | ltI (k : CoreId)
  /-- LTU, R460: Brixxel LTU compare. -/
  | ltuI (k : CoreId)
  /-- LE, R460: Brixxel LE compare. -/
  | leI (k : CoreId)
  /-- LEU, R460: Brixxel LEU compare. -/
  | leuI (k : CoreId)
  /-- EQZ, R460: Brixxel EQZ compare with zero. -/
  | eqzI (k : CoreId)
  /-- MUL, R462: Brixxel MUL low product at distance 2. -/
  | mul (k : CoreId)
  /-- MULH, R462: Brixxel MULH signed high product at distance 2. -/
  | mulh (k : CoreId)
  /-- MULHU, R462: Brixxel MULHU unsigned high product at distance 2. -/
  | mulhu (k : CoreId)
  /-- LDW, R455: Brixxel LDW loads a word at distance 2. -/
  | ldw (k : CoreId) (d : Disp)
  /-- LDH, R455: Brixxel LDH loads a sign-extended halfword. -/
  | ldh (k : CoreId) (d : Disp)
  /-- LDHU, R455: Brixxel LDHU loads a zero-extended halfword. -/
  | ldhu (k : CoreId) (d : Disp)
  /-- LDB, R455: Brixxel LDB loads a sign-extended byte. -/
  | ldb (k : CoreId) (d : Disp)
  /-- LDBU, R455: Brixxel LDBU loads a zero-extended byte. -/
  | ldbu (k : CoreId) (d : Disp)
  /-- STW, R455: Brixxel STW stores a word. -/
  | stw (k : CoreId) (d : Disp)
  /-- STH, R455: Brixxel STH stores a halfword. -/
  | sth (k : CoreId) (d : Disp)
  /-- STB, R455: Brixxel STB stores a byte. -/
  | stb (k : CoreId) (d : Disp)
  /-- LDR, R458: Brixxel LDR loads and reserves a granule. -/
  | ldr (k : CoreId) (d : Disp)
  /-- STC, R458, R459: `rivals`: the cores whose STCs to the same granule reach secure SRAM in the same cycle. -/
  | stc (k : CoreId) (d : Disp) (rivals : BitVec 12)
  /-- FENCE, R457: Brixxel FENCE stalls until earlier accesses complete. -/
  | fence (k : CoreId)
  /-- BZ, R460: Brixxel BZ branches on zero with a delay slot. -/
  | bz (k : CoreId) (o : BImm)
  /-- BNZ, R460: Brixxel BNZ branches on non-zero with a delay slot. -/
  | bnz (k : CoreId) (o : BImm)
  /-- BRA, R460: Brixxel BRA branches with a delay slot. -/
  | bra (k : CoreId) (o : BImm)
  /-- BSR, R460: Brixxel BSR calls relative with a delay slot. -/
  | bsr (k : CoreId) (o : BImm)
  /-- JMP, R460: Brixxel JMP jumps to a popped target. -/
  | jmp (k : CoreId)
  /-- JSR, R460: Brixxel JSR calls a popped target. -/
  | jsr (k : CoreId)
  /-- RET, R461: Brixxel RET returns from the return stack. -/
  | ret (k : CoreId)
  /-- TRET, R473: Brixxel TRET returns from a trap. -/
  | tret (k : CoreId)
  /-- SVC, R471: Brixxel SVC traps with cause SVC. -/
  | svc (k : CoreId) (n : Byte)
  /-- BREAK, R471: Brixxel BREAK traps with cause BREAK. -/
  | breakI (k : CoreId) (n : Byte)
  /-- WAIT, R475: Brixxel WAIT stalls until an event is pending. -/
  | waitI (k : CoreId)
  /-- FMAC, R466: Brixxel FMAC accumulates a Q1.31 product. -/
  | fmac (k : CoreId) (a : Fin 2) (sub : Bool)
  /-- PMAC, R466: Brixxel PMAC accumulates paired Q1.15 products. -/
  | pmac (k : CoreId) (a : Fin 2) (sub : Bool)
  /-- ACLR, R466: Brixxel ACLR clears an accumulator. -/
  | aclr (k : CoreId) (a : Fin 2)
  /-- ALD, R466: Brixxel ALD loads an accumulator. -/
  | ald (k : CoreId) (a : Fin 2)
  /-- FSTO, R467: Brixxel FSTO rounds and saturates to Q1.31. -/
  | fsto (k : CoreId) (a : Fin 2)
  /-- FSTOH, R467: Brixxel FSTOH rounds and saturates to Q1.15. -/
  | fstoh (k : CoreId) (a : Fin 2)
  /-- ARD, R454: Brixxel ARD reads an accumulator part raw. -/
  | ard (k : CoreId) (a : Fin 2) (part : BitVec 2)
  /-- AWR, R454: Brixxel AWR writes an accumulator raw. -/
  | awr (k : CoreId) (a : Fin 2)
  /-- EMULATE_TRAP, R454: the parcels of a reserved encoding. -/
  | emulateTrap (k : CoreId) (p : Parcels)
  /-- EVENT_INTERRUPT, R475: an instruction boundary at which the core looks for an event. -/
  | eventInterrupt (k : CoreId)
  /-- CORE_ALERT_WRITE, R477: the core writes ALERT. -/
  | coreAlertWrite (k : CoreId) (value : Word)
  /-- EVENT_PENDING_CLEAR, R531, R532: a core writes 1 to a pending bit; `raising`: the event is raised in the same AON clock cycle. -/
  | eventPendingClear (core : CoreId) (e : EventId) (raising : Bool)
  /-- EVENT_CFG_WRITE, R532: a core writes CFGe. -/
  | eventCfgWrite (core : CoreId) (e : EventId) (value : Word)
  /-- SWTRIG, R535: a core writes EVENTS.SWTRIG. -/
  | swtrig (core : CoreId) (value : Word)
  /-- WDOG_KICK, R537: a core writes WDOG_KICKg. -/
  | wdogKick (core : CoreId) (g : Fin 4)
  /-- WDOG_ARM, R537: a core writes WDOG_CFGg. -/
  | wdogArm (core : CoreId) (g : Fin 4) (value : Word)
  /-- WATCHDOG_EXPIRED, R537: no kick of group `g` for one period. -/
  | watchdogExpired (g : Fin 4)
  /-- GENERAL_TIMER_EXPIRED, R536: timer `t` reaches its period. -/
  | generalTimerExpired (t : Fin 8)
  /-- DOM_REQ, R540, R541: a core writes PWRCLK.DOM_REQ; `tied`: Amber's request of the same cycle joined the queue last. -/
  | domReq (core : CoreId) (value : Word) (tied : Bool)
  /-- DOMAIN_SWITCH_DONE, R541: the switch at the queue's head completes. -/
  | domainSwitchDone
  /-- CLOCK_MONITOR_WINDOW, R548: the counts of the window and the PLLs that lost their lock. -/
  | clockMonitorWindow (w : ClockCounts)
  /-- MBOX_TAKE, R520: a write of TAKEm. -/
  | mboxTake (core : CoreId) (m : Fin 16) (value : Word)
  /-- MBOX_POST, R520: a write of POSTm; `acked`: the requester acknowledges in the same cycle (R523). -/
  | mboxPost (core : CoreId) (m : Fin 16) (value : Word) (acked : Bool)
  /-- MBOX_IN_CLEAR, R521: a write of INm; `ringing`: the IN bits set in the same cycle (R523). -/
  | mboxInClear (core : CoreId) (m : Fin 16) (mask ringing : Word)
  /-- MBOX_OUT_SET, R521: a write of OUTm. -/
  | mboxOutSet (core : CoreId) (m : Fin 16) (mask : Word)
  /-- MBOX_INBOUND_POST, R520; `taken`: the TAKE before it falls in the same cycle (R523). -/
  | mboxInboundPost (m : Fin 16) (p : MboxPost) (taken : Bool)
  /-- MBOX_OUT_ACK, R520: out_full written 1, or `mbox_out_ack` written true; `posted`: the POST before it falls in the same cycle (R523). -/
  | mboxOutAck (m : Fin 16) (src : MboxFrom) (posted : Bool)
  /-- MBOX_OUT_CLEAR, R521; `setting`: the OUT bits set in the same cycle (R523). -/
  | mboxOutClear (m : Fin 16) (src : MboxFrom) (mask setting : Word)
  /-- MBOX_IN_RING, R521: a write of 1 bits to IN, or of `mbox_ring`. -/
  | mboxInRing (m : Fin 16) (src : MboxFrom) (mask : Word)
  /-- SPI_STATUS, R515: 0x05. -/
  | spiStatus (tx : SpiTx)
  /-- SPI_READ, R509: 0x0B. -/
  | spiRead (tx : SpiTx)
  /-- SPI_WRITE, R510: 0x02. -/
  | spiWrite (tx : SpiTx)
  /-- DOORBELL_SET, R518: 0x21. -/
  | doorbellSet (tx : SpiTx)
  /-- SECURE_FRAME_SEND, R524: 0x5E, address 0. -/
  | secureFrameSend (tx : SpiTx)
  /-- SECURE_FRAME_RECEIVE, R524: 0x5E, address 1. -/
  | secureFrameReceive (tx : SpiTx)
  /-- PORT_SYNC, R515: 0xF0. -/
  | portSync (tx : SpiTx)
  /-- SPI_UNKNOWN_COMMAND, R514: An unknown SPI command drives 0xFF and is recorded. -/
  | spiUnknownCommand (cmd : Byte) (tx : SpiTx)
  /-- SPI_READ_TIMEOUT, R509: the header of the read that ran out of busy bytes. -/
  | spiReadTimeout (tx : SpiTx)
  /-- RILL_WINDOW_SUBMIT, R527: a write of SUBMIT. -/
  | rillWindowSubmit (len : Word16)
  /-- RILL_WINDOW_REPLY_CLEAR, R527: reply_ready written 1. -/
  | rillWindowReplyClear
  /-- RILL_READ, R491: op 0x01. -/
  | rillRead (who : Requester) (f : RillReq)
  /-- RILL_WRITE, R480: op 0x02. -/
  | rillWrite (who : Requester) (f : RillReq)
  /-- READ_BLOCK, R497: op 0x03. -/
  | readBlock (who : Requester) (f : RillReq)
  /-- WRITE_BLOCK, R497: op 0x04. -/
  | writeBlock (who : Requester) (f : RillReq)
  /-- LIST, R494: op 0x05. -/
  | list (who : Requester) (f : RillReq)
  /-- SUBSCRIBE, R500: op 0x06. -/
  | subscribe (who : Requester) (f : RillReq)
  /-- NOTIFY, R500: a NOTIFY of the object to the endpoint may be sent. -/
  | notify (endpoint index sub : Nat)
  /-- RILL_FINAL_REPLY, R495: the endpoint's oldest outstanding action ends with `code`. -/
  | rillFinalReply (endpoint : Nat) (code : Code)
  /-- BLOCK_TRANSFER_STALL, R498: 5 s without a segment. -/
  | blockTransferStall (endpoint index sub : Nat)
  /-- SNAPSHOT_EXPIRED, R499: 5 s without a read. -/
  | snapshotExpired (endpoint : Nat) (tag : Byte)
  /-- EXTENSION_CALL_TIMEOUT, R490: 10 ms without an answer of extension code. -/
  | extensionCallTimeout (endpoint : Nat) (tag : Byte) (index sub : Nat)
  /-- CHAN_STATE_WRITE, R42: a write of `chan_state`. -/
  | chanStateWrite (who : Requester) (c : ChanId) (value : Byte)
  /-- CHANNEL_CONFIG_WRITE, R487: a write of a 0x03cc object. -/
  | channelConfigWrite (who : Requester) (c : ChanId) (sub : Byte) (value : List Byte)
  /-- RELEASE_PLAN_WRITE, R314: a write of `release_plan`. -/
  | releasePlanWrite (who : Requester) (value : List Byte)
  /-- HOLD_REQUEST_WRITE, R317: a write of `hold_request`. -/
  | holdRequestWrite (who : Requester) (h : OutId) (value : Byte)
  /-- OWNER_REVOKE_REQUEST, R187: a write of `owner_revoke_request`. -/
  | ownerRevokeRequest (who : Requester) (slot : Byte) (burn : BurnOutcome)
  /-- SVN_ADVANCE_REQUEST, R193: a write of `svn_advance_request`. -/
  | svnAdvanceRequest (who : Requester) (sub : Byte) (burn : BurnOutcome)
  /-- STREAM_COMMIT, R212: `stream_ctl` written 2. -/
  | streamCommit (who : Requester) (c : ChanId)
  /-- STREAM_ABANDON, R212: `stream_ctl` written 3. -/
  | streamAbandon (who : Requester) (c : ChanId)
  /-- IMAGE_UPLOAD_SEGMENT, R206: a segment of `image_upload`. -/
  | imageUploadSegment (who : Requester) (t : Target) (offset total : Nat) (last : Bool) (data : List Byte)
  /-- OWNER_DIGEST_WRITE, R423: a write of `owner_digest`; the burn of the slot's 13 words. -/
  | ownerDigestWrite (who : Requester) (slot : Fin 4) (digest : Digest) (burn : BurnOutcome)
  /-- OWNER_LOCK_REQUEST, R423: `owner_lock_request` written true. -/
  | ownerLockRequest (who : Requester) (slot : Fin 4) (burn : BurnOutcome)
  /-- TRUST_LIST_WRITE, R284: a write of `trust_list`. -/
  | trustListWrite (who : Requester) (value : List Byte)
  /-- GET_VERSION, R385: SPDM GET_VERSION. -/
  | getVersion (who : Requester) (msg : List Byte)
  /-- GET_CAPABILITIES, R385: SPDM GET_CAPABILITIES. -/
  | getCapabilities (who : Requester) (msg : List Byte)
  /-- NEGOTIATE_ALGORITHMS, R385: SPDM NEGOTIATE_ALGORITHMS. -/
  | negotiateAlgorithms (who : Requester) (msg : List Byte)
  /-- GET_DIGESTS, R385: SPDM GET_DIGESTS. -/
  | getDigests (who : Requester) (msg : List Byte)
  /-- GET_CERTIFICATE, R381, R382: SPDM GET_CERTIFICATE. -/
  | getCertificate (who : Requester) (msg : List Byte)
  /-- CHALLENGE, R386: SPDM CHALLENGE is answered with a steward signature. -/
  | challenge (who : Requester) (msg : List Byte)
  /-- GET_MEASUREMENTS, R389: SPDM GET_MEASUREMENTS returns measurement blocks. -/
  | getMeasurements (who : Requester) (msg : List Byte)
  /-- KEY_EXCHANGE, R391: SPDM KEY_EXCHANGE opens a session up to the limit. -/
  | keyExchange (who : Requester) (msg : List Byte)
  /-- FINISH, R385: with the requester's certificate chain. -/
  | finish (who : Requester) (session : Nat) (msg chain : List Byte)
  /-- END_SESSION, R391: SPDM END_SESSION ends a session. -/
  | endSession (who : Requester) (session : Nat) (msg : List Byte)
  /-- RESPOND_IF_READY, R386: SPDM RESPOND_IF_READY collects a delayed response. -/
  | respondIfReady (who : Requester) (msg : List Byte)
  /-- CHUNK_SEND, R385: SPDM CHUNK_SEND. -/
  | chunkSend (who : Requester) (msg : List Byte)
  /-- CHUNK_GET, R385: SPDM CHUNK_GET. -/
  | chunkGet (who : Requester) (msg : List Byte)
  /-- GET_COSIG, R388: Vendor-defined GET_COSIG returns a co-signature block. -/
  | getCosig (who : Requester) (msg : List Byte)
  /-- PUSH_COSIG, R388: Vendor-defined PUSH_COSIG verifies the requester's co-signature. -/
  | pushCosig (who : Requester) (session : Nat) (msg : List Byte)
  /-- SPDM_UNSUPPORTED_REQUEST, R385: Any other SPDM request gets UnsupportedRequest. -/
  | spdmUnsupportedRequest (who : Requester) (msg : List Byte)
  /-- SPDM_SIGNATURE_READY, R386: the steward's signature arrives. -/
  | spdmSignatureReady
  /-- SECURED_RECORD, R525: a DSP0277 record; on the SPI port the one that SECURE_FRAME holds. -/
  | securedRecord (endpoint : Nat) (record : List Byte)
  /-- SESSION_IDLE_EXPIRED, R391: A session with no message for session_idle_s ends. -/
  | sessionIdleExpired (session : Nat)
  /-- SET_ENDPOINT_ID, R501: MCTP control. -/
  | setEndpointId (eid : Byte)
  /-- GET_ENDPOINT_ID, R501: MCTP Get Endpoint ID. -/
  | getEndpointId
  /-- GET_MCTP_VERSION_SUPPORT, R501: MCTP Get MCTP Version Support. -/
  | getMctpVersionSupport
  /-- GET_MESSAGE_TYPE_SUPPORT, R501: MCTP Get Message Type Support. -/
  | getMessageTypeSupport
  /-- REGISTER_WRITE, R30: a 32-bit write on the internal bus. -/
  | registerWrite (core : CoreId) (addr value : Word)
  /-- RESEAL_LINE_DONE, R120: one line of the pass has been read under both keys; the pages that failed their check. -/
  | resealLineDone (bad : List Nat)
  /-- SUSPEND_LATENCY_END, R166: the suspend latency ends. -/
  | suspendLatencyEnd (c : ChanId)
  /-- SENSE_LOSS_LATCH_CLEAR, R318: the conditions of `h` have held again for settle_ms. -/
  | senseLossLatchClear (h : OutId)
  /-- PAKOR_QPOP, R304: a read of QPOP. -/
  | pakorQpop (half : Half)
  /-- CISTERN_ECC_MAX_READ, R270: a read of ECC_MAX. -/
  | cisternEccMaxRead (half : Half)
  /-- TIME_LO_READ, R547: a core reads PWRCLK.TIME_LO. -/
  | timeLoRead (core : CoreId)
  /-- DRAM_REFRESH_RATE_CHANGE, R148: the DRAM reports a refresh-rate change. -/
  | dramRefreshRateChange
  /-- I3C_DYNAMIC_ADDRESS_ASSIGNMENT, R529: The I3C controller assigns the target a dynamic address and I3C_ADDR_ASSIGNED is raised. -/
  | i3cDynamicAddressAssignment (addr : BitVec 7)
  /-- SMBUS_CLOCK_LOW_TIMEOUT, R568: SMB_SCL held low beyond the 25–35 ms SMBus timeout resets the target's transfer and raises SMBUS_TIMEOUT. -/
  | smbusClockLowTimeout
  /-- MCTP_ASSEMBLY_FAIL, R529: An MCTP packet arrives out of sequence or after a lost packet, the message under assembly is discarded and MCTP_ASSEMBLY_FAIL is raised. -/
  | mctpAssemblyFail (endpoint : Nat)
  /-- PSU_BUS_IDLE_RETRY, R330: the retry at bus idle after a lost arbitration. -/
  | psuBusIdleRetry (psu : Fin 4) (arbLost : Bool) (ans : PsuAnswer)
  deriving DecidableEq, Repr

end Sys2Proof
end

