-- ==== Sys2Proof/Config.lean ====
section
/-!
DEFINITION. What an implementation of the GV4896 fixes and the spec leaves open: the free values. Each is a constant with no
body, applied to the model's counter of free values or to the operands it depends on, so that nothing can be proved of what
it is.
-/
namespace Sys2Proof

/-- A fresh free value of 64 bits: the `n`-th that the machine draws. -/
opaque Config.freeWord : Nat → DWord

/-- A fresh free byte, for content that the spec leaves undefined or does not give (a NAND parameter page, R270; an unjudged half of
`slot_result`). -/
opaque Config.freeByte : Nat → Byte

/-- The 384 bits of DRBG output that the `n`-th draw gives (R363, R421). -/
opaque Config.drbg : Nat → Digest

/-- How the stored, scrambled unique secret reads in slot 0 (R338, R406: stored scrambled, the scrambling is not given). -/
opaque Config.unscramble : Digest → Digest

/-- The root of the Fjararis test secret that replaces slot 0 in SERVICE (R378: its value is not given). -/
opaque Config.testSecret : Digest

/-- What a burn leaves of the cells it blows where a command has no operand that says so (a burn started by a store to
FUSECTL.CMD): the loose and the tight reading of the masked bits, as many as the command burns. -/
opaque Config.freeBurn : Nat → Nat × Nat

/-- Does a NAND profile say that its cells are QLC (R243: the profile's layout is not given). -/
opaque Config.profileQlc : List Byte → Bool

/-- What the reference check of the measurement block finds when it starts (R334: when and against what is not given). -/
opaque Config.referenceFails : Nat → Bool

/-- T_J in units of 0.25 °C, signed, as the Levee measures it at an instant (R401). -/
opaque Config.temperature : Nat → BitVec 16
/-- REFCLK in kHz as the Levee measures it at an instant (R401). -/
opaque Config.refclkKhz : Nat → BitVec 16

/-- The ECDSA P-384 key of the Fjararis test root that Sill carries, a SEC 1 point (R384: its value is not given). -/
opaque Config.testRootKey : List Byte

/-- Sill's release number, `sill_version` (R486: no value is given). -/
opaque Config.sillVersion : Nat

/-- n of STR(n) and OCT(n) as their type objects report it (R479: n is each object's own). -/
opaque Config.typeSize : Nat → Nat

/-- The subject of the Alias certificate, a Name in DER (R383 gives its issuer, not its subject). -/
opaque Config.aliasSubject : List Byte

/-- The chain that Sill carries for SERVICE, test root to test DeviceID, its certificates one after the other (R381: its bytes are not
given). -/
opaque Config.testChain : List Byte

end Sys2Proof
end

