-- ==== Sys2Proof/Machine/State.lean ====
section
/-!
DEFINITION. The state of the GV4896: every register, queue, buffer, counter, mode and pin that the spec gives the device, as
plain data, and the queue of waiting commands. Each field's comment gives its meaning; the chapter and rule; its reset value.
-/
namespace Sys2Proof.Machine

/-- Device mode, stewardship and the other facts of chapter 02 that no other block holds. -/
structure Device where
  /-- The device mode, `dev_mode`; 02 R33; reset COLD (R34 cause 0). -/
  mode : DevMode
  /-- The cause of the last mode change, `mode_cause`; 02 R34; reset 0. -/
  cause : Nat
  /-- The form of QUARANTINE, `quarantine_form`; 02 R39, R58; reset none. -/
  form : QuarForm
  /-- The last accepted lifecycle request, `lifecycle_request`; 02 R58; reset 0. -/
  lifecycleReq : Nat
  /-- The last digest of the Channel Table and rules that the steward posted; 01 R20; reset none: nothing is posted yet. -/
  chtPosted : Option Digest
  /-- The shadow withholds release verdicts since its last digest check differed; 01 R20; reset false. -/
  chtMismatch : Bool
  /-- A freeze of R229 is in force and since when ACFAIL_N has been deasserted with PWROK asserted; 08 R229; reset none. -/
  freezeClear : Option Nat
  /-- The freeze of R229 is in force; 08 R229, 11 R334; reset false. -/
  freeze : Bool
  /-- A DORMANT assertion sequence is under way; 02 R39, 11 R316 cause 1; reset false. -/
  dormantSeq : Bool
  deriving DecidableEq, Repr

/-- The Headgate (chapter 11) with the stewardship record (chapter 02), all in AON. -/
structure Headgate where
  /-- HEADGATE.CTL[0] plan_run; 11 R333; reset 0. -/
  planRun : Bool
  /-- HG_PUEN high; 11 R308, R333 STATUS[2]; reset 0. -/
  puen : Bool
  /-- When HG_PUEN was driven high; 11 R309; reset 0 (meaningless while low). -/
  puenAt : Nat
  /-- HG_PUEN high for PUEN_SETTLE; 11 R309, R333 STATUS[3]; reset 0. -/
  puenSettled : Bool
  /-- The load-sensing sequence runs; 11 R310, R333 STATUS[1]; reset 0. -/
  loadSensing : Bool
  /-- Classes valid since entry to HOLD; 11 R311, R333 STATUS[0]; reset 0. -/
  loadSensed : Bool
  /-- HEADGATE.PUEN_SETTLE[7:0], ms; 11 R333; reset 2. -/
  puenSettleMs : BitVec 8
  /-- OUT_LO, OUT_HI: bit h set, output h released; 11 R333; reset 0. -/
  out : DWord
  /-- When each output was last released; 11 R315, R316; reset 0. -/
  relAt : Vector Nat 64
  /-- When each output was last asserted; 11 R319; reset 0. -/
  assertAt : Vector Nat 64
  /-- When HOLD was last entered, from which delays without a predecessor run; 11 R313 delay_ms; reset 0. -/
  holdAt : Nat
  /-- The filtered levels of the sense inputs, before inversion; 11 R312; reset 0. -/
  senseLevel : Word
  /-- HEADGATE.SENSE_INVERT; 11 R333; reset 0. -/
  senseInvert : Word
  /-- HEADGATE.SENSE_FILTER[7:0], µs; 11 R333; reset 0x0A. -/
  senseFilter : BitVec 8
  /-- When each input's reading last changed, from which settle_ms runs; 11 R316 cause 10; reset 0. -/
  senseSince : Vector Nat 32
  /-- HOLD_IND, HOLD_AMB: each half's hold bits; 11 R317, R333; reset 0. -/
  holds : Both DWord
  /-- GRANT_IND, GRANT_AMB: each half's grant bits; 11 R578, R333; reset 0. -/
  grants : Both DWord
  /-- Latched sense-loss holds; 11 R318; reset 0. -/
  senseLoss : DWord
  /-- Outputs whose sense timeout of R316 has been raised for their present wait; 11 R316; reset 0. -/
  timedOut : DWord
  /-- The load classes; 11 R311, R333; reset 0 (not sensed). -/
  loadClass : Vector LoadClass 64
  /-- HEADGATE.STEWARD: none, Indigo or Amber; 02 R53, 11 R333; reset none (3). -/
  steward : Option Half
  /-- HEADGATE.STEWARD_EPOCH; 02 R53-R56; reset 0. -/
  epoch : Word
  /-- CLAIM_IND, CLAIM_AMB; 02 R53, 11 R333; reset 0. -/
  claims : Both Claim
  /-- CLAIM_EPOCH_IND, CLAIM_EPOCH_AMB; 11 R333; reset 0. -/
  claimEpochs : Both Word
  /-- The instants of the disagreements of the last 10 s, newest first; 02 R57; reset empty. -/
  disagree : List Nat
  /-- HEADGATE.CONFIRM_CFG[15:0], s; 11 R333; reset 0x78. -/
  confirmCfg : Word16
  /-- The confirm timer's end while it is armed; 08 R237, 11 R333; reset none. -/
  confirm : Option Nat
  /-- PLAN_GEN_IND, PLAN_GEN_AMB; 11 R315, R333; reset 0. -/
  planGen : Both Word16
  /-- PLAN_ACTIVE_GEN; 11 R333; reset 0. -/
  planActiveGen : Word16
  /-- PLAN_STAGE_GEN; 11 R333; reset 0. -/
  planStageGen : Word16
  /-- PLAN_STAGE; 11 R313, R333; reset 0. -/
  planStage : Vector PlanEntry 64
  /-- PLAN_ACTIVE; 11 R313, R333; reset 0. -/
  planActive : Vector PlanEntry 64
  /-- A staged plan waits for activation: when it was staged and the plan that PLAN_STAGE held before; 11 R315; reset none. -/
  staging : Option (Nat × Vector PlanEntry 64)
  /-- VROOT_IND, VROOT_AMB; 11 R320, R333; reset 0. -/
  vroot : Both Digest
  /-- VPOST_STATUS_IND, VPOST_STATUS_AMB; 11 R320, R333; reset 0. -/
  vpostStatus : Both Word
  /-- Until when each half's last post is being stored, at most 1 µs; 11 R320; reset 0. -/
  vpostBusy : Both Nat
  /-- Each half's posted verdicts; 11 R320, 02 R43; reset none. -/
  verdicts : Both (Vector (Option Verdict) 64)
  /-- A re-verification of the channel after a verdict conflict is under way; 02 R46; reset false. -/
  reverify : Vector Bool 64
  /-- A warm restart is under way, STATUS[4]; 02 R37, 11 R333; reset 0. -/
  warm : Bool
  deriving DecidableEq, Repr

/-- The EVENTS block (chapter 19). -/
structure Events where
  /-- EVENTS.CTL[0], delivery enabled; 19 R550; reset 0. -/
  enabled : Bool
  /-- The 1,536 pending bits; 19 R531; reset 0. -/
  pending : BitVec 1536
  /-- The 1,536 mask bits; 19 R531; reset all 1. -/
  mask : BitVec 1536
  /-- EVENTS.CFG0-1535; 19 R532, R550; reset 0x20 each (priority 0, group 2, core 0). -/
  cfg : Vector EventCfg 1536
  deriving DecidableEq, Repr

/-- The PWRCLK block (chapter 19): power domains, watchdogs, timers, wake, clock monitors. -/
structure PwrClk where
  /-- DOM_ON: bit d, domain d on (bit 0 unused); 19 R538, R551; reset AON alone, the other domains follow R539. -/
  domOn : BitVec 39
  /-- The request queue of 8; 19 R541; reset empty. -/
  queue : List DomReq
  /-- DOM_REQ_STATUS.code; 19 R551; reset 0. -/
  reqCode : Code
  /-- DOM_REQ_STATUS.domain; 19 R551; reset 0. -/
  reqDom : Fin 39
  /-- `domain_refusals`, saturating; 19 R549; reset 0. -/
  refusals : Nat
  /-- The root PLL is locked and not off for DORMANT; 19 R539, R544; reset false. -/
  rootLock : Bool
  /-- WAKE_CFG[31] wake pin enabled; 19 R551; reset 1. -/
  wakePin : Bool
  /-- WAKE_CFG[30] timer enabled; 19 R551; reset 0. -/
  wakeTimerOn : Bool
  /-- WAKE_SENSE; 19 R551; reset 0. -/
  wakeSense : Word
  /-- WAKE_TIMER[23:0], s; 19 R551; reset 0. -/
  wakeTimer : BitVec 24
  /-- The wake timer's end, set at DORMANT entry; 19 R545; reset none. -/
  wakeAt : Option Nat
  /-- WAKE_CAUSE; 19 R545, R551; reset 0. -/
  wakeCause : Nat
  /-- The value of TIME_HI latched by the last read of TIME_LO; 19 R547; reset 0. -/
  timeHi : Word
  /-- CLK_STATUS[5:0]; 19 R548, R551; reset 0. -/
  clkStatus : BitVec 6
  /-- WDOG_CFG, period and armed bit of the four watchdogs; 19 R537, R551; reset period 100 ms, disarmed. -/
  wdogs : Vector Wdog 4
  /-- The eight general timers; 19 R536, R551; reset 0. -/
  timers : Vector GenTimer 8
  deriving DecidableEq, Repr

/-- The measurement block MEASURE (chapter 11). -/
structure Measure where
  /-- MEASURE.CTL[0] run; 11 R334; reset 0. -/
  run : Bool
  /-- MEASURE.CTL[1] bus_freeze; 11 R326, R334; reset 0. -/
  busFreeze : Bool
  /-- MEASURE.CTL[2] bus1_current; 11 R334; reset 0. -/
  bus1Current : Bool
  /-- MEASURE.CTL[3] hu_enable; 11 R327, R334; reset 0. -/
  huEnable : Bool
  /-- STATUS[0] running: each measurement core keeps pace; 11 R323, R334; reset 0. -/
  pace : Vector Bool 2
  /-- STATUS[1] cal_fail; 11 R334, R359; reset 0. -/
  calFail : Bool
  /-- STATUS[6] PWROK asserted; 11 R334; reset 0. -/
  pwrok : Bool
  /-- STATUS[5] ACFAIL_N asserted; 11 R334; reset 0. -/
  acfail : Bool
  /-- A low trip of MEAS_BUS0 taken as ACFAIL_N is in force; 11 R326; reset false. -/
  busTrip : Bool
  /-- BUS_WIN0, BUS_WIN1; 11 R334; reset 0x3FFF_0000. -/
  busWin : Vector Word 2
  /-- BUS_WIN_FILT; 11 R334; reset 4. -/
  busWinFilt : BitVec 8
  /-- BUS_ZOOM; 11 R334; reset 0. -/
  busZoom : Word
  /-- HU_LOAD high: a test step is under way, and when it began; 11 R327; reset none. -/
  huStep : Option Nat
  /-- The last 8 accepted capacitances in µF, newest first; 11 R328; reset empty. -/
  caps : List Nat
  /-- HU_CAP, the capacitance in use, µF; 11 R328, R334; reset 0. -/
  cap : Word
  /-- When the last step was accepted; 11 R329; reset 0. -/
  lastStep : Nat
  /-- HOLDUP[31] valid; 11 R329, R334; reset 0. -/
  valid : Bool
  /-- HOLDUP[30] stale; 11 R329, R334; reset 0. -/
  stale : Bool
  /-- HOLDUP[15:0], usable hold-up, ms; 11 R329, R334; reset 0. -/
  holdupMs : Word16
  /-- The bus power of the computations of the last second, mW, with their instants; 11 R329; reset none. -/
  powers : List (Nat × Nat)
  /-- A valid estimate stands below 7.5 ms; 11 R329; reset false. -/
  low : Bool
  /-- BUS_PEAK_W[15:0]; 11 R334; reset 0. -/
  peakW : Word16
  /-- RAIL_MV0-15; 11 R334; reset 0. -/
  railMv : Vector Word16 16
  /-- BUS_MV0, BUS_MV1; 11 R334; reset 0. -/
  busMv : Vector Word 2
  /-- RAIL_CFG0-15; 11 R334; reset 0. -/
  railCfg : Vector Word 16
  /-- BUS_CFG0, BUS_CFG1; 11 R334; reset 0. -/
  busCfg : Vector Word 2
  /-- When a disturbance last ended on MEAS_BUS0; 11 R327; reset 0. -/
  busQuiet : Nat
  /-- The four polled PSUs; 11 R330; reset nothing read. -/
  psus : Vector Psu 4
  deriving DecidableEq, Repr

/-- The device log ring and the measurement log (chapter 17). -/
structure LogState where
  /-- The records of the device log ring, oldest first; 17 R489; reset empty. -/
  ring : List LogRec
  /-- The records of the measurement log, oldest first; 17 R489, 13 R389; reset empty. -/
  meas : List LogRec
  /-- The measurement values as last recorded, by index; 13 R389; model's bookkeeping; reset none. -/
  noted : List (Nat × List Byte)
  /-- `log_next_seq`; 17 R489; reset 0. -/
  nextSeq : Nat
  /-- R576's bookkeeping per limited source; 17 R576; reset empty. -/
  throttles : List Throttle
  deriving DecidableEq, Repr

/-- What the device holds of one channel: its state, its cached descriptor and rules (chapter 04), its personality
(chapter 03), the program or erase in flight (chapter 06), fill, scrub and repair (chapter 05). -/
structure Chan where
  /-- The channel state, an entry of MIRCTL.STATE_VEC; 04 R91, 02 R40; reset ABSENT. -/
  state : ChanState
  /-- The descriptor in force in the port; 04 R95, R97; reset none cached: disabled. -/
  desc : Desc
  /-- The rules cached, in table order; 04 R95; reset empty. -/
  rules : List Rule
  /-- PORTnn.GEN_CSk, the cached generation; 04 R99, 03 R86; reset 0. -/
  gen : Nat
  /-- The staged reload, PORTnn.STATUS.reload_pending while present; 04 R99; reset none. -/
  staged : Option Staged
  /-- The pin list cached with the descriptor: leaf and slot; 05 R144; reset empty. -/
  pins : List (Nat × Nat)
  /-- The leaves of the pin list built at the last close of the native window, for the channel's next fill; 09 R268, 05 R143; model's
  bookkeeping; reset empty. -/
  pinNext : List Nat
  /-- The listed leaves whose slot has been loaded since the last fill; 05 R144; reset empty. -/
  pinsLoaded : List Nat
  /-- PORTnn.ID_CSk; 03 R63, R86; reset no byte. -/
  idBytes : List Byte
  /-- PORTnn.RAW_SFDP_CSk; 03 R63, R86; reset 0. -/
  rawSfdp : List Byte
  /-- What the SFDP used in probing states; 03 R64; reset none captured. -/
  info : Option SfdpInfo
  /-- The status and configuration bytes captured in probing, by opcode; 03 R63 step 5; reset none. -/
  regs : List Byte
  /-- Register bytes that the host's writes have changed since the last personality reset, by opcode; 03 R77; reset none. -/
  emuRegs : List (Byte × Byte)
  /-- A continuous read is on: the next command has no opcode; 03 R77; reset false. -/
  contRead : Bool
  /-- PORTnn.PERS_SFDP_CSk; 03 R69, R86; reset 0. -/
  persSfdp : List Byte
  /-- PORTnn.CAL_CSk; 03 R66, R86; reset 0. -/
  cal : CalInfo
  /-- PORTnn.TRIM_CSk; 03 R66, R86; reset 0. -/
  trim : Word
  /-- PORTnn.FMODE_CSk.mode; 03 R65, R86; reset 1-1-1. -/
  mode : FlashMode
  /-- PORTnn.FMODE_CSk.sck; 03 R65, R86; reset 25 MHz. -/
  clk : FlashClk
  /-- The probe under way; 03 R63; reset none. -/
  probe : Option Probe
  /-- The wait field the host has written since the last personality reset; 03 R73, R79; reset none. -/
  waitField : Option Nat
  /-- EMU_CSk.native_window; 03 R73, R86; reset 0. -/
  native : Bool
  /-- EMU_CSk.dpd; 03 R77, R86; reset 0. -/
  dpd : Bool
  /-- EMU_CSk.addr4; 03 R77, R86; reset 0. -/
  addr4 : Bool
  /-- EMU_CSk.wel; 03 R77, R86; reset 0. -/
  wel : Bool
  /-- EMU_CSk.wip; 06 R153, 03 R86; reset 0. -/
  wip : Bool
  /-- EMU_CSk.protocol; 03 R79, R86; reset 1S. -/
  protocol : Protocol
  /-- The emulated quad-enable bit; 03 R77; reset 0. -/
  quadEnable : Bool
  /-- The emulated program-error bit; 06 R163; reset 0. -/
  progErr : Bool
  /-- The emulated erase-error bit; 06 R163; reset 0. -/
  eraseErr : Bool
  /-- The emulated suspend bit, EMU_CSk.suspended; 06 R166, 03 R86; reset 0. -/
  suspended : Bool
  /-- 66h was the last command, so 99h resets; 03 R79; reset false. -/
  resetArmed : Bool
  /-- SCK_RANGE has been raised since the last personality reset; 03 R85; reset false. -/
  sckRaised : Bool
  /-- The leaves read in the open native window, in order of first read, at most 512; 05 R142; reset empty. -/
  trace : List Nat
  /-- The PIN_MISS leaves of this window; 05 R142; reset empty. -/
  missTrace : List Nat
  /-- The program or erase in flight; 06 R156; reset none. -/
  op : Option WeirOp
  /-- The program issued inside an erase suspend; 06 R167; reset none. -/
  inner : Option WeirOp
  /-- The commands that the port has issued to the real part for the operation under way, oldest first; 06 R156, R159, R166; model's
  output; reset none. -/
  issued : List FlashCmd
  /-- Leaves that a JOURNALED command has touched and that wait for their digest; 06 R170; reset empty. -/
  touched : List Nat
  /-- The chip select is polled once per ms after a give-up, nothing else is issued to it; 06 R159; reset false. -/
  gaveUp : Bool
  /-- The leaves under a mirror fault that wait for a refill; 05 R130; reset empty. -/
  faulted : List Nat
  /-- The leaves whose refill failed; 05 R130; reset empty. -/
  lost : List Nat
  /-- For a faulted leaf, how many of its refill's sources have failed: 1 the flash, 2 the Cistern too; 05 R130; reset none. -/
  tried : List (Nat × Nat)
  /-- A fault in the channel's digest-area slot stands; 05 R133; reset false. -/
  digestFault : Bool
  /-- The next leaf of the fill under way; 05 R121; reset none. -/
  fillNext : Option Nat
  /-- The leaf digests of the fill under way that each half's own engine has given, by leaf; 05 R122, R123; reset none. -/
  fillDig : Both (List (Nat × Digest))
  /-- The digests of the leaves that a re-verification of a served channel has read from flash again, by leaf; 02 R46; reset none. -/
  rereads : List (Nat × Digest)
  /-- MIRCTL.FILL_LEAF: leaves filled or scrubbed in the current pass; 05 R146; reset 0. -/
  fillCount : Nat
  /-- The scrub pass under way; 05 R135; reset none. -/
  scrub : Option Scrub
  /-- The repair under way; 05 R138; reset none. -/
  repair : Option Repair
  /-- The other erase units that differ from the verified tree and wait for their repair; 05 R124; reset empty. -/
  badUnits : List Nat
  /-- Recovery has found no source for the channel, and when NO_SOURCE is next logged; 02 R41; reset none. -/
  noSourceAt : Option Nat
  /-- JOURNALED commands since the last MUTABLE record; 06 R172; reset 0. -/
  mutCount : Nat
  /-- How many of them failed; 06 R172; reset 0. -/
  mutFails : Nat
  /-- When the first of them completed; 06 R172; reset 0. -/
  mutFirst : Nat
  /-- When the last of them completed; 06 R172; reset 0. -/
  mutLast : Nat
  /-- The root each half last verified for the channel; 02 R44; reset none. -/
  verified : Both (Option Digest)
  /-- The channel statistics; 17 R488, 06 R174; reset 0. -/
  stats : ChanStats
  deriving DecidableEq, Repr

/-- What the device holds of one sluice port (chapter 03). -/
structure Port where
  /-- CTL.hold_limit_us; 03 R86; reset 64. -/
  holdLimit : BitVec 8
  /-- CTL.strobe_extend; 03 R86; reset 1. -/
  strobeExtend : Bool
  /-- HSCK_PERIOD[15:0], 10 ps units; 03 R85, R86; reset 0. -/
  hsck : Word16
  /-- PARTIAL_CNT, saturating; 03 R80, R86; reset 0. -/
  partialCnt : Nat
  /-- UNDERRUN_CNT, saturating; 03 R72, R86; reset 0. -/
  underrunCnt : Nat
  /-- EXTEND_CNT, saturating; 03 R72, R86; reset 0. -/
  extendCnt : Nat
  /-- UNK_CNT, saturating; 03 R78, R86; reset 0. -/
  unkCnt : Nat
  /-- STATUS.band; 03 R70, R86; reset 0. -/
  band : BitVec 2
  /-- STATUS[7:1], the sticky flags; 03 R86; reset 0. -/
  sticky : BitVec 8
  /-- The host-side supply as sensed, STATUS.host_io_3v3; 03 R61; reset off. -/
  hostIo : IoSupply
  /-- The flash-side supply as sensed, STATUS.flash_io_3v3; 03 R61; reset off. -/
  flashIo : IoSupply
  /-- SPnn_HRESET_N has been held 1 µs and commands are ignored until its release; 03 R79; reset false. -/
  hreset : Bool
  /-- The two prefetch buffers; 03 R75; reset empty. -/
  buffers : Vector (Option Prefetch) 2
  /-- The leaf whose prefetch is due; 03 R75; reset none. -/
  fetchDue : Option Prefetch
  /-- The read that waits for data; 03 R72, 05 R131; reset none. -/
  held : Option HeldRead
  /-- The bytes driven on the host-side DQ lanes by the last command; model's output, 03 R72, R82; reset none. -/
  dq : List Byte
  deriving DecidableEq, Repr

/-- The mirror controller MIRCTL (chapters 04 and 05). -/
structure Mirror where
  /-- MIRCTL.CTL[2] scrub_run; 05 R146; reset 0. -/
  scrubRun : Bool
  /-- MIRCTL.CTL[1] keys_valid; 05 R146; reset 0. -/
  keysValid : Bool
  /-- The training under way, and how often each DRAM channel has failed it; 05 R110; reset none. -/
  training : Option (Nat × Nat)
  /-- STATUS.ready; 05 R146; reset 0. -/
  ready : Bool
  /-- STATUS.train_fail; 05 R110, R146; reset 0. -/
  trainFail : Bool
  /-- STATUS.chan_ok; 05 R110, R146; reset 0. -/
  chanOk : BitVec 2
  /-- The DRAM fitted, GiB in all: 8, 16 or 32; 05 R109; the board's, 16 here. -/
  fittedGib : Nat
  /-- MIRCTL.APERTURE[4:0]; 05 R114, R146; reset 0. -/
  aperture : BitVec 5
  /-- MIRCTL.KEY_PROT; 05 R119, R146; reset 0. -/
  keyProt : Word
  /-- MIRCTL.KEY_STAGE; 05 R119, R146; reset 0. -/
  keyStage : Word
  /-- MIRCTL.KEY_NEXT; 05 R120, R146; reset 0. -/
  keyNext : Word
  /-- MIRCTL.RESEAL: the pointer of an active pass; 05 R120, R146; reset none. -/
  reseal : Option Nat
  /-- MIRCTL.CHAN_CMD_STATUS: code and channel; 05 R146; reset 0. -/
  cmdStatus : Code × ChanId
  /-- MIRCTL.PIN_LOAD_HI[0]; 05 R146; reset 0. -/
  pinHi : Bool
  /-- The pin copy under way: channel, leaf, slot; 05 R144; reset none. -/
  pinLoad : Option (ChanId × Nat × Nat)
  /-- MIRCTL.FAULT_INFO: kind, channel, leaf; 05 R146; reset 0. -/
  faultInfo : Word
  /-- MIRCTL.FAULT_CNT, saturating; 05 R146; reset 0. -/
  faultCnt : Nat
  /-- MIRCTL.FAULT_LIMIT[7:0]; 05 R134, R146; reset 0x10. -/
  faultLimit : BitVec 8
  /-- Mirror faults in the running second of R134; 05 R134; reset 0. -/
  faultSec : Nat
  /-- MIRCTL.SCRUB_CFG.default_hours; 05 R135, R146; reset 0x18. -/
  scrubHours : Word16
  /-- MIRCTL.SCRUB_STATUS: channel last scrubbed; 05 R146; reset 0. -/
  scrubChan : ChanId
  /-- MIRCTL.SCRUB_STATUS: passes late since power-on; 05 R146; reset 0. -/
  scrubLate : Nat
  /-- MIRCTL.CHT_BASE; 04 R89, R108; reset 0x1100_0000. -/
  chtBase : Word
  /-- The queue of 8 invalidates; 04 R98; reset empty. -/
  invals : List Inval
  /-- CHT_INVAL_STATUS.code; 04 R108; reset OK. -/
  invalCode : Code
  /-- CHT_INVAL_STATUS.cause; 04 R108; reset 0. -/
  invalCause : BitVec 3
  /-- CHT_INVAL_STATUS.channel; 04 R108; reset 0. -/
  invalChan : ChanId
  /-- CHT_INVAL_STATUS.err_sticky; 04 R108; reset 0. -/
  invalErr : Bool
  /-- Page versions of the protected space that are not 0, ascending by page; 05 R117; reset all 0. -/
  versions : List (Nat × Nat)
  /-- What the sectors of each protected page that has been written since training are sealed under, ascending by page; 05 R115, R117;
  reset none. -/
  seals : List (Nat × Seal)
  /-- The write counter under which each staging sector written since training is sealed, ascending by sector; 05 R115; reset none. -/
  stageSeals : List (Nat × Nat)
  /-- Digest-area entries whose write waits for the re-seal pass, oldest first; 05 R120; reset none. -/
  heldDigests : List (ChanId × Nat × Digest)
  /-- The 56-bit staging write counter; 05 R115; reset 0. -/
  writeCounter : Nat
  deriving DecidableEq, Repr

/-- A hash engine (chapters 05 and 07). -/
structure Engine where
  /-- ENG_STATUSe.jobs, saturating; 05 R147; reset 0. -/
  jobs : Nat
  /-- The job running, ENG_STATUSe.busy, class and alg; 05 R147; reset none. -/
  job : Option HashJob
  /-- ENG_STATUSe.fill: the port whose fill it hashes; 05 R147, R121; reset none. -/
  fill : Option PortId
  /-- ENG_STATUSe.fenced; 05 R147, 07 R200; reset 0. -/
  fenced : Bool
  /-- The credit in bytes of R198; 07 R198; reset 1,920,000. -/
  credit : Int
  /-- The job's start, for its latency; 07 R199; reset 0. -/
  startAt : Nat
  /-- The latencies of the present window, per reference leaf, in ns; 07 R199; reset empty. -/
  window : List Nat
  /-- Consecutive windows in which the engine was slow; 07 R200; reset 0. -/
  slow : Nat
  /-- When the next retry of a fenced engine is due; 07 R201; reset none. -/
  retryAt : Option Nat
  /-- The known-answer job of a retry runs; 07 R201; reset false. -/
  kat : Bool
  /-- Failed retries; 07 R201; reset 0. -/
  fails : Nat
  /-- The engine is retired until power-on reset; 07 R201; reset false. -/
  retired : Bool
  deriving DecidableEq, Repr

/-- The block HASHGRP (chapter 05 R147, scheduling in chapter 07). -/
structure HashGrp where
  /-- HASHGRP.CTL[0]; 05 R147; reset 0. -/
  enable : Bool
  /-- The 16 engines, 0-7 Indigo's and 8-15 Amber's; 01 R21; reset idle. -/
  engines : Vector Engine 16
  /-- The job queue of each half, at most 64; 05 R147; reset empty. -/
  queue : Both (List HashJob)
  /-- Completions waiting for QPOP: tag and code; 05 R147; reset empty. -/
  done : Both (List (Nat × Code))
  /-- A push was lost to a full queue, reported by the next pop; 05 R147; reset false. -/
  lostPush : Both Bool
  /-- What the last read of QPOP returned; 05 R147; model's output; reset 0. -/
  popped : Both Word
  /-- FILL_MAP_IND, FILL_MAP_AMB: engine 0-7 of the half for each port; 05 R147; reset 0. -/
  fillMap : Both (Vector (Fin 8) 32)
  /-- MEDIAN_IND, MEDIAN_AMB, ns; 05 R147, 07 R200; reset 0. -/
  median : Both Nat
  deriving DecidableEq, Repr

/-- Updates, the journal, the energy gate and recovery (chapter 08), with the verifications of chapter 07. -/
structure Update where
  /-- The verifications each half runs; 07 R196; reset none. -/
  vers : Both (List Verification)
  /-- The 64 channels, mission and extension firmware; 08 R213, R240; reset idle. -/
  targets : Vector TargetUpd 66
  /-- The active commit bank; 08 R220, R223; reset 0 (the factory's). -/
  bank : Fin 2
  /-- `journal_epoch`, the active bank's epoch; 08 R240; reset 0 (the factory's). -/
  bankEpoch : Nat
  /-- The records of the active bank, in order; 08 R221; not touched by reset: eFlash. -/
  journal : List JRec
  /-- The next journal sequence number; 08 R221; not touched by reset: eFlash. -/
  nextSeq : Nat
  /-- The trace area's slots of earlier boots, newest first, at most three: per channel the leaves in order of first read; 08
  R224, 05 R142; not touched by reset: eFlash. -/
  traces : List (List (ChanId × List Nat))
  /-- The boot seq of this boot's slot; 08 R224; not touched by reset: eFlash. -/
  traceBoot : Nat
  /-- Commit-critical steps that wait for the gate, with their targets; 08 R228; reset none. -/
  waiting : List GateStep
  /-- Targets whose on-request floor advance has not reached its value (07 R193: the next start-up completes it); model's own; not touched by
  reset: eFlash. -/
  floorDue : List Target
  /-- `gate_waits`; 08 R240; reset 0. -/
  gateWaits : Nat
  /-- The PLDM firmware device's state; 08 R207; reset idle. -/
  pldm : PldmState
  /-- MaximumTransferSize noted at RequestUpdate; 08 R207, R208; reset 32. -/
  pldmMax : Nat
  /-- The component whose data is being transferred; 08 R207; reset none. -/
  pldmComp : Option Target
  /-- Components applied and not yet activated; 08 R207; reset none. -/
  pldmApplied : List Target
  /-- The outstanding RequestFirmwareData: offset and length, when it falls due, and its repeats; 08 R208; reset none. -/
  pldmReq : Option (Nat × Nat × Nat × Nat)
  /-- The last PLDM response; model's output; reset none. -/
  pldmOut : Option PldmReply
  /-- The last TransferComplete, VerifyComplete or ApplyComplete that the device sent, as its command code and its result; 08 R207,
  R209; reset none. -/
  pldmSent : Option (Nat × Nat)
  /-- The outstanding pin trace of this boot per channel; 05 R142; reset none. -/
  bootTraces : List (ChanId × List Nat)
  deriving DecidableEq, Repr

/-- The Cistern controller and the Allotter (chapter 09). -/
structure Cistern where
  /-- `cistern_state`: 0 off, 1 initialising, 2 online, 3 read-only, 4 offline; 09 R269; reset 0. -/
  state : Nat
  /-- CTL[3] patrol, CTL[2] pslc, CTL[1] key_valid; 09 R270; reset 0. -/
  patrolOn : Bool
  pslc : Bool
  keyValid : Bool
  /-- CISTERN.KEY; 09 R270; reset 0. -/
  key : Word
  /-- STATUS.ready; 09 R270; reset 0. -/
  ready : Bool
  /-- STATUS.train_fail; 09 R270; reset 0. -/
  trainFail : Bool
  /-- The erase sequence, 40 bits, kept in eFlash; 09 R245, R270; not touched by reset. -/
  eraseSeq : Nat
  /-- ECC_MAX; 09 R270; reset 0; a read clears it. -/
  eccMax : BitVec 8
  /-- ECC_UNCORR, saturating; 09 R270; reset 0. -/
  eccUncorr : Nat
  /-- TAG_FAIL, saturating; 09 R270; reset 0. -/
  tagFails : Nat
  /-- The eight targets; 09 R270; reset absent. -/
  targets : Vector NandTarget 8
  /-- The command queue, at most 64; 09 R270; reset empty. -/
  queue : List CisCmd
  /-- Completions waiting for QPOP; 09 R270; reset empty. -/
  done : List (Nat × Code)
  /-- A push was lost; 09 R270; reset false. -/
  lostPush : Bool
  /-- What the last read of QPOP or ECC_MAX returned; model's output; reset 0. -/
  popped : Word
  /-- Pages per block and blocks per target of the fitted part; 09 R242, R246; the board's. -/
  pagesPerBlock : Nat
  blocksPerTarget : Nat
  /-- The NAND's pages, by target × 2^32 + row: the sealed data in plaintext and the block's erase sequence; 09 R245; NAND, not
  touched by reset. -/
  pages : List (Nat × (List Byte × Nat))
  /-- The erase sequence that each block took at its own last erase, by target × 2^32 + block; 09 R245; NAND. -/
  blockSeqs : List (Nat × Nat)
  /-- The factory bad-block marks have been read; 09 R246; NAND. -/
  marksRead : Bool
  /-- The lifecycle under which the pages and the catalogue are sealed; 09 R245, 02 R50; NAND, RAW here. -/
  sealedUnder : Lifecycle
  /-- Retired blocks by target × 2^32 + block; 09 R246; NAND. -/
  badBlocks : List Nat
  /-- The catalogue in force; 09 R249; NAND, not touched by reset. -/
  catalogue : List CatEntry
  /-- Copies A and B of the catalogue and the bad-block table as last read back; 09 R244, R249; NAND. -/
  copyA : CatCopy
  copyB : CatCopy
  /-- Changes of the catalogue that wait for their commit, in order; 09 R249; reset none. -/
  commits : List CatChange
  /-- The commit of the first of them is under way; 09 R249; reset false. -/
  committing : Bool
  /-- The next catalogue handle; 09 R249; NAND. -/
  nextHandle : Nat
  /-- The golden sets of each target, newest first; 09 R251-R258; NAND. -/
  sets : Vector (List GoldenSet) 66
  /-- Golden writes that wait for the Cistern or a commit; 09 R577; reset none. -/
  pendingWrites : List (Target × List Byte)
  /-- The members of the segment as the Allotter times them; 09 R260; reset not timed. -/
  peers : Vector PeerStat 32
  /-- Orphan sets; 09 R264; NAND. -/
  orphans : List OrphanSet
  /-- `rebuild_state` and `rebuild_left`; 09 R269; reset 0. -/
  rebuild : Nat
  rebuildLeft : Nat
  /-- When the patrol period began; 09 R247; reset 0. -/
  patrolAt : Nat
  deriving DecidableEq, Repr

/-- The PAKOR block and what the steward keeps of the cascade (chapter 10). -/
structure Pakor where
  /-- CTL[2:0]: beacon_run, enable_b, enable_a; 10 R304; reset 0. -/
  beaconRun : Bool
  enableB : Bool
  enableA : Bool
  /-- IDENT: SEG and POS straps as sampled; 10 R287, R304; the board's. -/
  seg : Fin 4
  pos : Fin 8
  /-- STATUS.island; 10 R296, R304; reset 0. -/
  island : Bool
  /-- This device has seen that the cascade has another segment; 10 R296; reset false. -/
  multiSeg : Bool
  /-- STATUS.pos_conflict; 10 R292, R304; reset 0. -/
  posConflict : Bool
  /-- STATUS.beacon_stale; 10 R289, R304; reset 0. -/
  stale : Bool
  /-- This device is segment master, cascade master; 10 R293, R295; reset 0. -/
  isSeg : Bool
  isCas : Bool
  /-- BEACON_FLAGS[7:0]; 10 R304; reset 0. -/
  flags : Byte
  /-- BEACON_MEMBERS; 10 R304; reset 0. -/
  members : Word
  /-- SEG_EPOCH; 10 R304; reset 0. -/
  segEpoch : Nat
  /-- CAS_EPOCH; 10 R304; reset 0. -/
  casEpoch : Nat
  /-- MASTERS: segment and cascade master, 0xFF none; 10 R304; reset 0xFF. -/
  segMaster : Nat
  casMaster : Nat
  /-- When the beacon registers were last refreshed; 10 R289; reset 0. -/
  refreshAt : Nat
  /-- The message sequence of broadcasts; 10 R283; reset 0. -/
  seq : Nat
  /-- Since when this device has been a healthy member without a break; 10 R293; reset none. -/
  healthySince : Option Nat
  /-- The four links; 10 R276, R304; reset down. -/
  links : Vector Link 4
  /-- The members by cascade device number; 10 R290; reset absent. -/
  seen : Vector Member 32
  /-- Transfers this device sends and receives, at most 8 each; 10 R297; reset none. -/
  outgoing : List Transfer
  incoming : List Transfer
  /-- The send queue, at most 64; 10 R304; reset empty. -/
  queue : List SendCmd
  /-- Completions waiting for QPOP; 10 R304; reset empty. -/
  done : List (Nat × Code)
  /-- A push was lost; 10 R304; reset false. -/
  lostPush : Bool
  /-- The SRAM addresses of received messages waiting; 10 R304; reset empty. -/
  rx : List Word
  /-- What the last read of QPOP or RXPOP returned; model's output; reset 0. -/
  popped : Word
  /-- The frames sent by the last command; model's output; reset none. -/
  sent : List FrameOut
  /-- Forwarded requests outstanding, at most 8; 10 R301; reset none. -/
  forwards : List Forwarded
  deriving DecidableEq, Repr

/-- The start-up of Sill (chapter 12). -/
structure Boot where
  /-- Where the start-up stands; 12 R337-R354; reset held: PORST_N is still asserted. -/
  phase : BootPhase
  /-- What kind of start it is; 12 R353; reset power-on. -/
  entry : EntryKind
  /-- When the start-up began, for boot_time_us; 12 R353; reset 0. -/
  startAt : Nat
  /-- The end of the boot timer while it runs; 12 R341; reset none. -/
  timer : Option Nat
  /-- What is left of the boot timer while Sill waits on the energy gate; 12 R341, R348; reset none. -/
  timerLeft : Option Nat
  /-- The AON stop-code record; 12 R344; kept over power-on reset while VDD_AON stays in range; 0 here. -/
  stopCode : Nat
  /-- `boot_stop`, the record as the last start-up found it; 12 R360; reset 0. -/
  lastStop : Nat
  /-- `fuse_alarm`; 12 R360; reset 0. -/
  alarm : Word16
  /-- The unique secret is unusable, so no identity; 12 R343; reset false. -/
  secretBad : Bool
  /-- A region other than those with a response of their own is inconsistent; 12 R343; reset false. -/
  otherBad : Bool
  /-- The candidates not yet judged, first in order; 12 R346; reset none. -/
  candidates : List Candidate
  /-- The candidate under judgement has been judged once with differing codes or roots; 12 R347; reset false. -/
  rejudged : Bool
  /-- Candidates rejected in this start-up; 12 R349; reset none. -/
  rejected : List Candidate
  /-- The accepted candidate and its rebuilt root; 12 R347; reset none. -/
  accepted : Option (Candidate × Digest)
  /-- `boot_slot`, 0xFF none; 12 R360; reset 0xFF. -/
  slot : Nat
  /-- `slot_result`: codes of slots A and B, 0xFF not judged; 12 R360; reset 0 (the object's default), written at the first
  judgement of a start-up. -/
  results : Nat × Nat
  /-- `recover_service`: 0 not in RECOVER, 1 open, 2 closed; 12 R360; reset 0. -/
  service : Nat
  /-- `boot_time_us`; 12 R360; reset 0. -/
  timeUs : Nat
  /-- TRIAL_FAIL is pending for mission firmware; 12 R348, R353; reset false. -/
  trialFailPending : Bool
  /-- The COMMIT booted, 0 none, and whether it is a trial; 12 R353; reset 0. -/
  commitSeq : Nat
  trial : Bool
  /-- svn and root of the mission container booted, the measurements taken; 12 R350, R353; reset 0. -/
  svn : Nat
  sillMeas : Digest
  missionMeas : Digest
  root : Digest
  /-- Extension firmware runs: its container's svn and header digest (measurement 0x03); 13 R389, 08 R239; reset none. -/
  extDigest : Digest
  extRuns : Bool
  /-- The container staged in RECOVER and its source; 12 R357; reset none. -/
  recoverImage : Option (Nat × List Byte)
  /-- The container in `recoverImage` has been accepted and its slot is being written and read back; 12 R358; reset false. -/
  installing : Bool
  /-- Handles of the local golden copies still to try in RECOVER; 12 R357; reset none. -/
  recoverLeft : List Nat
  /-- The steward has requested a warm restart; 08 R235, R238; reset false. -/
  warmAsked : Bool
  /-- A trial COMMIT was excluded for the closed gate: mission firmware requests the warm restart once it opens; 12 R348; reset
  false. -/
  trialWaits : Bool
  deriving DecidableEq, Repr

/-- The key vault (chapter 13). -/
structure KeyVault where
  /-- The 128 slots; 13 R361; reset empty at generation 1. -/
  slots : Vector KvSlot 128
  /-- CTL.lc_override; 13 R382, R400; reset 0. -/
  lcOverride : BitVec 3
  /-- CTL.test_secret; 13 R378, R400; reset 0. -/
  testSecret : Bool
  /-- CTL.root_lock; 13 R351, R400; reset 0. -/
  rootLock : Bool
  /-- The debug-state byte: SERVICE since the test secret was set; 13 R374, R378; reset 0. -/
  debug : Bool
  /-- CMD_STATUS of each view: op and code; 13 R372, R400; reset 0. -/
  cmdStatus : Both (Nat × Code)
  /-- CMD_RESULT of each view; 13 R400; reset 0. -/
  cmdResult : Both Word
  /-- CMD_STATUS.busy of each view; 13 R372; reset 0. -/
  busy : Both Bool
  /-- ORPHAN_CNT, saturating; 13 R400; reset 0. -/
  orphanCnt : Nat
  deriving DecidableEq, Repr

/-- The LEVEE block (chapter 13). -/
structure Levee where
  /-- STATUS[31] tamper latched; 13 R401; reset 0. -/
  latched : Bool
  /-- STATUS[30] selftest busy: its end; 13 R398, R401; reset none. -/
  selftest : Option Nat
  /-- STATUS[13:0] sensors detecting now; 13 R401; reset 0. -/
  now : BitVec 14
  /-- CAUSE[13:0] sensors latched; 13 R401; reset 0. -/
  cause : BitVec 14
  /-- CAUSE[20:16] first sensor; 13 R401; reset 0. -/
  first : Nat
  /-- CAUSE_TIME; 13 R401; reset 0. -/
  causeTime : Nat
  /-- MASK; 13 R397, R401; reset 0. -/
  mask : BitVec 14
  /-- SELFTEST_RESULT; 13 R398, R401; reset 0. -/
  result : BitVec 14
  /-- TEMP, 0.25 °C units, signed; 13 R401; reset 0. -/
  temp : BitVec 16
  /-- REFCLK_KHZ; 13 R401; reset 0. -/
  refclkKhz : Word16
  /-- Tamper responses that Sill has still to count in `tamper_total`; 13 R396; reset 0. -/
  uncounted : Nat
  deriving DecidableEq, Repr

/-- The SPDM responder (chapter 13). -/
structure Spdm where
  /-- The management sessions, at most 4, and those of links whose handshake is under way; 13 R391; reset none. -/
  sessions : List Session
  /-- The number the next session takes; model's bookkeeping; reset 1. -/
  nextId : Nat
  /-- The connections with requesters, by endpoint; 13 R385-R388; reset none. -/
  conns : List SpdmConn
  /-- The responses that wait for the steward's signature, by requester, oldest first; 13 R386; reset none. -/
  waiting : List (Requester × SignWait)
  /-- The identity does not match the certificates: nothing is served; 13 R382; reset false. -/
  mismatch : Bool
  /-- The identity has been compared on first use; 13 R382; reset false. -/
  checked : Bool
  /-- `alias_cert`, once issued; 13 R383; reset empty. -/
  aliasCert : List Byte
  /-- The last response's bytes, empty where none was sent; model's output; reset none. -/
  out : List Byte
  deriving DecidableEq, Repr

/-- The fuses and their controller FUSECTL (chapter 14). -/
structure Fuses where
  /-- The main array W0-W511, as margin pairs; 14 R403; not touched by reset: fuses, blank here. -/
  main : Vector FuseWord 512
  /-- The spare words S0-S127; 14 R403; not touched by reset: fuses, blank here. -/
  spare : Vector FuseWord 128
  /-- The privileged words P0-P63, two cells a bit; 14 R403; not touched by reset: fuses, blank here. -/
  priv : Vector PrivWord 64
  /-- SHADOW_MAIN; 14 R414, R424; reset 0. -/
  shadow : Vector Word 512
  /-- SHADOW_PRIV; 14 R414, R424; reset 0. -/
  shadowPriv : Vector Word 64
  /-- STATUS.boot_loaded; 14 R413, R424; reset 0. -/
  bootLoaded : Bool
  /-- STATUS.all_loaded; 14 R413, R424; reset 0. -/
  allLoaded : Bool
  /-- The redirections in force since the last power-on reset; 14 R408, R421; reset none. -/
  redirects : List Redirect
  /-- The active overrides by main word, the newest first; 14 R422; reset none. -/
  overrides : List (Fin 512 × Word)
  /-- OVR_ADDR[8:0]; 14 R424; reset 0. -/
  ovrAddr : Fin 512
  /-- CMD_DATA; 14 R424; reset 0. -/
  cmdData : Word
  /-- CMD_STATUS but for busy; 14 R424; reset 0. -/
  status : FuseStatus
  /-- Until when the last command runs, CMD_STATUS.busy; 14 R416, R417; reset 0. -/
  busyUntil : Nat
  /-- READ_TIGHT; 14 R424; reset 0. -/
  readTight : Word
  /-- READ_LOOSE; 14 R424; reset 0. -/
  readLoose : Word
  /-- READ_WEAK; 14 R424; reset 0. -/
  readWeak : Word
  /-- REGION_OK; 14 R411, R424; reset 0. -/
  regionOk : BitVec 11
  /-- WEAK_CNT[15:0]; 14 R424; reset 0. -/
  weakCnt : Nat
  /-- Mission firmware has still to re-burn the weak bits of this start-up; 14 R415; reset false. -/
  reburnDue : Bool
  deriving DecidableEq, Repr

/-- A big-number engine, PKE_IND or PKE_AMB, without its operand memory, which stands in memory (chapter 15). -/
structure Pke where
  /-- CTL[0] enable; 15 R447; reset 0. -/
  enable : Bool
  /-- CMD_LO as last written; 15 R430, R447; reset 0. -/
  cmdLo : Word
  /-- The 64-entry command queue, high and low words; 15 R430; reset empty. -/
  queue : List (Word × Word)
  /-- The open job; 15 R436; reset none. -/
  job : Option PkeJob
  /-- Until when a wipe runs, STATUS.wiping; 15 R438, R443; reset 0. -/
  wipeUntil : Nat
  /-- JOB_STATUS: code, class, overrun; 15 R447; reset 0. -/
  code : Code
  lastCls : Fin 11
  overrun : Bool
  /-- JOB_STATUS.jobs, wrapping at 16 bits; 15 R447; reset 0. -/
  jobs : Word16
  /-- VBOUND; 15 R447; reset 0. -/
  vbound : Word
  /-- CYCLES; 15 R447; reset 0. -/
  cycles : Word
  /-- OUT_MASK0-7; 15 R447; reset 0. -/
  outMask : BitVec 256
  /-- The OUT slots of the last job that ended OK and whose words may be read once; 15 R439; reset none. -/
  outLive : BitVec 256
  /-- The 32-bit words of live OUT slots already read: slot and word; 15 R439; reset none. -/
  outRead : List (Nat × Nat)
  /-- KEYED0-7; 15 R438, R447; reset 0. -/
  keyed : BitVec 256
  /-- SLOT_CFG0-255; 15 R427, R447; reset 0. -/
  slotCfg : Vector Word 256
  /-- The extension words; 15 R428, R447; reset 0. -/
  ext : Vector DWord 256
  /-- STATUS.poisoned: a push was lost; 15 R440, R447; reset 0. -/
  poisoned : Bool
  /-- The sponge, none before an INIT of the job; 15 R434; reset none. -/
  sponge : Option Sponge
  /-- What the last core read of operand memory or EXT returned; model's output; 15 R437, R439; reset 0. -/
  readValue : Word
  deriving DecidableEq, Repr

/-- A Brixxel core (chapter 16). -/
structure Core where
  /-- The core is released; 12 R339, 16 R476; reset false. -/
  released : Bool
  /-- Halted by a double trap; 16 R474; reset false. -/
  halted : Bool
  /-- Stalled by WAIT; 16 R475; reset false. -/
  waiting : Bool
  /-- When it was released, from which CYCLE counts; 16 R476; reset 0. -/
  releasedAt : Nat
  /-- The data stack, position 0 the bottom; 16 R449, R450; reset 0. -/
  dstack : Vector Word 64
  /-- STACK_CTL.depth; 16 R476; reset 0. -/
  depth : Nat
  /-- STACK_CTL.dlimit; 16 R476; reset 60. -/
  dlimit : Nat
  /-- The return stack; 16 R449; reset 0. -/
  rstack : Vector Word 32
  /-- STACK_CTL.rdepth; 16 R476; reset 0. -/
  rdepth : Nat
  /-- STACK_CTL.rlimit; 16 R476; reset 30. -/
  rlimit : Nat
  /-- The accumulators A0, A1; 16 R449, R466; reset 0. -/
  acc : Vector (BitVec 72) 2
  /-- The PC; 16 R449; reset 0. -/
  pc : Word
  /-- Privilege: true in extension; 16 R449, R468; reset supervisor. -/
  ext : Bool
  /-- The reserved 32-byte granule, by number; 16 R458; reset none. -/
  resv : Option Nat
  /-- Pending results in issue order; 16 R462; reset none. -/
  pend : List Pend
  /-- The next instruction is a delay slot; 16 R461; reset none. -/
  slot : Option DelaySlot
  /-- Consecutive boundaries blocked by pending results alone; 16 R475; reset 0. -/
  blocked : Nat
  /-- FXMODE.round; 16 R467, R476; reset 0. -/
  round : BitVec 2
  /-- FXMODE.sat; 16 R467, R476; reset 0. -/
  sat : Bool
  /-- IMAGE_BASE; 16 R476; reset 0. -/
  imageBase : Word
  /-- TRAPINFO; 16 R476; reset 0. -/
  trapInfo : Word
  /-- TRAPPC; 16 R476; reset 0. -/
  trapPc : Word
  /-- TRAPNEXT; 16 R476; reset 0. -/
  trapNext : Word
  /-- TRAPOP; 16 R476; reset 0. -/
  trapOp : Word
  /-- TRAPADDR; 16 R476; reset 0. -/
  trapAddr : Word
  /-- BUSERR: sticky, count, syndrome; 16 R456, R476; reset 0. -/
  busErr : Word
  /-- BUSERR_ADDR; 16 R476; reset 0. -/
  busErrAddr : Word
  /-- IRQ_CTL[3]; 16 R475, R476; reset 0. -/
  irqEnable : Bool
  /-- IRQ_CTL[2:0]; 16 R475, R476; reset 0. -/
  irqLevel : BitVec 3
  /-- PR_BASEn, PR_LIMITn, PR_ATTRn; 16 R470, R476; reset: 0-14 disabled, 15 the whole map, supervisor. -/
  regions : Vector Region 16
  deriving DecidableEq, Repr

/-- The dictionary and Rill (chapter 17), with the MCTP layer (R501). -/
structure Rill where
  /-- The P values in the object store, by index × 256 + sub; 17 R482, R484; not touched by reset: eFlash. -/
  store : List (Nat × List Byte)
  /-- The active bank of the object store; 17 R484; not touched by reset: eFlash, 0 here. -/
  bank : Fin 2
  /-- The epoch of the active bank; 17 R484; not touched by reset: eFlash, 0 here. -/
  epoch : Nat
  /-- The next store sequence number; 17 R483; not touched by reset: eFlash, 0 here. -/
  nextSeq : Nat
  /-- Bytes of the active bank used; 17 R484; not touched by reset: eFlash. -/
  used : Nat
  /-- V objects that a requester has written and that no block holds, by index × 256 + sub; 17 R482; reset none. -/
  volatile : List (Nat × List Byte)
  /-- `log_cursor` of each requester; 17 R489; reset none: 0 each. -/
  cursors : List (Nat × Nat)
  /-- Open block writes; 17 R497, R499; reset none. -/
  writes : List BlockWrite
  /-- Snapshots of block reads; 17 R497, R499; reset none. -/
  snaps : List Snapshot
  /-- Subscriptions; 17 R500; reset none. -/
  subs : List Subscription
  /-- Requests whose final reply is outstanding, oldest first; 17 R495; reset none. -/
  outstanding : List Outstanding
  /-- The device counter of NOTIFY tags; 17 R500; reset 0. -/
  notifyTag : Byte
  /-- `rill_refused`, saturating; 17 R504; reset 0. -/
  refused : Nat
  /-- The code that the last request or object write was answered with; model's output; 17 R504; reset OK. -/
  lastCode : Code
  /-- Objects of extension firmware; 17 R490; reset none. -/
  extObjs : List ExtObj
  /-- The replies and NOTIFYs sent by the last command; model's output; reset none. -/
  out : List RillOut
  /-- `mctp_eid`, 0 none; 17 R486, R501; reset 0. -/
  eid : Byte
  /-- The I3C dynamic address; 18 R529; reset none. -/
  i3cAddr : Option (BitVec 7)
  /-- The MCTP control response of the last command; model's output; 17 R501; reset none. -/
  mctpOut : List Byte
  deriving DecidableEq, Repr

/-- The SPI management port with the Rill window (chapter 18). -/
structure Spi where
  /-- STATUS byte 1, the code of the last transaction; 18 R515; reset 0. -/
  lastCode : Code
  /-- STATUS byte 2, the sticky flags; 18 R515; reset 0. -/
  flags : Byte
  /-- STATUS byte 3; 18 R515; reset 0. -/
  surplusCnt : Nat
  missingCnt : Nat
  /-- The counters of the identity block: crc_fails, partials, timeouts, surplus_edges, missing_edges, unknown_cmds; 18; reset 0. -/
  crcFails : Nat
  partials : Nat
  timeouts : Nat
  surplusEdges : Nat
  missingEdges : Nat
  unknownCmds : Nat
  /-- SECURE_FRAME messages waiting to be received, at most 8; 18 R524; reset none. -/
  waiting : List (List Byte)
  /-- The message delivered and not yet taken in; 18 R524; reset none. -/
  sent : Option (List Byte)
  /-- `spi_notify_dropped`; 18 R524; reset 0. -/
  notifyDropped : Nat
  /-- The Rill window's REQ; 18 R527; reset 0. -/
  req : Vector Byte 1048
  /-- The Rill window's REPLY; 18 R527; reset 0. -/
  reply : List Byte
  /-- WSTATUS.pending; 18 R527; reset 0. -/
  pending : Bool
  /-- WSTATUS.reply_ready; 18 R527; reset 0. -/
  replyReady : Bool
  /-- The bytes driven on MISO by the last transaction; model's output; 18 R507; reset none. -/
  miso : List Byte
  deriving DecidableEq, Repr

/-- The whole device. -/
structure State where
  /-- The time counter in ns, 40 ns a REFCLK cycle; 19 R547; reset 0. -/
  time : Nat
  /-- Mode, lifecycle requests, freeze; 02; reset COLD. -/
  dev : Device
  /-- HEADGATE and the stewardship record; 11, 02; reset: every output asserted. -/
  hg : Headgate
  /-- EVENTS; 19 R550; reset: nothing pending, all masked. -/
  ev : Events
  /-- PWRCLK; 19 R551; reset: AON alone on. -/
  pw : PwrClk
  /-- MEASURE; 11 R334; reset: stopped. -/
  ms : Measure
  /-- The device log ring and the measurement log; 17 R489; reset empty. -/
  log : LogState
  /-- The 64 channels; 01 R21, 04 R90; reset ABSENT. -/
  chans : Vector Chan 64
  /-- The 32 sluice ports; 03 R86; reset idle. -/
  ports : Vector Port 32
  /-- MIRCTL; 05 R146; reset: untrained. -/
  mir : Mirror
  /-- HASHGRP; 05 R147; reset: disabled. -/
  hash : HashGrp
  /-- Verification, updates, the journal and recovery; 07, 08; reset idle. -/
  upd : Update
  /-- CISTERN and the Allotter; 09 R270; reset off. -/
  cis : Cistern
  /-- PAKOR; 10 R304; reset: links down. -/
  pak : Pakor
  /-- Sill's start-up; 12; reset: held in reset. -/
  boot : Boot
  /-- KEYVAULT; 13 R400; reset: empty. -/
  kv : KeyVault
  /-- LEVEE; 13 R401; reset: nothing detected. -/
  lev : Levee
  /-- The SPDM responder; 13 R385; reset: no session. -/
  spdm : Spdm
  /-- The fuses and FUSECTL; 14 R424; reset: shadows not loaded. -/
  fuse : Fuses
  /-- PKE_IND and PKE_AMB; 15 R447; reset: disabled. -/
  pke : Both Pke
  /-- The twelve Brixxel cores; 16 R449; reset: not released. -/
  cores : Vector Core 12
  /-- The sixteen mailboxes; 18 R519; reset empty. -/
  mbox : Vector Mailbox 16
  /-- The SPI management port; 18 R515; reset 0. -/
  spi : Spi
  /-- The dictionary and Rill; 17; reset: nothing open. -/
  rill : Rill
  /-- Memory: eFlash, secure SRAM and operand memory by bus address, mirror DRAM from 2^36 on; 01 R29, 05 R114; reset: nothing
  listed. -/
  mem : List Host.Cell
  /-- The model's own counter of free values: the next one a command may draw; reset 0. -/
  free : Nat
  /-- The model's own queue of commands that wait, first in, first out; reset empty. -/
  pending : List Instr
  deriving DecidableEq, Repr

/-- Why a command stops the machine. -/
inductive Fault where
  /-- Raised by a Brixxel load or store and by REGISTER_WRITE on an address in the blocks MGMT or DRBG, of which the spec gives
  a base and no register: what the access does there is not stated. Safe: the model stops. -/
  | undescribedBlock (addr : Nat)
  deriving DecidableEq, Repr

/-- Why a command has no meaning. -/
inductive Refusal where
  /-- Raised by an arm of exec whose command has no meaning yet. Safe: the model stops. -/
  | notModelled (mnemonic : String)
  deriving DecidableEq, Repr

/-- Mode and lifecycle at reset (R34 cause 0). -/
def Device.reset : Device :=
  { mode := .cold, cause := 0, form := .none, lifecycleReq := 0, chtPosted := none, chtMismatch := false,
    freezeClear := none, freeze := false, dormantSeq := false }

/-- The Headgate at reset (R333). -/
def Headgate.reset : Headgate :=
  { planRun := false, puen := false, puenAt := 0, puenSettled := false, loadSensing := false, loadSensed := false,
    puenSettleMs := 2, out := 0, relAt := Vector.replicate 64 0, assertAt := Vector.replicate 64 0, holdAt := 0,
    senseLevel := 0, senseInvert := 0, senseFilter := 0x0A, senseSince := Vector.replicate 32 0, holds := Both.rep 0,
    grants := Both.rep 0, senseLoss := 0, timedOut := 0, loadClass := Vector.replicate 64 .notSensed, steward := none,
    epoch := 0, claims := Both.rep .none, claimEpochs := Both.rep 0, disagree := [], confirmCfg := 0x78, confirm := none,
    planGen := Both.rep 0, planActiveGen := 0, planStageGen := 0, planStage := Vector.replicate 64 PlanEntry.unused,
    planActive := Vector.replicate 64 PlanEntry.unused, staging := none, vroot := Both.rep 0, vpostStatus := Both.rep 0,
    vpostBusy := Both.rep 0, verdicts := Both.rep (Vector.replicate 64 none), reverify := Vector.replicate 64 false,
    warm := false }

/-- EVENTS at reset (R531, R550). -/
def Events.reset : Events :=
  { enabled := false, pending := 0, mask := BitVec.allOnes 1536, cfg := Vector.replicate 1536 ⟨0, 2, 0⟩ }

/-- PWRCLK at reset (R551): AON alone is on. -/
def PwrClk.reset : PwrClk :=
  { domOn := 2, queue := [], reqCode := .ok, reqDom := 0, refusals := 0, rootLock := false, wakePin := true,
    wakeTimerOn := false, wakeSense := 0, wakeTimer := 0, wakeAt := none, wakeCause := 0, timeHi := 0, clkStatus := 0,
    wdogs := Vector.replicate 4 ⟨false, 100, 0⟩, timers := Vector.replicate 8 ⟨false, false, 0, 0⟩ }

/-- MEASURE at reset (R334). -/
def Measure.reset : Measure :=
  { run := false, busFreeze := false, bus1Current := false, huEnable := false, pace := Vector.replicate 2 false,
    calFail := false, pwrok := false, acfail := false, busTrip := false, busWin := Vector.replicate 2 0x3FFF0000,
    busWinFilt := 4, busZoom := 0, huStep := none, caps := [], cap := 0, lastStep := 0, valid := false, stale := false, low := false,
    holdupMs := 0, powers := [], peakW := 0, railMv := Vector.replicate 16 0, busMv := Vector.replicate 2 0,
    railCfg := Vector.replicate 16 0, busCfg := Vector.replicate 2 0, busQuiet := 0,
    psus := Vector.replicate 4 ⟨0, 0, 0, 0, false⟩ }

/-- A channel at reset: ABSENT (R40). -/
def Chan.reset : Chan :=
  { state := .absent, desc := Desc.none, rules := [], gen := 0, staged := none, pins := [], pinsLoaded := [], pinNext := [],
    idBytes := [], rawSfdp := [], info := none, regs := [], emuRegs := [], contRead := false, persSfdp := [], cal := ⟨0, 0, 0, 0, 0, false⟩, trim := 0,
    mode := .m111, clk := .c25, probe := none, waitField := none, native := false, dpd := false, addr4 := false,
    wel := false, wip := false, protocol := .p1S, quadEnable := false, progErr := false, eraseErr := false,
    suspended := false, resetArmed := false, sckRaised := false, trace := [], missTrace := [], op := none, inner := none,
    issued := [], touched := [], gaveUp := false, faulted := [], lost := [], tried := [], digestFault := false, fillNext := none, fillDig := Both.rep [], rereads := [], fillCount := 0, scrub := none,
    repair := none, badUnits := [], noSourceAt := none, mutCount := 0, mutFails := 0, mutFirst := 0, mutLast := 0,
    verified := Both.rep none, stats := ChanStats.zero }

/-- A sluice port at reset (R86). -/
def Port.reset : Port :=
  { holdLimit := 64, strobeExtend := true, hsck := 0, partialCnt := 0, underrunCnt := 0, extendCnt := 0, unkCnt := 0,
    band := 0, sticky := 0, hostIo := .off, flashIo := .off, hreset := false, buffers := Vector.replicate 2 none,
    fetchDue := none, held := none, dq := [] }

/-- MIRCTL at reset (R146, R108). -/
def Mirror.reset : Mirror :=
  { scrubRun := false, keysValid := false, training := none, ready := false, trainFail := false, chanOk := 0,
    fittedGib := 16, aperture := 0, keyProt := 0, keyStage := 0, keyNext := 0, reseal := none,
    cmdStatus := (.ok, 0), pinHi := false, pinLoad := none, faultInfo := 0, faultCnt := 0, faultLimit := 0x10,
    faultSec := 0, scrubHours := 0x18, scrubChan := 0, scrubLate := 0, chtBase := 0x11000000, invals := [],
    invalCode := .ok, invalCause := 0, invalChan := 0, invalErr := false, versions := [], seals := [], stageSeals := [], heldDigests := [],
    writeCounter := 0 }

/-- A hash engine at reset (R147). -/
def Engine.reset : Engine :=
  { jobs := 0, job := none, fill := none, fenced := false, credit := 1920000, startAt := 0, window := [], slow := 0,
    retryAt := none, kat := false, fails := 0, retired := false }

/-- HASHGRP at reset (R147). -/
def HashGrp.reset : HashGrp :=
  { enable := false, engines := Vector.replicate 16 Engine.reset, queue := Both.rep [], done := Both.rep [],
    lostPush := Both.rep false, popped := Both.rep 0, fillMap := Both.rep (Vector.replicate 32 0),
    median := Both.rep 0 }

/-- Updates at reset, with the factory's empty journal bank 0 (R223). -/
def Update.reset : Update :=
  { vers := Both.rep [], targets := Vector.replicate 66 TargetUpd.idle, bank := 0, bankEpoch := 0, journal := [],
    nextSeq := 1, traces := [], traceBoot := 0, waiting := [], floorDue := [], gateWaits := 0, pldm := .idle, pldmMax := 32, pldmComp := none,
    pldmApplied := [], pldmReq := none, pldmOut := none, pldmSent := none, bootTraces := [] }

/-- The Cistern at reset (R270). -/
def Cistern.reset : Cistern :=
  { state := 0, patrolOn := false, pslc := false, keyValid := false, key := 0, ready := false, trainFail := false,
    eraseSeq := 0, eccMax := 0, eccUncorr := 0, tagFails := 0, targets := Vector.replicate 8 ⟨false, 0, 0, 0⟩,
    queue := [], done := [], lostPush := false, popped := 0, pagesPerBlock := 0, blocksPerTarget := 0, pages := [],
    blockSeqs := [], marksRead := false, sealedUnder := .raw, badBlocks := [], catalogue := [], copyA := ⟨[], []⟩, copyB := ⟨[], []⟩, commits := [], committing := false, nextHandle := 1, sets := Vector.replicate 66 [],
    pendingWrites := [], peers := Vector.replicate 32 ⟨false, [], false, 0, 0, 0, none⟩, orphans := [], rebuild := 0,
    rebuildLeft := 0, patrolAt := 0 }

/-- PAKOR at reset (R304). -/
def Pakor.reset : Pakor :=
  { beaconRun := false, enableB := false, enableA := false, seg := 0, pos := 0, island := false, multiSeg := false, posConflict := false,
    stale := false, isSeg := false, isCas := false, flags := 0, members := 0, segEpoch := 0, casEpoch := 0,
    segMaster := 0xFF, casMaster := 0xFF, refreshAt := 0, seq := 0, healthySince := none,
    links := Vector.replicate 4 Link.idle, seen := Vector.replicate 32 ⟨false, 0, false, false, none, 0, false⟩, outgoing := [],
    incoming := [], queue := [], done := [], lostPush := false, rx := [], popped := 0, sent := [], forwards := [] }

/-- Sill's start-up at reset: PORST_N is still asserted (R337). -/
def Boot.reset : Boot :=
  { phase := .held, entry := .powerOn, startAt := 0, timer := none, timerLeft := none, stopCode := 0, lastStop := 0, alarm := 0,
    secretBad := false, otherBad := false, candidates := [], rejudged := false, rejected := [], accepted := none,
    slot := 0xFF, results := (0, 0), service := 0, timeUs := 0, trialFailPending := false, commitSeq := 0, trial := false,
    svn := 0, sillMeas := 0, missionMeas := 0, root := 0, extDigest := 0, extRuns := false, recoverImage := none,
    installing := false, recoverLeft := [], warmAsked := false, trialWaits := false }

/-- The key vault at reset: every slot empty at generation 1 (R362). -/
def KeyVault.reset : KeyVault :=
  { slots := Vector.replicate 128 (KvSlot.emptyAt 1), lcOverride := 0, testSecret := false, rootLock := false,
    debug := false, cmdStatus := Both.rep (0, .ok), cmdResult := Both.rep 0, busy := Both.rep false, orphanCnt := 0 }

/-- The Levee at reset (R401). -/
def Levee.reset : Levee :=
  { latched := false, selftest := none, now := 0, cause := 0, first := 0, causeTime := 0, mask := 0, result := 0,
    temp := 0, refclkKhz := 0, uncounted := 0 }

/-- The SPDM responder at reset (R391: sessions end at reset). -/
def Spdm.reset : Spdm :=
  { sessions := [], nextId := 1, conns := [], waiting := [], mismatch := false, checked := false, aliasCert := [], out := [] }

/-- The fuses and FUSECTL at reset (R424): blank but for the stepping B1 in W1 (R3, R406; DESIGN CHOICE, log entry 136). -/
def Fuses.reset : Fuses :=
  { main := (Vector.replicate 512 FuseWord.blank).set 1 ⟨0x21, 0x21⟩, spare := Vector.replicate 128 FuseWord.blank,
    priv := Vector.replicate 64 ⟨FuseWord.blank, FuseWord.blank⟩, shadow := Vector.replicate 512 0,
    shadowPriv := Vector.replicate 64 0, bootLoaded := false, allLoaded := false, redirects := [], overrides := [],
    ovrAddr := 0, cmdData := 0, status := ⟨false, .ok, 0, 0⟩, busyUntil := 0, readTight := 0, readLoose := 0,
    readWeak := 0, regionOk := 0, weakCnt := 0, reburnDue := false }

/-- A big-number engine at reset (R447). -/
def Pke.reset : Pke :=
  { enable := false, cmdLo := 0, queue := [], job := none, wipeUntil := 0, code := .ok, lastCls := 0, overrun := false,
    jobs := 0, vbound := 0, cycles := 0, outMask := 0, outLive := 0, outRead := [], keyed := 0,
    slotCfg := Vector.replicate 256 0, ext := Vector.replicate 256 0, poisoned := false, sponge := none, readValue := 0 }

/-- The protection regions at core restart (R470): 15 alone in force. -/
def Region.resets : Vector Region 16 :=
  (Vector.replicate 16 ⟨0, 0, 0⟩).set 15 ⟨0, 0xFFFFFFE0, 0x00000107⟩

/-- A core at reset: not released (R476). -/
def Core.reset : Core :=
  { released := false, halted := false, waiting := false, releasedAt := 0, dstack := Vector.replicate 64 0, depth := 0,
    dlimit := 60, rstack := Vector.replicate 32 0, rdepth := 0, rlimit := 30, acc := Vector.replicate 2 0, pc := 0,
    ext := false, resv := none, pend := [], slot := none, blocked := 0, round := 0, sat := false, imageBase := 0,
    trapInfo := 0, trapPc := 0, trapNext := 0, trapOp := 0, trapAddr := 0, busErr := 0, busErrAddr := 0,
    irqEnable := false, irqLevel := 0, regions := Region.resets }

/-- The dictionary at reset, over a blank object store. -/
def Rill.reset : Rill :=
  { store := [], bank := 0, epoch := 0, nextSeq := 0, used := 0, volatile := [], cursors := [], writes := [], snaps := [],
    subs := [], outstanding := [], notifyTag := 0, refused := 0, lastCode := .ok, extObjs := [], out := [], eid := 0, i3cAddr := none,
    mctpOut := [] }

/-- The SPI management port at reset (R515). -/
def Spi.reset : Spi :=
  { lastCode := .ok, flags := 0, surplusCnt := 0, missingCnt := 0, crcFails := 0, partials := 0, timeouts := 0,
    surplusEdges := 0, missingEdges := 0, unknownCmds := 0, waiting := [], sent := none, notifyDropped := 0,
    req := Vector.replicate 1048 0, reply := [], pending := false, replyReady := false, miso := [] }

/-- The machine right after power-on reset, PORST_N still asserted (R555). -/
def State.reset : State :=
  { time := 0, dev := Device.reset, hg := Headgate.reset, ev := Events.reset, pw := PwrClk.reset, ms := Measure.reset,
    log := ⟨[], [], [], 0, []⟩, chans := Vector.replicate 64 Chan.reset, ports := Vector.replicate 32 Port.reset,
    mir := Mirror.reset, hash := HashGrp.reset, upd := Update.reset, cis := Cistern.reset, pak := Pakor.reset,
    boot := Boot.reset, kv := KeyVault.reset, lev := Levee.reset, spdm := Spdm.reset, fuse := Fuses.reset,
    pke := Both.rep Pke.reset, cores := Vector.replicate 12 Core.reset, mbox := Vector.replicate 16 Mailbox.empty,
    spi := Spi.reset, rill := Rill.reset, mem := [], free := 0, pending := [] }

end Sys2Proof.Machine
end

