-- ==== Sys2Proof/Machine/Ops.lean ====
section
/-!
DEFINITION. The named operations that every family uses: vectors by index, memory, the time counter, events, the log, fuse
views, device mode, channel state.
-/
namespace Sys2Proof.Machine

/-! ## Vectors and masks -/

/-- A vector with the entry at `i` changed by `f`. -/
def vupd {α : Type} {n : Nat} (v : Vector α n) (i : Fin n) (f : α → α) : Vector α n :=
  v.set i.val (f v[i]) i.isLt

/-- A vector with the entry at `i` replaced. -/
def vset {α : Type} {n : Nat} (v : Vector α n) (i : Fin n) (x : α) : Vector α n :=
  v.set i.val x i.isLt

/-- The numbers of the set bits of a mask, lowest first. -/
def finBits {n : Nat} (m : BitVec n) : List (Fin n) := (List.finRange n).filter fun i => m.getLsbD i.val

/-- The index of a number, where it is one. -/
def finOf (n v : Nat) : Option (Fin n) := if h : v < n then some ⟨v, h⟩ else none

/-- The value kept for a key, or a default. -/
def lookupD {β : Type} (l : List (Nat × β)) (k : Nat) (d : β) : β :=
  match l with
  | [] => d
  | (a, b) :: r => if a = k then b else lookupD r k d

/-- A list of keyed values with one key's value set; keys stay ascending. -/
def setKey {β : Type} (l : List (Nat × β)) (k : Nat) (v : β) : List (Nat × β) :=
  match l with
  | [] => [(k, v)]
  | (a, b) :: r => if a < k then (a, b) :: setKey r k v else if a = k then (k, v) :: r else (k, v) :: (a, b) :: r

/-- A list of keyed values without one key. -/
def dropKey {β : Type} (l : List (Nat × β)) (k : Nat) : List (Nat × β) := l.filter fun p => p.1 != k

/-! ## Units of state -/

/-- The other channel of a port. -/
def ChanId.sibling (c : ChanId) : ChanId := if c.val % 2 = 0 then ⟨(c.val + 1) % 64, Nat.mod_lt _ (by decide)⟩ else ⟨c.val - 1, by omega⟩

/-- A channel's record. -/
def State.chan (s : State) (c : ChanId) : Chan := s.chans[c]
/-- The state with a channel's record changed. -/
def State.updChan (s : State) (c : ChanId) (f : Chan → Chan) : State := { s with chans := vupd s.chans c f }
/-- A port's record. -/
def State.port (s : State) (p : PortId) : Port := s.ports[p]
/-- The state with a port's record changed. -/
def State.updPort (s : State) (p : PortId) (f : Port → Port) : State := { s with ports := vupd s.ports p f }
/-- A core's record. -/
def State.core (s : State) (k : CoreId) : Core := s.cores[k]
/-- The state with a core's record changed. -/
def State.updCore (s : State) (k : CoreId) (f : Core → Core) : State := { s with cores := vupd s.cores k f }
/-- What the device holds of an update target. -/
def State.target (s : State) (t : Target) : TargetUpd := s.upd.targets[t.idx]
/-- The state with a target's record changed. -/
def State.updTarget (s : State) (t : Target) (f : TargetUpd → TargetUpd) : State :=
  { s with upd := { s.upd with targets := vupd s.upd.targets t.idx f } }

/-! ## Memory -/

/-- What a byte that nothing has written reads as: erased flash 0xFF in eFlash, 0x00 elsewhere (DESIGN CHOICE, log entry 3). -/
def memDefault (a : Nat) : Byte := if a < 0xA00000 then 0xFF else 0

/-- Reads one byte. -/
def Memory.read : List Host.Cell → Nat → Byte
  | [], a => memDefault a
  | (k, b) :: m, a => if k = a then b else Memory.read m a

/-- The bytes from `a` on, `n` of them. -/
def Memory.readN (m : List Host.Cell) (a : Nat) : Nat → List Byte
  | 0 => []
  | n + 1 => Memory.read m a :: Memory.readN m (a + 1) n

/-- The cells that a run of bytes from `a` on needs: those that differ from what an unlisted byte reads as. -/
def Memory.cellsOf (a : Nat) : List Byte → List Host.Cell
  | [] => []
  | b :: bs => if b = memDefault a then Memory.cellsOf (a + 1) bs else (a, b) :: Memory.cellsOf (a + 1) bs

/-- The cells below an address. -/
def Memory.below (m : List Host.Cell) (a : Nat) : List Host.Cell := m.filter fun p => p.1 < a

/-- The cells from an address on. -/
def Memory.from_ (m : List Host.Cell) (a : Nat) : List Host.Cell := m.filter fun p => decide (a ≤ p.1)

/-- Writes a run of bytes from `a` on, keeping the canonical form. -/
def Memory.write (m : List Host.Cell) (a : Nat) (bs : List Byte) : List Host.Cell :=
  Memory.below m a ++ Memory.cellsOf a bs ++ Memory.from_ m (a + bs.length)

/-- Returns `n` bytes from `a` on to what an unlisted byte reads as: an erase of eFlash, zeros elsewhere. -/
def Memory.clear (m : List Host.Cell) (a n : Nat) : List Host.Cell :=
  Memory.below m a ++ Memory.from_ m (a + n)

/-- Addresses rise strictly. -/
def Memory.sorted : List Host.Cell → Bool
  | [] => true
  | [_] => true
  | (a, _) :: (b, y) :: m => decide (a < b) && Memory.sorted ((b, y) :: m)

/-- No entry equals what its address reads as unlisted. -/
def Memory.lean (m : List Host.Cell) : Bool := m.all fun p => decide (p.2 ≠ memDefault p.1)

/-- The canonical form. -/
def Memory.wf (m : List Host.Cell) : Bool := Memory.sorted m && Memory.lean m

/-- A byte of the machine's memory. -/
def State.byte (s : State) (a : Nat) : Byte := Memory.read s.mem a
/-- Bytes of the machine's memory. -/
def State.bytes (s : State) (a n : Nat) : List Byte := Memory.readN s.mem a n
/-- The little-endian value of `n` bytes of memory (R5). -/
def State.load (s : State) (a n : Nat) : Nat := leNat (s.bytes a n)
/-- The reservation that a write of `n` bytes from `a` on leaves a core (R458): none, where the write falls in its granule. -/
def keptReservation (a n : Nat) : Option Nat → Option Nat
  | none => none
  | some g => if 32 * g < a + n ∧ a < 32 * g + 32 ∧ 0 < n then none else some g
/-- Every core loses its reservation of a granule that is written (R458). -/
def State.touchGranules (s : State) (a n : Nat) : State :=
  { s with cores := s.cores.map fun q => { q with resv := keptReservation a n q.resv } }
/-- Stores bytes; reservations of the granules written are lost (R458). -/
def State.store (s : State) (a : Nat) (bs : List Byte) : State :=
  { s.touchGranules a bs.length with mem := Memory.write s.mem a bs }
/-- Clears bytes to what they read as unlisted. -/
def State.erase (s : State) (a n : Nat) : State := { s.touchGranules a n with mem := Memory.clear s.mem a n }

/-- Where mirror DRAM starts among the model's memory keys; below it keys are bus addresses (DESIGN CHOICE, log entry 4). -/
def dramBase : Nat := 0x1000000000

/-! ## Time -/

/-- One microsecond, millisecond and second of the time counter (R547). -/
def usNs : Nat := 1000
/-- One millisecond in ns. -/
def msNs : Nat := 1000000
/-- One second in ns. -/
def secNs : Nat := 1000000000

/-- The time counter moved on to an instant that has come; never back (DESIGN CHOICE, log entry 2). -/
def State.advanceTo (s : State) (t : Nat) : State := { s with time := max s.time t }

/-- The next free value's number drawn: the state with the counter advanced. -/
def State.drawn (s : State) : State := { s with free := s.free + 1 }

/-! ## Events -/

/-- Raises an event: its pending bit sets (R531). A number of 1,536 or more is no event. -/
def State.raise (s : State) (e : Nat) : State :=
  { s with ev := { s.ev with pending := s.ev.pending ||| BitVec.ofNat 1536 (2 ^ e) } }

/-- Raises each of a list of events. -/
def State.raiseAll (s : State) (es : List Nat) : State := es.foldl State.raise s

/-- Raises an event when a condition holds. -/
def State.raiseIf (s : State) (b : Bool) (e : Nat) : State := if b then s.raise e else s

/-- Is the event pending. -/
def State.isPending (s : State) (e : Nat) : Bool := s.ev.pending.getLsbD e

/-- An event of port `p` by offset (R87). -/
def portEvent (p : PortId) (off : Nat) : Nat := 28 * p.val + off

/-! ## The log -/

/-- Bytes of a record: its 20-byte header and its body (R489). -/
def LogRec.size (r : LogRec) : Nat := 20 + (r.body.map fun f => f.1).sum

/-- Bytes of a list of records. -/
def logSize (rs : List LogRec) : Nat := (rs.map LogRec.size).sum

/-- The ring with its oldest records overwritten until it fits 256 KiB (R489). -/
def trimRing : List LogRec → List LogRec
  | [] => []
  | r :: rs => if logSize (r :: rs) ≤ 262144 then r :: rs else trimRing rs

/-- The steward's half as the origin of a record, Sill's before handover (R489). -/
def State.origin (s : State) : Origin :=
  match s.boot.phase with
  | .running => match s.hg.steward with
    | some h => h.origin
    | none => .indigo
  | _ => .sill

/-- Appends a record to the device log ring (R489). -/
def State.logRec (s : State) (kind : LogKind) (event code : Nat) (origin : Origin) (body : List LogField) : State :=
  let r : LogRec := { kind := kind.num, seq := s.log.nextSeq, time := s.time, event := event, code := code,
                      origin := origin.num, body := body }
  { s with log := { s.log with ring := trimRing (s.log.ring ++ [r]), nextSeq := (s.log.nextSeq + 1) % 2 ^ 32 } }

/-- No event: the header's 0xFFFF (R489). -/
def noEvent : Nat := 0xFFFF

/-- Appends a record of the present steward, or Sill. -/
def State.logIt (s : State) (kind : LogKind) (event code : Nat) (body : List LogField) : State :=
  s.logRec kind event code s.origin body

/-- Appends a record to the measurement log, and with it to the ring (R489). -/
def State.logMeas (s : State) (kind : LogKind) (body : List LogField) : State :=
  let r : LogRec := { kind := kind.num, seq := s.log.nextSeq, time := s.time, event := noEvent, code := 0,
                      origin := s.origin.num, body := body }
  { s with log := { s.log with ring := trimRing (s.log.ring ++ [r]), meas := s.log.meas ++ [r],
                               nextSeq := (s.log.nextSeq + 1) % 2 ^ 32 } }

/-- R576's count for a source: whether this record is written, how many it says were withheld (none in a second that has
already had one), and the source's new count. -/
def throttleStep (limit sec src : Nat) (t : Option Throttle) : Bool × Option Nat × Throttle :=
  match t with
  | none => (true, some 0, ⟨src, sec, 1, 0⟩)
  | some t =>
    if t.sec = sec then
      if t.count < limit then (true, none, { t with count := t.count + 1 })
      else (false, none, { t with withheld := t.withheld + 1 })
    else (true, some t.withheld, ⟨src, sec, 1, 0⟩)

/-- Appends a record of a source limited to `limit` records per whole second (R576), under an origin; the first of a later
second carries the number withheld as its last field. -/
def State.logLimitedAs (s : State) (limit src : Nat) (kind : LogKind) (event code : Nat) (origin : Origin)
    (body : List LogField) : State :=
  let old := s.log.throttles.find? fun t => t.src == src
  let st := throttleStep limit (s.time / secNs) src old
  let s1 := { s with log := { s.log with
    throttles := st.2.2 :: s.log.throttles.filter fun t => t.src != src } }
  if st.1 then
    s1.logRec kind event code origin (match st.2.1 with
      | some n => body ++ [(4, n)]
      | none => body)
  else s1

/-- The same of the present steward, or Sill. -/
def State.logLimited (s : State) (limit src : Nat) (kind : LogKind) (event code : Nat) (body : List LogField) : State :=
  s.logLimitedAs limit src kind event code s.origin body

/-- Raises an event and logs it without limit. -/
def State.raiseLog (s : State) (e : Nat) (body : List LogField) : State := (s.raise e).logIt .event e 0 body

/-- Raises an event whose records are limited to one per source per second; the source is the event with a key. -/
def State.raiseLog1 (s : State) (e key : Nat) (body : List LogField) : State :=
  (s.raise e).logLimited 1 (e * 0x1000000 + key) .event e 0 body

/-! ## Fuse views -/

/-- The word of the main array that the device uses: an override, else the shadow (R414, R422). -/
def State.fuseWord (s : State) (w : Fin 512) : Word :=
  match s.fuse.overrides.find? fun o => o.1 == w with
  | some o => o.2
  | none => s.fuse.shadow[w]

/-- The identity fields (R3, R379, R406): lot, little-endian, then wafer, die x, die y and stepping, one byte each. -/
def State.identityBytes (s : State) : List Byte := leBytes 4 (s.fuseWord 0).toNat ++ beBytes 4 (s.fuseWord 1).toNat

/-- A privileged word as the device uses it: its shadow (R414). -/
def State.privWord (s : State) (p : Fin 64) : Word := s.fuse.shadowPriv[p]

/-- A thermometer of `n` bits: its count, where the set bits run from bit 0 without a gap. -/
def thermo (w n : Nat) : Option Nat :=
  let k := ((List.range n).filter fun i => w.testBit i).length
  if w % 2 ^ n = 2 ^ k - 1 then some k else none

/-- The lifecycle: the count of set bits, SCRAP where they have a gap (R47). -/
def State.lifecycle (s : State) : Lifecycle :=
  match thermo (s.privWord 0).toNat 5 with
  | some k => (Lifecycle.ofCode k).getD .scrap
  | none => .scrap

/-- Region n is locked: P1 bit n (R406, R407). -/
def State.regionLocked (s : State) (n : Nat) : Bool := n < 11 && (s.privWord 1).getLsbD n

/-- Owner slot `i` is fused: its region is locked (R411). -/
def State.ownerFused (s : State) (i : Nat) : Bool := i < 4 && s.regionLocked (3 + i)

/-- Owner slot `i` is revoked: P2 bit i (R407). -/
def State.ownerRevoked (s : State) (i : Nat) : Bool := i < 4 && (s.privWord 2).getLsbD i

/-- `owner_slot_state` (R411): 0 unfused, 1 usable, 2 revoked, 3 inconsistent. -/
def State.ownerSlotState (s : State) (i : Nat) : Nat :=
  if ! s.ownerFused i then 0
  else if ! s.fuse.regionOk.getLsbD (3 + i) then 3
  else if s.ownerRevoked i then 2 else 1

/-- The owner digest fused for slot `i`, byte 0 in bits 7:0 of the first word (R406). -/
def State.ownerDigest (s : State) (i : Fin 4) : Digest :=
  digestOfBytes ((List.range 12).flatMap fun j =>
    leBytes 4 (s.fuseWord ⟨(32 + 13 * i.val + j) % 512, Nat.mod_lt _ (by decide)⟩).toNat)

/-- Steps set in the floor of a channel (R406), or of the device's own firmware (R407). -/
def State.floorWord (s : State) (t : Target) : Nat :=
  match t with
  | .chan c => (s.fuseWord ⟨(96 + c.val) % 512, Nat.mod_lt _ (by decide)⟩).toNat
  | _ => (s.privWord 3).toNat + 2 ^ 32 * (s.privWord 4).toNat

/-! ## Halves, cores, domains -/

/-- Is this half the steward (R19). -/
def State.isSteward (s : State) (h : Half) : Bool := s.hg.steward == some h

/-- The half of a control core (R26). -/
def coreHalf (k : CoreId) : Option Half :=
  if k.val < 4 then some .indigo else if k.val < 8 then some .amber else none

/-- Is the core a control core of the steward. -/
def State.stewardCore (s : State) (k : CoreId) : Bool :=
  match coreHalf k with
  | some h => s.isSteward h
  | none => false

/-- Is a power domain on (R538). -/
def State.domOn (s : State) (d : Nat) : Bool := s.pw.domOn.getLsbD d

/-- The cluster domain of a half (R21). -/
def Half.cluster : Half → Nat
  | .indigo => 2
  | .amber => 3

/-- The domain of a half's big-number engine (R21). -/
def Half.pkeDomain : Half → Nat
  | .indigo => 4
  | .amber => 5

/-! ## Mode and channel state -/

/-- The changes of mode that R34 lists but for the power-on reset, which may come in any mode (causes 0 and 8). -/
def DevMode.mayBecome : DevMode → DevMode → Bool
  | .cold, .hold | .cold, .recover | .cold, .service => true
  | .hold, .guard | .hold, .update | .hold, .dormant => true
  | .guard, .update | .guard, .dormant => true
  | .update, .guard | .update, .hold | .update, .recover => true
  | .dormant, .cold => true
  | .service, _ => false
  | _, .quarantine => true
  | _, _ => false

/-- Changes the mode: MODE_CHANGE with both modes and the cause (R34). A change that R34 does not list is none (R35). -/
def State.setMode (s : State) (m : DevMode) (cause : Nat) : State :=
  let old := s.dev.mode
  if old.mayBecome m then
    let s := { s with dev := { s.dev with mode := m, cause := cause } }
    s.logIt .modeChange noEvent 0 [(1, old.num), (1, m.num), (1, cause), (8, s.time)]
  else s

/-- Is the channel served from the mirror (R40). -/
def ChanState.served : ChanState → Bool
  | .released | .updating | .repairing => true
  | _ => false

/-- Drops the prefetch buffers of a channel's port that hold a leaf for which `f` holds, and a fetch of one under way: it is fetched again
only on demand (R76). -/
def State.dropPrefetch (s : State) (c : ChanId) (f : Nat → Bool) : State :=
  let keep (x : Prefetch) : Bool := ! (x.chan == c && f x.leaf)
  s.updPort c.port fun p => { p with buffers := p.buffers.map fun b => b.filter keep, fetchDue := p.fetchDue.filter keep }

/-- The channel's own record in a new state: a scrub pass starts at leaf 0 on entry to HELD (R135), unless a forced pass runs. -/
def Chan.entered (ch : Chan) (st : ChanState) (now : Nat) : Chan :=
  let forced := (ch.scrub.map fun x => x.forced).getD false
  { ch with state := st, scrub := if st = .held ∧ ! forced then some ⟨0, now, false, false⟩ else ch.scrub }

/-- A fill of the channel is under way: it has begun, and its last leaf is not in (R121). -/
def Chan.fillRuns (ch : Chan) : Bool :=
  match ch.fillNext with
  | some n => decide (0 < n) && decide (n < ch.desc.leafCount)
  | none => false

/-- A fill ends before its last leaf (R148): MIRROR_FILL_ABORT; the engines of the port are free of it. -/
def State.fillAbort (s : State) (c : ChanId) : State :=
  let n := (s.chan c).fillNext.getD 0
  let s := s.updChan c fun ch => { ch with fillNext := none }
  let free (g : Engine) : Engine := if g.fill = some c.port then { g with fill := none } else g
  ({ s with hash := { s.hash with engines := s.hash.engines.map free } }).raiseLog 1011 [(1, c.val), (4, n)]

/-- The mirror controller copies a channel's state to byte 0x00 of its descriptor (R91). -/
def State.copyState (s : State) (c : ChanId) (st : ChanState) : State :=
  s.store (s.mir.chtBase.toNat + c.val * 0x100) (leBytes 1 st.num)

/-- The ASCII bytes of a label. -/
def ascii (t : String) : List Byte := t.toList.map fun c => BitVec.ofNat 8 c.toNat

/-- A channel enters another state: CHAN_STATE with the channel, both states and the descriptor generation (R41); leaving the served
states drops its prefetch buffers (R76); a fill under way is cut off (R148). -/
def State.enterChan (s : State) (c : ChanId) (st : ChanState) : State :=
  let ch := s.chan c
  let s := s.updChan c fun ch => ch.entered st s.time
  let s := if st.served then s else s.dropPrefetch c fun _ => true
  let s := s.logIt .chanState noEvent 0 [(1, c.val), (1, ch.state.num), (1, st.num), (2, ch.gen), (8, s.time)]
  if ch.fillRuns then s.fillAbort c else s

/-- Changes a channel's state (R41), with the copy in its descriptor (R91). A trigger that names the state the channel is in changes
nothing; in QUARANTINE freeze form the only change is RELEASED to HELD (R39). -/
def State.setChan (s : State) (c : ChanId) (st : ChanState) : State :=
  let ch := s.chan c
  if ch.state = st ∨ (s.dev.form = .freeze ∧ ! (ch.state == .released && st == .held)) then s
  else (s.enterChan c st).copyState c st

/-- The output that the channel's cached descriptor names, if any (R90). -/
def Chan.output (ch : Chan) : Option OutId := finOf 64 ch.desc.holdOutput

/-- Is the output released. -/
def State.outReleased (s : State) (h : OutId) : Bool := s.hg.out.getLsbD h.val

/-- The channel's bound output is released. -/
def State.boundReleased (s : State) (c : ChanId) : Bool :=
  match (s.chan c).output with
  | some h => s.outReleased h
  | none => false

/-- The state a channel returns to from UPDATING or REPAIRING, following its bound output (R41). -/
def State.returnState (s : State) (c : ChanId) : ChanState := if s.boundReleased c then .released else .held

end Sys2Proof.Machine
end

