-- ==== Sys2Proof/Machine/Curve.lean ====
section
/-!
DEFINITION. The curve P-384 and ECDSA over it (R182-R185, R376, R380; FIPS 186-5): the arithmetic that the big-number engine carries out
for the library's verify, sign and public-key operations (R445).
-/
namespace Sys2Proof.Machine

/-- The prime of P-384. -/
def curveP : Nat := 2 ^ 384 - 2 ^ 128 - 2 ^ 96 + 2 ^ 32 - 1
/-- Its group order. -/
def curveN : Nat := 0xffffffffffffffffffffffffffffffffffffffffffffffffc7634d81f4372ddf581a0db248b0a77aecec196accc52973
/-- The constant term of the curve's equation y² = x³ - 3x + b. -/
def curveB : Nat := 0xb3312fa7e23ee7e4988e056be3f82d19181d9c6efe8141120314088f5013875ac656398d8a2ed19d2a85c8edd3ec2aef

/-- A point of the curve by its coordinates; none is the identity. -/
abbrev CurvePoint : Type := Option (Nat × Nat)

/-- The generator. -/
def curveG : CurvePoint :=
  some (0xaa87ca22be8b05378eb1c71ef320ad746e1d3b628ba79b9859f741e082542a385502f25dbf55296c3a545e3872760ab7,
    0x3617de4a96262c6f5d9e98bf9292dc29f8f41dbd289a147ce9da3113b5f0b8c00a60b1ce1d7e819d7a431d7c90ea0e5f)

/-- `b` to the power of the low `n` bits of `e`, modulo `m`. -/
def powMod (m : Nat) : Nat → Nat → Nat → Nat
  | 0, _, _ => 1 % m
  | n + 1, b, e => (if e % 2 = 1 then b else 1) * powMod m n (b * b % m) (e / 2) % m

/-- The inverse modulo a prime below 2^384. -/
def invMod (m a : Nat) : Nat := powMod m 384 a (m - 2)

/-- Do coordinates satisfy the curve's equation, each below the prime. -/
def onCurve (x y : Nat) : Bool :=
  decide (x < curveP) && decide (y < curveP) && (y * y + 3 * x) % curveP == (x * x * x + curveB) % curveP

/-- The sum of two points: the third point on the line through them, or on the tangent, mirrored. -/
def CurvePoint.add (a b : CurvePoint) : CurvePoint :=
  match a, b with
  | none, _ => b
  | _, none => a
  | some (x, y), some (u, v) =>
    if x = u ∧ (y + v) % curveP = 0 then none
    else
      let slope := (if x = u then 3 * (x * x + curveP - 1) * invMod curveP (2 * y)
        else (v + curveP - y) * invMod curveP (u + curveP - x)) % curveP
      let w := (slope * slope + (curveP - x) + (curveP - u)) % curveP
      some (w, (slope * (x + curveP - w) + (curveP - y)) % curveP)

/-- A point times the low `n` bits of `k`. -/
def CurvePoint.times : Nat → Nat → CurvePoint → CurvePoint
  | 0, _, _ => none
  | n + 1, k, a => (if k % 2 = 1 then a else none).add (CurvePoint.times n (k / 2) (a.add a))

/-- A point in the uncompressed encoding of SEC 1: 97 bytes (R182). -/
def CurvePoint.encode (a : CurvePoint) : List Byte :=
  match a with
  | some (x, y) => 4 :: (beBytes 48 x ++ beBytes 48 y)
  | none => [0]

/-- The point that 97 bytes encode; none where they encode no point of the curve (R445). -/
def decodePoint (b : List Byte) : CurvePoint :=
  let x := beNat ((b.drop 1).take 48)
  let y := beNat ((b.drop 49).take 48)
  if b.length = 97 ∧ b.head? = some 4 ∧ onCurve x y then some (x, y) else none

/-- Is a number in the range of a signature's parts and of a nonce: 1 to n - 1 (R445). -/
def inOrder (v : Nat) : Bool := decide (1 ≤ v) && decide (v < curveN)

/-- ECDSA P-384 verify (R185, R445) of r ‖ s, 48 bytes each, over a 384-bit digest. -/
def ecdsaVerify (key : List Byte) (digest : Digest) (sig : List Byte) : Bool :=
  let r := beNat (sig.take 48)
  let s := beNat ((sig.drop 48).take 48)
  let q := decodePoint key
  let w := invMod curveN s
  let sum := (CurvePoint.times 384 (digest.toNat * w % curveN) curveG).add (CurvePoint.times 384 (r * w % curveN) q)
  sig.length == 96 && inOrder r && inOrder s && q.isSome && (match sum with
    | some (x, _) => x % curveN == r
    | none => false)

/-- The private scalar that a seed expands to (R376). -/
def ecScalar (seed : Nat) : Nat := seed % (curveN - 1) + 1

/-- The public key of a seed (R376). -/
def ecPublic (seed : Nat) : List Byte := (CurvePoint.times 384 (ecScalar seed) curveG).encode

/-- ECDSA P-384 sign over a digest under a nonce of 1 to n - 1 (R376, R445): r ‖ s; none where one of them is zero. -/
def ecdsaSign (d nonce : Nat) (digest : Digest) : Option (List Byte) :=
  match CurvePoint.times 384 nonce curveG with
  | none => none
  | some (x, _) =>
    let r := x % curveN
    let s := invMod curveN nonce * (digest.toNat + r * d) % curveN
    if r = 0 ∨ s = 0 then none else some (beBytes 48 r ++ beBytes 48 s)

end Sys2Proof.Machine
end

