-- ==== Sys2Proof/Machine/Crc.lean ====
section
/-!
DEFINITION. The cyclic redundancy checks that the spec names: CRC-8 of redirection entries (R408), CRC-16/CCITT-FALSE of the
SPI management port (R508), CRC-32C of fuse regions and store records (R409, R483), CRC-64 of Sill and the journal (R342,
R221). Each is a fold of one byte step over the message.
-/
namespace Sys2Proof.Machine

/-- Eight steps of a register of `w` bits shifted towards its top, with the polynomial applied when a 1 leaves. -/
def crcShl (w : Nat) (poly : BitVec w) : Nat → BitVec w → BitVec w
  | 0, r => r
  | n + 1, r => crcShl w poly n (if r.msb then (r <<< 1) ^^^ poly else r <<< 1)

/-- Eight steps of a reflected register, shifted towards bit 0. -/
def crcShr (w : Nat) (poly : BitVec w) : Nat → BitVec w → BitVec w
  | 0, r => r
  | n + 1, r => crcShr w poly n (if r.getLsbD 0 then (r >>> 1) ^^^ poly else r >>> 1)

/-- A message through an unreflected register of `w` bits, most significant bit first. -/
def crcFwd (w : Nat) (poly init : BitVec w) (bs : List Byte) : BitVec w :=
  bs.foldl (fun r b => crcShl w poly 8 (r ^^^ (BitVec.ofNat w b.toNat <<< (w - 8)))) init

/-- A message through a reflected register of `w` bits, least significant bit first. -/
def crcRev (w : Nat) (poly init : BitVec w) (bs : List Byte) : BitVec w :=
  bs.foldl (fun r b => crcShr w poly 8 (r ^^^ BitVec.ofNat w b.toNat)) init

/-- CRC-8: polynomial 0x07, initial value 0, no reflection (R408). -/
def crc8 (bs : List Byte) : Byte := crcFwd 8 0x07 0 bs

/-- CRC-16/CCITT-FALSE: polynomial 0x1021, initial value 0xFFFF, no reflection, no final XOR (R508). -/
def crc16 (bs : List Byte) : Word16 := crcFwd 16 0x1021 0xFFFF bs

/-- CRC-32C: Castagnoli, reflected, initial value and final XOR all ones (R409). -/
def crc32c (bs : List Byte) : Word := ~~~ crcRev 32 0x82F63B78 0xFFFFFFFF bs

/-- CRC-64: ECMA-182 polynomial, initial value 0, no reflection, final XOR 0 (R342). -/
def crc64 (bs : List Byte) : DWord := crcFwd 64 0x42F0E1EBA9EA3693 0 bs

end Sys2Proof.Machine
end

