-- ==== Sys2Proof/Machine/Store.lean ====
section
/-!
DEFINITION. The object store in eFlash (R483-R485): the records, appending and compaction, and the P values in force; and the
answer to a request (R504).
-/
namespace Sys2Proof.Machine

/-- A store record (R483): 32 header bytes, the value, and padding with 0xFF to a 16-byte granule. -/
def storeRecord (index sub flags seq : Nat) (value : List Byte) : List Byte :=
  let head := leBytes 2 0x4F53 ++ leBytes 2 index ++ leBytes 1 sub ++ leBytes 1 flags ++ leBytes 2 0 ++ leBytes 4 seq
    ++ leBytes 4 value.length
  head ++ leBytes 4 (crc32c (head ++ value)).toNat ++ leBytes 12 0 ++ value
    ++ List.replicate ((16 - value.length % 16) % 16) 0xFF

/-- The first byte of a bank (R483). -/
def storeBase (b : Fin 2) : Nat := 0x80000 + b.val * 0x40000

/-- Appends one record to the active bank without asking whether it fits. -/
def State.storeAppend (s : State) (rec : List Byte) : State :=
  let s := s.store (storeBase s.rill.bank + s.rill.used) rec
  { s with rill := { s.rill with used := s.rill.used + rec.length } }

/-- Appends the record of one value in force, taking the next sequence number. -/
def State.storeValue (s : State) (index sub : Nat) (v : List Byte) : State :=
  let s := s.storeAppend (storeRecord index sub 0 s.rill.nextSeq v)
  { s with rill := { s.rill with nextSeq := s.rill.nextSeq + 1 } }

/-- Compaction (R484): the other bank erased, every value in force copied, a header at epoch + 1, the old bank erased. -/
def State.storeCompact (s : State) : State :=
  let old := s.rill.bank
  let new : Fin 2 := if old = 0 then 1 else 0
  let s := s.erase (storeBase new) 0x40000
  let s := { s with rill := { s.rill with bank := new, epoch := s.rill.epoch + 1, used := 0 } }
  let s := s.rill.store.foldl (fun s p => s.storeValue (p.1 / 256) (p.1 % 256) p.2) s
  let s := s.storeAppend (storeRecord 0xFFFF 0 0 s.rill.epoch [])
  s.erase (storeBase old) 0x40000

/-- The header of a bank that has none yet. -/
def State.storeHeader (s : State) : State :=
  if s.rill.used = 0 then s.storeAppend (storeRecord 0xFFFF 0 0 s.rill.epoch []) else s

/-- Writes a P object: its record is appended, after a compaction where it would not fit (R484), and its value is in force. -/
def State.storePut (s : State) (index sub : Nat) (v : List Byte) : State :=
  let s := { s with rill := { s.rill with store := setKey s.rill.store (index * 256 + sub) v } }
  let s := s.storeHeader
  if s.rill.used + (storeRecord index sub 0 0 v).length ≤ 0x40000 then s.storeValue index sub v else s.storeCompact

/-- The value of a P object, its default where the store holds none (R482). -/
def State.pget (s : State) (index sub : Nat) (d : List Byte) : List Byte := lookupD s.rill.store (index * 256 + sub) d

/-- The value of a numeric P object. -/
def State.pnat (s : State) (index sub d : Nat) : Nat :=
  match s.rill.store.find? fun p => p.1 == index * 256 + sub with
  | some p => leNat p.2
  | none => d

/-- Is the code a refusal (R9: the Class column). -/
def Code.refusal : Code → Bool
  | .ok | .orphaned | .reject | .verifyFail | .revoked | .rollback | .noSource | .internal => false
  | _ => true

/-- Answers a request or an object write with a code; a refusal counts in `rill_refused` (R504). -/
def State.answer (s : State) (c : Code) : State :=
  { s with rill := { s.rill with lastCode := c,
                                 refused := if Code.refusal c then satInc 32 s.rill.refused else s.rill.refused } }

/-- The result that VerifyComplete tells of a shared code (R209). -/
def Code.verifyResult : Code → Nat
  | .ok => 0x00
  | .revoked | .rollback => 0x03
  | _ => 0x01

/-- A completion that the device sends while it updates a component under PLDM (R207): TransferComplete 0x16, VerifyComplete 0x17 and
ApplyComplete 0x18, with their result. -/
def State.pldmTell (s : State) (t : Target) (command result : Nat) : State :=
  if (s.target t).route = some .pldm then { s with upd := { s.upd with pldmSent := some (command, result) } } else s

/-- A volatile object's bytes, its default where none was written. -/
def State.vget (s : State) (index sub : Nat) (d : List Byte) : List Byte := lookupD s.rill.volatile (index * 256 + sub) d

/-- Sets a volatile object. -/
def State.vput (s : State) (index sub : Nat) (v : List Byte) : State :=
  { s with rill := { s.rill with volatile := setKey s.rill.volatile (index * 256 + sub) v } }

/-- The operations of R51's table, numbered by row. -/
inductive ModeOp where
  | readLow | readOther | write | attest | channelUpdate | deviceUpdate | planEdit | hold | reprobe | golden | lifecycle
  | dormant
  deriving DecidableEq, Repr

/-- The row of an operation in R51's table, as OP_REFUSED names it. -/
def ModeOp.num : ModeOp → Nat
  | .readLow => 1 | .readOther => 2 | .write => 3 | .attest => 4 | .channelUpdate => 5 | .deviceUpdate => 6
  | .planEdit => 7 | .hold => 8 | .reprobe => 9 | .golden => 10 | .lifecycle => 11 | .dormant => 12

/-- R51's table where the answer does not depend on the object or target: is the operation permitted in the mode. -/
def ModeOp.permitted : ModeOp → DevMode → Bool
  | .readLow, m => m != .dormant
  | .readOther, m => m != .cold && m != .dormant && m != .recover
  | .write, m => m != .cold && m != .dormant && m != .recover && m != .quarantine
  | .attest, m => m != .cold && m != .dormant
  | .channelUpdate, m | .planEdit, m | .reprobe, m | .dormant, m => m == .hold || m == .guard
  | .deviceUpdate, m => m == .hold || m == .guard
  | .lifecycle, m => m == .hold || m == .guard
  | .hold, m => m == .hold || m == .guard || m == .update || m == .quarantine
  | .golden, m => m == .hold || m == .guard || m == .update

/-- The OP_REFUSED record of an operation refused by mode (R51). -/
def State.opRefused (s : State) (op : ModeOp) : State :=
  s.logIt .opRefused noEvent Code.refusedState.num [(1, op.num), (1, s.dev.mode.num)]

end Sys2Proof.Machine
end

