-- ==== Sys2Proof/Machine/Access.lean ====
section
/-!
DEFINITION. Who may ask for what: which transports answer, the access classes of object writes, the modes that permit a write, and
bus errors of a core.
-/
namespace Sys2Proof.Machine

/-! ## Transports -/

/-- The transports of R501 as the model numbers its endpoints: an EID over I3C, 0x100 and an EID over SMBus, 0x200 the SPI
management port, 0x300 and a device number over Pakor (DESIGN CHOICE, log entry 6). -/
def endpointTransport (e : Nat) : Nat := min (e / 0x100) 3

/-- The endpoint of the SPI management port. -/
def spiEndpoint : Nat := 0x200

/-- BOOTCFG W84 disables the transport: bit 0 SPI, bit 1 I3C, bit 2 SMBus (R406, R501). -/
def State.transportOff (s : State) (e : Nat) : Bool :=
  let w := s.fuseWord ⟨84, by decide⟩
  match endpointTransport e with
  | 0 => w.getLsbD 1
  | 1 => w.getLsbD 2
  | 2 => w.getLsbD 0
  | _ => false

/-- Do the phases of start-up let anything answer: not before the PLL lock, nor in a stopped start-up (R503, R506). -/
def BootPhase.answers : BootPhase → Bool
  | .held | .pll | .stopped => false
  | _ => true

/-- Does the device answer the requester: management powered, not in DORMANT, not stopped, transport enabled (R51, R503). -/
def State.answers (s : State) (who : Requester) : Bool :=
  s.domOn 28 && s.dev.mode != .dormant && s.boot.phase.answers && ! s.transportOff who.endpoint

/-- What a request does; nothing where nothing answers. -/
def State.asked (s : State) (who : Requester) (f : State → State) : State := if s.answers who then f s else s

/-! ## Authorisation (R392, R502) -/

/-- `mgmt_trust_list` holds no entry (R284, R392). -/
def State.trustListEmpty (s : State) : Bool :=
  let v := s.pget 0x0601 1 []
  (List.range 16).all fun i => v.getD (52 * i) 0 == 0

/-- Does a session authorise what arrives in it (R392); with an empty list none does, but in TEST and PROVISION. -/
def State.sessionAuthorised (s : State) (x : Session) : Bool :=
  x.finished && ((x.mutualAuth && x.trusted && x.cosigDone && ! s.trustListEmpty)
    || ((s.lifecycle == .test || s.lifecycle == .provision) && s.trustListEmpty))

/-- Is a request authorised (R502): it arrives in an authorised session of its endpoint, or on Pakor with flag bit 2. -/
def State.authorised (s : State) (who : Requester) : Bool :=
  who.authorised && (endpointTransport who.endpoint == 3
    || s.spdm.sessions.any fun x => x.endpoint == who.endpoint && s.sessionAuthorised x)

/-- What a requester opened is gone with its session (R498, R500, R502), by the key of Requester.key: transfers, snapshots,
subscriptions; replies outstanding are discarded. -/
def State.dropRequester (s : State) (key : Nat) : State :=
  { s with
    rill := { s.rill with
      writes := s.rill.writes.filter fun w => w.endpoint != key,
      snaps := s.rill.snaps.filter fun w => w.endpoint != key,
      subs := s.rill.subs.filter fun w => w.endpoint != key,
      outstanding := s.rill.outstanding.filter fun w => w.endpoint != key },
    pak := { s.pak with forwards := s.pak.forwards.filter fun w => w.endpoint != key } }

/-! ## Object writes -/

/-- An owner-key object of the 0x0C00 range, which RECOVER takes in PROVISION (R51, R423). -/
def ownerKeyObj (index : Nat) : Bool := index == 0x0C01 || index == 0x0C02

/-- Does the mode permit a dictionary write of the object (R51); in RECOVER with service closed the lifecycle request alone (R345). -/
def State.writeMode (s : State) (index sub : Nat) : Bool :=
  match s.dev.mode with
  | .hold | .guard | .service => true
  | .update => index / 0x100 != 0x0A && index / 0x100 != 0x0C
  | .recover => (s.boot.service == 1 && (index / 0x100 == 0x0A || (s.lifecycle == .provision && ownerKeyObj index)))
    || (index == 0x0201 && sub == 2)
  | .quarantine => index == 0x0D06
  | .cold | .dormant => false

/-- A half stands behind the write: the steward, or Sill where it serves (R496, R503). -/
def State.writerThere (s : State) : Bool := s.hg.steward.isSome || s.dev.mode == .recover || s.dev.mode == .service

/-- The channel's state admits an RWH write (R481). -/
def State.rwhOk (s : State) (c : Option ChanId) : Bool :=
  match c with
  | some c => (s.chan c).state == .held || (s.chan c).state == .absent
  | none => true

/-- The refusals of a write by access class and persistence, before the object's own checks (R481, R485, R496). -/
def State.writeRefusals (s : State) (who : Requester) (acc : Access) (p : Bool) (index sub : Nat) (c : Option ChanId) :
    List Code :=
  let auth : List Code := if acc != .rw && ! s.authorised who then [.deniedAuth] else []
  (match acc with
    | .ro | .const => [.deniedAccess]
    | .rw => []
    | .rwp => auth ++ (if s.lifecycle == .provision then [] else [.refusedState])
    | .rwh => auth ++ (if s.rwhOk c then [] else [.refusedState])
    | .wo | .rwa => auth)
  ++ (if s.writeMode index sub then [] else [.refusedState])
  ++ (if s.writerThere then [] else [.busy])
  ++ (if p && s.dev.freeze then [.busy] else [])

/-- A refusal: its OP_REFUSED record where it is REFUSED_STATE (R51, R504), and the answer. -/
def State.refuse (s : State) (op : ModeOp) (c : Code) : State :=
  (if c = .refusedState then s.opRefused op else s).answer c

/-- A write of an object: the first refusal under R11 among the class's and the object's own, or the act with its code.
    R15's message to the steward and the TAKE of it pass within the one command (DESIGN CHOICE, log entry 142). -/
def State.objWrite (s : State) (who : Requester) (op : ModeOp) (acc : Access) (p : Bool) (index sub : Nat)
    (c : Option ChanId) (own : List Code) (act : State → State × Code) : State :=
  s.asked who fun s =>
    match Code.first (s.writeRefusals who acc p index sub c ++ own) with
    | some code => s.refuse op code
    | none => let r := act s; r.1.answer r.2

/-! ## Bus errors -/

/-- A bus error of a core (R30, R456): BUSERR and its address, COREkk_BUSERR with one record per core per second. -/
def State.busError (s : State) (k : CoreId) (addr : Nat) (c : Code) : State :=
  let n := satInc 8 (bitsOf (s.core k).busErr.toNat 8 8)
  let s := s.updCore k fun q => { q with busErr := BitVec.ofNat 32 (2 ^ 31 + n * 256 + c.num), busErrAddr := BitVec.ofNat 32 addr }
  s.raiseLog1 (1487 + 2 * k.val) 0 [(1, c.num), (4, addr)]

/-- A register access of a core that came to a state and a code: any code but OK is a bus error, and changes nothing else. -/
def State.busEnd (s : State) (k : CoreId) (addr : Nat) (r : State × Code) : State :=
  if r.2 = .ok then r.1 else s.busError k addr r.2

/-- The core that a half's register commands come from where the command names the half alone: its first control core
(DESIGN CHOICE, log entry 17). -/
def halfCore : Half → CoreId
  | .indigo => 0
  | .amber => 4

/-- A half's access to a register of a block in a power domain, for the steward alone where so said (R19, R30): the act, or a bus
error of the half's core. -/
def State.halfBus (s : State) (h : Half) (addr dom : Nat) (stewardOnly : Bool) (f : State → State) : State :=
  match Code.first ((if s.domOn dom then [] else [.domainOff]) ++ (if stewardOnly && ! s.isSteward h then [.deniedAccess] else [])) with
  | some c => s.busError (halfCore h) addr c
  | none => f s

/-- Is the core a measurement core, a management core (R26). -/
def isMeasCore (k : CoreId) : Bool := decide (10 ≤ k.val)
/-- Is the core a management core (R26). -/
def isMgmtCore (k : CoreId) : Bool := k.val == 8 || k.val == 9

end Sys2Proof.Machine
end

