-- ==== Sys2Proof/Machine/Aes.lean ====
section
/-!
DEFINITION. AES (FIPS 197), the padded key wrap AES-KWP (RFC 5649) of the key vault's WRAP and UNWRAP (R372), and AES-GCM
(SP 800-38D) with which the mirror controller seals DRAM (R115).
-/
namespace Sys2Proof.Machine

/-- Multiplication by x in the field of AES. -/
def aesX (b : Byte) : Byte := if b.getLsbD 7 then (b <<< 1) ^^^ 0x1B else b <<< 1

/-- Multiplication in the field of AES, over the low `n` bits of the second factor. -/
def aesMulN : Nat → Byte → Byte → Byte
  | 0, _, _ => 0
  | n + 1, a, b => (if b.getLsbD 0 then a else 0) ^^^ aesMulN n (aesX a) (b >>> 1)

/-- Multiplication in the field of AES. -/
def aesMul (a b : Byte) : Byte := aesMulN 8 a b

/-- `b` raised to 2^n - 2 for n = 8: the inverse, 0 for 0. -/
def aesInv (b : Byte) : Byte :=
  let b2 := aesMul b b
  let b3 := aesMul b2 b
  let b12 := aesMul (aesMul b3 b3) (aesMul b3 b3)
  let b15 := aesMul b12 b3
  let q (x : Byte) : Byte := aesMul (aesMul x x) (aesMul x x)
  let b240 := q (q b15)
  aesMul (aesMul b240 b12) b2

/-- The S-box. -/
def aesSbox (b : Byte) : Byte :=
  let i := aesInv b
  i ^^^ i.rotateLeft 1 ^^^ i.rotateLeft 2 ^^^ i.rotateLeft 3 ^^^ i.rotateLeft 4 ^^^ 0x63

/-- The inverse S-box. -/
def aesSboxInv (b : Byte) : Byte := aesInv (b.rotateLeft 1 ^^^ b.rotateLeft 3 ^^^ b.rotateLeft 6 ^^^ 0x05)

/-- XOR of two strings of bytes. -/
def xorBytes (a b : List Byte) : List Byte := List.zipWith (fun x y => x ^^^ y) a b

/-- The words of the key schedule, newest first, extended until `n` words stand; `nk` words of key. -/
def aesSchedule (nk : Nat) : Nat → Byte → List (List Byte) → List (List Byte)
  | 0, _, ws => ws
  | n + 1, rcon, ws =>
    let i := ws.length
    let t := ws.headD []
    let t2 := if i % nk = 0 then xorBytes ((t.drop 1 ++ t.take 1).map aesSbox) [rcon, 0, 0, 0]
              else if 6 < nk ∧ i % nk = 4 then t.map aesSbox else t
    aesSchedule nk n (if i % nk = 0 then aesX rcon else rcon) (xorBytes (ws.getD (nk - 1) []) t2 :: ws)

/-- The 4-byte words of a key, newest first. -/
def aesKeyWords : Nat → List Byte → List (List Byte) → List (List Byte)
  | 0, _, ws => ws
  | n + 1, bs, ws => aesKeyWords n (bs.drop 4) (bs.take 4 :: ws)

/-- The round keys in order, 16 bytes each. -/
def aesRoundKeys (key : List Byte) : List (List Byte) :=
  let nk := key.length / 4
  let ws := (aesSchedule nk (4 * (nk + 7) - nk) 1 (aesKeyWords nk key [])).reverse
  (List.range (nk + 7)).map fun r => ((ws.drop (4 * r)).take 4).flatten

/-- ShiftRows by the row's number times `k` columns, state in column order. -/
def aesShift (k : Nat) (s : List Byte) : List Byte :=
  (List.range 16).map fun i => s.getD ((i + 4 * k * (i % 4)) % 16) 0

/-- MixColumns with a row of coefficients. -/
def aesMix (co : List Byte) (s : List Byte) : List Byte :=
  (List.range 16).map fun i =>
    let c := 4 * (i / 4)
    (List.range 4).foldl (fun a j => a ^^^ aesMul (co.getD ((j + 4 - i % 4) % 4) 0) (s.getD (c + j) 0)) 0

/-- One block encrypted under round keys. -/
def aesEnc (rk : List (List Byte)) (blk : List Byte) : List Byte :=
  match rk with
  | [] => blk
  | k0 :: ks =>
    let mid := ks.dropLast
    let s := mid.foldl (fun s k => xorBytes (aesMix [2, 3, 1, 1] (aesShift 1 (s.map aesSbox))) k) (xorBytes blk k0)
    xorBytes (aesShift 1 (s.map aesSbox)) (ks.getLastD [])

/-- One block decrypted under round keys. -/
def aesDec (rk : List (List Byte)) (blk : List Byte) : List Byte :=
  match rk.reverse with
  | [] => blk
  | k0 :: ks =>
    let mid := ks.dropLast
    let s := mid.foldl (fun s k => aesMix [14, 11, 13, 9] (xorBytes ((aesShift 3 s).map aesSboxInv) k)) (xorBytes blk k0)
    xorBytes ((aesShift 3 s).map aesSboxInv) (ks.getLastD [])

/-- One pass of the wrapping process over the semiblocks. -/
def kwpPass (rk : List (List Byte)) : Nat → List Byte → List (List Byte) → List Byte × List (List Byte)
  | _, a, [] => (a, [])
  | t, a, r :: rs =>
    let b := aesEnc rk (a ++ r)
    let q := kwpPass rk (t + 1) (xorBytes (b.take 8) (beBytes 8 t)) rs
    (q.1, b.drop 8 :: q.2)

/-- `n` passes of the wrapping process, the next step's number `t`. -/
def kwpPasses (rk : List (List Byte)) : Nat → Nat → List Byte → List (List Byte) → List Byte × List (List Byte)
  | 0, _, a, rs => (a, rs)
  | n + 1, t, a, rs => let q := kwpPass rk t a rs; kwpPasses rk n (t + rs.length) q.1 q.2

/-- One pass of the unwrapping process, over the semiblocks last first. -/
def kwpBack (rk : List (List Byte)) : Nat → List Byte → List (List Byte) → List Byte × List (List Byte)
  | _, a, [] => (a, [])
  | t, a, r :: rs =>
    let b := aesDec rk (xorBytes a (beBytes 8 t) ++ r)
    let q := kwpBack rk (t - 1) (b.take 8) rs
    (q.1, b.drop 8 :: q.2)

/-- `n` passes of the unwrapping process, the step's number `t` counting down. -/
def kwpBacks (rk : List (List Byte)) : Nat → Nat → List Byte → List (List Byte) → List Byte × List (List Byte)
  | 0, _, a, rs => (a, rs)
  | n + 1, t, a, rs => let q := kwpBack rk t a rs; kwpBacks rk n (t - rs.length) q.1 q.2

/-- A string cut into semiblocks of 8 bytes. -/
def semiblocks : Nat → List Byte → List (List Byte)
  | 0, _ => []
  | n + 1, bs => bs.take 8 :: semiblocks n (bs.drop 8)

/-- AES-KWP of a plaintext (RFC 5649). -/
def kwpWrap (key plain : List Byte) : List Byte :=
  let rk := aesRoundKeys key
  let m := plain.length
  let aiv : List Byte := [0xA6, 0x59, 0x59, 0xA6] ++ beBytes 4 m
  let n := (m + 7) / 8
  let padded := plain ++ List.replicate (8 * n - m) 0
  if n = 1 then aesEnc rk (aiv ++ padded)
  else let q := kwpPasses rk 6 1 aiv (semiblocks n padded); q.1 ++ q.2.flatten

/-- The plaintext of an AES-KWP blob; none where its integrity check fails (RFC 5649). -/
def kwpUnwrap (key blob : List Byte) : Option (List Byte) :=
  let rk := aesRoundKeys key
  let n := blob.length / 8 - 1
  if blob.length % 8 ≠ 0 ∨ n = 0 then none
  else
    let r : List Byte × List Byte :=
      if n = 1 then let b := aesDec rk blob; (b.take 8, b.drop 8)
      else
        let q := kwpBacks rk 6 (6 * n) (blob.take 8) (semiblocks n (blob.drop 8)).reverse
        (q.1, q.2.reverse.flatten)
    let m := beNat (r.1.drop 4)
    if r.1.take 4 = [0xA6, 0x59, 0x59, 0xA6] ∧ 8 * (n - 1) < m ∧ m ≤ 8 * n ∧ (r.2.drop m).all (fun b => b == 0) then
      some (r.2.take m)
    else none

/-! ## AES-GCM -/

/-- Multiplication in the field of GHASH, bit 0 the most significant: over the `n` bits of the first factor still to come. -/
def ghashStep : Nat → BitVec 128 → BitVec 128 → BitVec 128 → BitVec 128
  | 0, _, _, z => z
  | n + 1, x, v, z =>
    let next := v >>> 1
    ghashStep n (x <<< 1) (if v.getLsbD 0 then next ^^^ (0xE1 <<< 120) else next) (if x.getLsbD 127 then z ^^^ v else z)

/-- GHASH over whole blocks of 16 bytes under the subkey `k`. -/
def ghash (k : BitVec 128) : Nat → List Byte → BitVec 128 → BitVec 128
  | 0, _, y => y
  | n + 1, bs, y => ghash k n (bs.drop 16) (ghashStep 128 (y ^^^ BitVec.ofNat 128 (beNat (bs.take 16))) k 0)

/-- Bytes filled up with zeros to whole blocks. -/
def padBlocks (bs : List Byte) : List Byte := bs ++ List.replicate ((16 - bs.length % 16) % 16) 0

/-- The key stream of `n` blocks from a counter on. -/
def gcmStream (rk : List (List Byte)) (nonce : List Byte) (start n : Nat) : List Byte :=
  (List.range n).flatMap fun i => aesEnc rk (nonce ++ beBytes 4 (start + i))

/-- Ciphertext and 16-byte tag of a plaintext under a key, a nonce of 12 bytes and additional data. -/
def gcmSealWith (aad key nonce plain : List Byte) : List Byte × List Byte :=
  let rk := aesRoundKeys key
  let text := xorBytes plain (gcmStream rk nonce 2 ((plain.length + 15) / 16))
  let sub := BitVec.ofNat 128 (beNat (aesEnc rk (List.replicate 16 0)))
  let blocks := padBlocks aad ++ padBlocks text ++ beBytes 8 (8 * aad.length) ++ beBytes 8 (8 * text.length)
  (text, xorBytes (beBytes 16 (ghash sub (blocks.length / 16) blocks 0).toNat) (gcmStream rk nonce 1 1))

/-- The same without additional data. -/
def gcmSeal (key nonce plain : List Byte) : List Byte × List Byte := gcmSealWith [] key nonce plain

end Sys2Proof.Machine
end

