-- ==== Sys2Proof/Machine/Keccak.lean ====
section
/-!
DEFINITION. The Keccak-f[1600] permutation and the byte sponge of the big-number engine (R434, FIPS 202). A lane x, y stands at
index x + 5 y.
-/
namespace Sys2Proof.Machine

/-- The round constants of iota. -/
def keccakRC : List DWord :=
  [0x0000000000000001, 0x0000000000008082, 0x800000000000808A, 0x8000000080008000, 0x000000000000808B,
   0x0000000080000001, 0x8000000080008081, 0x8000000000008009, 0x000000000000008A, 0x0000000000000088,
   0x0000000080008009, 0x000000008000000A] ++
  [0x000000008000808B, 0x800000000000008B, 0x8000000000008089, 0x8000000000008003, 0x8000000000008002,
   0x8000000000000080, 0x000000000000800A, 0x800000008000000A, 0x8000000080008081, 0x8000000000008080,
   0x0000000080000001, 0x8000000080008008]

/-- The rotation of rho for the lane at each index. -/
def keccakRot : Vector Nat 25 :=
  #v[0, 1, 62, 28, 27, 36, 44, 6, 55, 20, 3, 10, 43, 25, 39, 41, 45, 15, 21, 8, 18, 2, 61, 56, 14]

/-- An index below 25. -/
def ix25 (n : Nat) : Fin 25 := ⟨n % 25, Nat.mod_lt _ (by decide)⟩

/-- The lane at column x and row y, both modulo 5. -/
def laneAt (a : Vector DWord 25) (x y : Nat) : DWord := a[ix25 (x % 5 + 5 * (y % 5))]

/-- theta. -/
def keccakTheta (a : Vector DWord 25) : Vector DWord 25 :=
  let c : Nat → DWord := fun x => laneAt a x 0 ^^^ laneAt a x 1 ^^^ laneAt a x 2 ^^^ laneAt a x 3 ^^^ laneAt a x 4
  Vector.ofFn fun i : Fin 25 => a[i] ^^^ c ((i.val + 4) % 5) ^^^ (c ((i.val + 1) % 5)).rotateLeft 1

/-- rho and pi: the lane at (x, y) goes, rotated, to (y, 2x + 3y). -/
def keccakRhoPi (a : Vector DWord 25) : Vector DWord 25 :=
  Vector.ofFn fun i : Fin 25 =>
    let x := i.val % 5
    let y := i.val / 5
    let j := ix25 ((x + 3 * y) % 5 + 5 * x)
    a[j].rotateLeft keccakRot[j]

/-- chi. -/
def keccakChi (a : Vector DWord 25) : Vector DWord 25 :=
  Vector.ofFn fun i : Fin 25 =>
    a[i] ^^^ ((~~~ laneAt a (i.val % 5 + 1) (i.val / 5)) &&& laneAt a (i.val % 5 + 2) (i.val / 5))

/-- One round. -/
def keccakRound (a : Vector DWord 25) (rc : DWord) : Vector DWord 25 :=
  vupd (keccakChi (keccakRhoPi (keccakTheta a))) 0 fun v => v ^^^ rc

/-- Keccak-f[1600]. -/
def keccakF (a : Vector DWord 25) : Vector DWord 25 := keccakRC.foldl keccakRound a

/-- A sponge right after INIT. -/
def Sponge.init (k : SpongeKind) : Sponge := ⟨Vector.replicate 25 0, k, 0, false⟩

/-- XORs a byte into the state at byte position `p`. -/
def Sponge.xorByte (l : Vector DWord 25) (p : Nat) (b : Byte) : Vector DWord 25 :=
  vupd l (ix25 (p / 8)) fun v => v ^^^ (BitVec.ofNat 64 b.toNat <<< (8 * (p % 8)))

/-- The byte of the state at position `p`. -/
def Sponge.byteAt (l : Vector DWord 25) (p : Nat) : Byte := BitVec.ofNat 8 (l[ix25 (p / 8)] >>> (8 * (p % 8))).toNat

/-- Absorbs one byte; a full rate runs the permutation. -/
def Sponge.absorb1 (s : Sponge) (b : Byte) : Sponge :=
  let l := Sponge.xorByte s.lanes s.pos b
  if s.pos + 1 = s.kind.rate then { s with lanes := keccakF l, pos := 0 } else { s with lanes := l, pos := s.pos + 1 }

/-- Absorbs bytes. -/
def Sponge.absorb (s : Sponge) (bs : List Byte) : Sponge := bs.foldl Sponge.absorb1 s

/-- Pads for SHAKE (suffix 1111, then pad10*1) and turns to output (FIPS 202). -/
def Sponge.finish (s : Sponge) : Sponge :=
  if s.squeezing then s
  else
    let l := Sponge.xorByte (Sponge.xorByte s.lanes s.pos 0x1F) (s.kind.rate - 1) 0x80
    { s with lanes := keccakF l, pos := 0, squeezing := true }

/-- One byte of output. -/
def Sponge.squeeze1 (s : Sponge) : Byte × Sponge :=
  let s := if s.pos = s.kind.rate then { s with lanes := keccakF s.lanes, pos := 0 } else s
  (Sponge.byteAt s.lanes s.pos, { s with pos := s.pos + 1 })

/-- `n` bytes of output. -/
def Sponge.squeeze (s : Sponge) : Nat → List Byte × Sponge
  | 0 => ([], s)
  | n + 1 =>
    let r := s.squeeze1
    let q := Sponge.squeeze r.2 n
    (r.1 :: q.1, q.2)

/-- SHAKE128 of `n` bytes (FIPS 202). -/
def shake128 (bs : List Byte) (n : Nat) : List Byte := (((Sponge.init .shake128).absorb bs).finish.squeeze n).1

/-- SHAKE256 of `n` bytes (FIPS 202). -/
def shake256 (bs : List Byte) (n : Nat) : List Byte := (((Sponge.init .shake256).absorb bs).finish.squeeze n).1

/-- The permutations that squeezing `n` bytes from a position takes, the one of the padding included (R433). -/
def Sponge.perms (s : Sponge) (n : Nat) : Nat :=
  let s1 := s.finish
  (if s.squeezing then 0 else 1) + (s1.pos + n - 1) / s.kind.rate

end Sys2Proof.Machine
end

