-- ==== Sys2Proof/Machine/Sha2.lean ====
section
/-!
DEFINITION. SHA-384 (FIPS 180-4), the digest of every leaf, root, certificate and measurement (R182, R479), HMAC-SHA-384 and
HKDF (R372), and the Merkle tree of an image (R179).
-/
namespace Sys2Proof.Machine

/-- The 80 round constants of SHA-512, six to a number with the first on top; the last number holds two. -/
def sha512Packed : List Nat :=
  [0x428a2f98d728ae227137449123ef65cdb5c0fbcfec4d3b2fe9b5dba58189dbbc3956c25bf348b53859f111f1b605d019,
   0x923f82a4af194f9bab1c5ed5da6d8118d807aa98a303024212835b0145706fbe243185be4ee4b28c550c7dc3d5ffb4e2,
   0x72be5d74f27b896f80deb1fe3b1696b19bdc06a725c71235c19bf174cf692694e49b69c19ef14ad2efbe4786384f25e3,
   0x0fc19dc68b8cd5b5240ca1cc77ac9c652de92c6f592b02754a7484aa6ea6e4835cb0a9dcbd41fbd476f988da831153b5,
   0x983e5152ee66dfaba831c66d2db43210b00327c898fb213fbf597fc7beef0ee4c6e00bf33da88fc2d5a79147930aa725,
   0x06ca6351e003826f142929670a0e6e7027b70a8546d22ffc2e1b21385c26c9264d2c6dfc5ac42aed53380d139d95b3df,
   0x650a73548baf63de766a0abb3c77b2a881c2c92e47edaee692722c851482353ba2bfe8a14cf10364a81a664bbc423001,
   0xc24b8b70d0f89791c76c51a30654be30d192e819d6ef5218d69906245565a910f40e35855771202a106aa07032bbd1b8,
   0x19a4c116b8d2d0c81e376c085141ab532748774cdf8eeb9934b0bcb5e19b48a8391c0cb3c5c95a634ed8aa4ae3418acb,
   0x5b9cca4f7763e373682e6ff3d6b2b8a3748f82ee5defb2fc78a5636f43172f6084c87814a1f0ab728cc702081a6439ec,
   0x90befffa23631e28a4506cebde82bde9bef9a3f7b2c67915c67178f2e372532bca273eceea26619cd186b8c721c0c207,
   0xeada7dd6cde0eb1ef57d4f7fee6ed17806f067aa72176fba0a637dc5a2c898a6113f9804bef90dae1b710b35131c471b,
   0x28db77f523047d8432caab7b40c724933c9ebe0a15c9bebc431d67c49c100d4c4cc5d4becb3e42b6597f299cfc657e2a]

/-- The words of a packed number, the first on top. -/
def unpackWords (x : Nat) : Nat → List DWord
  | 0 => []
  | n + 1 => BitVec.ofNat 64 (x >>> (64 * n)) :: unpackWords x n

/-- The round constants, in order. -/
def sha512K : List DWord :=
  (sha512Packed.flatMap fun x => unpackWords x 6) ++ unpackWords 0x5fcb6fab3ad6faec6c44198c4a475817 2

/-- The working variables as two histories, newest first: the last four values of *a* (then *a, b, c, d*) and of *e* (*e, f, g, h*). -/
structure ShaState where
  newA : List DWord
  newE : List DWord
  deriving DecidableEq, Repr

/-- The initial hash value of SHA-384. -/
def sha384IV : ShaState :=
  ⟨unpackWords 0xcbbb9d5dc1059ed8629a292a367cd5079159015a3070dd17152fecd8f70e5939 4,
   unpackWords 0x67332667ffc00b318eb44a8768581511db0c2e0d64f98fa747b5481dbefa4fa4 4⟩

/-- The exclusive or of a word's right rotations. -/
def rotations (x : DWord) (turns : List Nat) : DWord := turns.foldl (fun acc n => acc ^^^ x.rotateRight n) 0

/-- Where a bit of `x` is set, `y`'s bit, else `z`'s. -/
def pickBits (x y z : DWord) : DWord := z ^^^ (x &&& (y ^^^ z))

/-- The bit that two of three words agree on. -/
def mostBits (x y z : DWord) : DWord := (x &&& (y ||| z)) ||| (y &&& z)

/-- One round with its constant plus message word: each history gains a value and drops its oldest. -/
def shaRound (s : ShaState) (kw : DWord) : ShaState :=
  match s.newA, s.newE with
  | [p, q, r, old], [u, v, w, last] =>
    let mixed := last + kw + pickBits u v w + rotations u [14, 18, 41]
    ⟨[mixed + mostBits p q r + rotations p [28, 34, 39], p, q, r], [old + mixed, u, v, w]⟩
  | _, _ => s

/-- The word that the schedule adds behind a window of 16: from its words 0, 1, 9 and 14. -/
def shaNext (win : List DWord) : DWord :=
  let low := win.getD 1 0
  let high := win.getD 14 0
  win.getD 0 0 + win.getD 9 0 + (rotations low [1, 8] ^^^ (low >>> 7)) + (rotations high [19, 61] ^^^ (high >>> 6))

/-- Rounds, one for each constant, with the message schedule as a window of its next 16 words. -/
def shaRounds : List DWord → List DWord → ShaState → ShaState
  | [], _, s => s
  | k :: ks, win, s => shaRounds ks (win.drop 1 ++ [shaNext win]) (shaRound s (k + win.getD 0 0))

/-- One block of 128 bytes, its words most significant byte first. -/
def shaBlock (s : ShaState) (block : List Byte) : ShaState :=
  let t := shaRounds sha512K (unpackWords (beNat block) 16) s
  ⟨List.zipWith (fun x y => x + y) s.newA t.newA, List.zipWith (fun x y => x + y) s.newE t.newE⟩

/-- As many blocks of 128 bytes as the number says. -/
def shaBlocks : Nat → List Byte → ShaState → ShaState
  | 0, _, s => s
  | n + 1, bs, s => shaBlocks n (bs.drop 128) (shaBlock s (bs.take 128))

/-- The padded message: 0x80, zeros, and the length in bits as 16 bytes. -/
def shaPad (bs : List Byte) : List Byte :=
  bs ++ [0x80] ++ List.replicate ((239 - bs.length % 128) % 128) 0 ++ beBytes 16 (8 * bs.length)

/-- SHA-384 of a byte string: six of the eight words that stand at the end. -/
def sha384 (bs : List Byte) : Digest :=
  let p := shaPad bs
  let s := shaBlocks (p.length / 128) p sha384IV
  (s.newA ++ s.newE.take 2).foldl (fun (d : Digest) w => (d <<< 64) ||| w.setWidth 384) 0

/-- The bytes of a SHA-384. -/
def sha384Bytes (bs : List Byte) : List Byte := digestBytes (sha384 bs)

/-- HMAC-SHA-384 (FIPS 198-1). -/
def hmac384 (key msg : List Byte) : List Byte :=
  let short := if 128 < key.length then sha384Bytes key else key
  let masked (m : Byte) : List Byte := (List.range 128).map fun i => short.getD i 0 ^^^ m
  sha384Bytes (masked 0x5C ++ sha384Bytes (masked 0x36 ++ msg))

end Sys2Proof.Machine
end

