-- ==== Sys2Proof/Machine/Personality.lean ====
section
/-!
DEFINITION. The personality reset of a channel (R79, R169) and the effective wait's default fields: shared by the host commands
and by the release of an output.
-/
namespace Sys2Proof.Machine

/-- Does the channel's policy open a native window at a personality reset (R73: LEARN and NATIVE do). -/
def Chan.opensNative (ch : Chan) : Bool :=
  match TimingPolicy.ofCode ch.desc.policy with
  | .advertised => false
  | _ => true

/-- A write in flight at a personality reset (R169): a JOURNALED one runs on to completion, resumed where it was suspended;
any other ends at once. -/
def WeirOp.atReset (now : Nat) (o : WeirOp) : Option WeirOp :=
  match o.phase with
  | .timed => none
  | .running =>
    some { o with hostSusp := false, suspLat := none, afterReset := true,
                  deadline := if o.hostSusp ∧ ! o.deviceSusp then now else o.deadline }
  | _ => some { o with hostSusp := false, suspLat := none, afterReset := true }

/-- The quad-enable bit as captured in probing, where the SFDP defines one (R77, R79). -/
def Chan.powerOnQuad (ch : Chan) : Bool :=
  match ch.info.bind fun i => i.quadBit with
  | some (op, b) => (ch.regs.getD op.toNat 0).getLsbD b.val
  | none => false

/-- The emulated state returned to the real part's power-on state (R79, R169). -/
def Chan.personalityReset (now : Nat) (ch : Chan) : Chan :=
  let op := ch.op.bind (WeirOp.atReset now)
  let inner := ch.inner.bind (WeirOp.atReset now)
  { ch with protocol := .p1S, addr4 := (ch.info.map fun i => i.fourByteOnly).getD false, waitField := none, emuRegs := [], contRead := false, wel := false,
            dpd := false, native := ch.opensNative, quadEnable := ch.powerOnQuad,
            progErr := false, eraseErr := false, suspended := false, resetArmed := false, sckRaised := false,
            trace := [], missTrace := [], op := op, inner := inner, wip := op.isSome || inner.isSome }

/-- The runs of a list of leaves: start and length, in order (R224). -/
def leafRuns : List Nat → List (Nat × Nat)
  | [] => []
  | l :: ls =>
    match leafRuns ls with
    | (a, n) :: rs => if a = l + 1 then (l, n + 1) :: rs else (l, 1) :: (a, n) :: rs
    | [] => [(l, 1)]

/-- A trace entry of a channel in at most `room` bytes (R224): cut at the last whole run and marked where it does not fit. -/
def traceEntry (room : Nat) (t : ChanId × List Nat) : List Byte :=
  let runs := leafRuns t.2
  let fit := runs.take ((room - 4) / 4)
  if room < 4 then []
  else leBytes 1 t.1.val ++ leBytes 1 (b2n (fit.length < runs.length)) ++ leBytes 2 fit.length
    ++ fit.flatMap fun r => leBytes 2 r.1 ++ leBytes 2 r.2

/-- The entries of a boot slot in at most `room` bytes, with their count. -/
def traceEntries : Nat → List (ChanId × List Nat) → List Byte × Nat
  | _, [] => ([], 0)
  | room, t :: ts =>
    let e := traceEntry room t
    let r := traceEntries (room - e.length) ts
    (e ++ r.1, (if e.isEmpty then 0 else 1) + r.2)

/-- The bytes of a boot slot (R224); the CRC-32C covers the 12 header bytes before it and the entries (DESIGN CHOICE, log
entry 22). -/
def traceSlot (boot : Nat) (ts : List (ChanId × List Nat)) : List Byte :=
  let e := traceEntries (49152 - 16) ts
  let h := leBytes 4 boot ++ leBytes 2 e.2 ++ leBytes 6 0
  h ++ leBytes 4 (crc32c (h ++ e.1)).toNat ++ e.1

/-- The first byte of a boot's slot in the trace area (R220, R224): the four rotate. -/
def traceBase (boot : Nat) : Nat := 0x50000 + 0xC000 * (boot % 4)

/-- Writes this boot's slot (R224); not in a freeze, in which no eFlash program begins (R229). -/
def State.writeTraces (s : State) : State :=
  if s.dev.freeze then s
  else
    let a := traceBase s.upd.traceBoot
    (s.erase a 0xC000).store a (traceSlot s.upd.traceBoot s.upd.bootTraces)

/-- The leaves recorded for a channel in this boot and the three before it, newest boot first (R142, R224). -/
def State.bootLeaves (s : State) (c : ChanId) : List (List Nat) :=
  (s.upd.bootTraces :: s.upd.traces).map fun b => ((b.find? fun t => t.1 == c).map fun t => t.2).getD []

/-- The leaves that R143 admits to a channel's pin list, in its order, before the budget. -/
def State.pinAdmits (s : State) (c : ChanId) : List Nat :=
  let boots := s.bootLeaves c
  let all := boots.flatten.eraseDups
  let twice := all.filter fun l => decide (2 ≤ (boots.filter fun b => b.contains l).length)
  (twice ++ (s.chan c).missTrace ++ all).eraseDups

/-- A channel's pinning budget (R143, R268). -/
def State.pinBudget (s : State) (c : ChanId) : Nat := min 512 (s.pnat 0x0420 (c.val + 1) 64)

/-- The Allotter builds the pin list for the channel's next fill (R143, R268). -/
def State.buildPins (s : State) (c : ChanId) : State :=
  let ls := s.pinAdmits c
  let n := s.pinBudget c
  let s := s.updChan c fun ch => { ch with pinNext := ls.take n }
  if n < ls.length then s.raiseLog 1086 [(1, c.val)] else s

/-- The record of the native window closes: mission firmware keeps it for this boot (R142), and the next pin list is built
(R268). -/
def State.closeTrace (s : State) (c : ChanId) : State :=
  let ch := s.chan c
  if ch.trace.isEmpty then s
  else
    let rest := s.upd.bootTraces.filter fun t => t.1 != c
    let s := { s with upd := { s.upd with bootTraces := rest ++ [(c, ch.trace)] } }
    (s.updChan c fun ch => { ch with trace := [] }).writeTraces.buildPins c

/-- A personality reset of a channel (R79): the open window's record closes, the emulated state returns, HOST_RESET is raised. -/
def State.personalityReset (s : State) (c : ChanId) : State :=
  let s := (s.closeTrace c).updChan c (Chan.personalityReset s.time)
  s.raiseLog (portEvent c.port 14) [(1, c.cs.val), (1, c.val)]

end Sys2Proof.Machine
end

