-- ==== Sys2Proof/Machine/Headgate.lean ====
section
/-!
DEFINITION. The Headgate (R306-R321, R333, R335, R578): assertion and release of hold outputs, the release conditions, sense
inputs, load sensing, verdicts and grants.
-/
namespace Sys2Proof.Machine

/-! ## Assertion -/

/-- The channels bound to output `h`: those in its active plan entry, and those whose cached descriptors name it. -/
def State.boundChans (s : State) (h : OutId) : List ChanId :=
  (List.finRange 64).filter fun c =>
    (s.hg.planActive[h]).chanMask.getLsbD c.val || (s.chan c).output == some h

/-- Clears both halves' verdicts for a channel (R44). -/
def State.clearVerdicts (s : State) (c : ChanId) : State :=
  { s with hg := { s.hg with verdicts := ⟨vset s.hg.verdicts.indigo c none, vset s.hg.verdicts.amber c none⟩ } }

/-- The verification of a channel that a half starts (R196, R197): in place of one it has for the same channel. -/
def freshVer (t : Target) (k : VerKind) (gen : Nat) (container : List Byte) : Verification :=
  { target := t, kind := k, gen := gen, container := container, stage := 1, failed := none, digests := [], root := none, result := none }

/-- Both halves start a verification of a target (R196). -/
def State.startVer (s : State) (t : Target) (k : VerKind) (gen : Nat) (container : List Byte) : State :=
  let put (l : List Verification) : List Verification := (l.filter fun v => v.target != t) ++ [freshVer t k gen container]
  { s with upd := { s.upd with vers := ⟨put s.upd.vers.indigo, put s.upd.vers.amber⟩ } }

/-- Both halves start to verify a channel that names a manifest: a fill where it is FILLING, else a re-confirmation (R44). -/
def State.verifyChan (s : State) (c : ChanId) : State :=
  let ch := s.chan c
  if ch.desc.manifestRef = 0 then s
  else s.startVer (.chan c) (if ch.state = .filling then .fill else .reconfirm) ch.gen []

/-- The channel's own change when its bound output asserts (R41): RELEASED to HELD, and REPAIRING to QUARANTINED where no
source was found. -/
def State.chanAsserted (s : State) (c : ChanId) : State :=
  match (s.chan c).state with
  | .released => (s.setChan c .held).verifyChan c
  | .repairing => if (s.chan c).noSourceAt.isSome then s.setChan c .quarantined else s
  | _ => s

/-- HG_OUThh with its log record: the change (0 asserted, 1 released, 2 load class, 3 sense timeout) and the cause (R335). -/
def State.outEvent (s : State) (h : OutId) (change cause : Nat) : State :=
  s.raiseLog (1136 + h.val) [(1, change), (1, cause)]

/-- One released output asserts (R317): verdicts and grants cleared, bound channels follow, the event is raised. -/
def State.assertOne (s : State) (cause : Nat) (h : OutId) : State :=
  if ! s.outReleased h then s
  else
    let cs := s.boundChans h
    let s := { s with hg := { s.hg with
      out := putBit s.hg.out h.val false, assertAt := vset s.hg.assertAt h s.time,
      grants := ⟨putBit s.hg.grants.indigo h.val false, putBit s.hg.grants.amber h.val false⟩ } }
    let s := cs.foldl (fun s c => (s.clearVerdicts c).chanAsserted c) s
    s.outEvent h 0 cause

/-- The released outputs with hold_with_pred that have a predecessor in the set (R318). -/
def State.predFollowers (s : State) (set : DWord) : DWord :=
  (List.finRange 64).foldl (fun m h =>
    let e := s.hg.planActive[h]
    if s.outReleased h ∧ e.holdWithPred ∧ e.predMask &&& set ≠ 0 then putBit m h.val true else m) set

/-- The set closed under hold_with_pred, at most 64 links deep (R318: all in the same AON clock cycle). -/
def State.assertClosure (s : State) : Nat → DWord → DWord
  | 0, set => set
  | n + 1, set => State.assertClosure s n (s.predFollowers set)

/-- Asserts the outputs of a set with a cause, and in the same cycle those that hold_with_pred ties to them, with cause 9. -/
def State.assertSet (s : State) (set : DWord) (cause : Nat) : State :=
  let all := s.assertClosure 64 set
  (finBits all).foldl (fun s h => s.assertOne (if set.getLsbD h.val then cause else 9) h) s

/-- Asserts every hold output (R308). -/
def State.assertAll (s : State) (cause : Nat) : State := s.assertSet (BitVec.allOnes 64) cause

/-- HG_PUEN driven low, every hold output asserted with it (R308). -/
def State.puenLow (s : State) : State :=
  let s := s.assertAll 1
  { s with hg := { s.hg with puen := false, puenSettled := false, loadSensing := false } }

/-! ## Release conditions -/

/-- The reading of a sense input (R312). -/
def State.senseReading (s : State) (i : SenseId) : Bool := (s.hg.senseLevel ^^^ s.hg.senseInvert).getLsbD i.val

/-- Is the condition on input `i` of a plan entry met. -/
def State.senseMet (s : State) (e : PlanEntry) (i : SenseId) : Bool := s.senseReading i == e.senseLevel.getLsbD i.val

/-- Every sense condition has held for settle_ms without a break (R316 cause 10). -/
def State.senseHeld (s : State) (e : PlanEntry) : Bool :=
  (finBits e.senseMask).all fun i =>
    s.senseMet e i && decide (s.hg.senseSince[i] + e.settleMs.toNat * msNs ≤ s.time)

/-- Both halves' verdicts release the channel (R18, R43, R103): code OK, one root, the generation the port has cached, and no
reload pending. -/
def State.verdictsRelease (s : State) (c : ChanId) : Bool :=
  match (s.hg.verdicts.indigo)[c], (s.hg.verdicts.amber)[c] with
  | some a, some b =>
    a.code == 0 && b.code == 0 && a.root == b.root && decide (a.gen.toNat = (s.chan c).gen)
    && decide (b.gen.toNat = (s.chan c).gen) && (s.chan c).staged.isNone
  | _, _ => false

/-- The mask of the channels whose cached descriptors name `h` (R316 cause 6). -/
def State.namingChans (s : State) (h : OutId) : DWord :=
  (List.finRange 64).foldl (fun m c => if (s.chan c).output == some h then putBit m c.val true else m) 0

/-- Every predecessor is released, before this instant, and the delay has elapsed (R313, R316 cause 9). -/
def State.predsDone (s : State) (e : PlanEntry) : Bool :=
  let ps := finBits e.predMask
  let base := ps.foldl (fun t j => max t s.hg.relAt[j]) (if ps.isEmpty then s.hg.holdAt else 0)
  ps.all (fun j => s.outReleased j && decide (s.hg.relAt[j] < s.time))
  && decide (base + e.delayMs.toNat * msNs ≤ s.time)

/-- The release conditions of R316 in the order of their causes, each with its truth. -/
def State.conditions (s : State) (h : OutId) : List (Nat × Bool) :=
  let e := s.hg.planActive[h]
  [(1, s.dev.mode.running && s.hg.planRun && ! s.hg.warm && s.hg.steward.isSome && ! s.dev.dormantSeq),
   (2, s.hg.puenSettled),
   (3, e.used),
   (4, s.hg.loadClass[h] == .pulled || e.ignoreLoad),
   (5, ! s.hg.holds.indigo.getLsbD h.val && ! s.hg.holds.amber.getLsbD h.val && ! s.hg.senseLoss.getLsbD h.val),
   (6, s.namingChans h == e.chanMask),
   (7, (finBits e.chanMask).all fun c =>
        ((s.chan c).state == .held || (s.chan c).state == .updating || (s.chan c).state == .repairing)
        && s.verdictsRelease c),
   (8, e.chanMask != 0 || (s.hg.grants.indigo.getLsbD h.val && s.hg.grants.amber.getLsbD h.val)),
   (9, s.predsDone e),
   (10, s.senseHeld e)]

/-- HEADGATE.HOLD_CAUSE of an output: 0 when released, else the lowest cause unmet; 1 where none is, the next edge not yet
having come (R316, R331). -/
def State.holdCause (s : State) (h : OutId) : Nat :=
  if s.outReleased h then 0
  else (((s.conditions h).find? fun p => ! p.2).map fun p => p.1).getD 1

/-- Does every release condition hold. -/
def State.mayRelease (s : State) (h : OutId) : Bool := ! s.outReleased h && (s.conditions h).all fun p => p.2

/-- A channel bound to an output that releases: HELD to RELEASED, with a personality reset (R41, R79). -/
def State.chanReleased (s : State) (c : ChanId) : State :=
  let s := s.personalityReset c
  if (s.chan c).state = .held then s.setChan c .released else s

/-- The output releases (R316); the first release since entry to HOLD moves the mode to GUARD (R34 cause 4). -/
def State.releaseOne (s : State) (h : OutId) : State :=
  let s := { s with hg := { s.hg with
    out := putBit s.hg.out h.val true, relAt := vset s.hg.relAt h s.time, timedOut := putBit s.hg.timedOut h.val false } }
  let s := (finBits (s.hg.planActive[h]).chanMask).foldl State.chanReleased s
  let s := s.outEvent h 1 0
  if s.dev.mode = .hold then s.setMode .guard 4 else s

/-- HOLD_OUTPUT_RELEASE (R316): an AON edge at which output `h` is evaluated. -/
def execHoldOutputRelease (h : OutId) (s : State) : Host.Outcome State Fault Refusal :=
  .next (if s.mayRelease h then s.releaseOne h else s)

/-! ## Holds and grants -/

/-- A half sets its hold bit for `h` (R317): the output asserts at once. -/
def State.holdSet (s : State) (half : Half) (h : OutId) : State :=
  let s := { s with hg := { s.hg with holds := s.hg.holds.upd half fun m => putBit m h.val true } }
  s.assertSet (bitMask 64 h.val) 5

/-- A half clears its hold bit for `h`. -/
def State.holdClear (s : State) (half : Half) (h : OutId) : State :=
  { s with hg := { s.hg with holds := s.hg.holds.upd half fun m => putBit m h.val false } }

/-- A half writes its hold bit; ignored during a warm restart (R37). -/
def State.holdWrite (s : State) (half : Half) (h : OutId) (set : Bool) : State :=
  if s.hg.warm then s else if set then s.holdSet half h else s.holdClear half h

/-- HOLD_REQUEST (R317); refused in RECOVER and SERVICE (R51). -/
def execHoldRequest (half : Half) (h : OutId) (set : Bool) (s : State) : Host.Outcome State Fault Refusal :=
  .next (if s.dev.mode = .recover ∨ s.dev.mode = .service then s.opRefused .hold else s.holdWrite half h set)

/-- The conditions under which a half sets its grant bit (R578). -/
def State.mayGrant (s : State) (half : Half) (h : OutId) : Bool :=
  let e := s.hg.planActive[h]
  e.used && e.chanMask == 0 && s.dev.mode.running && ! s.hg.warm && (s.hg.planGen.get half == s.hg.planActiveGen)
  && ! (s.hg.holds.get half).getLsbD h.val

/-- GRANT_WRITE (R578). -/
def execGrantWrite (half : Half) (h : OutId) (s : State) : Host.Outcome State Fault Refusal :=
  .next (if s.mayGrant half h then
    { s with hg := { s.hg with grants := s.hg.grants.upd half fun m => putBit m h.val true } } else s)

/-! ## Sense inputs -/

/-- SENSE_INVERT is set (R312, R333): an input whose reading changes with it begins its settle time anew (R316). -/
def State.setInvert (s : State) (v : Word) : State :=
  let since := Vector.ofFn fun i : SenseId => if (v ^^^ s.hg.senseInvert).getLsbD i.val then s.time else s.hg.senseSince[i]
  { s with hg := { s.hg with senseInvert := v, senseSince := since } }

/-- The log source of a sense input's records, one a second (R312). -/
def senseSource (i : SenseId) : Nat := 0x5E000000 + i.val

/-- A change of a filtered level (R312): the reading's settle time starts anew and HG_INss is raised. -/
def State.senseChange (s : State) (i : SenseId) (level : Bool) : State :=
  if s.hg.senseLevel.getLsbD i.val = level then s
  else
    let s := { s with hg := { s.hg with senseLevel := putBit s.hg.senseLevel i.val level,
                                        senseSince := vset s.hg.senseSince i s.time } }
    (s.raise (1200 + i.val)).logLimited 1 (senseSource i) .event (1200 + i.val) 0 [(1, i.val), (1, b2n level)]

/-- SENSE_INPUT_CHANGE (R312). -/
def execSenseInputChange (i : SenseId) (level : Bool) (s : State) : Host.Outcome State Fault Refusal :=
  .next (s.senseChange i level)

/-- When the first unmet condition of an entry will have been unmet for settle_ms; none where all are met (R318). -/
def State.senseUnmetAt (s : State) (e : PlanEntry) : Option Nat :=
  (finBits e.senseMask).foldl (fun t i =>
    if s.senseMet e i then t
    else match t with
      | none => some (s.hg.senseSince[i] + e.settleMs.toNat * msNs)
      | some u => some (min u (s.hg.senseSince[i] + e.settleMs.toNat * msNs))) none

/-- When the conditions of an entry will all have held for settle_ms; none where one is unmet. -/
def State.senseMetAt (s : State) (e : PlanEntry) : Option Nat :=
  if (finBits e.senseMask).all (fun i => s.senseMet e i) then
    some ((finBits e.senseMask).foldl (fun t i => max t (s.hg.senseSince[i] + e.settleMs.toNat * msNs)) 0)
  else none

/-- A condition of a released output with hold_on_sense_loss has been unmet for settle_ms (R318): it asserts and latches. -/
def State.senseLoss (s : State) (h : OutId) : State :=
  let e := s.hg.planActive[h]
  if ! s.outReleased h || ! e.holdOnSenseLoss then s
  else match s.senseUnmetAt e with
    | none => s
    | some t =>
      let s := s.advanceTo t
      let s := { s with hg := { s.hg with senseLoss := putBit s.hg.senseLoss h.val true } }
      s.assertSet (bitMask 64 h.val) 5

/-- SENSE_LOSS_HOLD (R318). -/
def execSenseLossHold (h : OutId) (s : State) : Host.Outcome State Fault Refusal := .next (s.senseLoss h)

/-- The conditions have held again for settle_ms (R318): the latch clears. -/
def State.senseLossClear (s : State) (h : OutId) : State :=
  match s.senseMetAt s.hg.planActive[h] with
  | none => s
  | some t =>
    let s := s.advanceTo t
    { s with hg := { s.hg with senseLoss := putBit s.hg.senseLoss h.val false } }

/-- SENSE_LOSS_LATCH_CLEAR (R318). -/
def execSenseLossLatchClear (h : OutId) (s : State) : Host.Outcome State Fault Refusal := .next (s.senseLossClear h)

/-- Output `h` has waited on cause 10 alone past sense_timeout_ms (R316): HG_OUThh once for this wait. -/
def State.senseTimeout (s : State) (h : OutId) : State :=
  let e := s.hg.planActive[h]
  let alone : List Nat := ((s.conditions h).filter fun p => ! p.2).map fun p => p.1
  if s.outReleased h ∨ alone ≠ [10] ∨ e.senseTimeoutMs = 0 ∨ s.hg.timedOut.getLsbD h.val then s
  else
    let s := { s with hg := { s.hg with timedOut := putBit s.hg.timedOut h.val true } }
    s.outEvent h 3 10

/-- SENSE_TIMEOUT (R316). -/
def execSenseTimeout (h : OutId) (s : State) : Host.Outcome State Fault Refusal := .next (s.senseTimeout h)

/-! ## Entry to HOLD, load sensing, the release supply -/

/-- Entry to HOLD (R309): delays without a predecessor run from here; load sensing runs with HG_PUEN still low. -/
def State.enterHold (s : State) : State :=
  { s with hg := { s.hg with holdAt := s.time, puen := false, puenSettled := false, loadSensing := true,
                             loadSensed := false } }

/-- The class of a net that read high or low in steps 1, 2 and 3 (R310). -/
def loadClassOf (high1 high2 high3 : Bool) : LoadClass :=
  if high1 || high2 then .shorted else if high3 then .open_ else .pulled

/-- The classes of all nets (R310). -/
def loadClasses (h1 h2 h3 : DWord) : Vector LoadClass 64 :=
  Vector.ofFn fun h : Fin 64 => loadClassOf (h1.getLsbD h.val) (h2.getLsbD h.val) (h3.getLsbD h.val)

/-- Load sensing ends (R310, R311): the classes are recorded, HG_OUThh raised for each net not PULLED, HG_PUEN driven high. -/
def State.loadSensingDone (s : State) (h1 h2 h3 : DWord) : State :=
  if ! s.hg.loadSensing then s
  else
    let s := { s with hg := { s.hg with loadClass := loadClasses h1 h2 h3, loadSensing := false, loadSensed := true, puen := true,
                                        puenAt := s.time } }
    (List.finRange 64).foldl (fun s h => if s.hg.loadClass[h] == .pulled then s else s.outEvent h 2 (s.holdCause h)) s

/-- LOAD_SENSING (R310). -/
def execLoadSensing (high1 high2 high3 : DWord) (s : State) : Host.Outcome State Fault Refusal :=
  .next (s.loadSensingDone high1 high2 high3)

/-- HG_PUEN has been high for PUEN_SETTLE (R309); a setting of 0 ms acts as 1, the least the register takes (R333). -/
def State.puenSettle (s : State) : State :=
  if s.hg.puen then
    let s := s.advanceTo (s.hg.puenAt + max 1 s.hg.puenSettleMs.toNat * msNs)
    { s with hg := { s.hg with puenSettled := true } }
  else s

/-- PUEN_SETTLED (R309). -/
def execPuenSettled (s : State) : Host.Outcome State Fault Refusal := .next s.puenSettle

/-! ## Verdicts -/

/-- The verdict a half has posted for a channel. -/
def State.verdictOf (s : State) (h : Half) (c : ChanId) : Option Verdict := (s.hg.verdicts.get h)[c]

/-- Has the half posted at the generation the port has cached (R321). -/
def State.postedNow (s : State) (h : Half) (c : ChanId) : Bool :=
  match s.verdictOf h c with
  | some v => decide (v.gen.toNat = (s.chan c).gen)
  | none => false

/-- HEADGATE.VERDICT_VIEWc as a half sees it (R321, R333). -/
def State.verdictView (s : State) (h : Half) (c : ChanId) : Nat :=
  let pi := s.postedNow .indigo c
  let pa := s.postedNow .amber c
  let sees := s.postedNow h c
  let code (x : Half) : Nat := match s.verdictOf x c with
    | some v => v.code.toNat
    | none => 0
  let root (x : Half) : Option Digest := (s.verdictOf x c).map fun v => v.root
  let both := sees && pi && pa
  b2n pi * 2 ^ 31 + b2n pa * 2 ^ 30 + b2n (both && root .indigo == root .amber) * 2 ^ 29 + b2n both * 2 ^ 28
  + (if sees && pi then code .indigo * 2 ^ 16 else 0) + (if sees && pa then code .amber * 2 ^ 8 else 0)

/-- Do the two verdicts of a channel conflict (R46): two good ones with different roots or generations, or different
codes (R197). -/
def State.verdictConflict (s : State) (c : ChanId) : Bool :=
  match s.verdictOf .indigo c, s.verdictOf .amber c with
  | some a, some b =>
    if a.code = 0 ∧ b.code = 0 then a.root != b.root || a.gen != b.gen else a.code != b.code
  | _, _ => false

/-- VPOST_STATUS of a half. -/
def State.vpostCode (s : State) (h : Half) (c : Code) : State :=
  { s with hg := { s.hg with vpostStatus := s.hg.vpostStatus.set h (BitVec.ofNat 32 c.num) } }

/-- A write of VPOST (R320): a release or failed verdict, or a refusal in VPOST_STATUS. A verdict's code is a status field, which shows no
value but the shared codes (R9): another is refused with BAD_RANGE (DESIGN CHOICE, log entry 137). -/
def State.vpostStore (s : State) (h : Half) (value : Word) : State × Code :=
  let c : ChanId := ⟨bitsOf value.toNat 16 6 % 64, Nat.mod_lt _ (by decide)⟩
  if ! s.dev.mode.running || s.hg.warm then (s.vpostCode h .refusedState, .refusedState)
  else if (Code.ofNum (value.toNat / 2 ^ 24)).isNone then (s.vpostCode h .badRange, .badRange)
  else if s.time < s.hg.vpostBusy.get h then (s.vpostCode h .busy, .busy)
  else
    let v : Verdict := ⟨s.hg.vroot.get h, BitVec.ofNat 16 value.toNat, BitVec.ofNat 8 (value.toNat / 2 ^ 24)⟩
    ({ s with hg := { s.hg with
        verdicts := s.hg.verdicts.upd h fun vs => vset vs c (some v)
        vpostBusy := s.hg.vpostBusy.set h (s.time + usNs)
        vpostStatus := s.hg.vpostStatus.set h (BitVec.ofNat 32 Code.ok.num) } }, .ok)

/-- The channel that a VPOST value names. -/
def vpostChan (value : Word) : ChanId := ⟨bitsOf value.toNat 16 6 % 64, Nat.mod_lt _ (by decide)⟩

end Sys2Proof.Machine
end

