-- ==== Sys2Proof/Machine/Pke.lean ====
section
/-!
DEFINITION. The big-number engine (R426-R448): slots and operand memory, the command queue, MAC and VMAC, the sponge, jobs
with their class time and wipe, reads that happen once, and abort.
-/
namespace Sys2Proof.Machine

/-! ## Slots and operand memory -/

/-- The first bus address of a half's operand memory (R426). -/
def opBase : Half → Nat
  | .indigo => 0xC0000000
  | .amber => 0xC0010000

/-- The number of an engine's event by offset (R448). -/
def pkeEvent (h : Half) (off : Nat) : Nat := 992 + 8 * h.num + off

/-- The engine of a half. -/
def State.eng (s : State) (h : Half) : Pke := s.pke.get h
/-- The state with a half's engine changed. -/
def State.updEng (s : State) (h : Half) (f : Pke → Pke) : State := { s with pke := s.pke.upd h f }

/-- A slot: base and length in 64-bit words; none where it is not valid (R427). -/
def Pke.slot (e : Pke) (i : Nat) : Option (Nat × Nat) :=
  match finOf 256 i with
  | some i => let w := e.slotCfg[i]
    if w.getLsbD 31 then some (bitsOf w.toNat 16 13, bitsOf w.toNat 0 8) else none
  | none => none

/-- The length of a slot in words, 0 where it is not valid. -/
def Pke.slotLen (e : Pke) (i : Nat) : Nat := ((e.slot i).map fun p => p.2).getD 0

/-- The extension word of a slot (R428). -/
def Pke.extOf (e : Pke) (i : Nat) : Nat :=
  match finOf 256 i with
  | some i => e.ext[i].toNat
  | none => 0

/-- The unsigned value of `n` words from word `o` of slot `i` on. -/
def State.slotWords (s : State) (h : Half) (i o n : Nat) : Nat :=
  match (s.eng h).slot i with
  | some (b, _) => s.load (opBase h + 8 * (b + o)) (8 * n)
  | none => 0

/-- Is the slot negative: bit 63 of its extension word (R428). -/
def Pke.negative (e : Pke) (i : Nat) : Bool := (e.extOf i).testBit 63

/-- Writes a slot's value with its extension word: a number modulo 2^(length + 64) (R428). -/
def State.setSlot (s : State) (h : Half) (i v : Nat) : State :=
  match (s.eng h).slot i, finOf 256 i with
  | some (b, n), some i =>
    let s := s.store (opBase h + 8 * b) (leBytes (8 * n) v)
    s.updEng h fun e => { e with ext := vset e.ext i (BitVec.ofNat 64 (v / 2 ^ (64 * n))) }
  | _, _ => s

/-- The slot's whole value, unsigned, extension word on top. -/
def State.slotValue (s : State) (h : Half) (i : Nat) : Nat :=
  let n := (s.eng h).slotLen i
  s.slotWords h i 0 n + 2 ^ (64 * n) * (s.eng h).extOf i

/-- Is the engine in a job window: from JOB_OPEN to the end of the wipe (R436). -/
def State.pkeWindow (s : State) (h : Half) : Bool := (s.eng h).job.isSome || decide (s.time < (s.eng h).wipeUntil)

/-! ## Marks -/

/-- Sets the open job's reject flag (R431). -/
def Pke.markReject (e : Pke) : Pke := { e with job := e.job.map fun j => { j with reject := true } }

/-- A command error (R440): outside a job the command is discarded with cause 1, inside it the job is marked, cause 2. -/
def State.pkeError (s : State) (h : Half) : State :=
  match (s.eng h).job with
  | none => s.raiseLog (pkeEvent h 6) [(1, 1)]
  | some _ =>
    (s.updEng h fun e => { e with job := e.job.map fun j => { j with reject := true, cmdErr := true } }).raiseLog
      (pkeEvent h 6) [(1, 2)]

/-- The engine cycles that have passed since JOB_OPEN by the time counter: 1.2 a nanosecond (R433). -/
def PkeJob.elapsed (j : PkeJob) (t : Nat) : Nat := (t - j.openAt) * 6 / 5

/-- A command takes `n` cycles of the open job (R433). -/
def State.pkeSpend (s : State) (h : Half) (n : Nat) : State :=
  s.updEng h fun e => { e with job := e.job.map fun j => { j with cycles := max j.cycles (j.elapsed s.time) + n } }

/-- The class time in ns (R436). -/
def pkeClassNs (c : Fin 11) : Nat :=
  #v[2000, 10000, 50000, 100000, 250000, 350000, 410000, 450000, 1000000, 2000000, 5000000][c]

/-- The class time in cycles (R436). -/
def pkeClassCycles (c : Fin 11) : Nat := pkeClassNs c * 6 / 5

/-! ## MAC and VMAC -/

/-- The fields of a command (R430). -/
structure PkeFields where
  sub : Bool
  bmode : Nat
  assert_ : Nat
  dstOff : Nat
  count : Nat
  dst : Nat
  a : Nat
  aOff : Nat
  rsv : Bool
  half : Bool
  b : Nat
  bIdx : Nat
  deriving DecidableEq, Repr

/-- The fields of the two words of MAC and VMAC (R430). -/
def pkeFields (hi lo : Word) : PkeFields :=
  let x := hi.toNat
  let y := lo.toNat
  { sub := x.testBit 27, bmode := bitsOf x 25 2, assert_ := bitsOf x 22 3, dstOff := bitsOf x 15 7,
    count := bitsOf x 8 7, dst := bitsOf x 0 8, a := bitsOf y 24 8, aOff := bitsOf y 17 7, rsv := y.testBit 16,
    half := y.testBit 15, b := bitsOf y 7 8, bIdx := bitsOf y 0 7 }

/-- The cases of R440 for a MAC. -/
def Pke.macBad (e : Pke) (f : PkeFields) : Bool :=
  decide (4 < f.assert_) || f.rsv || f.half || (decide (2 ≤ f.bmode) && f.bIdx != 0)
  || (e.slot f.dst).isNone || (e.slot f.a).isNone || (e.slot f.b).isNone
  || decide (e.slotLen f.a < f.aOff + f.count + 1) || (decide (f.bmode < 2) && decide (e.slotLen f.b ≤ f.bIdx))
  || decide (e.slotLen f.dst ≤ f.dstOff)

/-- The factor B of a MAC (R431). -/
def State.macB (s : State) (h : Half) (f : PkeFields) : Nat :=
  let e := s.eng h
  match f.bmode with
  | 0 => s.slotWords h f.b f.bIdx 1
  | 1 => s.slotWords h f.b f.bIdx (e.slotLen f.b - f.bIdx)
  | 2 => if e.negative f.b then 1 else 0
  | _ => if e.negative f.b then 0 else 1

/-- The new value of dst (R431): dst ± A × B × 2^(64 × dst_offset), wrapped. -/
def State.macResult (s : State) (h : Half) (f : PkeFields) : Nat :=
  let m := 2 ^ (64 * ((s.eng h).slotLen f.dst + 1))
  let p := s.slotWords h f.a f.aOff (f.count + 1) * s.macB h f * 2 ^ (64 * f.dstOff) % m
  if f.sub then (s.slotValue h f.dst + m - p) % m else (s.slotValue h f.dst + p) % m

/-- Does the assert code reject the new value of dst (R431, R430). -/
def Pke.macRejects (e : Pke) (f : PkeFields) (v : Nat) : Bool :=
  match f.assert_ with
  | 1 => e.negative f.dst
  | 2 => ! e.negative f.dst
  | 3 => v == 0
  | 4 => v != 0
  | _ => false

/-- MAC (R431). -/
def pkeMac (h : Half) (f : PkeFields) (s : State) : State :=
  if (s.eng h).macBad f then s.pkeError h
  else
    let w := if f.bmode = 1 then (s.eng h).slotLen f.b - f.bIdx else 1
    let v := s.macResult h f
    let s := s.setSlot h f.dst v
    let s := if (s.eng h).macRejects f v then s.updEng h Pke.markReject else s
    s.pkeSpend h (6 + ((f.count + 1 + 15) / 16) * w)

/-- The modulus of VMAC (R432). -/
def vmacQ : Nat := 8380417

/-- The cases of R440 for a VMAC. -/
def Pke.vmacBad (e : Pke) (f : PkeFields) : Bool :=
  let n := 16 * (f.count % 8 + 1)
  decide (1 < f.bmode) || decide (1 < f.assert_) || decide (8 ≤ f.count) || f.rsv || (f.half && f.bmode == 1)
  || (e.slot f.dst).isNone || (e.slot f.a).isNone || (e.slot f.b).isNone
  || decide (e.slotLen f.dst < f.dstOff + n) || decide (e.slotLen f.a < f.aOff + n)
  || (if f.bmode = 0 then decide (e.slotLen f.b ≤ f.bIdx) else decide (e.slotLen f.b < f.bIdx + n))

/-- 32-bit lane `k` of a run of words from word `o` of slot `i` on. -/
def State.lane (s : State) (h : Half) (i o k : Nat) : Nat :=
  match (s.eng h).slot i with
  | some (b, _) => s.load (opBase h + 8 * (b + o) + 4 * k) 4
  | none => 0

/-- One result lane of a VMAC (R432): canonical, 0 to 8,380,416. -/
def State.vmacLane (s : State) (h : Half) (f : PkeFields) (k : Nat) : Nat :=
  let b := if f.bmode = 0 then s.lane h f.b f.bIdx (b2n f.half) else s.lane h f.b f.bIdx k
  let p := s.lane h f.a f.aOff k * b % vmacQ
  let d := s.lane h f.dst f.dstOff k % vmacQ
  if f.sub then (d + vmacQ - p) % vmacQ else (d + p) % vmacQ

/-- VMAC (R432); extension words stay. -/
def pkeVmac (h : Half) (f : PkeFields) (s : State) : State :=
  let e := s.eng h
  if e.vmacBad f then s.pkeError h
  else
    let lanes := (List.range (32 * (f.count % 8 + 1))).map fun k => s.vmacLane h f k
    let base := ((e.slot f.dst).map fun p => p.1).getD 0
    let s := s.store (opBase h + 8 * (base + f.dstOff)) (lanes.flatMap fun v => leBytes 4 v)
    let s := if f.assert_ = 1 ∧ lanes.any (fun v => decide (e.vbound.toNat ≤ v)) then s.updEng h Pke.markReject else s
    s.pkeSpend h (6 + (f.count % 8 + 1))

/-! ## The sponge -/

/-- The byte address of a slot's byte `o`. -/
def State.slotAddr (s : State) (h : Half) (i o : Nat) : Nat :=
  opBase h + 8 * ((((s.eng h).slot i).map fun p => p.1).getD 0) + o

/-- SPONGE INIT (R434). -/
def pkeInit (h : Half) (param : Nat) (s : State) : State :=
  let k : SpongeKind := if param = 0 then .shake128 else .shake256
  (s.updEng h fun e => { e with sponge := some (Sponge.init k) }).pkeSpend h 6

/-- The permutations absorbing `n` bytes takes from a position (R433). -/
def Sponge.absorbPerms (sp : Sponge) (n : Nat) : Nat := (sp.pos + n) / sp.kind.rate

/-- SPONGE ABSORB (R434); absorbing after output begins anew from the state as it stands. -/
def pkeAbsorb (h : Half) (slot off n : Nat) (s : State) : State :=
  match (s.eng h).sponge with
  | none => s.pkeError h
  | some sp =>
    let sp := if sp.squeezing then { sp with squeezing := false, pos := 0 } else sp
    let bs := s.bytes (s.slotAddr h slot off) n
    (s.updEng h fun e => { e with sponge := some (sp.absorb bs) }).pkeSpend h (6 + 24 * sp.absorbPerms n)

/-- SPONGE SQUEEZE (R434). -/
def pkeSqueeze (h : Half) (slot off n : Nat) (s : State) : State :=
  match (s.eng h).sponge with
  | none => s.pkeError h
  | some sp =>
    let r := sp.finish.squeeze n
    let s := s.store (s.slotAddr h slot off) r.1
    (s.updEng h fun e => { e with sponge := some r.2 }).pkeSpend h (6 + 24 * sp.perms n)

/-- Uniform coefficients modulo q from 3-byte groups (mode 0: FIPS 204 CoeffFromThreeBytes). -/
def sampleUniform : List Byte → List Nat
  | a :: b :: c :: r =>
    let v := a.toNat + 256 * b.toNat + 65536 * (c.toNat % 128)
    if v < vmacQ then v :: sampleUniform r else sampleUniform r
  | _ => []

/-- Coefficients 2 − (z mod 5) from half bytes below 15 (mode 1: CoeffFromHalfByte, η = 2), canonical. -/
def sampleHalf (z : Nat) : List Nat := if z < 15 then [(vmacQ + 2 - z % 5) % vmacQ] else []

/-- Mode 1: RejBoundedPoly, η = 2. -/
def sampleBounded (bs : List Byte) : List Nat :=
  bs.flatMap fun b => sampleHalf (b.toNat % 16) ++ sampleHalf (b.toNat / 16)

/-- Mode 2: ExpandMask, 20-bit fields taken from 2^19 (BitUnpack with γ1 = 2^19), canonical. -/
def sampleMask (bs : List Byte) : List Nat :=
  let v := leNat (bs.take 640)
  (List.range 256).map fun i => (vmacQ + 2 ^ 19 - bitsOf v (20 * i) 20) % vmacQ

/-- Mode 3: the Fisher-Yates steps of SampleInBall from index `i` on, with the sign bits and the bytes left; none where the bytes
run out. -/
def sampleBall (signs : Nat) : Nat → Nat → List Byte → List Nat → Option (List Nat)
  | 256, _, _, c => some c
  | _, 0, _, _ => none
  | _, _, [], _ => none
  | i, fuel + 1, b :: r, c =>
    if b.toNat ≤ i then
      let c1 := c.set i (c.getD b.toNat 0)
      let v := if signs.testBit (i - 196) then vmacQ - 1 else 1
      sampleBall signs (i + 1) fuel r (c1.set b.toNat v)
    else sampleBall signs i fuel r c

/-- The 256 coefficients of a mode from the bytes of its blocks; none where they do not yield 256 (R435). -/
def sampleCoeffs (mode : Nat) (bs : List Byte) : Option (List Nat) :=
  match mode with
  | 0 => let l := sampleUniform bs; if 256 ≤ l.length then some (l.take 256) else none
  | 1 => let l := sampleBounded bs; if 256 ≤ l.length then some (l.take 256) else none
  | 2 => some (sampleMask bs)
  | _ => sampleBall (leNat (bs.take 8)) 196 600 (bs.drop 8) (List.replicate 256 0)

/-- The blocks of a sample mode (R435). -/
def sampleBlocks (mode : Nat) : Nat :=
  match mode with
  | 0 => 8
  | 2 => 5
  | _ => 4

/-- SPONGE SAMPLE (R435): a slot of 128 words; the mode's sponge must be the one selected (a command error otherwise). -/
def pkeSample (h : Half) (slot mode : Nat) (s : State) : State :=
  match (s.eng h).sponge with
  | none => s.pkeError h
  | some sp =>
    let want : SpongeKind := if mode = 0 then .shake128 else .shake256
    if (s.eng h).slotLen slot < 128 ∨ sp.kind ≠ want then s.pkeError h
    else
      let r := sp.finish.squeeze (sampleBlocks mode * sp.kind.rate)
      let s := s.updEng h fun e => { e with sponge := some r.2 }
      let s := match sampleCoeffs mode r.1 with
        | some l => s.store (s.slotAddr h slot 0) (l.flatMap fun v => leBytes 4 v)
        | none => s.updEng h Pke.markReject
      s.pkeSpend h (6 + 24 * sampleBlocks mode)

/-- A SPONGE command (R434): its fields, with the command errors of R440; outside a job no INIT has run in the job, so that the other
actions are errors there. -/
def pkeSponge (h : Half) (hi lo : Word) (s : State) : State :=
  let x := hi.toNat
  let action := bitsOf x 24 4
  let param := bitsOf x 20 4
  let n := bitsOf x 8 11 + 1
  let slot := bitsOf x 0 8
  let off := bitsOf lo.toNat 0 10
  if x.testBit 19 ∨ bitsOf lo.toNat 10 22 ≠ 0 ∨ action ≠ 0 ∧ (s.eng h).job.isNone then s.pkeError h
  else match action with
    | 0 => if 1 < param ∨ bitsOf x 0 19 ≠ 0 ∨ off ≠ 0 then s.pkeError h else pkeInit h param s
    | 1 => if param ≠ 0 ∨ 1024 < n ∨ 8 * (s.eng h).slotLen slot < off + n then s.pkeError h else pkeAbsorb h slot off n s
    | 2 => if param ≠ 0 ∨ 1024 < n ∨ 8 * (s.eng h).slotLen slot < off + n then s.pkeError h else pkeSqueeze h slot off n s
    | 3 => if 3 < param ∨ bitsOf x 8 11 ≠ 0 ∨ off ≠ 0 then s.pkeError h else pkeSample h slot param s
    | _ => s.pkeError h

/-! ## Wipes, jobs, abort -/

/-- Bytes of operand memory (R426). -/
def opBytes : Nat := 0x10000

/-- Wipes one slot and its extension word (R439). -/
def State.wipeSlot (s : State) (h : Half) (i : Nat) : State :=
  match (s.eng h).slot i, finOf 256 i with
  | some (b, n), some i =>
    let s := s.erase (opBase h + 8 * b) (8 * n)
    s.updEng h fun e => { e with ext := vset e.ext i 0 }
  | _, _ => s

/-- Does a byte of operand memory lie in a slot of the mask. -/
def Pke.inSlots (e : Pke) (m : BitVec 256) (off : Nat) : Bool :=
  (finBits m).any fun i => match e.slot i.val with
    | some (b, n) => decide (8 * b ≤ off) && decide (off < 8 * (b + n))
    | none => false

/-- The wipe (R438): every word and extension word but those of the slots kept reads 0. -/
def State.pkeWipe (s : State) (h : Half) (keep : BitVec 256) : State :=
  let e := s.eng h
  let b := opBase h
  let m := s.mem.filter fun p => decide (p.1 < b) || decide (b + opBytes ≤ p.1) || e.inSlots keep (p.1 - b)
  let s := { s with mem := m }
  let ext := Vector.ofFn fun i : Fin 256 => if keep.getLsbD i.val ∧ (e.slot i.val).isSome then e.ext[i] else 0
  s.updEng h fun e => { e with ext := ext }

/-- How long a wipe takes, in ns (R438). -/
def wipeNs : Nat := 430

/-- The slots in use, as a mask. -/
def Pke.validMask (e : Pke) : BitVec 256 :=
  (List.finRange 256).foldl (fun m i => if (e.slot i.val).isSome then m ||| bitMask 256 i.val else m) 0

/-- Ends the open job (R438, R440, R441) at the present time, the wipe done: the code, the slots kept, the events. -/
def pkeEndJob (h : Half) (overrun : Bool) (s : State) : State :=
  let e := s.eng h
  match e.job with
  | none => s
  | some j =>
    let code : Code := if e.poisoned || j.lost then .full else if j.cmdErr then .badRange else if j.reject then .reject else .ok
    let keep := if code = .ok then e.outMask &&& ~~~ e.keyed &&& e.validMask else 0
    let s := s.pkeWipe h keep
    let s := s.updEng h fun e => { e with
      job := none, code := code, lastCls := j.cls, overrun := overrun, jobs := e.jobs + 1, outMask := if code = .ok then e.outMask else 0,
      outLive := keep, outRead := [], keyed := 0, sponge := none, poisoned := false, wipeUntil := s.time }
    (s.raise (pkeEvent h 0)).raiseIf (code != .ok) (pkeEvent h 1)

/-- Abort (R443): ends an open job with a code, drops the queue, wipes everything. -/
def pkeAbortAs (h : Half) (code : Code) (s : State) : State :=
  let e := s.eng h
  let open_ := e.job.isSome
  let s := s.pkeWipe h 0
  let s := s.updEng h fun e => { e with
    job := none, queue := [], outMask := 0, outLive := 0, outRead := [], keyed := 0, sponge := none,
    wipeUntil := s.time + wipeNs, code := if open_ then code else e.code,
    lastCls := (e.job.map fun j => j.cls).getD e.lastCls, overrun := if open_ then false else e.overrun,
    jobs := if open_ then e.jobs + 1 else e.jobs, poisoned := e.poisoned && ! open_ }
  (s.raiseIf open_ (pkeEvent h 0)).raiseIf open_ (pkeEvent h 5)

/-- Is a verification at a stage that works on the big-number engine, 3 or 8 (R196). -/
def Verification.onEngine (v : Verification) : Bool := v.result.isNone && (v.stage == 3 || v.stage == 8)

/-- Is a verification one for release or re-confirmation (R203). -/
def Verification.release (v : Verification) : Bool := v.kind == .fill || v.kind == .reconfirm

/-- The verification that a half's big-number engine works for, in the order of R203: one for release or re-confirmation; then SPDM
signing, while which none is; then one of an update. -/
def State.engineVer (s : State) (h : Half) : Option Verification :=
  let vs := (s.upd.vers.get h).filter Verification.onEngine
  match vs.find? Verification.release with
  | some v => some v
  | none => if s.spdm.waiting.isEmpty then vs.head? else none

/-- A job that exceeds its class time by more than 1 % (R442, R203): aborted with INTERNAL; the half reports INTERNAL in the verdict of the
verification that the job served, and holds every output not yet released. -/
def pkeFault (h : Half) (s : State) : State :=
  let due := s.engineVer h
  let s := pkeAbortAs h .internal s
  { s with hg := { s.hg with holds := s.hg.holds.upd h fun m => m ||| ~~~ s.hg.out },
           upd := { s.upd with vers := s.upd.vers.upd h fun vs => vs.map fun v => if some v = due then { v with result := some .internal } else v } }

/-- JOB_OPEN (R436, R439, R440). -/
def pkeOpen (h : Half) (hi : Word) (s : State) : State :=
  let e := s.eng h
  match e.job, finOf 11 (bitsOf hi.toNat 0 4) with
  | none, some c =>
    if bitsOf hi.toNat 4 24 ≠ 0 then s.pkeError h
    else
      let late := e.outLive != 0
      let s := (finBits e.outLive).foldl (fun s i => s.wipeSlot h i.val) s
      let s := s.updEng h fun e => { e with
        outMask := if late then 0 else e.outMask, outLive := 0, outRead := [], keyed := 0, sponge := none,
        job := some ⟨c, s.time, 0, false, false, false, false, false⟩ }
      let s := if late then s.raiseLog (pkeEvent h 6) [(1, 3)] else s
      s.pkeSpend h 1
  | _, _ => s.pkeError h

/-- JOB_CLOSE (R438, R442): waits for the class time, or ends at once within the margin, or aborts past it. -/
def pkeClose (h : Half) (hi : Word) (s : State) : State :=
  let e := s.eng h
  match e.job with
  | none => s.pkeError h
  | some j =>
    if bitsOf hi.toNat 0 28 ≠ 0 then s.pkeError h
    else
      let s := s.pkeSpend h 1
      let c := max j.cycles (j.elapsed s.time) + 1
      let lim := pkeClassCycles j.cls
      let s := s.updEng h fun e => { e with cycles := BitVec.ofNat 32 c,
                                            job := e.job.map fun j => { j with closed := true } }
      if c ≤ lim ∧ ! j.overrun then s
      else
        let s := s.raiseIf (! j.overrun) (pkeEvent h 4)
        if c * 100 < lim * 101 then (pkeEndJob h true s).updEng h fun e => { e with wipeUntil := s.time + wipeNs }
        else pkeFault h s

/-- Executes one queued command (R430). -/
def pkeExec1 (h : Half) (hi lo : Word) (s : State) : State :=
  match bitsOf hi.toNat 28 4 with
  | 0 => pkeMac h (pkeFields hi lo) s
  | 1 => pkeVmac h (pkeFields hi lo) s
  | 2 => pkeOpen h hi s
  | 3 => pkeClose h hi s
  | 4 => pkeSponge h hi lo s
  | _ => s.pkeError h

/-- Executes queued commands in order while the engine can: enabled, no wipe under way, not waiting for a class time. -/
def pkeRun (h : Half) : Nat → State → State
  | 0, s => s
  | n + 1, s =>
    let e := s.eng h
    let waiting := (e.job.map fun j => j.closed).getD false
    if ! e.enable || waiting || decide (s.time < e.wipeUntil) then s
    else match e.queue with
      | [] => s
      | (hi, lo) :: q => pkeRun h n (pkeExec1 h hi lo (s.updEng h fun e => { e with queue := q }))

/-- The base of an engine's registers (R29). -/
def pkeBase (h : Half) : Nat := 0x40030000 + 0x10000 * h.num

/-- A write of CMD_HI (R430, R440): the command joins the queue of 64, or is lost to a full one; then the engine runs. -/
def pkePush (h : Half) (hi lo : Word) (s : State) : State :=
  s.halfBus h (pkeBase h + 0xC) h.pkeDomain false fun s =>
    let s := s.updEng h fun e => { e with cmdLo := lo }
    if 64 ≤ (s.eng h).queue.length then
      (s.updEng h fun e => { e with poisoned := true }).raise (pkeEvent h 7)
    else pkeRun h 65 (s.updEng h fun e => { e with queue := e.queue ++ [(hi, lo)] })

/-- The high word of a command with its op. -/
def pkeHi (op : Nat) (hi : BitVec 28) : Word := BitVec.ofNat 32 (op * 2 ^ 28 + hi.toNat)

/-- The high word of a SPONGE command with its action. -/
def pkeSpongeHi (action : Nat) (hi : BitVec 24) : Word := BitVec.ofNat 32 (4 * 2 ^ 28 + action * 2 ^ 24 + hi.toNat)

/-! ## The commands -/

/-- MAC (R431): pushed, and executed when the engine comes to it. -/
def execMac (h : Half) (hi : BitVec 28) (lo : Word) (s : State) : Host.Outcome State Fault Refusal :=
  .next (pkePush h (pkeHi 0 hi) lo s)

/-- VMAC (R432). -/
def execVmac (h : Half) (hi : BitVec 28) (lo : Word) (s : State) : Host.Outcome State Fault Refusal :=
  .next (pkePush h (pkeHi 1 hi) lo s)

/-- JOB_OPEN (R436). -/
def execJobOpen (h : Half) (hi : BitVec 28) (lo : Word) (s : State) : Host.Outcome State Fault Refusal :=
  .next (pkePush h (pkeHi 2 hi) lo s)

/-- JOB_CLOSE (R438). -/
def execJobClose (h : Half) (hi : BitVec 28) (lo : Word) (s : State) : Host.Outcome State Fault Refusal :=
  .next (pkePush h (pkeHi 3 hi) lo s)

/-- SPONGE INIT (R434). -/
def execSpongeInit (h : Half) (hi : BitVec 24) (lo : Word) (s : State) : Host.Outcome State Fault Refusal :=
  .next (pkePush h (pkeSpongeHi 0 hi) lo s)

/-- SPONGE ABSORB (R434). -/
def execSpongeAbsorb (h : Half) (hi : BitVec 24) (lo : Word) (s : State) : Host.Outcome State Fault Refusal :=
  .next (pkePush h (pkeSpongeHi 1 hi) lo s)

/-- SPONGE SQUEEZE (R434). -/
def execSpongeSqueeze (h : Half) (hi : BitVec 24) (lo : Word) (s : State) : Host.Outcome State Fault Refusal :=
  .next (pkePush h (pkeSpongeHi 2 hi) lo s)

/-- SPONGE SAMPLE (R435). -/
def execSpongeSample (h : Half) (hi : BitVec 24) (lo : Word) (s : State) : Host.Outcome State Fault Refusal :=
  .next (pkePush h (pkeSpongeHi 3 hi) lo s)

/-- The class time of a closed job ends (R438): wait, wipe, record, and go on with the queue. -/
def pkeJobEnd (h : Half) (s : State) : State :=
  match (s.eng h).job with
  | none => s
  | some j =>
    if ! j.closed then s
    else pkeRun h 65 (pkeEndJob h false (s.advanceTo (j.openAt + pkeClassNs j.cls + wipeNs)))

/-- JOB_END (R438). -/
def execJobEnd (h : Half) (s : State) : Host.Outcome State Fault Refusal := .next (pkeJobEnd h s)

/-- The class time passes without JOB_CLOSE (R442): OVERRUN; at 1.01 times it, the job is aborted with INTERNAL and the half
hands its verifications back as R203 sets out. -/
def pkeJobOverrun (h : Half) (s : State) : State :=
  match (s.eng h).job with
  | none => s
  | some j =>
    if j.closed then s
    else if ! j.overrun then
      ((s.advanceTo (j.openAt + pkeClassNs j.cls)).updEng h fun e =>
        { e with job := e.job.map fun j => { j with overrun := true } }).raise (pkeEvent h 4)
    else pkeFault h (s.advanceTo (j.openAt + pkeClassNs j.cls * 101 / 100))

/-- JOB_OVERRUN (R442). -/
def execJobOverrun (h : Half) (s : State) : Host.Outcome State Fault Refusal := .next (pkeJobOverrun h s)

/-- PKE_ABORT (R443). -/
def execPkeAbort (h : Half) (s : State) : Host.Outcome State Fault Refusal :=
  .next (s.halfBus h (pkeBase h + 0x18) h.pkeDomain false fun s => pkeAbortAs h .frameAbort s)

/-- The 32-bit words of a slot and its extension word. -/
def Pke.words32 (e : Pke) (i : Nat) : Nat := 2 * (e.slotLen i + 1)

/-- The slot and the 32-bit word number within it that an operand-memory offset falls in. -/
def Pke.findWord (e : Pke) (off : Nat) : Option (Nat × Nat) :=
  (List.range 256).findSome? fun i => match e.slot i with
    | some (b, n) => if 8 * b ≤ off ∧ off < 8 * (b + n) then some (i, (off - 8 * b) / 4) else none
    | none => none

/-- The slot and word that a read names: an operand-memory word, or a half of an extension word at EXT + 8 × slot (R447). -/
def Pke.readTarget (e : Pke) (h : Half) (a : Nat) : Option (Nat × Nat) :=
  let ext := 0x40030800 + 0x10000 * h.num
  if opBase h ≤ a ∧ a < opBase h + opBytes then e.findWord (a - opBase h)
  else if ext ≤ a ∧ a < ext + 0x800 then some ((a - ext) / 8, 2 * e.slotLen ((a - ext) / 8) + (a - ext) % 8 / 4)
  else none

/-- The present value of the word a read names. -/
def State.opWord (s : State) (h : Half) (a : Nat) : Nat :=
  let ext := 0x40030800 + 0x10000 * h.num
  if opBase h ≤ a ∧ a < opBase h + opBytes then s.load (a / 4 * 4) 4
  else if ext ≤ a ∧ a < ext + 0x800 then bitsOf ((s.eng h).extOf ((a - ext) / 8)) (32 * ((a - ext) % 8 / 4)) 32
  else 0

/-- A word of a live OUT slot is read (R439): once; the last read wipes the slot and clears its OUT bit. -/
def State.readOut (s : State) (h : Half) (a slot word : Nat) : Nat × State :=
  let e := s.eng h
  if e.outRead.contains (slot, word) then (0, s.raise (pkeEvent h 3))
  else
    let v := s.opWord h a
    let s := s.updEng h fun e => { e with outRead := (slot, word) :: e.outRead }
    if ((s.eng h).outRead.filter fun p => p.1 == slot).length = (s.eng h).words32 slot then
      let s := s.wipeSlot h slot
      (v, s.updEng h fun e => { e with outMask := putBit e.outMask slot false, outLive := putBit e.outLive slot false,
                                       outRead := e.outRead.filter fun p => p.1 != slot })
    else (v, s)

/-- A core's read of its operand memory or of EXT (R437, R439). -/
def State.opRead (s : State) (h : Half) (a : Nat) : Nat × State :=
  if s.pkeWindow h then (0, s.raiseLog1 (pkeEvent h 2) 0 [])
  else match (s.eng h).readTarget h a with
    | some (slot, word) =>
      if (s.eng h).outLive.getLsbD slot then s.readOut h a slot word else (s.opWord h a, s)
    | none => (s.opWord h a, s)

/-- PKE_OPERAND_READ (R437, R439); with the engine's domain off the read ends in a bus error and returns 0 (R30). -/
def execPkeOperandRead (h : Half) (addr : Word) (s : State) : Host.Outcome State Fault Refusal :=
  if ! s.domOn h.pkeDomain then .next ((s.busError (halfCore h) addr.toNat .domainOff).updEng h fun e => { e with readValue := 0 })
  else
    let r := s.opRead h addr.toNat
    .next (r.2.updEng h fun e => { e with readValue := BitVec.ofNat 32 r.1 })

/-- Would the slot, so configured, overlap another valid slot. -/
def Pke.overlaps (e : Pke) (i b n : Nat) : Bool :=
  (List.range 256).any fun j => j != i && (match e.slot j with
    | some (c, m) => decide (b < c + m) && decide (c < b + n)
    | none => false)

/-- A write of SLOT_CFGs (R427): the new state, and the syndrome where it is refused. -/
def State.slotCfgWrite (s : State) (h : Half) (slot : Fin 256) (v : Word) : State × Code :=
  let b := bitsOf v.toNat 16 13
  let n := bitsOf v.toNat 0 8
  if s.pkeWindow h then (s, .refusedState)
  else if v.getLsbD 31 ∧ (n < 4 ∨ 128 < n ∨ 8192 < b + n ∨ (s.eng h).overlaps slot.val b n) then (s, .badRange)
  else (s.updEng h fun e => { e with slotCfg := vset e.slotCfg slot (v &&& 0x9FFF00FF) }, .ok)

/-- PKE_SLOT_CFG_WRITE (R427); with the domain off the write ends in a bus error. -/
def execPkeSlotCfgWrite (h : Half) (slot : Fin 256) (value : Word) (s : State) : Host.Outcome State Fault Refusal :=
  .next (s.halfBus h (pkeBase h + 0x400 + 4 * slot.val) h.pkeDomain false fun s =>
    s.busEnd (halfCore h) (pkeBase h + 0x400 + 4 * slot.val) (s.slotCfgWrite h slot value))

end Sys2Proof.Machine
end

