-- ==== Sys2Proof/Machine/Steward.lean ====
section
/-!
DEFINITION. Stewardship (R53-R57), half restarts (R33), verdict posts and their conflicts (R46, R320), the shadow's digest check
(R20), and the request and assertion sequence of DORMANT (R39, R319).
-/
namespace Sys2Proof.Machine

/-! ## Disagreements -/

/-- QUARANTINE in freeze form (R34 causes 12 and 13, R39): every channel keeps its state, no new release is made. -/
def State.quarantineFreeze (s : State) (cause : Nat) : State :=
  if s.dev.mode.running then
    let s := { s with dev := { s.dev with form := .freeze, dormantSeq := false } }
    s.setMode .quarantine cause
  else s

/-- The disagreements of the last 10 s, the interval closed (R57). -/
def State.recentDisagree (s : State) : List Nat := s.hg.disagree.filter fun t => decide (s.time ≤ t + 10 * secNs)

/-- Counts a disagreement (R54, R46, R57): `disagreements_total` rises, and the third within 10 s freezes the device. -/
def State.disagreement (s : State) : State :=
  let l := s.time :: s.recentDisagree
  let s := { s with hg := { s.hg with disagree := l } }
  let s := s.storePut 0x0202 4 (leBytes 4 (satInc 32 (s.pnat 0x0202 4 0)))
  if 3 ≤ l.length then s.quarantineFreeze 12 else s

/-! ## The record -/

/-- The epoch after one, saturating (R56). -/
def nextEpoch (e : Word) : Word := if e = 0xFFFFFFFF then e else e + 1

/-- Makes a half steward at an epoch. -/
def State.makeSteward (s : State) (h : Half) (e : Word) : State :=
  { s with hg := { s.hg with steward := some h, epoch := e, claims := s.hg.claims.set h .steward,
                             claimEpochs := s.hg.claimEpochs.set h e } }

/-- The steward's claim ends other than by a handover (R54): a disagreement; the other half takes over if it claims SHADOW. -/
def State.stewardLost (s : State) (h : Half) : State :=
  let s := if s.hg.claims.get h.other = .shadow then s.makeSteward h.other (nextEpoch s.hg.epoch)
           else { s with hg := { s.hg with steward := none } }
  s.disagreement

/-- The engines of a half: 0-7 Indigo's, 8-15 Amber's (R21). -/
def engineHalf (e : Fin 16) : Half := if e.val < 8 then .indigo else .amber

/-- A half's hash jobs are dropped (R33). -/
def State.dropHash (s : State) (h : Half) : State :=
  let engines := Vector.ofFn fun e : Fin 16 =>
    if engineHalf e = h then { s.hash.engines[e] with job := none } else s.hash.engines[e]
  { s with hash := { s.hash with engines := engines, queue := s.hash.queue.set h [], done := s.hash.done.set h [] } }

/-- The control cores of a half restart: their registers return to reset, not yet released (R33). -/
def State.resetCores (s : State) (h : Half) : State :=
  { s with cores := Vector.ofFn fun k : Fin 12 => if coreHalf k = some h then Core.reset else s.cores[k] }

/-- The watchdog of a group is disarmed at its restart (R537). -/
def State.disarmWdog (s : State) (g : Fin 4) : State :=
  { s with pw := { s.pw with wdogs := vupd s.pw.wdogs g fun w => { w with armed := false } } }

/-- The watchdog group of a half (R537). -/
def Half.group : Half → Fin 4
  | .indigo => 0
  | .amber => 1

/-- A half restart (R33, R54): cores, hash and big-number jobs and verifications of the half go; its claim reads RESTARTING. -/
def State.halfRestart (s : State) (h : Half) : State :=
  let was := s.isSteward h
  let s := { s with hg := { s.hg with claims := s.hg.claims.set h .restarting } }
  let s := if was then s.stewardLost h else s
  let s := (s.resetCores h).dropHash h
  let s := pkeAbortAs h .frameAbort (s.disarmWdog h.group)
  { s with upd := { s.upd with vers := s.upd.vers.set h [] } }

/-- HALF_RESTART (R33, R54). -/
def execHalfRestart (h : Half) (s : State) : Host.Outcome State Fault Refusal := .next (s.halfRestart h)

/-- Does a STEWARD claim at an epoch win against the sitting steward (R54, R56). -/
def claimWins (h : Half) (e cur : Word) : Bool :=
  if e = 0xFFFFFFFF then h == .indigo && cur == 0xFFFFFFFF
  else decide (cur.toNat < e.toNat) || (e == cur && h == .indigo)

/-- A write of a CLAIM register, arbitrated (R54, R55). -/
def State.claim (s : State) (h : Half) (c : Claim) (e : Word) : State :=
  let s := { s with hg := { s.hg with claims := s.hg.claims.set h c, claimEpochs := s.hg.claimEpochs.set h e } }
  match c with
  | .steward =>
    match s.hg.steward with
    | none => s.makeSteward h (nextEpoch s.hg.epoch)
    | some g =>
      if g = h then s
      else if claimWins h e s.hg.epoch then
        let s := (s.makeSteward h e).disagreement
        s.halfRestart g
      else (s.disagreement).halfRestart h
  | _ => if s.isSteward h then s.stewardLost h else s

/-- STEWARD_CLAIM (R54, R55). -/
def execStewardClaim (h : Half) (c : Claim) (e : Word) (s : State) : Host.Outcome State Fault Refusal :=
  .next (s.claim h c e)

/-- A write of YIELD (R53): by the steward, to a half claiming SHADOW; not a disagreement. -/
def State.yieldTo (s : State) (h : Half) : State :=
  if s.isSteward h ∧ s.hg.claims.get h.other = .shadow then
    let s := { s with hg := { s.hg with claims := s.hg.claims.set h .shadow } }
    s.makeSteward h.other (nextEpoch s.hg.epoch)
  else s

/-- STEWARD_YIELD (R53): a write of HEADGATE's command register, which the shadow may not make (R19). -/
def execStewardYield (h : Half) (s : State) : Host.Outcome State Fault Refusal :=
  .next (s.halfBus h 0x40000068 1 true fun s => s.yieldTo h)

/-- The claim of a half that leaves its restart (R55). -/
def State.returnClaim (s : State) (h : Half) : Claim :=
  match s.hg.steward, h with
  | some _, _ => .shadow
  | none, .indigo => .steward
  | none, .amber => if s.hg.claims.indigo = .restarting then .steward else .shadow

/-- The half's control cores run again from the reset vector. -/
def State.releaseCores (s : State) (h : Half) : State :=
  { s with cores := Vector.ofFn fun k : Fin 12 =>
      if coreHalf k = some h then { s.cores[k] with released := true, releasedAt := s.time } else s.cores[k] }

/-- A half leaves its restart (R55). -/
def State.halfReturn (s : State) (h : Half) : State :=
  if s.hg.claims.get h = .restarting then
    let s := s.releaseCores h
    s.claim h (s.returnClaim h) s.hg.epoch
  else s

/-- HALF_RESTART_END (R55). -/
def execHalfRestartEnd (h : Half) (s : State) : Host.Outcome State Fault Refusal := .next (s.halfReturn h)

/-! ## Verdict posts -/

/-- A conflict (R46): the first has both halves verify again from the flash; the second counts as a disagreement and quarantines the channel. -/
def State.conflict (s : State) (c : ChanId) : State :=
  if s.hg.reverify[c] then
    let s := { s with hg := { s.hg with reverify := vset s.hg.reverify c false } }
    (s.disagreement).setChan c .quarantined
  else
    let s : State := { s.clearVerdicts c with hg := { (s.clearVerdicts c).hg with reverify := vset s.hg.reverify c true } }
    let st := (s.chan c).state
    if (s.chan c).desc.manifestRef ≠ 0 ∧ (st = .filling ∨ st = .held ∨ st = .released) then
      let s := s.updChan c fun ch => { ch with fillNext := some 0, fillCount := 0, fillDig := Both.rep [], rereads := [] }
      s.startVer (.chan c) .fill (s.chan c).gen []
    else s.verifyChan c

/-- A channel that reaches HELD under a root for which no golden copy exists has one written, from the mirror (R251). -/
def State.noteGolden (s : State) (c : ChanId) : State :=
  let t : Target := .chan c
  let d := (s.chan c).desc
  if d.manifestRef = 0 ∨ (s.cis.sets[t.idx]).any (fun g => g.root == d.merkleRoot) ∨ s.cis.pendingWrites.any (fun w => w.1 == t) then s
  else { s with cis := { s.cis with pendingWrites := s.cis.pendingWrites ++ [(t, [])] } }

/-- A channel needs an image (R230): recovery runs, unless it does already. -/
def State.needRecovery (s : State) (c : ChanId) : State :=
  if (s.target (.chan c)).recState = 0 then s.updTarget (.chan c) fun u => { u with recState := 1, recUntil := some (s.time + 60 * secNs), recLocal := false, recCodes := [] } else s

/-- Have both halves posted failed verdicts of the cached generation. -/
def State.verdictsFail (s : State) (c : ChanId) : Bool :=
  match s.verdictOf .indigo c, s.verdictOf .amber c with
  | some a, some b => a.code != 0 && b.code != 0
  | _, _ => false

/-- What follows a post (R41, R46, R230): a conflict; two failed verdicts, which call for recovery; else, once both halves have posted matching good verdicts, FILLING becomes
HELD. -/
def State.afterPost (s : State) (c : ChanId) : State :=
  if s.verdictConflict c then s.conflict c
  else if s.verdictsRelease c then
    let s := { s with hg := { s.hg with reverify := vset s.hg.reverify c false } }
    if (s.chan c).state = .filling then (s.setChan c .held).noteGolden c else s
  else if s.verdictsFail c then
    let s := { s with hg := { s.hg with reverify := vset s.hg.reverify c false } }
    if (s.chan c).state = .filling ∨ (s.chan c).state = .held then s.needRecovery c else s
  else s

/-- A half posts a verdict (R320). -/
def State.vpost (s : State) (h : Half) (value : Word) : State :=
  let r := s.vpostStore h value
  if r.2 = .ok then r.1.afterPost (vpostChan value) else r.1

/-- A half posts a code for a channel with a root, as its firmware does after a verification: at the cached generation. -/
def State.postVerdict (s : State) (h : Half) (c : ChanId) (root : Digest) (code : Code) : State :=
  let s := { s with hg := { s.hg with vroot := s.hg.vroot.set h root, vpostBusy := s.hg.vpostBusy.set h s.time } }
  s.vpost h (BitVec.ofNat 32 (code.num * 2 ^ 24 + c.val * 2 ^ 16 + (s.chan c).gen % 2 ^ 16))

/-! ## DORMANT -/

/-- The code a dormant request is answered with (R11, R51, R58). -/
def State.dormantCode (s : State) (who : Requester) : Code :=
  if ! s.authorised who then .deniedAuth
  else if ! ModeOp.dormant.permitted s.dev.mode then .refusedState
  else if s.hg.steward.isNone then .busy
  else .ok

/-- `dormant_request` written true (R39, R58): the assertion sequence begins, releases stop. -/
def State.dormantRequest (s : State) (who : Requester) : State :=
  match s.dormantCode who with
  | .ok => ({ s with dev := { s.dev with dormantSeq := true } }).answer .ok
  | .refusedState => (s.opRefused .dormant).answer .refusedState
  | c => s.answer c

/-- DORMANT_REQUEST (R39). -/
def execDormantRequest (who : Requester) (s : State) : Host.Outcome State Fault Refusal :=
  .next (s.asked who fun s => s.dormantRequest who)

/-- The used outputs that name `h` as a predecessor. -/
def State.successors (s : State) (h : OutId) : List OutId :=
  (List.finRange 64).filter fun j => (s.hg.planActive[j]).used && (s.hg.planActive[j]).predMask.getLsbD h.val

/-- When output `h` may assert in the sequence (R319): once each output naming it has been asserted for its own delay. -/
def State.dormantTurn (s : State) (h : OutId) : Option Nat :=
  if (s.successors h).any fun j => s.outReleased j then none
  else some ((s.successors h).foldl (fun t j =>
    max t (s.hg.assertAt[j] + (s.hg.planActive[j]).delayMs.toNat * msNs)) 0)

/-- The turn of output `h` (R319). -/
def State.dormantAssert (s : State) (h : OutId) : State :=
  if ! s.dev.dormantSeq || ! s.outReleased h then s
  else match s.dormantTurn h with
    | none => s
    | some t => (s.advanceTo t).assertSet (bitMask 64 h.val) 1

/-- DORMANT_OUTPUT_ASSERT (R319). -/
def execDormantOutputAssert (h : OutId) (s : State) : Host.Outcome State Fault Refusal := .next (s.dormantAssert h)

end Sys2Proof.Machine
end

