-- ==== Sys2Proof/Machine/Supply.lean ====
section
/-!
DEFINITION. The supply (R229, R322-R332): ACFAIL_N, PWROK and the freeze, window trips, disturbances, the hold-up measurement and
the energy gate, PSU polling; and the staged release plan and the confirm timer's registers (R315, R237).
-/
namespace Sys2Proof.Machine

/-! ## The measurement block -/

/-- The measurement block starts (R334): its reference check passes or raises MEAS_CAL_FAIL; the outcome is a free value (log entry
114). -/
def State.measStart (s : State) : State :=
  let fails := Config.referenceFails s.free
  ({ s.drawn with ms := { s.ms with run := true, calFail := fails } }).raiseIf fails 1285

/-- A write of MEASURE.CTL (R334). -/
def State.measCtl (s : State) (v : Word) : State :=
  let s := if v.getLsbD 0 ∧ ! s.ms.run then s.measStart else s
  { s with ms := { s.ms with run := v.getLsbD 0, busFreeze := v.getLsbD 1, bus1Current := v.getLsbD 2, huEnable := v.getLsbD 3 } }

/-! ## The freeze -/

/-- The freeze of R229 begins, or its end is put off: FREEZE in the measurement log when it begins. -/
def State.freezeStart (s : State) : State :=
  let was := s.dev.freeze
  let s := { s with dev := { s.dev with freeze := true, freezeClear := none } }
  if was then s else s.logMeas .freeze [(8, s.time)]

/-- ACFAIL_N or an equivalent of R326 is in force. -/
def State.supplyBad (s : State) : Bool := s.ms.acfail || s.ms.busTrip || ! s.ms.pwrok

/-- What ends: the 1 s of R229 begins once ACFAIL_N is deasserted, no equivalent stands and PWROK is asserted. -/
def State.freezeClearing (s : State) : State :=
  if s.dev.freeze && ! s.supplyBad then { s with dev := { s.dev with freezeClear := some s.time } } else s

/-- ACFAIL_ASSERT (R229, R326). -/
def execAcfailAssert (s : State) : Host.Outcome State Fault Refusal :=
  .next (if s.ms.acfail then s
    else (({ s with ms := { s.ms with acfail := true } }).raise 1272).freezeStart)

/-- ACFAIL_DEASSERT (R229, R326). -/
def execAcfailDeassert (s : State) : Host.Outcome State Fault Refusal :=
  .next (if s.ms.acfail then (({ s with ms := { s.ms with acfail := false } }).raise 1273).freezeClearing else s)

/-- A change of PWROK (R326): its loss while ACFAIL_N is deasserted acts as an assertion of ACFAIL_N. -/
def State.pwrokChange (s : State) (on : Bool) : State :=
  if s.ms.pwrok = on then s
  else
    let s := { s with ms := { s.ms with pwrok := on } }
    if on then (s.raise 1275).freezeClearing
    else
      let s := s.raise 1274
      if s.ms.acfail then s else s.freezeStart

/-- PWROK_CHANGE (R326). -/
def execPwrokChange (asserted : Bool) (s : State) : Host.Outcome State Fault Refusal := .next (s.pwrokChange asserted)

/-- The freeze ends 1 s after ACFAIL_N and PWROK became good and stayed so (R229). -/
def State.freezeEnd (s : State) : State :=
  match s.dev.freeze, s.dev.freezeClear with
  | true, some t =>
    if s.supplyBad then s
    else { s.advanceTo (t + secNs) with dev := { s.dev with freeze := false, freezeClear := none } }
  | _, _ => s

/-- A window comparator (R326): its event on a trip; a low trip of MEAS_BUS0 with bus_freeze acts as ACFAIL_N. -/
def State.windowTrip (s : State) (bus : Fin 2) (t : BusTrip) : State :=
  match t with
  | .cleared =>
    if bus = 0 ∧ s.ms.busTrip then ({ s with ms := { s.ms with busTrip := false } }).freezeClearing else s
  | .high => s.raise (1276 + bus.val)
  | .low =>
    let s := s.raise (1276 + bus.val)
    if bus = 0 ∧ s.ms.busFreeze then ({ s with ms := { s.ms with busTrip := true } }).freezeStart else s

/-- BUS_WINDOW_TRIP (R326). -/
def execBusWindowTrip (bus : Fin 2) (trip : BusTrip) (s : State) : Host.Outcome State Fault Refusal :=
  .next (s.windowTrip bus trip)

/-! ## Disturbances -/

/-- The number of a class in the events of a bus input (R336). -/
def DisturbClass.num : DisturbClass → Nat
  | .sag => 0 | .dropout => 1 | .surge => 2 | .ripple => 3

/-- The event of a class on input 0-15 (rails), 16 and 17 (bus inputs) (R336). -/
def disturbEvent (i : Fin 18) (c : DisturbClass) : Nat :=
  if i.val < 16 then 1232 + 2 * i.val + c.num / 2 else 1264 + 4 * (i.val - 16) + c.num

/-- The configuration register of an input: nominal in [31:16], ratio in [15:0] (R334). -/
def State.measCfg (s : State) (i : Fin 18) : Nat :=
  if h : i.val < 16 then (s.ms.railCfg[i.val]'h).toNat else (s.ms.busCfg[i.val - 16]'(by omega)).toNat

/-- The declared nominal of an input in mV, 0 none: a bus's register counts in 10 mV (R332, R334). -/
def State.nominal (s : State) (i : Fin 18) : Nat := bitsOf (s.measCfg i) 16 16 * (if i.val < 16 then 1 else 10)

/-- A reading of an input: at 1.2 V on the pin it reads full scale, whatever the net has (R570), through the divider's ratio in Q15, or
the amplifier's scale on a current input (R322, R334). -/
def State.limited (s : State) (i : Fin 18) (v : Nat) : Nat :=
  let r := s.measCfg i % 2 ^ 16
  if i.val = 17 ∧ s.ms.bus1Current then min v (1200 * r) else if r = 0 then v else min v (1200 * 32768 / r)

/-- Is a disturbance of a class: what it reached, in mV, and how long it stood, in µs, against the nominal (R324). -/
def DisturbClass.meets (c : DisturbClass) (n ext durUs : Nat) : Bool :=
  match c with
  | .dropout => decide (2 * ext < n) && decide (10 ≤ durUs)
  | .sag => decide (10 * ext < 9 * n) && decide (1000 ≤ durUs)
  | .surge => decide (11 * n < 10 * ext) && decide (100 ≤ durUs)
  | .ripple => decide (30000 ≤ durUs)

/-- Is the input classified (R323, R324, R332, R334): running, calibrated, a nominal declared, MEAS_BUS1 a voltage. -/
def State.classified (s : State) (i : Fin 18) : Bool :=
  s.ms.run && ! s.ms.calFail && s.nominal i != 0 && (i.val != 17 || s.pnat 0x0512 1 0 == 2)

/-- The end of a disturbance (R325): its event and a DISTURB record, one per input per class per second. -/
def State.disturbEnd (s : State) (i : Fin 18) (c : DisturbClass) (start durUs ext mean : Nat) : State :=
  let ext := s.limited i ext
  let mean := s.limited i mean
  if ! s.classified i || ! c.meets (s.nominal i) ext durUs then s
  else
    let e := disturbEvent i c
    let s := if i = 16 then { s with ms := { s.ms with busQuiet := s.time } } else s
    (s.raise e).logLimitedAs 1 (0xD1000000 + 4 * i.val + c.num) .disturb e 0 .measurement
      [(1, i.val), (1, c.num), (8, start), (4, durUs), (4, ext), (4, mean)]

/-- DISTURBANCE_END (R325). -/
def execDisturbanceEnd (input : Fin 18) (cls : DisturbClass) (start durUs extremeMv meanMv : Nat) (s : State) :
    Host.Outcome State Fault Refusal :=
  .next (s.disturbEnd input cls start durUs extremeMv meanMv)

/-- A measurement core falls behind (R323). -/
def execMeasOverrun (core : Fin 2) (s : State) : Host.Outcome State Fault Refusal :=
  .next (({ s with ms := { s.ms with pace := vset s.ms.pace core false } }).raise 1286)

/-! ## Hold-up -/

/-- HU_LOAD is driven high (R327); a step under way goes on. -/
def State.testStep (s : State) : State :=
  match s.ms.huStep with
  | some _ => s
  | none => { s with ms := { s.ms with huStep := some s.time } }

/-- May the scheduled step be made: 10 s without a disturbance on MEAS_BUS0, in GUARD with hu_enable (R327), or in RECOVER with
holdup_mode 1 (R359). -/
def State.stepDue (s : State) : Bool :=
  decide (s.ms.busQuiet + 10 * secNs ≤ s.time) && s.domOn 29
  && ((s.dev.mode == .guard && s.ms.run && s.ms.huEnable) || (s.dev.mode == .recover && s.pnat 0x0520 1 1 == 1))

/-- HOLDUP_TEST_STEP (R327, R359). -/
def execHoldupTestStep (s : State) : Host.Outcome State Fault Refusal := .next (if s.stepDue then s.testStep else s)

/-- A write of HU_CTL (R334): the steward's; bit 0 makes one test step. -/
def State.huCtlWrite (s : State) (k : CoreId) (v : Word) : State × Code :=
  if ! s.domOn 29 then (s, .domainOff)
  else if ! s.stewardCore k then (s, .deniedAccess)
  else (if v.getLsbD 0 then s.testStep else s, .ok)

/-- HU_CTL (R327). -/
def execHuCtl (core : CoreId) (value : Word) (s : State) : Host.Outcome State Fault Refusal :=
  .next (s.busEnd core 0x40090020 (s.huCtlWrite core value))

/-- Inserts a number in ascending order. -/
def insertNat (x : Nat) : List Nat → List Nat
  | [] => [x]
  | y :: ys => if x ≤ y then x :: y :: ys else y :: insertNat x ys

/-- A list in ascending order. -/
def sortNat (l : List Nat) : List Nat := l.foldr insertNat []

/-- The median: the middle value, of an even number the mean of the middle two, rounded down (DEDUCED, log entry 15). -/
def median (l : List Nat) : Nat :=
  let a := sortNat l
  let n := a.length
  if n % 2 = 1 then a.getD (n / 2) 0 else (a.getD (n / 2 - 1) 0 + a.getD (n / 2) 0) / 2

/-- The step in current in mA: measured where MEAS_BUS1 is a current input, else bus voltage ÷ test load; none where the load is
declared 0 (R327). -/
def State.stepMa (s : State) (x : HuStep) : Option Nat :=
  if s.ms.bus1Current then some x.deltaMa
  else
    let r := s.pnat 0x0513 2 0
    if r = 0 then none else some (s.ms.busMv[0].toNat * 1000 / r)

/-- The sums of a least-squares line: points, places, values, squares of places, products (R327). -/
structure LineFit where
  n : Int
  x : Int
  y : Int
  xx : Int
  xy : Int
  deriving DecidableEq, Repr

/-- The line through the samples from place `a` to place `b`. -/
def HuStep.line (h : HuStep) (a b : Nat) : LineFit :=
  ((List.range (b + 1 - a)).map fun i => (Int.ofNat (a + i), Int.ofNat (h.samples.getD (a + i) 0))).foldl
    (fun l p => ⟨l.n + 1, l.x + p.1, l.y + p.2, l.xx + p.1 * p.1, l.xy + p.1 * p.2⟩) ⟨0, 0, 0, 0, 0⟩

/-- How far the line falls from sample to sample, as numerator and denominator. -/
def LineFit.fall (l : LineFit) : Int := l.x * l.y - l.n * l.xy
/-- The denominator of the slope. -/
def LineFit.den (l : LineFit) : Int := l.n * l.xx - l.x * l.x

/-- The line of the step: 10 to 50 µs after its start (R327). -/
def HuStep.whole (h : HuStep) : LineFit := h.line 40 200

/-- How far a sample lies from the line, times n × den. -/
def LineFit.off (l : LineFit) (x y : Int) : Nat := (l.n * l.den * y - (l.den * l.y + l.fall * l.x) + l.n * l.fall * x).natAbs

/-- The fit's residual, its largest distance, times n × den (DESIGN CHOICE, log entry 157). -/
def HuStep.residual (h : HuStep) : Nat :=
  ((List.range 161).map fun i => h.whole.off (Int.ofNat (40 + i)) (Int.ofNat (h.samples.getD (40 + i) 0))).foldl max 0

/-- Is the step rejected (R328): the slope over 40 to 50 µs below 0.8 of that over 10 to 20 µs, a residual above 10 % of the total fall
over the 160 samples, or a disturbance. -/
def HuStep.rejected (h : HuStep) : Bool :=
  let early := h.line 40 80
  let late := h.line 160 200
  decide (10 * late.fall * early.den < 8 * early.fall * late.den)
  || decide (h.whole.n * h.whole.fall * 160 < 10 * (h.residual : Int)) || h.disturbed

/-- The capacitance of a step in µF (R327): ΔI ÷ slope, at 1 µV per 0.25 µs = 4 V/s; a free value where a divisor is 0, or the bus does
not fall (log entry 16). -/
def State.stepCap (s : State) (h : HuStep) : Nat :=
  match s.stepMa h with
  | some ma => if h.whole.fall ≤ 0 then (Config.freeWord s.free).toNat else (250 * (ma : Int) * h.whole.den / h.whole.fall).toNat
  | none => (Config.freeWord s.free).toNat

/-- A test step has been fitted (R327, R328). -/
def State.stepDone (s : State) (f : HuStep) : State :=
  match s.ms.huStep with
  | none => s
  | some t =>
    let s := s.advanceTo (t + 60 * usNs)
    let s := { s with ms := { s.ms with huStep := none } }
    if f.rejected then s.raise 1279
    else
      let caps := (s.stepCap f :: s.ms.caps).take 8
      let s := s.drawn
      let cap := BitVec.ofNat 32 (median caps)
      ({ s with ms := { s.ms with caps := caps, cap := cap, lastStep := s.time } }).raise 1278

/-- HOLDUP_STEP_DONE (R328). -/
def execHoldupStepDone (x : HuStep) (s : State) : Host.Outcome State Fault Refusal := .next (s.stepDone x)

/-- No step has been accepted for three intervals (R329). -/
def State.holdupStale (s : State) : Bool := decide (s.ms.lastStep + 3 * s.pnat 0x0520 2 600 * secNs ≤ s.time)

/-- The usable hold-up in µs (R329): 0.9 × C × (V² - Vmin²) ÷ (2 × P), with C in µF, V in mV, P in mW. -/
def holdupUs (capUf busMv minMv peakMw : Nat) : Nat := 9 * capUf * (busMv ^ 2 - minMv ^ 2) / (20000 * peakMw)

/-- HOLDUP[15:0] of a time in µs: whole ms; a free value where the field cannot hold it or P is 0 (log entry 16). -/
def State.holdupField (s : State) (us peakMw : Nat) : Word16 :=
  if peakMw = 0 ∨ 2 ^ 16 ≤ us / 1000 then BitVec.ofNat 16 (Config.freeWord s.free).toNat else BitVec.ofNat 16 (us / 1000)

/-- A signed field of `n` bits. -/
def signedBits (v n : Nat) : Int := if v.testBit (n - 1) then (v % 2 ^ n : Int) - 2 ^ n else (v % 2 ^ n : Int)

/-- A LINEAR11 word in thousandths of its unit, rounded down: the mantissa in [10:0], the exponent in [15:11], both signed (R330). -/
def linear11 (w : Word16) : Int :=
  let m := signedBits w.toNat 11 * 1000
  let e := signedBits (w.toNat / 2048) 5
  if 0 ≤ e then m * 2 ^ e.toNat else m / 2 ^ (-e).toNat

/-- READ_POUT of a PSU in mW; a negative one counts as 0 (DESIGN CHOICE, log entry 157). -/
def Psu.milliwatts (p : Psu) : Nat := (linear11 p.pout).toNat

/-- `psu_pout_w`: whole W (R332). -/
def Psu.watts (p : Psu) : Word16 := BitVec.ofNat 16 (p.milliwatts / 1000)

/-- The PSUs that are polled (R330, R332). -/
def State.polledPsus (s : State) : List Psu := s.ms.psus.toList.take (s.pnat 0x0530 1 0)

/-- The bus power now, mW (R329): voltage × current where MEAS_BUS1 is a current input, else the sum over the polled PSUs, once each has
answered. -/
def State.busPower (s : State) (busMv busMa : Nat) : Option Nat :=
  if s.ms.bus1Current then some (busMv * busMa / 1000)
  else
    let ps := s.polledPsus
    if ps.isEmpty ∨ (ps.any fun p => ! p.seen) then none else some (ps.map Psu.milliwatts).sum

/-- The powers of the last second with the present one. -/
def State.recentPowers (s : State) (p : Option Nat) : List (Nat × Nat) :=
  (match p with
    | some v => [(s.time, v)]
    | none => []) ++ s.ms.powers.filter fun x => decide (s.time ≤ x.1 + secNs)

/-- P of the estimate (R329): the highest bus power over the last second; none while no power is available. -/
def State.peakPower (s : State) (busMv busMa : Nat) : Option Nat :=
  (s.busPower busMv busMa).map fun p => ((s.recentPowers (some p)).map fun x => x.2).foldl max 0

/-- The 10 ms computation (R329): HOLDUP_LOW where a valid estimate falls below 7.5 ms. -/
def State.holdupEstimate (s : State) (busMv busMa : Nat) : State :=
  if ! s.domOn 29 then s
  else
    let busMv := s.limited 16 busMv
    let busMa := s.limited 17 busMa
    let stale := s.holdupStale
    let peak := s.peakPower busMv busMa
    let recent := s.recentPowers (s.busPower busMv busMa)
    let s := ({ s with ms := { s.ms with powers := recent } }).raiseIf (stale && ! s.ms.stale) 1281
    match peak with
    | none => { s with ms := { s.ms with valid := false, stale := stale, low := false, holdupMs := 0 } }
    | some p =>
      let us := holdupUs s.ms.cap.toNat busMv (s.pnat 0x0513 1 0) p
      let valid := ! s.ms.caps.isEmpty && ! stale
      let ms : Word16 := if valid then s.holdupField us p else 0
      let low := valid && decide (0 < p) && decide (us < 7500)
      let fell := low && ! s.ms.low
      let s := { s.drawn with ms := { s.ms with valid := valid, stale := stale, low := low, holdupMs := ms,
                                                peakW := BitVec.ofNat 16 (p / 1000) } }
      s.raiseIf fell 1280

/-- HOLDUP_ESTIMATE (R329). -/
def execHoldupEstimate (busMv busMa : Nat) (s : State) : Host.Outcome State Fault Refusal := .next (s.holdupEstimate busMv busMa)

/-- The hold-up time that the gate uses, ms (R228): the valid estimate, else `holdup_floor_ms`. -/
def State.gateMs (s : State) : Nat := if s.ms.valid then s.ms.holdupMs.toNat else s.pnat 0x0A30 1 0

/-- Is the gate open for a step of at most `maxUs` µs: at least 1.5 times that (R227); never in a freeze (R229). -/
def State.gateOpen (s : State) (maxUs : Nat) : Bool := ! s.dev.freeze && decide (3 * maxUs ≤ 2000 * s.gateMs)

/-- A journal append at most (R227). -/
def journalUs : Nat := 1000
/-- A floor step burn at most (R227). -/
def floorUs : Nat := 100
/-- A catalogue commit at most (R227). -/
def catalogueUs : Nat := 5000

/-! ## PSUs -/

/-- A PSU's answer (R330): a changed STATUS_WORD raises PSU_STATUS with a record of the status registers read. -/
def State.psuAnswer (s : State) (i : Fin 4) (a : PsuAnswer) : State :=
  let p := s.ms.psus[i]
  if ! a.ok then
    let s := { s with ms := { s.ms with psus := vset s.ms.psus i { p with unanswered := p.unanswered + 1, arbLosses := 0 } } }
    s.raiseIf (p.unanswered + 1 == 3) 1283
  else
    let s := { s with ms := { s.ms with
      psus := vset s.ms.psus i { statusWord := a.status, pout := a.pout, unanswered := 0, arbLosses := 0, seen := true } } }
    if a.status = p.statusWord then s
    else
      let more : List LogField := if a.status = 0 then [] else
        [(1, a.statusVout.toNat), (1, a.statusIout.toNat), (1, a.statusInput.toNat), (1, a.statusTemp.toNat)]
      (s.raise 1282).logRec .psu 1282 0 .management ([(1, i.val), (2, a.status.toNat)] ++ more)

/-- A poll or a retry of it: PSU_ARB_LOST on a lost arbitration, and after the third retry the poll is skipped (R330). -/
def State.psuTry (s : State) (i : Fin 4) (n : Nat) (lost : Bool) (a : PsuAnswer) : State :=
  if lost then
    let p := s.ms.psus[i]
    ({ s with ms := { s.ms with psus := vset s.ms.psus i { p with arbLosses := if 3 < n then 0 else n } } }).raise 1284
  else s.psuAnswer i a

/-- Is the PSU polled: declared, from HOLD on (R330). -/
def State.psuPolled (s : State) (i : Fin 4) : Bool :=
  decide (i.val < s.pnat 0x0530 1 0) && s.boot.phase == .running && s.dev.mode != .dormant

/-- PSU_POLL (R330). -/
def execPsuPoll (psu : Fin 4) (arbLost : Bool) (ans : PsuAnswer) (s : State) : Host.Outcome State Fault Refusal :=
  .next (if s.psuPolled psu then s.psuTry psu 1 arbLost ans else s)

/-- PSU_BUS_IDLE_RETRY (R330): a retry of a poll that lost arbitration. -/
def execPsuBusIdleRetry (psu : Fin 4) (arbLost : Bool) (ans : PsuAnswer) (s : State) : Host.Outcome State Fault Refusal :=
  let n := s.ms.psus[psu].arbLosses
  .next (if s.psuPolled psu ∧ n ≠ 0 then s.psuTry psu (n + 1) arbLost ans else s)

/-- A write of `psu_clear_faults` (R330). -/
def State.psuClearObj (s : State) (who : Requester) (psu : Nat) : State :=
  s.objWrite who .write .wo false 0x0534 (psu + 1) none [] fun s => (s, .ok)

/-- PSU_CLEAR_FAULTS (R330): CLEAR_FAULTS goes out on the bus; nothing of the device's state changes but the answer. -/
def execPsuClearFaults (who : Requester) (psu : Fin 4) (s : State) : Host.Outcome State Fault Refusal :=
  .next (s.psuClearObj who psu.val)

/-! ## The release plan -/

/-- The plan of the object store in force: the previous value that R315 restores. -/
def State.planTake (s : State) : State :=
  { s with hg := { s.hg with planActive := s.hg.planStage, planActiveGen := s.hg.planStageGen, staging := none } }

/-- Both halves have accepted the staged generation, which is not the active one: the staged plan becomes active (R315). -/
def State.planCheck (s : State) : State :=
  if s.hg.planGen.indigo = s.hg.planStageGen ∧ s.hg.planGen.amber = s.hg.planStageGen
    ∧ s.hg.planStageGen ≠ s.hg.planActiveGen then s.planTake else s

/-- PLAN_STAGE_GEN_WRITE (R315): the steward's; staging begins. -/
def execPlanStageGenWrite (half : Half) (gen : Word16) (s : State) : Host.Outcome State Fault Refusal :=
  .next (s.halfBus half 0x4000008C 1 true fun s =>
    let old := match s.hg.staging with
      | some p => p.2
      | none => s.hg.planActive
    ({ s with hg := { s.hg with planStageGen := gen, staging := some (s.time, old) } }).planCheck)

/-- A half's write of its PLAN_GEN (R315). -/
def State.planGenWrite (s : State) (half : Half) (gen : Word16) : State :=
  ({ s with hg := { s.hg with planGen := s.hg.planGen.set half gen } }).planCheck

/-- PLAN_GEN_WRITE (R315). -/
def execPlanGenWrite (half : Half) (gen : Word16) (s : State) : Host.Outcome State Fault Refusal :=
  .next (s.planGenWrite half gen)

/-- A plan entry's 32 bytes (R313). -/
def planEntryBytes (e : PlanEntry) : List Byte :=
  leBytes 1 (b2n e.used + 2 * b2n e.ignoreLoad + 4 * b2n e.holdOnSenseLoss + 8 * b2n e.holdWithPred) ++ leBytes 1 0
  ++ leBytes 2 e.delayMs.toNat ++ leBytes 8 e.predMask.toNat ++ leBytes 4 e.senseMask.toNat ++ leBytes 4 e.senseLevel.toNat
  ++ leBytes 2 e.settleMs.toNat ++ leBytes 2 e.senseTimeoutMs.toNat ++ leBytes 8 e.chanMask.toNat

/-- The 2,048 bytes of a plan (R313). -/
def planBytes (p : Vector PlanEntry 64) : List Byte := p.toList.flatMap planEntryBytes

/-- A plan entry from its 32 bytes (R313). -/
def planEntryOf (bs : List Byte) : PlanEntry :=
  let f := leNat (bs.take 1)
  let n (o len : Nat) : Nat := leNat ((bs.drop o).take len)
  { used := f.testBit 0, ignoreLoad := f.testBit 1, holdOnSenseLoss := f.testBit 2, holdWithPred := f.testBit 3,
    delayMs := BitVec.ofNat 16 (n 2 2), predMask := BitVec.ofNat 64 (n 4 8), senseMask := BitVec.ofNat 32 (n 12 4),
    senseLevel := BitVec.ofNat 32 (n 16 4), settleMs := BitVec.ofNat 16 (n 20 2),
    senseTimeoutMs := BitVec.ofNat 16 (n 22 2), chanMask := BitVec.ofNat 64 (n 24 8) }

/-- A plan from its bytes (R313). -/
def planOf (bs : List Byte) : Vector PlanEntry 64 := Vector.ofFn fun h : Fin 64 => planEntryOf ((bs.drop (32 * h.val)).take 32)

/-- 40 ms after staging the plan is not active (R315): the steward restores the previous value and answers INTERNAL. -/
def State.planTimeout (s : State) : State :=
  match s.hg.staging with
  | none => s
  | some (t, old) =>
    let s := s.advanceTo (t + 40 * msNs)
    let s := { s with hg := { s.hg with planStage := old, staging := none } }
    (s.storePut 0x0D00 1 (planBytes old)).answer .internal

/-- PLAN_ACTIVATION_TIMEOUT (R315). -/
def execPlanActivationTimeout (s : State) : Host.Outcome State Fault Refusal := .next s.planTimeout

end Sys2Proof.Machine
end

