-- ==== Sys2Proof/Machine/Hash.lean ====
section
/-!
DEFINITION. HASHGRP (R147, R198-R204): the queues of the halves, the jobs, credit scheduling, medians, fencing and its retries.
-/
namespace Sys2Proof.Machine

/-! ## Jobs -/

/-- SHA3-384 (FIPS 202). -/
def sha3 (bs : List Byte) : List Byte :=
  let blocks (st : Vector DWord 25) (b : List Byte) : Vector DWord 25 :=
    keccakF (b.zipIdx.foldl (fun l x => Sponge.xorByte l x.2 x.1) st)
  let pad := 104 - bs.length % 104
  let full := bs ++ (if pad = 1 then [0x86] else 0x06 :: (List.replicate (pad - 2) 0 ++ [0x80]))
  let st := (List.range (full.length / 104)).foldl (fun st i => blocks st ((full.drop (104 * i)).take 104)) (Vector.replicate 25 0)
  (List.range 48).map fun i => Sponge.byteAt st i

/-- A job descriptor from its 32 bytes (R147). -/
def hashJobOf (b : List Byte) : HashJob :=
  let f (o n : Nat) : Nat := leNat ((b.drop o).take n)
  { alg := f 0 1, cls := f 1 1, tag := f 2 2, src := f 4 4, length := f 8 4, dst := f 0xC 4, outLen := f 0x10 2,
    srcDram := (f 0x12 1).testBit 0, done := 0 }

/-- Bytes of a job's result. -/
def HashJob.out (j : HashJob) : Nat := if j.alg = 2 then j.outLen else 48

/-- Where a job's source starts among the memory keys. -/
def HashJob.srcKey (j : HashJob) : Nat := if j.srcDram then dramBase + j.src * 512 else j.src

/-- Does a range lie in secure SRAM (R29). -/
def inSecureSram (a n : Nat) : Bool := decide (0x10000000 ≤ a) && decide (a + n ≤ 0x11800000)

/-- Bytes of the data area of mirror DRAM: 31/32 of 1 GiB steps of the largest fitting, as far as a source may reach. -/
def State.dramBytes (s : State) : Nat := s.mir.fittedGib * 1073741824

/-- The checks of a job descriptor (R147, R204). -/
def State.hashJobOk (s : State) (b : List Byte) : Bool :=
  let j := hashJobOf b
  decide (j.alg ≤ 2) && decide (1 ≤ j.cls) && decide (j.cls ≤ 6) && decide (1 ≤ j.length) && decide (j.length ≤ 16777216)
  && (if j.alg = 2 then decide (1 ≤ j.outLen) && decide (j.outLen ≤ 512) else j.outLen == 0)
  && decide (leNat ((b.drop 0x12).take 1) < 2) && ((b.drop 0x13).take 13).all (fun x => x == 0)
  && (if j.srcDram then decide (j.src * 512 + j.length ≤ s.dramBytes) else inSecureSram j.src j.length)
  && inSecureSram j.dst j.out

/-- The result of a job. -/
def State.hashResult (s : State) (j : HashJob) : List Byte :=
  let m := s.bytes j.srcKey j.length
  match j.alg with
  | 0 => sha384Bytes m
  | 1 => sha3 m
  | _ => shake256 m j.outLen

/-! ## Queues -/

/-- The first engine of a half, whose events the half's queue raises (DESIGN CHOICE, log entry 27). -/
def Half.engine0 : Half → Nat
  | .indigo => 0
  | .amber => 8

/-- An event of an engine (R204). -/
def hashEvent (e off : Nat) : Nat := 896 + 6 * e + off

/-- Does HASHGRP answer a half: one of its hash groups is on (DESIGN CHOICE, log entry 26). -/
def State.hashOn (s : State) (h : Half) : Bool :=
  match h with
  | .indigo => s.domOn 7 || s.domOn 8
  | .amber => s.domOn 9 || s.domOn 10

/-- QPUSH of a half. -/
def qpushAddr : Half → Nat
  | .indigo => 0x40050100
  | .amber => 0x40050140

/-- A job pushed (R147): lost where the queue is full; a descriptor that fails its checks completes with BAD_RANGE. -/
def State.hashPush (s : State) (h : Half) (addr : Nat) : State :=
  let b := s.bytes addr 32
  if 64 ≤ (s.hash.queue.get h).length then
    ({ s with hash := { s.hash with lostPush := s.hash.lostPush.set h true } }).raiseLog (hashEvent h.engine0 4) []
  else if ! s.hashJobOk b then
    ({ s with hash := { s.hash with done := s.hash.done.upd h fun l => l ++ [((hashJobOf b).tag, Code.badRange)] } }).raiseLog
      (hashEvent h.engine0 5) [(2, (hashJobOf b).tag)]
  else { s with hash := { s.hash with queue := s.hash.queue.upd h fun l => l ++ [hashJobOf b] } }

/-- HASH_QPUSH (R198). -/
def execHashQpush (half : Half) (addr : Word) (s : State) : Host.Outcome State Fault Refusal :=
  .next (if s.hashOn half then s.hashPush half addr.toNat else s.busError (halfCore half) (qpushAddr half) .domainOff)

/-- A pop (R147): FULL after a lost push, EMPTY with nothing waiting. -/
def State.hashPop (s : State) (h : Half) : State :=
  let put (s : State) (v : Nat) : State := { s with hash := { s.hash with popped := s.hash.popped.set h (BitVec.ofNat 32 v) } }
  if s.hash.lostPush.get h then put { s with hash := { s.hash with lostPush := s.hash.lostPush.set h false } } Code.full.num
  else match s.hash.done.get h with
    | [] => put s Code.empty.num
    | (tag, c) :: r => put { s with hash := { s.hash with done := s.hash.done.set h r } } (tag * 65536 + c.num)

/-- HASH_QPOP (R147). -/
def execHashQpop (half : Half) (s : State) : Host.Outcome State Fault Refusal :=
  .next (if s.hashOn half then s.hashPop half else s.busError (halfCore half) (qpushAddr half + 8) .domainOff)

/-! ## Scheduling -/

/-- What an engine keeps while its power is off: its fence, its retries and its retirement, which end with a passed retry or at power-on
reset alone (R201). -/
def Engine.kept (g : Engine) : Engine :=
  { Engine.reset with fenced := g.fenced, fails := g.fails, retired := g.retired, retryAt := g.retryAt, credit := if g.fenced then 0 else 1920000 }

/-- Changes an engine. -/
def State.updEngine (s : State) (e : Fin 16) (f : Engine → Engine) : State :=
  { s with hash := { s.hash with engines := vupd s.hash.engines e f } }

/-- The engines of a half. -/
def Half.engines (h : Half) : List (Fin 16) := (List.finRange 16).filter fun e => decide (engineHalf e = h)

/-- May an engine take a job (R198): powered, idle, not fenced, with credit left. -/
def State.engineFree (s : State) (e : Fin 16) : Bool :=
  let g := s.hash.engines[e]
  s.domOn (7 + e.val / 4) && g.job.isNone && ! g.fenced && ! g.kat && decide (0 < g.credit)

/-- The engine of a list with the most credit, the lower number on a tie (R198). -/
def State.mostCredit (s : State) (es : List (Fin 16)) : Option (Fin 16) :=
  es.foldl (fun b e => match b with
    | none => some e
    | some x => if s.hash.engines[x].credit < s.hash.engines[e].credit then some e else some x) none

/-- The waiting job of the highest class, first in first out (R198). -/
def bestJob (js : List HashJob) : Option HashJob :=
  js.foldl (fun b j => match b with
    | none => some j
    | some x => if j.cls < x.cls then some j else some x) none

/-- Bytes that a job has still to hash. -/
def HashJob.left (j : HashJob) : Nat := j.length - 4096 * j.done

/-- The class of the job that an engine runs, 0 where it runs none (R28, R147): a fill is class 2. -/
def Engine.cls (g : Engine) : Nat :=
  match g.job with
  | some j => j.cls
  | none => if g.fill.isSome then 2 else 0

/-- The engine of a half that yields to a job of a class (R28): the one that runs the job of the lowest class below it. -/
def State.yielder (s : State) (h : Half) (cls : Nat) : Option (Fin 16) :=
  (h.engines.filter fun e => s.hash.engines[e].job.isSome && decide (cls < s.hash.engines[e].cls)).foldl (fun b e => match b with
    | none => some e
    | some x => if s.hash.engines[x].cls < s.hash.engines[e].cls then some e else some x) none

/-- The leaves that a job begun at a time has hashed by the end of the leaf now under way, at the engines' rate of 1.92 GB/s (R26): the
time that an engine really takes is known only at the job's end (DESIGN CHOICE, log entry 135). -/
def leavesBy (start now : Nat) : Nat := (now - start) * 1920 / 4096000 + 1

/-- A running job yields at the end of its current leaf (R28): it waits again, at the head of its half's queue, with what is left. -/
def State.yieldJob (s : State) (e : Fin 16) : State :=
  let g := s.hash.engines[e]
  match g.job with
  | some j =>
    let n := j.done + leavesBy g.startAt s.time
    if j.length ≤ 4096 * n then s
    else
      let s := s.updEngine e fun g => { g with job := none }
      { s with hash := { s.hash with queue := s.hash.queue.upd (engineHalf e) fun l => { j with done := n } :: l } }
  | none => s

/-- The best waiting job of a half goes to the idle engine with the most credit (R198). -/
def State.startJob (s : State) (h : Half) : State :=
  match s.mostCredit (h.engines.filter s.engineFree), bestJob (s.hash.queue.get h) with
  | some e, some j =>
    let s := { s with hash := { s.hash with queue := s.hash.queue.upd h fun l => l.erase j } }
    s.updEngine e fun g => { g with job := some j, startAt := s.time, credit := g.credit - (j.left : Int) }
  | _, _ => s

/-- A dispatch of a half (R28, R198): with no engine free, a job of a lower class yields first. -/
def State.hashDispatch (s : State) (h : Half) : State :=
  if ! s.hash.enable then s
  else match h.engines.find? s.engineFree, (bestJob (s.hash.queue.get h)).bind fun j => s.yielder h j.cls with
    | none, some e => (s.yieldJob e).startJob h
    | _, _ => s.startJob h

/-- HASH_DISPATCH (R198). -/
def execHashDispatch (half : Half) (s : State) : Host.Outcome State Fault Refusal := .next (s.hashDispatch half)

/-- A job ends (R147, R199): the digest at dst, the completion with its tag, the time into the window. -/
def State.hashDone (s : State) (e : Fin 16) (ns : Nat) : State :=
  let g := s.hash.engines[e]
  match g.job with
  | none => s
  | some j =>
    let s := s.advanceTo (g.startAt + ns * j.left / 4096)
    let s := s.store j.dst (s.hashResult j)
    let s := s.updEngine e fun g => { g with job := none, jobs := satInc 16 g.jobs, window := g.window ++ [ns] }
    { s with hash := { s.hash with done := s.hash.done.upd (engineHalf e) fun l => l ++ [(j.tag, .ok)] } }

/-- HASH_JOB_DONE (R198). -/
def execHashJobDone (e : Fin 16) (ns : Nat) (s : State) : Host.Outcome State Fault Refusal := .next (s.hashDone e ns)

/-- The end of the running interval of a length. -/
def nextMultiple (t n : Nat) : Nat := (t / n + 1) * n

/-- HASH_CREDIT_REFILL (R198): a millisecond ends. -/
def execHashCreditRefill (s : State) : Host.Outcome State Fault Refusal :=
  .next (let s := s.advanceTo (nextMultiple s.time msNs)
    { s with hash := { s.hash with engines := s.hash.engines.map fun g => if g.fenced then g else { g with credit := 1920000 } } })

/-- The engine that hashes a port's fill for a half: the one that FILL_MAP names; while that is fenced, the unfenced one with the most
credit (R198, R200). -/
def State.fillHasher (s : State) (h : Half) (p : PortId) : Fin 16 :=
  let e : Fin 16 := ⟨(h.engine0 + ((s.hash.fillMap.get h)[p]).val) % 16, Nat.mod_lt _ (by decide)⟩
  if s.hash.engines[e].fenced then (s.mostCredit (h.engines.filter fun x => ! s.hash.engines[x].fenced)).getD e else e

/-- A leaf of a fill charges its engine (R198). -/
def State.chargeFill (s : State) (h : Half) (p : PortId) : State :=
  s.updEngine (s.fillHasher h p) fun g => { g with credit := g.credit - 4096 }

/-- A leaf of a fill is a completed job of its engine (R199), with the time it took. -/
def State.fillTime (s : State) (h : Half) (p : PortId) (ns : Nat) : State :=
  s.updEngine (s.fillHasher h p) fun g => { g with jobs := satInc 16 g.jobs, window := g.window ++ [ns] }

/-- The engine of a half that takes work which is no queued job (R28, R198): powered, unfenced, the one with the most credit. -/
def State.bestEngine (s : State) (h : Half) : Option (Fin 16) :=
  s.mostCredit (h.engines.filter fun x => s.domOn (7 + x.val / 4) && ! s.hash.engines[x].fenced)

/-- An engine of a half hashes `n` bytes for a class of work that is no queued job (R28, R198): it is charged. -/
def State.chargeBest (s : State) (h : Half) (n : Nat) : State :=
  match s.bestEngine h with
  | some e => s.updEngine e fun g => { g with credit := g.credit - (n : Int) }
  | none => s

/-- The engine that a half gives a leaf of a class of work (R197, R198): idle, with credit, while no job of the class or a higher one
waits. -/
def State.leafEngine (s : State) (h : Half) (cls : Nat) : Option (Fin 16) :=
  if (bestJob (s.hash.queue.get h)).any fun j => decide (j.cls ≤ cls) then none else s.mostCredit (h.engines.filter s.engineFree)

/-- A leaf's job of an engine, begun and completed (R198, R199). -/
def State.leafJob (s : State) (e : Fin 16) (ns : Nat) : State :=
  s.updEngine e fun g => { g with credit := g.credit - 4096, jobs := satInc 16 g.jobs, window := g.window ++ [ns] }

/-- Marks or clears the fill that the engines of a port hash (R147). -/
def State.markFill (s : State) (p : PortId) (on : Bool) : State :=
  [Half.indigo, Half.amber].foldl (fun (s : State) h =>
    let e : Fin 16 := ⟨(h.engine0 + ((s.hash.fillMap.get h)[p]).val) % 16, Nat.mod_lt _ (by decide)⟩
    s.updEngine e fun g => if on then { g with fill := some p } else if g.fill = some p then { g with fill := none } else g) s

/-! ## Medians and fencing -/

/-- The engines of a half that are fenced. -/
def State.fencedOf (s : State) (h : Half) : List (Fin 16) := h.engines.filter fun e => s.hash.engines[e].fenced

/-- An engine is fenced (R200, R202): its job goes back to the head of the queue, its retry is due in 1 s; a fifth stays in use. -/
def State.fence (s : State) (e : Fin 16) : State :=
  let h := engineHalf e
  if 4 ≤ (s.fencedOf h).length then (s.updEngine e fun g => { g with slow := 0 }).raiseLog (hashEvent e.val 0) [(1, e.val), (1, 1)]
  else
    let job := s.hash.engines[e].job.toList
    let s := { s with hash := { s.hash with queue := s.hash.queue.upd h fun l => job ++ l } }
    let s := s.updEngine e fun g =>
      { g with fenced := true, credit := 0, job := none, slow := 0, fails := 0, retryAt := some (s.time + secNs) }
    s.raiseLog (hashEvent e.val 0) [(1, e.val), (1, 0)]

/-- What a counted window says of an engine (R199, R200): slow once more, or not; three in a row fence it. -/
def State.judgeEngine (s : State) (med : Nat) (e : Fin 16) : State :=
  let g := s.hash.engines[e]
  if g.fenced ∨ g.window.isEmpty then s
  else if 4 * med < median g.window then
    let s := s.updEngine e fun g => { g with slow := g.slow + 1 }
    if 3 ≤ g.slow + 1 then s.fence e else s
  else s.updEngine e fun g => { g with slow := 0 }

/-- A 10 ms window of a half ends (R199, R200); a window without jobs reports 0 (DESIGN CHOICE, log entry 28). -/
def State.medianWindow (s : State) (h : Half) : State :=
  let s := s.advanceTo (nextMultiple s.time (10 * msNs))
  let all := (h.engines.filter fun e => ! s.hash.engines[e].fenced).flatMap fun e => s.hash.engines[e].window
  let med := if all.isEmpty then 0 else median all
  let s := { s with hash := { s.hash with median := s.hash.median.set h med } }
  let s := if 16 ≤ all.length then h.engines.foldl (fun s e => s.judgeEngine med e) s else s
  h.engines.foldl (fun s e => s.updEngine e fun g => { g with window := [] }) s

/-- HASH_MEDIAN_WINDOW (R199, R200). -/
def execHashMedianWindow (half : Half) (s : State) : Host.Outcome State Fault Refusal := .next (s.medianWindow half)

/-- HASH_FENCE_RETRY (R201): the known-answer job starts. -/
def execHashFenceRetry (e : Fin 16) (s : State) : Host.Outcome State Fault Refusal :=
  .next (let g := s.hash.engines[e]
    match g.retryAt with
    | some t =>
      if ! g.fenced ∨ g.retired then s
      else (s.advanceTo t).updEngine e fun g => { g with retryAt := none, kat := true }
    | none => s)

/-- The known-answer job of a retry ends (R201): the engine is unfenced, waits another second, or is retired. -/
def State.fenceRetryDone (s : State) (e : Fin 16) (digestOk : Bool) (ns : Nat) : State :=
  let g := s.hash.engines[e]
  if ! g.kat then s
  else if digestOk ∧ ns ≤ 4 * s.hash.median.get (engineHalf e) then
    (s.updEngine e fun g => { g with kat := false, fenced := false, fails := 0, slow := 0, credit := 1920000 }).raiseLog
      (hashEvent e.val 1) [(1, e.val)]
  else
    let s := if digestOk then s else s.raiseLog (hashEvent e.val 3) [(1, e.val)]
    if 8 ≤ g.fails + 1 then
      (s.updEngine e fun g => { g with kat := false, fails := g.fails + 1, retired := true, retryAt := none }).raiseLog
        (hashEvent e.val 2) [(1, e.val)]
    else s.updEngine e fun g => { g with kat := false, fails := g.fails + 1, retryAt := some (s.time + secNs) }

/-- HASH_FENCE_RETRY_DONE (R201). -/
def execHashFenceRetryDone (e : Fin 16) (digestOk : Bool) (ns : Nat) (s : State) : Host.Outcome State Fault Refusal :=
  .next (s.fenceRetryDone e digestOk ns)

end Sys2Proof.Machine
end

