-- ==== Sys2Proof/Machine/KeyVault.lean ====
section
/-!
DEFINITION. The key vault (R361-R378, R400): handles and their checks, destruction and orphans, the ten commands, the root lock,
the test secret, and Sill's derivations.
-/
namespace Sys2Proof.Machine

/-! ## Slots and handles -/

/-- A slot of the vault. -/
def State.kslot (s : State) (i : Fin 128) : KvSlot := s.kv.slots[i]
/-- The state with a slot replaced. -/
def State.setKslot (s : State) (i : Fin 128) (v : KvSlot) : State := { s with kv := { s.kv with slots := vset s.kv.slots i v } }

/-- The handle of a slot at a generation (R362). -/
def handleOf (i : Fin 128) (g : Nat) : Word := BitVec.ofNat 32 (i.val * 2 ^ 24 + g % 2 ^ 16)

/-- The slot that a handle names (R362). -/
def handleSlot (h : Word) : Fin 128 := ⟨bitsOf h.toNat 24 7 % 128, Nat.mod_lt _ (by decide)⟩

/-- The generation that a handle names. -/
def handleGen (h : Word) : Nat := bitsOf h.toNat 0 16

/-- Is the handle current: its other bits 0, its generation the slot's, which is never 0 (R362). -/
def State.handleCurrent (s : State) (h : Word) : Bool :=
  bitsOf h.toNat 16 8 == 0 && ! h.getLsbD 31 && handleGen h != 0 && handleGen h == (s.kslot (handleSlot h)).gen

/-- Does the slot lie in a half's view (R363). -/
def KvSlot.inView (v : KvSlot) (h : Half) : Bool :=
  match v.owner with
  | .common => true
  | .half g => g == h

/-- A slot whose parent's generation is not the one it was derived from (R366). -/
def State.isOrphan (s : State) (i : Fin 128) : Bool :=
  let v := s.kslot i
  v.state == .inUse && (match v.parent with
    | some (p, g) => (s.kslot p).gen != g
    | none => false)

/-- A slot destroyed (R366, R369): zeroised, its generation advanced, in the given state; RETIRED at the last generation. -/
def State.destroySlot (s : State) (i : Fin 128) (st : SlotState) : State :=
  let v := s.kslot i
  if v.state = .retired then s
  else if v.gen = 0xFFFF then
    (s.setKslot i { KvSlot.emptyAt v.gen with state := .retired, owner := v.owner }).raise 1317
  else s.setKslot i { KvSlot.emptyAt (v.gen + 1) with state := st, owner := v.owner }

/-- A slot zeroised as an orphan, counted (R366, R400). -/
def State.orphanSlot (s : State) (i : Fin 128) : State :=
  let s := s.destroySlot i .orphaned
  { s with kv := { s.kv with orphanCnt := satInc 32 s.kv.orphanCnt } }

/-- What a use of a slot asks for: the destination bits of which one must be named, and the usage bits of which one must be. -/
structure KvNeed where
  dest : BitVec 8
  usage : BitVec 8
  deriving DecidableEq, Repr

/-- Does the slot name what a use asks for; an empty mask asks for nothing (R364). -/
def KvSlot.allows (v : KvSlot) (n : KvNeed) : Bool :=
  (n.dest == 0 || v.dest &&& n.dest != 0) && (n.usage == 0 || v.usage &&& n.usage != 0)

/-- A use of a handle in a half's view (R364, R366): the code, with the state after an orphan's touch. -/
def State.useHandle (s : State) (h : Half) (hd : Word) (n : KvNeed) : State × Code :=
  let i := handleSlot hd
  let v := s.kslot i
  if ! v.inView h || v.state == .locked || (v.state == .inUse && ! v.allows n) then (s, .deniedAccess)
  else if v.state = .orphaned then (s, .orphaned)
  else if ! s.handleCurrent hd || v.state != .inUse then (s, .badRange)
  else if s.isOrphan i then (s.orphanSlot i, .orphaned)
  else (s, .ok)

/-- The handles in consumer registers (R368). -/
def State.consumerHandles (s : State) : List Word :=
  [s.mir.keyProt, s.mir.keyStage, s.mir.keyNext, s.cis.key] ++ s.pak.links.toList.flatMap fun l => [l.keyTx, l.keyRx]

/-- The slots loaded in a management session register of MGMT (R368): the AEAD keys of its sessions (DEDUCED from R361's PAKOR_AES, log entry
34). -/
def State.sessionSlots (s : State) : List (Fin 128) :=
  (s.spdm.sessions.flatMap fun x => x.slots).filter fun i => (s.kslot i).dest.getLsbD 5

/-- Is the slot loaded in a data-plane register: MIRCTL, CISTERN or PAKOR (R368, R355). -/
def State.dataLoaded (s : State) (i : Fin 128) : Bool :=
  s.consumerHandles.any fun h => s.handleCurrent h && handleSlot h == i

/-- Is the slot loaded (R368). -/
def State.isLoaded (s : State) (i : Fin 128) : Bool := s.dataLoaded i || s.sessionSlots.contains i

/-- Is slot `a` a parent of slot `i` at any depth, at most eight (R361, R365). -/
def State.ancestor (s : State) (a : Fin 128) : Nat → Fin 128 → Bool
  | 0, _ => false
  | n + 1, i => match (s.kslot i).parent with
    | some (p, g) => (s.kslot p).gen == g && (p == a || State.ancestor s a n p)
    | none => false

/-- Is the slot loaded, or has it a loaded descendant (R368). -/
def State.loadedBelow (s : State) (i : Fin 128) : Bool :=
  s.isLoaded i || (List.finRange 128).any fun j => s.isLoaded j && s.ancestor i 9 j

/-- A write of a consumer register (R364): common slots alone, with the destination and one of the usage bits; the code. -/
def State.consumerCheck (s : State) (hd : Word) (n : KvNeed) : State × Code :=
  let v := s.kslot (handleSlot hd)
  if hd = 0 then (s, .ok)
  else if v.owner ≠ .common then (s, .deniedAccess)
  else s.useHandle .indigo hd n

/-- The slot that a new key takes (R369). -/
def State.freeKslot (s : State) : Option (Fin 128) :=
  (List.finRange 128).find? fun i => decide (8 ≤ i.val) && ((s.kslot i).state == .empty || (s.kslot i).state == .orphaned)

/-- The value of a slot as bytes, first byte most significant. -/
def KvSlot.bytes (v : KvSlot) : List Byte := beBytes (v.bits / 8) v.value

/-! ## Sweeps and destruction -/

/-- Passes over all slots until one finds no orphan (R366). -/
def State.sweepPasses : Nat → State → State
  | 0, s => s
  | n + 1, s =>
    match (List.finRange 128).filter s.isOrphan with
    | [] => s
    | os => State.sweepPasses n (os.foldl (fun s i => if s.isOrphan i then s.orphanSlot i else s) s)

/-- One sweep (R366): KV_ORPHANED where it zeroised a slot. -/
def State.kvSweep (s : State) : State :=
  let found := (List.finRange 128).any s.isOrphan
  (s.sweepPasses 129).raiseIf found 1312

/-- KV_ORPHAN_SWEEP (R366). -/
def execKvOrphanSweep (s : State) : Host.Outcome State Fault Refusal := .next (if s.domOn 6 then s.kvSweep else s)

/-- The whole vault zeroised, LOCKED slots included, every handle stale (R370); `quiet` leaves the event out. -/
def State.kvZeroise (s : State) : State :=
  ((List.finRange 128).foldl (fun s i => s.destroySlot i .empty) s).raise 1316

/-- The vault's power off: every slot empty, generation 1 at the next power-on (R370, R542). -/
def State.kvOff (s : State) (event : Bool) : State :=
  let s := { s with kv := { s.kv with
    slots := Vector.replicate 128 (KvSlot.emptyAt 1), rootLock := false, testSecret := false, debug := false,
    cmdStatus := Both.rep (0, .ok), cmdResult := Both.rep 0, busy := Both.rep false } }
  s.raiseIf event 1316

/-- A slot zeroised in place and LOCKED, its generation unchanged (R367). -/
def State.lockSlot (s : State) (i : Fin 128) : State :=
  let v := s.kslot i
  s.setKslot i { v with state := .locked, bits := 0, value := 0 }

/-! ## Commands -/

/-- What a command came to: the state, its code, the handle it made. -/
abbrev KvDone := State × Code × Word

/-- KV_DENIED or KV_CMD_ERROR (R372, R402) and the command's status and result (R400). -/
def State.kvEnd (s : State) (h : Half) (op : Nat) (c : Code) (hd : Word) : State :=
  let s := { s with kv := { s.kv with cmdStatus := s.kv.cmdStatus.set h (op, c), cmdResult := s.kv.cmdResult.set h hd } }
  let s := s.raiseIf (c == .full) 1314
  if c = .deniedAccess then s.raiseLog1 1315 h.num [(1, h.num), (1, op), (1, c.num)]
  else if c.refusal then s.raiseLog 1319 [(1, h.num), (1, op), (1, c.num)]
  else s

/-- Is the length one that a slot may have (R361). -/
def kvLengthOk (n : Nat) : Bool := decide (128 ≤ n) && decide (n ≤ 512) && n % 64 == 0

/-- May the half create a slot of this owner (R363): its own, or a common one as Sill or as the steward. -/
def State.mayOwn (s : State) (h : Half) (o : Nat) : Code :=
  match o with
  | 0 => if s.boot.phase ≠ .running ∨ s.isSteward h then .ok else .deniedAccess
  | 1 => .ok
  | _ => .badRange

/-- The owner that the field names. -/
def kvOwner (h : Half) (o : Nat) : SlotOwner := if o = 0 then .common else .half h

/-- The refusal that R11 puts first among those of a command; OK where none applies. -/
def kvFirst (codes : List Code) : Code := (Code.first (codes.filter fun c => c != .ok)).getD .ok

/-- BAD_RANGE where a check fails. -/
def badRangeIf (bad : Bool) : Code := if bad then .badRange else .ok

/-- The depth of a slot with a parent (R365). -/
def State.kvDepth (s : State) (parent : Option (Fin 128)) : Nat := (parent.map fun p => (s.kslot p).depth + 1).getD 0

/-- What stands in the way of a new slot of `bits` bits (R361, R363, R365, R369). -/
def State.kvCreateCode (s : State) (h : Half) (cmd : KvCmd) (bits : Nat) (parent : Option (Fin 128)) : Code :=
  kvFirst [s.mayOwn h cmd.owner, badRangeIf (! kvLengthOk bits || decide (8 < s.kvDepth parent)),
    if s.freeKslot.isNone then .full else .ok]

/-- Creates a slot of `bits` bits (R361, R365, R369). -/
def State.kvCreate (s : State) (h : Half) (cmd : KvCmd) (bits value : Nat) (dest usage : BitVec 8)
    (parent : Option (Fin 128)) (bound : Bool) : KvDone :=
  match s.kvCreateCode h cmd bits parent, s.freeKslot with
  | .ok, some i =>
    let g := (s.kslot i).gen
    let s := s.setKslot i { state := .inUse, owner := kvOwner h cmd.owner, bits := bits, value := value % 2 ^ bits,
                            dest := dest, usage := usage, parent := parent.map fun p => (p, (s.kslot p).gen), gen := g,
                            bound := bound, depth := s.kvDepth parent }
    (s, .ok, handleOf i g)
  | c, _ => (s, c, 0)

/-- The registers of the vault, each half's own view at the same addresses (R400). -/
def kvBase : Nat := 0x40020000

/-- Runs a command in a half's view (R371, R372): nothing with the vault off; KV_CMD_ERROR with BUSY while one runs; nonzero RSV bytes are
BAD_RANGE, where no refusal that R11 puts before it applies. -/
def State.kvRun (s : State) (h : Half) (op : Nat) (cmd : KvCmd) (act : State → KvDone) : State :=
  s.halfBus h (kvBase + 0x10) 6 false fun s =>
  if s.kv.busy.get h then s.raiseLog 1319 [(1, h.num), (1, op), (1, Code.busy.num)]
  else
    let r := act s
    if ! cmd.rsvZero then s.kvEnd h op (kvFirst [.badRange, r.2.1]) 0 else r.1.kvEnd h op r.2.1 r.2.2

/-- Does a range lie in secure SRAM (R29). -/
def inSram (a n : Nat) : Bool := decide (0x10000000 ≤ a) && decide (a + n ≤ 0x11800000)

/-- The DRBG's next bits (R363, R421), 768 of them. -/
def State.drbgBits (s : State) : Nat := (Config.drbg s.free).toNat + 2 ^ 384 * (Config.drbg (s.free + 1)).toNat

/-- GENERATE (R372). -/
def State.kvGenerate (s : State) (h : Half) (cmd : KvCmd) : KvDone :=
  if ! s.domOn 31 then (s, .domainOff, 0)
  else
    let v := s.drbgBits
    let r := s.kvCreate h cmd cmd.length v cmd.dest cmd.usage none false
    ({ r.1 with free := s.free + 2 }, r.2.1, r.2.2)

/-- GENERATE (R372). -/
def execGenerate (half : Half) (cmd : KvCmd) (s : State) : Host.Outcome State Fault Refusal :=
  .next (s.kvRun half 1 cmd fun s => s.kvGenerate half cmd)

/-- The blocks of a counter-mode KDF over HMAC-SHA-384 from block `i` on (R374). -/
def kdfBlocks (key fixed : List Byte) (i : Nat) : Nat → List Byte
  | 0 => []
  | n + 1 => hmac384 key (BitVec.ofNat 8 i :: fixed) ++ kdfBlocks key fixed (i + 1) n

/-- The KDF of SP 800-108 in counter mode (R374): the first `bits` bits, as a number. -/
def kdf (key label : List Byte) (life debug : Nat) (ctx : List Byte) (bits : Nat) : Nat :=
  let fixed := label ++ [0, BitVec.ofNat 8 life, BitVec.ofNat 8 debug] ++ ctx ++ beBytes 2 bits
  beNat ((kdfBlocks key fixed 1 2).take (bits / 8))

/-- The lifecycle code that DERIVE inserts (R374, R382): lc_override before PROVISION, else the fused one. -/
def State.kdfLife (s : State) : Nat :=
  let l := s.lifecycle.num
  if s.kv.lcOverride ≠ 0 ∧ l < 2 then s.kv.lcOverride.toNat else l

/-- What a KDF parent must name: destination KDF, usage derive. -/
def needKdf : KvNeed := ⟨0x40, 0x01⟩

/-- DERIVE (R374). -/
def State.kvDerive (s : State) (h : Half) (cmd : KvCmd) : KvDone :=
  let n := s.load cmd.src 1
  let p := handleSlot cmd.parent
  let u := s.useHandle h cmd.parent needKdf
  let bad := ! inSram cmd.src cmd.srcLen || n == 0 || decide (32 < n) || decide (cmd.srcLen < 1 + n) || decide (1 + n + 192 < cmd.srcLen)
  let c := kvFirst [u.2, badRangeIf bad, s.kvCreateCode h cmd cmd.length (some p)]
  if c ≠ .ok then (u.1, c, 0)
  else
    let v := kdf (s.kslot p).bytes (s.bytes (cmd.src + 1) n) s.kdfLife (b2n s.kv.debug)
      (s.bytes (cmd.src + 1 + n) (cmd.srcLen - 1 - n)) cmd.length
    s.kvCreate h cmd cmd.length v cmd.dest cmd.usage (some p) true

/-- DERIVE (R374). -/
def execDerive (half : Half) (cmd : KvCmd) (s : State) : Host.Outcome State Fault Refusal :=
  .next (s.kvRun half 2 cmd fun s => s.kvDerive half cmd)

/-- EXTRACT (R372): HKDF-Extract, salt from the parent or zeros, IKM from the target. -/
def State.kvExtract (s : State) (h : Half) (cmd : KvCmd) : KvDone :=
  let parent := if cmd.parent = 0 then none else some (handleSlot cmd.parent)
  let u := if cmd.parent = 0 then (s, Code.ok) else s.useHandle h cmd.parent needKdf
  let t := u.1.useHandle h cmd.target needKdf
  let c := kvFirst [u.2, t.2, s.kvCreateCode h cmd 384 parent]
  if c ≠ .ok then (t.1, c, 0)
  else
    let salt := match parent with
      | some p => (s.kslot p).bytes
      | none => List.replicate 48 0
    let v := beNat (hmac384 salt (s.kslot (handleSlot cmd.target)).bytes)
    s.kvCreate h cmd 384 v cmd.dest cmd.usage parent false

/-- EXTRACT (R372). -/
def execExtract (half : Half) (cmd : KvCmd) (s : State) : Host.Outcome State Fault Refusal :=
  .next (s.kvRun half 3 cmd fun s => s.kvExtract half cmd)

/-- The blocks of HKDF-Expand (RFC 5869). -/
def hkdfBlocks (key info prev : List Byte) (i : Nat) : Nat → List Byte
  | 0 => []
  | n + 1 =>
    let t := hmac384 key (prev ++ info ++ [BitVec.ofNat 8 i])
    t ++ hkdfBlocks key info t (i + 1) n

/-- EXPAND (R372): HKDF-Expand with the info at src. -/
def State.kvExpand (s : State) (h : Half) (cmd : KvCmd) : KvDone :=
  let p := handleSlot cmd.parent
  let u := s.useHandle h cmd.parent needKdf
  let c := kvFirst [u.2, badRangeIf (! inSram cmd.src cmd.srcLen), s.kvCreateCode h cmd cmd.length (some p)]
  if c ≠ .ok then (u.1, c, 0)
  else
    let v := beNat ((hkdfBlocks (s.kslot p).bytes (s.bytes cmd.src cmd.srcLen) [] 1 2).take (cmd.length / 8))
    s.kvCreate h cmd cmd.length v cmd.dest cmd.usage (some p) false

/-- EXPAND (R372). -/
def execExpand (half : Half) (cmd : KvCmd) (s : State) : Host.Outcome State Fault Refusal :=
  .next (s.kvRun half 4 cmd fun s => s.kvExpand half cmd)

/-- INVALIDATE (R366, R368). -/
def State.kvInvalidate (s : State) (h : Half) (cmd : KvCmd) : KvDone :=
  let u := s.useHandle h cmd.target ⟨0, 0⟩
  if u.2 ≠ .ok then (u.1, u.2, 0)
  else if s.loadedBelow (handleSlot cmd.target) then (s, .busy, 0)
  else (s.destroySlot (handleSlot cmd.target) .empty, .ok, 0)

/-- INVALIDATE (R366). -/
def execInvalidate (half : Half) (cmd : KvCmd) (s : State) : Host.Outcome State Fault Refusal :=
  .next (s.kvRun half 5 cmd fun s => s.kvInvalidate half cmd)

/-- The destination bit of a half's big-number engine (R361). -/
def Half.pkeDest : Half → BitVec 8
  | .indigo => 0x01
  | .amber => 0x02

/-- LOAD_PKE (R373, R444): zero-extended into operand slot dst of an open job, which is marked KEYED. -/
def State.kvLoadPke (s : State) (h : Half) (cmd : KvCmd) : KvDone :=
  let u := s.useHandle h cmd.target ⟨h.pkeDest, 0x06⟩
  let v := s.kslot (handleSlot cmd.target)
  let narrow := ((s.eng h).slot cmd.dst).isNone || decide (64 * (s.eng h).slotLen cmd.dst < v.bits)
  let c := kvFirst [if s.domOn h.pkeDomain then .ok else .domainOff, u.2, if (s.eng h).job.isNone then .refusedState else badRangeIf narrow]
  if c ≠ .ok then (u.1, c, 0)
  else
    let s := s.setSlot h cmd.dst v.value
    (s.updEng h fun e => { e with keyed := putBit e.keyed cmd.dst true }, .ok, 0)

/-- LOAD_PKE (R444). -/
def execLoadPke (half : Half) (cmd : KvCmd) (s : State) : Host.Outcome State Fault Refusal :=
  .next (s.kvRun half 6 cmd fun s => s.kvLoadPke half cmd)

/-- STORE_PKE (R439): the OUT slot moves into a new vault slot; counts as the read of every word. -/
def State.kvStorePke (s : State) (h : Half) (cmd : KvCmd) : KvDone :=
  let live := (s.eng h).outLive.getLsbD cmd.src
  let again := live && (s.eng h).outRead.any fun p => p.1 == cmd.src
  let c := kvFirst [if s.domOn h.pkeDomain then .ok else .domainOff, badRangeIf (! live), if again then .deniedAccess else .ok,
    s.kvCreateCode h cmd cmd.length none]
  if c ≠ .ok then (s.raiseIf (again && c == .deniedAccess) (pkeEvent h 3), c, 0)
  else
    let n := (s.eng h).slotLen cmd.src
    let r := s.kvCreate h cmd cmd.length (s.slotWords h cmd.src 0 n) cmd.dest cmd.usage none false
    let t := r.1.wipeSlot h cmd.src
    let t := t.updEng h fun e =>
      { e with outMask := putBit e.outMask cmd.src false, outLive := putBit e.outLive cmd.src false }
    (t, .ok, r.2.2)

/-- STORE_PKE (R439). -/
def execStorePke (half : Half) (cmd : KvCmd) (s : State) : Host.Outcome State Fault Refusal :=
  .next (s.kvRun half 7 cmd fun s => s.kvStorePke half cmd)

/-- HMAC (R372): 48 bytes to dst; a class 2 job of a hash engine of the half, which must have one. -/
def State.kvHmac (s : State) (h : Half) (cmd : KvCmd) : KvDone :=
  let bad := decide (16777216 < cmd.srcLen) || ! inSram cmd.src cmd.srcLen || ! inSram cmd.dst 48
  let u := s.useHandle h cmd.target ⟨0x04, 0x20⟩
  let c := kvFirst [if (s.bestEngine h).isNone then .domainOff else .ok, u.2, badRangeIf bad]
  if c ≠ .ok then (u.1, c, 0)
  else ((s.chargeBest h (cmd.srcLen + 48)).store cmd.dst (hmac384 (s.kslot (handleSlot cmd.target)).bytes (s.bytes cmd.src cmd.srcLen)), .ok, 0)

/-- HMAC (R372). -/
def execHmac (half : Half) (cmd : KvCmd) (s : State) : Host.Outcome State Fault Refusal :=
  .next (s.kvRun half 8 cmd fun s => s.kvHmac half cmd)

/-- What a wrapping key must name: destination WRAP_EXPORT, usage wrap. -/
def needWrap : KvNeed := ⟨0x80, 0x40⟩

/-- Is the length that of an AES key (FIPS 197). -/
def aesKeyBits (n : Nat) : Bool := n == 128 || n == 192 || n == 256

/-- The plaintext that WRAP wraps (R372): length, destinations, usage, four RSV bytes, the value. -/
def KvSlot.wrapPlain (v : KvSlot) : List Byte :=
  leBytes 2 v.bits ++ leBytes 1 v.dest.toNat ++ leBytes 1 v.usage.toNat ++ leBytes 4 0 ++ v.bytes

/-- WRAP (R372, R373). -/
def State.kvWrap (s : State) (h : Half) (cmd : KvCmd) : KvDone :=
  let p := s.useHandle h cmd.parent needWrap
  let t := p.1.useHandle h cmd.target ⟨0, 0x80⟩
  let v := s.kslot (handleSlot cmd.target)
  let k := s.kslot (handleSlot cmd.parent)
  let n := 16 + v.bits / 8
  let c := kvFirst [p.2, t.2, if t.2 = .ok ∧ v.bound then .deniedAccess else .ok,
    badRangeIf (! aesKeyBits k.bits || decide (cmd.dstLen < n) || ! inSram cmd.dst n)]
  if c ≠ .ok then (t.1, c, 0) else (s.store cmd.dst (kwpWrap k.bytes v.wrapPlain), .ok, 0)

/-- WRAP (R373). -/
def execWrap (half : Half) (cmd : KvCmd) (s : State) : Host.Outcome State Fault Refusal :=
  .next (s.kvRun half 9 cmd fun s => s.kvWrap half cmd)

/-- UNWRAP (R372, R373). -/
def State.kvUnwrap (s : State) (h : Half) (cmd : KvCmd) : KvDone :=
  let p := s.useHandle h cmd.parent needWrap
  let k := s.kslot (handleSlot cmd.parent)
  let c := kvFirst [p.2, s.mayOwn h cmd.owner, badRangeIf (! aesKeyBits k.bits || ! inSram cmd.src cmd.srcLen)]
  if c ≠ .ok then (p.1, c, 0)
  else match kwpUnwrap k.bytes (s.bytes cmd.src cmd.srcLen) with
    | none => (s.raise 1320, .verifyFail, 0)
    | some m =>
      let bits := leNat (m.take 2)
      if m.length ≠ 8 + bits / 8 then (s, .badRange, 0)
      else s.kvCreate h cmd bits (beNat (m.drop 8)) (m.getD 2 0) (m.getD 3 0) none false

/-- UNWRAP (R373). -/
def execUnwrap (half : Half) (cmd : KvCmd) (s : State) : Host.Outcome State Fault Refusal :=
  .next (s.kvRun half 10 cmd fun s => s.kvUnwrap half cmd)

/-! ## Root lock and test secret -/

/-- The root lock (R351, R367): slots 0 and 1 zeroised and LOCKED, their generations unchanged. -/
def State.setRootLock (s : State) : State :=
  if s.kv.rootLock then s
  else
    let s := (s.lockSlot 0).lockSlot 1
    ({ s with kv := { s.kv with rootLock := true } }).raise 1313

/-- ROOT_LOCK (R351). -/
def execRootLock (half : Half) (s : State) : Host.Outcome State Fault Refusal :=
  .next (s.halfBus half kvBase 6 false State.setRootLock)

/-- Slot 0 with a root value, for Sill's derivations (R338, R350). -/
def rootSlot (g : Nat) (d : Digest) : KvSlot :=
  { state := .inUse, owner := .common, bits := 384, value := d.toNat, dest := 0x40, usage := 0x01, parent := none, gen := g,
    bound := false, depth := 0 }

/-- The test secret (R378): slot 0 holds the test constant until power-on reset, the debug byte is 1. -/
def State.setTestSecret (s : State) : State :=
  if s.kv.testSecret then s
  else
    let s := if s.kv.rootLock then s else s.setKslot 0 (rootSlot (s.kslot 0).gen Config.testSecret)
    ({ s with kv := { s.kv with testSecret := true, debug := true } }).raise 1321

/-- TEST_SECRET (R378). -/
def execTestSecret (half : Half) (s : State) : Host.Outcome State Fault Refusal :=
  .next (s.halfBus half kvBase 6 false State.setTestSecret)

/-! ## Sill's derivations (R350, R375) -/

/-- The unique secret as the fuse controller brings it to slot 0 (R338): W8-W19, unscrambled (R406). -/
def State.uniqueSecret (s : State) : Digest :=
  Config.unscramble (digestOfBytes ((List.range 12).flatMap fun i =>
    leBytes 4 (s.fuse.main[(⟨(8 + i) % 512, Nat.mod_lt _ (by decide)⟩ : Fin 512)]).loose.toNat))

/-- Slot 0 loaded from the fuses (R338, R355). -/
def State.loadSlot0 (s : State) : State := s.setKslot 0 (rootSlot (s.kslot 0).gen s.uniqueSecret)

/-- One of Sill's slots, derived in place: its generation unchanged (R375). -/
def State.sillSlot (s : State) (i p : Fin 128) (label : String) (ctx : List Byte) (bits : Nat) (dest usage : BitVec 8) :
    State :=
  let v := kdf (s.kslot p).bytes (ascii label) s.kdfLife (b2n s.kv.debug) ctx bits
  s.setKslot i { state := .inUse, owner := .common, bits := bits, value := v, dest := dest, usage := usage,
                 parent := some (p, (s.kslot p).gen), gen := (s.kslot i).gen, bound := true, depth := (s.kslot p).depth + 1 }

/-- Slots 1, 2 and 3 (R375). -/
def State.sillDevice (s : State) (sillMeas : Digest) : State :=
  let s := s.sillSlot 1 0 "GV-CDI0" (digestBytes sillMeas) 384 0x40 0x01
  let s := s.sillSlot 2 1 "GV-DEVID-EC" [] 512 0x03 0x02
  s.sillSlot 3 1 "GV-DEVID-ML" [] 256 0x03 0x02

/-- Slots 4, 5 and 6 (R375). -/
def State.sillAlias (s : State) (missionMeas : Digest) : State :=
  let s := s.sillSlot 4 1 "GV-CDI1" (digestBytes missionMeas) 384 0x40 0x01
  let s := s.sillSlot 5 4 "GV-ALIAS-EC" [] 512 0x03 0x02
  s.sillSlot 6 4 "GV-ALIAS-ML" [] 256 0x03 0x02

/-- Slot 7, the Cistern key (R375). -/
def State.sillCistern (s : State) : State := s.sillSlot 7 1 "GV-CISTERN" [] 256 0x10 0x18

/-- The vault at a warm restart (R355, R370): slot 7 and the slots loaded in data-plane registers kept, their ancestors zeroised
in place and LOCKED, every other slot destroyed, the root lock cleared. -/
def State.kvWarm (s : State) : State :=
  let kept (i : Fin 128) : Bool := i == 7 || s.dataLoaded i
  let keep := (List.finRange 128).filter kept
  let anc := (List.finRange 128).filter fun a => ! kept a && keep.any fun i => s.ancestor a 9 i
  let s := (List.finRange 128).foldl (fun s i =>
    if keep.contains i then s else if anc.contains i then s.lockSlot i else s.destroySlot i .empty) s
  ({ s with kv := { s.kv with rootLock := false, busy := Both.rep false } }).raise 1316

/-- The slots of a session invalidated at its end (R377). -/
def State.dropSessionSlots (s : State) (x : Session) : State := x.slots.foldl (fun s i => s.destroySlot i .empty) s

end Sys2Proof.Machine
end

