-- ==== Sys2Proof/Machine/MlDsa.lean ====
section
/-!
DEFINITION. ML-DSA-87 (R182-R185, R376, R380, R387, R445, R446; FIPS 204): keys, signatures and their verification, as the library
builds them on the big-number engine. A polynomial is the list of its 256 coefficients, each from 0 to q - 1.
-/
namespace Sys2Proof.Machine

/-- A polynomial of the ring. -/
abbrev Poly : Type := List Nat

/-! ## Polynomials -/

/-- The sum of two polynomials. -/
def polyAdd (a b : Poly) : Poly := List.zipWith (fun x y => (x + y) % vmacQ) a b
/-- Their difference. -/
def polySub (a b : Poly) : Poly := List.zipWith (fun x y => (x + vmacQ - y) % vmacQ) a b
/-- Their product, coefficient by coefficient: that of the ring where both are transformed. -/
def polyPoint (a b : Poly) : Poly := List.zipWith (fun x y => x * y % vmacQ) a b
/-- A polynomial times a number. -/
def polyScale (k : Nat) (a : Poly) : Poly := a.map fun x => k * x % vmacQ
/-- The polynomial 0. -/
def polyZero : Poly := List.replicate 256 0

/-- A power of a residue modulo q, by an exponent below 2^24. -/
def powQ : Nat → Nat → Nat → Nat
  | 0, _, _ => 1
  | n + 1, b, e => (if e % 2 = 1 then b else 1) * powQ n (b * b % vmacQ) (e / 2) % vmacQ

/-- The low `n` bits of a number in reverse order. -/
def reverseBits : Nat → Nat → Nat
  | 0, _ => 0
  | n + 1, v => v % 2 * 2 ^ n + reverseBits n (v / 2)

/-- The root of the transform's butterfly number `k`: 1753 to the power of k's eight bits reversed. -/
def nttRoot (k : Nat) : Nat := powQ 8 1753 (reverseBits 8 k)

/-- The transform of 2^n coefficients at butterfly `k`: the two halves combine, then each is transformed for itself. -/
def nttFrom : Nat → Nat → Poly → Poly
  | 0, _, a => a
  | n + 1, k, a =>
    let lo := a.take (2 ^ n)
    let hi := polyScale (nttRoot k) (a.drop (2 ^ n))
    nttFrom n (2 * k) (polyAdd lo hi) ++ nttFrom n (2 * k + 1) (polySub lo hi)

/-- The transform undone, but for the factor 2^n. -/
def unNttFrom : Nat → Nat → Poly → Poly
  | 0, _, a => a
  | n + 1, k, a =>
    let lo := unNttFrom n (2 * k) (a.take (2 ^ n))
    let hi := unNttFrom n (2 * k + 1) (a.drop (2 ^ n))
    polyAdd lo hi ++ polyScale (powQ 24 (nttRoot k) (vmacQ - 2)) (polySub lo hi)

/-- NTT of FIPS 204. -/
def ntt (a : Poly) : Poly := nttFrom 8 1 a
/-- Its inverse. -/
def unNtt (a : Poly) : Poly := polyScale (powQ 24 256 (vmacQ - 2)) (unNttFrom 8 1 a)

/-- The sum of products of transformed polynomials. -/
def polyDot (a b : List Poly) : Poly := (List.zipWith polyPoint a b).foldl polyAdd polyZero

/-- A coefficient's distance from 0 (the infinity norm's measure). -/
def coeffNorm (x : Nat) : Nat := min x (vmacQ - x)

/-- Do all coefficients lie below a bound. -/
def normBelow (bound : Nat) (l : List Poly) : Bool := l.all fun a => a.all fun x => decide (coeffNorm x < bound)

/-! ## Packing -/

/-- Coefficients in `w` bits each, from the low bit up (SimpleBitPack). -/
def packBits (w : Nat) (a : List Nat) : List Byte := leBytes (a.length * w / 8) (a.foldr (fun x acc => x + acc * 2 ^ w) 0)

/-- 256 numbers of `w` bits (SimpleBitUnpack). -/
def unpackBits (w : Nat) (b : List Byte) : List Nat :=
  let v := leNat b
  (List.range 256).map fun i => bitsOf v (w * i) w

/-- The pieces of `n` bytes of a string, `k` of them. -/
def pieces (n k : Nat) (b : List Byte) : List (List Byte) := (List.range k).map fun i => (b.drop (n * i)).take n

/-- A coefficient of z or y in its 20 bits, 2^19 less it (BitPack with γ1 = 2^19). -/
def maskCode (x : Nat) : Nat := (2 ^ 19 + vmacQ - x) % vmacQ

/-- The hint's 83 bytes: the places of each polynomial's ones, then where each polynomial's end (HintBitPack). -/
def packHint (h : List (List Nat)) : List Byte :=
  let ends := (List.range 8).map fun i => ((h.take (i + 1)).map List.length).sum
  let places := h.flatten
  (places ++ List.replicate (75 - places.length) 0 ++ ends).map fun n => BitVec.ofNat 8 n

/-- Do numbers rise strictly. -/
def rising (l : List Nat) : Bool := (l.zip (l.drop 1)).all fun x => decide (x.1 < x.2)

/-- The places of the hint's ones, by polynomial; none where the 83 bytes are malformed (HintBitUnpack). -/
def unpackHint (b : List Byte) : Option (List (List Nat)) :=
  let v := b.map fun x => x.toNat
  let ends := (v.drop 75).take 8
  let starts := 0 :: ends
  let h := (starts.zip ends).map fun x => (v.drop x.1).take (x.2 - x.1)
  let inOrder := (starts.zip ends).all fun x => decide (x.1 ≤ x.2) && decide (x.2 ≤ 75)
  let padding := ((v.take 75).drop (ends.getLastD 0)).all fun x => x == 0
  if b.length = 83 ∧ inOrder ∧ padding ∧ h.all rising then some h else none

/-! ## Rounding -/

/-- 2 γ2 = (q - 1) / 16. -/
def twoGamma2 : Nat := 523776

/-- The high and the low part of a coefficient, the low one as a residue (Decompose). -/
def decompose (x : Nat) : Nat × Nat :=
  let low := x % twoGamma2
  let signed := if twoGamma2 / 2 < low then low + vmacQ - twoGamma2 else low
  let rest := (x + vmacQ - signed) % vmacQ
  if rest = vmacQ - 1 then (0, (signed + vmacQ - 1) % vmacQ) else (rest / twoGamma2, signed)

/-- HighBits of a polynomial. -/
def highBits (a : Poly) : List Nat := a.map fun x => (decompose x).1
/-- LowBits of a polynomial. -/
def lowBits (a : Poly) : Poly := a.map fun x => (decompose x).2

/-- The high part that a hint corrects (UseHint). -/
def hinted (one : Bool) (x : Nat) : Nat :=
  let d := decompose x
  if ! one then d.1
  else if d.2 ≠ 0 ∧ d.2 ≤ vmacQ / 2 then (d.1 + 1) % 16
  else (d.1 + 15) % 16

/-- Where adding `z` to `r` changes the high part (MakeHint): the places of the ones. -/
def makeHint (z r : Poly) : List Nat :=
  (List.range 256).filter fun i => (decompose (r.getD i 0)).1 != (decompose ((r.getD i 0 + z.getD i 0) % vmacQ)).1

/-- The high and low part of a coefficient of t, at 2^13, the low one as a residue (Power2Round). -/
def power2Round (x : Nat) : Nat × Nat :=
  let low := x % 8192
  if 4096 < low then (x / 8192 + 1, low + vmacQ - 8192) else (x / 8192, low)

/-! ## Keys, signing and verifying -/

/-- The public matrix, transformed, row by row (ExpandA). -/
def expandA (rho : List Byte) : List (List Poly) :=
  (List.range 8).map fun r => (List.range 7).map fun c =>
    (sampleUniform (shake128 (rho ++ [BitVec.ofNat 8 c, BitVec.ofNat 8 r]) 1344)).take 256

/-- SampleInBall of a commitment hash. -/
def challenge (c : List Byte) : Poly :=
  let b := shake256 c 544
  (sampleBall (leNat (b.take 8)) 196 600 (b.drop 8) polyZero).getD polyZero

/-- The matrix times a vector of transformed polynomials. -/
def matTimes (m : List (List Poly)) (v : List Poly) : List Poly := m.map fun row => unNtt (polyDot row v)

/-- A pair of keys: the seed of the matrix, the secret vectors, t rounded, and the seed of the masks. -/
structure MlKey where
  rho : List Byte
  k : List Byte
  s1 : List Poly
  s2 : List Poly
  t : List Poly

/-- The key pair of a 32-byte seed (ML-DSA.KeyGen_internal, R376). -/
def mlKeyOf (seed : List Byte) : MlKey :=
  let e := shake256 (seed ++ [8, 7]) 128
  let rho := e.take 32
  let small (i : Nat) : Poly := (sampleBounded (shake256 ((e.drop 32).take 64 ++ leBytes 2 i) 544)).take 256
  let s1 := (List.range 7).map small
  let s2 := (List.range 8).map fun i => small (i + 7)
  ⟨rho, e.drop 96, s1, s2, List.zipWith polyAdd (matTimes (expandA rho) (s1.map ntt)) s2⟩

/-- The public key in its encoding: 2,592 bytes. -/
def MlKey.public_ (x : MlKey) : List Byte :=
  x.rho ++ x.t.flatMap fun a => packBits 10 (a.map fun c => (power2Round c).1)

/-- The representative of a message under a context (FIPS 204: pure ML-DSA). -/
def mlMessage (pk ctx msg : List Byte) : List Byte :=
  shake256 (shake256 pk 64 ++ (0 :: BitVec.ofNat 8 ctx.length :: (ctx ++ msg))) 64

/-- The commitment hash of a representative and the high parts of w. -/
def commitHash (mu : List Byte) (w1 : List (List Nat)) : List Byte := shake256 (mu ++ w1.flatMap fun a => packBits 4 a) 64

/-- One attempt of a signature (R446): none where a rejection test of FIPS 204 fails it. -/
def mlAttempt (x : MlKey) (mu mask : List Byte) (kappa : Nat) : Option (List Byte) :=
  let a := expandA x.rho
  let y := (List.range 7).map fun r => sampleMask (shake256 (mask ++ leBytes 2 (kappa + r)) 640)
  let w := matTimes a (y.map ntt)
  let ct := commitHash mu (w.map highBits)
  let c := ntt (challenge ct)
  let timesC (p : Poly) : Poly := unNtt (polyPoint c (ntt p))
  let z := List.zipWith polyAdd y (x.s1.map timesC)
  let r := List.zipWith polySub w (x.s2.map timesC)
  let ct0 := x.t.map fun p => timesC (p.map fun v => (power2Round v).2)
  let neg := ct0.map fun p => polySub polyZero p
  let h := List.zipWith makeHint neg (List.zipWith polyAdd r ct0)
  if ! normBelow (2 ^ 19 - 120) z ∨ ! normBelow (twoGamma2 / 2 - 120) (r.map lowBits) then none
  else if ! normBelow (twoGamma2 / 2) ct0 ∨ 75 < (h.map List.length).sum then none
  else some (ct ++ (z.flatMap fun p => packBits 20 (p.map maskCode)) ++ packHint h)

/-- Attempts until one is not rejected, the counter advanced by 7 each time (R446). -/
def mlAttempts (x : MlKey) (mu mask : List Byte) : Nat → Nat → List Byte
  | 0, _ => []
  | n + 1, kappa => (mlAttempt x mu mask kappa).getD (mlAttempts x mu mask n (kappa + 7))

/-- The hedged ML-DSA-87 signature of a message under a context, with 32 bytes of randomness (R376): 4,627 bytes. -/
def mlSign (x : MlKey) (ctx msg random : List Byte) : List Byte :=
  let mu := mlMessage x.public_ ctx msg
  mlAttempts x mu (shake256 (x.k ++ random ++ mu) 64) 814 0

/-- ML-DSA-87 verify (R185, R445): ‖z‖∞ below γ1 - β, at most ω hints, the commitment hash recomputed. -/
def mlVerify (pk ctx msg sig : List Byte) : Bool :=
  let ct := sig.take 64
  let z := (pieces 640 7 (sig.drop 64)).map sampleMask
  match unpackHint (sig.drop 4544) with
  | none => false
  | some h =>
    let c := ntt (challenge ct)
    let t := (pieces 320 8 (pk.drop 32)).map fun b => polyPoint c (ntt (polyScale 8192 (unpackBits 10 b)))
    let az := (expandA (pk.take 32)).map fun row => polyDot row (z.map ntt)
    let w := (List.zipWith polySub az t).map unNtt
    let w1 := List.zipWith (fun p ones => p.zipIdx.map fun x => hinted (ones.contains x.2) x.1) w h
    pk.length == 2592 && sig.length == 4627 && normBelow (2 ^ 19 - 120) z && commitHash (mlMessage pk ctx msg) w1 == ct

end Sys2Proof.Machine
end

