-- ==== Sys2Proof/Machine/Identity.lean ====
section
/-!
DEFINITION. The keys of the identity (R376, R379, R399) and what the steward's big-number engine does with them: public keys expanded
from the seeds in the vault, signatures whose nonces come from the DRBG.
-/
namespace Sys2Proof.Machine

/-! ## Public keys (R376, R399) -/

/-- Does a private-key slot hold a key. -/
def State.keyThere (s : State) (i : Fin 128) : Bool := (s.kslot i).state == .inUse || (s.kslot i).state == .locked

/-- The ECDSA public key of a seed slot, a SEC 1 point (R376). -/
def State.ecKey (s : State) (i : Fin 128) : List Byte := ecPublic (s.kslot i).value

/-- The ML-DSA-87 public key of a seed slot in its encoding (R376). -/
def State.mlKey (s : State) (i : Fin 128) : List Byte := (mlKeyOf (s.kslot i).bytes).public_

/-- The two seed slots of a certificate slot (R381): DeviceID for slot 0, Alias for slot 1. -/
def certSeeds (slot : Nat) : Fin 128 × Fin 128 := if slot = 0 then (2, 3) else (5, 6)

/-- A public key of the identity (R399); empty where its slot holds none. -/
def State.publicKey (s : State) (sub : Nat) : List Byte :=
  let seeds := certSeeds (if sub ≤ 2 then 0 else 1)
  if sub % 2 = 1 then (if s.keyThere seeds.1 then s.ecKey seeds.1 else [])
  else (if s.keyThere seeds.2 then s.mlKey seeds.2 else [])

/-- SHA-384 of the ECDSA public key of the DeviceID (R254, R284). -/
def State.deviceId (s : State) : Digest := sha384 (s.ecKey 2)

/-! ## Signatures (R376, R386) -/

/-- The `n`th nonce of a signature: a draw of the DRBG brought into 1 to n - 1 (R376; DESIGN CHOICE, log entry 160). -/
def State.drbgNonce (s : State) (n : Nat) : Nat := (Config.drbg (s.free + n)).toNat % (curveN - 1) + 1

/-- An ECDSA P-384 signature by a seed slot over the SHA-384 of a message, r ‖ s: the first of four nonces that gives one (R376). -/
def State.ecSign (s : State) (i : Fin 128) (msg : List Byte) : List Byte :=
  (([0, 1, 2, 3].findSome? fun n => ecdsaSign (ecScalar (s.kslot i).value) (s.drbgNonce n) (sha384 msg)).getD [])

/-- A hedged ML-DSA-87 signature by a seed slot over a message under a context (R376). -/
def State.mlSignAs (s : State) (i : Fin 128) (ctx msg : List Byte) : List Byte :=
  mlSign (mlKeyOf (s.kslot i).bytes) ctx msg (beBytes 32 ((Config.drbg (s.free + 4)).toNat / 2 ^ 128))

/-- The draws of one pair of signatures are used up. -/
def State.signed (s : State) : State := { s with free := s.free + 5 }

end Sys2Proof.Machine
end

