-- ==== Sys2Proof/Machine/Fuse.lean ====
section
/-!
DEFINITION. The fuses and FUSECTL (R403-R425): sensing, integrity and locks, programming, redirection, the unique secret,
overrides, and the loads of start-up.
-/
namespace Sys2Proof.Machine

/-! ## Regions -/

/-- The first and last word of a region of the main array (R406). -/
def regionSpan : Nat → Nat × Nat
  | 0 => (0, 7)
  | 1 => (8, 20)
  | 2 => (21, 31)
  | 3 => (32, 44)
  | 4 => (45, 57)
  | 5 => (58, 70)
  | 6 => (71, 83)
  | 7 => (84, 95)
  | 8 => (96, 159)
  | 9 => (160, 383)
  | _ => (384, 511)

/-- The region of a main word (R406). -/
def regionOf (w : Nat) : Nat :=
  if w < 8 then 0 else if w < 21 then 1 else if w < 32 then 2 else if w < 84 then 3 + (w - 32) / 13
  else if w < 96 then 7 else if w < 160 then 8 else if w < 384 then 9 else 10

/-- The lifecycles in which a region may be programmed (R406). -/
def regionProgrammed (n : Nat) (l : Lifecycle) : Bool :=
  match n with
  | 0 | 2 | 10 => l == .raw || l == .test
  | 1 => l == .test
  | 3 | 7 => l == .provision
  | _ => l == .provision || l == .mission

/-- The lifecycles in which a region may be locked (R406); CHFLOOR never. -/
def regionLockable (n : Nat) (l : Lifecycle) : Bool := n != 8 && regionProgrammed n l

/-- May a region's words be overridden (R406). -/
def regionOverridable (n : Nat) : Bool := n != 1 && n != 10

/-- A number as a main word. -/
def mainIx (w : Nat) : Fin 512 := ⟨w % 512, Nat.mod_lt _ (by decide)⟩
/-- A number as a privileged word. -/
def privIx (p : Nat) : Fin 64 := ⟨p % 64, Nat.mod_lt _ (by decide)⟩

/-! ## Sensing -/

/-- The spare word in force for a main word (R408, R413). -/
def State.spareOf (s : State) (w : Fin 512) : Option (Fin 128) :=
  (s.fuse.redirects.find? fun r => r.main == w).map fun r => r.spare

/-- What the array holds for a main word, through its redirection (R413). -/
def State.mainCells (s : State) (w : Fin 512) : FuseWord :=
  match s.spareOf w with
  | some sp => s.fuse.spare[sp]
  | none => s.fuse.main[w]

/-- Writes the cells behind a main word. -/
def State.setMain (s : State) (w : Fin 512) (v : FuseWord) : State :=
  match s.spareOf w with
  | some sp => { s with fuse := { s.fuse with spare := vset s.fuse.spare sp v } }
  | none => { s with fuse := { s.fuse with main := vset s.fuse.main w v } }

/-- A main word's shadow after it was sensed: its loose reading, 0 for SECRET (R414). -/
def State.loadShadow (s : State) (w : Fin 512) : State :=
  let v := if regionOf w.val = 1 then 0 else (s.mainCells w).loose
  { s with fuse := { s.fuse with shadow := vset s.fuse.shadow w v } }

/-- A privileged word's shadow after it was sensed (R405, R414). -/
def State.loadPrivShadow (s : State) (p : Fin 64) : State :=
  { s with fuse := { s.fuse with shadowPriv := vset s.fuse.shadowPriv p (s.fuse.priv[p]).loose } }

/-- The integrity word that the region's words call for (R409): CRC-32C over the region's number and its other words. -/
def State.integrity (s : State) (n : Nat) : Word :=
  let (a, b) := regionSpan n
  crc32c (BitVec.ofNat 8 n :: (List.range (b - a)).flatMap fun i => leBytes 4 (s.mainCells (mainIx (a + i))).loose.toNat)

/-- Does the region's integrity word match (R409); a region without one matches. -/
def State.integrityOk (s : State) (n : Nat) : Bool :=
  n == 8 || (s.mainCells (mainIx (regionSpan n).2)).loose == s.integrity n

/-- P1 bit n as the array holds it. -/
def State.lockCell (s : State) (n : Nat) : Bool := (s.fuse.priv[privIx 1]).loose.getLsbD n

/-- Is the region consistent (R411). -/
def State.regionConsistent (s : State) (n : Nat) : Bool := ! s.lockCell n || s.integrityOk n

/-- The lowest-numbered region found inconsistent at this start-up (R410); regions 8-10 are judged once the background load has
read them (R413). -/
def State.firstBad (s : State) : Option Nat :=
  (List.range (if s.fuse.allLoaded then 11 else 8)).find? fun n => s.regionLocked n && ! s.fuse.regionOk.getLsbD n

/-- The words of a region with a weak bit, in order. -/
def State.weakWords (s : State) (n : Nat) : List Nat :=
  let (a, b) := regionSpan n
  ((List.range (b - a + 1)).map fun i => a + i).filter fun w => (s.mainCells (mainIx w)).weak != 0

/-! ## Loads of start-up (R413, R415) -/

/-- A redirection entry's word (R408). -/
def redirectWord (m sp : Nat) : Word :=
  let v := 2 ^ 31 + m * 2 ^ 16 + sp * 2 ^ 8
  BitVec.ofNat 32 (v + (crc8 [BitVec.ofNat 8 (v / 2 ^ 24), BitVec.ofNat 8 (v / 2 ^ 16), BitVec.ofNat 8 (v / 2 ^ 8)]).toNat)

/-- The CRC-8 of an entry stands (R408). -/
def redirectCrcOk (e : Word) : Bool :=
  let v := e.toNat
  (crc8 [BitVec.ofNat 8 (v / 2 ^ 24), BitVec.ofNat 8 (v / 2 ^ 16), BitVec.ofNat 8 (v / 2 ^ 8)]).toNat == v % 256

/-- The entries in use among P32-P63 (R407, R408). -/
def State.redirectEntries (s : State) : List Word :=
  ((List.range 32).map fun i => (s.fuse.priv[privIx (32 + i)]).loose).filter fun e => e.getLsbD 31

/-- The redirection that an entry names. -/
def redirectOf (e : Word) : Redirect :=
  ⟨mainIx (bitsOf e.toNat 16 9), ⟨bitsOf e.toNat 8 7 % 128, Nat.mod_lt _ (by decide)⟩⟩

/-- Is the redirection table inconsistent (R408). -/
def State.redirectsBad (s : State) : Bool :=
  let es := s.redirectEntries
  let rs := es.map redirectOf
  es.any (fun e => ! redirectCrcOk e) || decide (¬ (rs.map fun r => r.main).Nodup)
  || decide (¬ (rs.map fun r => r.spare).Nodup)

/-- Counts a weak word found and raises FUSE_WEAK (R415, R419). -/
def State.weakFound (s : State) : State :=
  ({ s with fuse := { s.fuse with weakCnt := satInc 16 s.fuse.weakCnt } }).raise 1297

/-- A margin pair of a main word at a load: shadow, weak bits, sense faults (R404). -/
def State.senseMain (s : State) (w : Nat) : State :=
  let c := s.mainCells (mainIx w)
  let s := s.loadShadow (mainIx w)
  let s := s.raiseIf (c.tight &&& ~~~ c.loose != 0) 1298
  if c.weak = 0 then s else s.weakFound

/-- A margin pair of a privileged word at a load. -/
def State.sensePriv (s : State) (p : Nat) : State :=
  let c := s.fuse.priv[privIx p]
  let s := s.loadPrivShadow (privIx p)
  let s := s.raiseIf ((c.a.tight &&& ~~~ c.a.loose) ||| (c.b.tight &&& ~~~ c.b.loose) != 0) 1298
  if c.weak = 0 then s else s.weakFound

/-- Notes which of the regions `ns` are consistent; FUSE_ALARM for each locked one that is not (R411). -/
def State.checkRegions (s : State) (ns : List Nat) : State :=
  ns.foldl (fun s n =>
    let ok := s.regionConsistent n
    let s := { s with fuse := { s.fuse with regionOk := putBit s.fuse.regionOk n ok } }
    s.raiseIf (! ok) 1299) s

/-- The boot-critical load (R413): redirections, privileged words, W0-W95, regions 0-7. -/
def State.loadBootFuses (s : State) : State :=
  let s := { s with fuse := { s.fuse with redirects := s.redirectEntries.map redirectOf } }
  let s := (List.range 32).foldl (fun s i => s.sensePriv (32 + i)) s
  let s := (List.range 32).foldl State.sensePriv s
  let s := (List.range 96).foldl State.senseMain s
  let s := s.checkRegions (List.range 8)
  { s with fuse := { s.fuse with bootLoaded := true } }

/-- A condition of R343 that start-up found: its bit of `fuse_alarm` and its FUSE_ALARM record. -/
def State.fuseAlarm (s : State) (cond : Bool) (bit event : Nat) : State :=
  if cond then
    ({ s with boot := { s.boot with alarm := putBit s.boot.alarm bit true } }).logRec .fuseAlarm event 0 .sill [(1, bit)]
  else s

/-- A channel floor has a gap (R192, R343). -/
def State.chanFloorGap (s : State) : Bool :=
  (List.range 64).any fun c => (thermo (s.fuse.shadow[mainIx (96 + c)]).toNat 32).isNone

/-- The background load completes (R413): W96-W511, regions 8-10, FUSE_LOADED; what it finds wrong is recorded (R343). -/
def State.loadRestFuses (s : State) : State :=
  if ! s.fuse.bootLoaded || s.fuse.allLoaded then s
  else
    let s := (List.range 416).foldl (fun s i => s.senseMain (96 + i)) s
    let s := s.checkRegions [8, 9, 10]
    let bad := s.regionLocked 9 && ! s.fuse.regionOk.getLsbD 9 || s.regionLocked 10 && ! s.fuse.regionOk.getLsbD 10
    let s := { s with fuse := { s.fuse with allLoaded := true }, boot := { s.boot with otherBad := s.boot.otherBad || bad } }
    let s := (s.fuseAlarm s.chanFloorGap 3 noEvent).fuseAlarm bad 4 1299
    s.raise 1296

/-- FUSE_BACKGROUND_LOAD_DONE (R413). -/
def execFuseBackgroundLoadDone (s : State) : Host.Outcome State Fault Refusal := .next s.loadRestFuses

/-! ## Commands -/

/-- T_J lies in the programming window, 0 °C to 85 °C; TEMP counts 0.25 °C (R416, R401). At reset, before the sensor has read, it reads 0
(R8, R424). -/
def State.tempOk (s : State) : Bool := s.boot.phase != .held && decide (0 ≤ s.lev.temp.toInt) && decide (s.lev.temp.toInt ≤ 340)

/-- A command of the controller ends with a code: CMD_STATUS, and how long it ran (R417, R424). -/
def State.fuseEnd (s : State) (c : Code) (weak : Bool) (burned failed ns : Nat) : State :=
  { s with fuse := { s.fuse with status := ⟨weak, c, min burned 255, min failed 255⟩, busyUntil := s.time + ns } }

/-- A command is running (R416). -/
def State.fuseBusy (s : State) : Bool := decide (s.time < s.fuse.busyUntil)

/-- A command is refused (R425: FUSE_CMD_ERROR); a command that runs keeps running, and its result stands in CMD_STATUS (R10). -/
def State.fuseRefuse (s : State) (c : Code) : State :=
  let s := if s.fuseBusy then s else { s with fuse := { s.fuse with status := ⟨false, c, 0, 0⟩ } }
  s.raiseLog 1311 [(1, c.num)]

/-- READ and MARGIN registers after a sensing (R414, R424): SECRET gives the number of weak bits alone. -/
def State.setReadRegs (s : State) (secret both : Bool) (loose tight weak : Word) : State :=
  { s with fuse := { s.fuse with
    readLoose := if secret then 0 else loose
    readTight := if secret then 0 else if both then tight else s.fuse.readTight
    readWeak := if secret then BitVec.ofNat 32 (popCount weak) else if both then weak else s.fuse.readWeak } }

/-- READ (`both` false) or MARGIN (`both` true) of a word (R404, R414, R417). -/
def State.fuseSense (s : State) (both priv : Bool) (w : Nat) : State :=
  if priv ∧ 64 ≤ w then s.fuseRefuse .badRange
  else if s.fuseBusy then s.fuseRefuse .busy
  else
    let c := s.mainCells (mainIx w)
    let p := s.fuse.priv[privIx w]
    let loose := if priv then p.loose else c.loose
    let tight := if priv then p.tight else c.tight
    let weak := if priv then p.weak else c.weak
    let fault := both && (tight &&& ~~~ loose) != 0
    let s := s.setReadRegs (! priv && regionOf w == 1) both loose tight weak
    let s := s.raiseIf fault 1298
    let s := s.raiseIf (both && weak != 0) 1297
    s.fuseEnd .ok false 0 0 (if both then (if fault then 15000 else 5000) else 2500)

/-- FUSE_READ (R414). -/
def execFuseRead (half : Half) (priv : Bool) (word : BitVec 9) (s : State) : Host.Outcome State Fault Refusal :=
  .next (s.halfBus half 0x40010000 30 true fun s => s.fuseSense false priv word.toNat)

/-- FUSE_MARGIN (R404). -/
def execFuseMargin (half : Half) (priv : Bool) (word : BitVec 9) (s : State) : Host.Outcome State Fault Refusal :=
  .next (s.halfBus half 0x40010000 30 true fun s => s.fuseSense true priv word.toNat)

/-- A word after a burn of the cells `set` that left the readings `lo` and `ti` on them; a cell never goes back to 0. -/
def FuseWord.burn (w : FuseWord) (set lo ti : Word) : FuseWord := ⟨w.loose ||| (set &&& lo), w.tight ||| (set &&& ti)⟩

/-- The part of a burn's outcome for its `i`-th word. -/
def BurnOutcome.word (b : BurnOutcome) (i : Nat) : Word × Word :=
  (BitVec.ofNat 32 (b.loose / 2 ^ (32 * i)), BitVec.ofNat 32 (b.tight / 2 ^ (32 * i)))

/-- The outcome without its first `n` words, of which `used` cells were to be burned. -/
def BurnOutcome.drop (b : BurnOutcome) (n used : Nat) : BurnOutcome :=
  ⟨b.loose / 2 ^ (32 * n), b.tight / 2 ^ (32 * n), b.cut.map fun c => ⟨c.cells - used, c.temp⟩⟩

/-- How many of `n` cells the burn reaches (R416, R421). -/
def BurnOutcome.reaches (b : BurnOutcome) (n : Nat) : Nat :=
  match b.cut with
  | some c => min n c.cells
  | none => n

/-- T_J stops a burn of `n` cells before its last (R416). -/
def BurnOutcome.stopsCold (b : BurnOutcome) (n : Nat) : Bool :=
  match b.cut with
  | some c => c.temp && decide (c.cells < n)
  | none => false

/-- The `n` lowest bits set of a word: DESIGN CHOICE, cells burn from bit 0 upward (log 165). -/
def lowestOf (set : Word) (n : Nat) : Word :=
  ((List.range 32).foldl (fun (q : Word × Nat) i =>
    if set.getLsbD i && decide (q.2 < n) then (q.1 ||| bitMask 32 i, q.2 + 1) else q) (0#32, 0)).1

/-- What a burn came to: still-weak masked bits, cells blown, cells that read 0 loose, whether every masked bit reads 1, the
cells still not tight, each of which had its further burn (R417), and whether T_J stopped it (R416). -/
structure BurnResult where
  weak : Bool
  burned : Nat
  failed : Nat
  ok : Bool
  again : Nat
  cold : Bool
  deriving DecidableEq, Repr

/-- Two burns of one command, one after the other. -/
def BurnResult.and (a b : BurnResult) : BurnResult :=
  ⟨a.weak || b.weak, a.burned + b.burned, a.failed + b.failed, a.ok && b.ok, a.again + b.again, a.cold || b.cold⟩

/-- Burns `set` of a main word; `mask` names the bits that must read 1 (R419). The shadow takes what the array holds. -/
def State.burnMain (s : State) (w : Nat) (set mask : Word) (b : BurnOutcome) : State × BurnResult :=
  let (lo, ti) := b.word 0
  let n := popCount set
  let cells := lowestOf set (b.reaches n)
  let v := (s.mainCells (mainIx w)).burn cells lo ti
  let s := (s.setMain (mainIx w) v).loadShadow (mainIx w)
  (s, ⟨v.weak &&& mask != 0, b.reaches n, popCount (cells &&& ~~~ v.loose), mask &&& ~~~ v.loose == 0,
    popCount (cells &&& ~~~ v.tight), b.stopsCold n⟩)

/-- Burns `set` of a privileged word, both cells of each bit (R405). -/
def State.burnPriv (s : State) (p : Nat) (set mask : Word) (b : BurnOutcome) : State × BurnResult :=
  let (lo, ti) := b.word 0
  let (lo2, ti2) := b.word 1
  let old := s.fuse.priv[privIx p]
  let n := b.reaches (2 * popCount set)
  let sa := lowestOf set ((n + 1) / 2)
  let sb := lowestOf set (n / 2)
  let v : PrivWord := ⟨old.a.burn sa lo ti, old.b.burn sb lo2 ti2⟩
  let s := ({ s with fuse := { s.fuse with priv := vset s.fuse.priv (privIx p) v } }).loadPrivShadow (privIx p)
  (s, ⟨v.weak &&& mask != 0, n, popCount (sa &&& ~~~ v.a.loose) + popCount (sb &&& ~~~ v.b.loose),
       mask &&& ~~~ v.loose == 0, popCount (sa &&& ~~~ v.a.tight) + popCount (sb &&& ~~~ v.b.tight),
       b.stopsCold (2 * popCount set)⟩)

/-- The end of a burn (R419): OK or INTERNAL, the events, the time with 15 µs for each further burn (R417); BUSY and 1302
where T_J stopped it, the cells burned counted (R416). -/
def State.burnEnd (s : State) (r : BurnResult) (ns : Nat) : State × Code :=
  let c : Code := if r.cold then .busy else if r.ok then .ok else .internal
  let s := s.fuseEnd c r.weak r.burned r.failed (ns + 15000 * r.again)
  let s := if r.weak then s.weakFound else s
  (s.raise (if r.cold then 1302 else if r.ok then 1300 else 1301), c)

/-- Before a burn (R416): the freeze, another command, and T_J; none when the burn may go on. -/
def State.burnStop (s : State) (busy : Bool) : Option (State × Code) :=
  if s.dev.freeze then some (s.fuseRefuse .busy, .busy)
  else if busy ∧ s.fuseBusy then some (s.fuseRefuse .busy, .busy)
  else if ! s.tempOk then some ((s.fuseEnd .busy false 0 0 10000).raise 1302, .busy)
  else none

/-- The lowest unset bit of a word as a mask, 0 where all `n` bits are set. -/
def lowestUnset (v n : Nat) : Word :=
  match (List.range n).find? fun i => ! v.testBit i with
  | some i => bitMask 32 i
  | none => 0

/-- The bits of a privileged word that PROGRAM may name (R407). -/
def privBits (p : Nat) : Word :=
  match p with
  | 0 => 0x1F
  | 2 => 0xF
  | _ => 0xFFFFFFFF

/-- The refusal of a PROGRAM on a privileged word (R418), first of R11's order. -/
def State.programPrivCode (s : State) (p : Nat) (mask : Word) : Option Code :=
  let v := (s.fuse.priv[privIx p]).loose.toNat
  if 64 ≤ p then some .badRange
  else if p ≠ 0 ∧ p ≠ 2 ∧ p ≠ 3 ∧ p ≠ 4 then some .deniedAccess
  else if mask &&& ~~~ privBits p ≠ 0 then some .badRange
  else match p with
    | 0 => if mask = lowestUnset v 5 ∧ mask ≠ 0 then none else some .badRange
    | 2 => if (List.range 4).all (fun i => ! mask.getLsbD i || s.ownerFused i) then none else some .badRange
    | 3 => if mask = lowestUnset v 32 ∧ mask ≠ 0 then none else some .badRange
    | _ => if (s.fuse.priv[privIx 3]).loose = 0xFFFFFFFF ∧ mask = lowestUnset v 32 ∧ mask ≠ 0 then none else some .badRange

/-- The refusal of a PROGRAM on a main word (R418). -/
def State.programMainCode (s : State) (w : Nat) (mask : Word) : Option Code :=
  let n := regionOf w
  let v := (s.mainCells (mainIx w)).loose
  Code.first ((if s.lockCell n ∨ n = 1 then [.deniedAccess] else [])
    ++ (if regionProgrammed n s.lifecycle then [] else [.refusedState])
    ++ (if n = 8 ∧ (mask ≠ lowestUnset v.toNat 32 ∨ mask = 0) then [.badRange] else [])
    ++ (if w = 84 ∧ mask &&& 0xFFFFFFF8 ≠ 0 then [.badRange] else [])
    ++ (if 85 ≤ w ∧ w ≤ 94 ∧ mask ≠ 0 then [.badRange] else [])
    ++ (if w = 84 ∧ (v ||| mask) &&& 7 = 7 then [.badRange] else []))

/-- The events of a successful step burn: lifecycle, revocation, floor (R425). -/
def State.stepEvents (s : State) (priv : Bool) (w : Nat) (set : Word) : State :=
  if set = 0 then s
  else if priv then (if w = 0 then s.raise 1308 else if w = 2 then s.raise 1309 else s.raise 1310)
  else s.raiseIf (regionOf w == 8) 1310

/-- PROGRAM (R416-R419). -/
def State.fuseProgram (s : State) (busy priv : Bool) (w : Nat) (mask : Word) (b : BurnOutcome) : State × Code :=
  match if priv then s.programPrivCode w mask else s.programMainCode w mask with
  | some c => (s.fuseRefuse c, c)
  | none =>
    match s.burnStop busy with
    | some r => r
    | none =>
      let old := if priv then (s.fuse.priv[privIx w]).loose else (s.mainCells (mainIx w)).loose
      let set := mask &&& ~~~ old
      let r := if priv then s.burnPriv w set mask b else s.burnMain w set mask b
      let s := if r.2.ok && ! r.2.cold then r.1.stepEvents priv w set else r.1
      s.burnEnd r.2 (20000 + 10000 * r.2.burned)

/-- FUSE_PROGRAM (R418): the mask is CMD_DATA. -/
def execFuseProgram (half : Half) (priv : Bool) (word : BitVec 9) (burn : BurnOutcome) (s : State) :
    Host.Outcome State Fault Refusal :=
  .next (s.halfBus half 0x40010000 30 true fun s => (s.fuseProgram true priv word.toNat s.fuse.cmdData burn).1)

/-- The refusal of a REBURN (R420). -/
def State.reburnCode (s : State) (priv : Bool) (w : Nat) (mask : Word) : Option Code :=
  let weak := if priv then (s.fuse.priv[privIx w]).weak else (s.mainCells (mainIx w)).weak
  let loose := if priv then (s.fuse.priv[privIx w]).loose else (s.mainCells (mainIx w)).loose
  let weakOnly := mask &&& ~~~ (weak &&& loose) = 0
  let n := regionOf w
  match s.lifecycle with
    | .provision =>
      if priv ∧ 64 ≤ w then some .badRange
      else if priv then (if weakOnly then none else some .deniedAccess)
      else if n = 1 ∨ n = 2 ∨ n = 10 then some .deniedAccess else none
    | .mission =>
      if priv ∧ 64 ≤ w then some .badRange
      else if weakOnly ∧ (priv ∨ n = 8 ∨ s.regionConsistent n) then none else some .deniedAccess
    | _ => some .refusedState

/-- REBURN (R416, R417, R420): the masked bits are burned again. -/
def State.fuseReburn (s : State) (priv : Bool) (w : Nat) (mask : Word) (b : BurnOutcome) : State × Code :=
  match s.reburnCode priv w mask with
  | some c => (s.fuseRefuse c, c)
  | none =>
    match s.burnStop true with
    | some r => r
    | none =>
      let r := if priv then s.burnPriv w mask mask b else s.burnMain w mask mask b
      r.1.burnEnd r.2 (20000 + 10000 * r.2.burned)

/-- FUSE_REBURN (R420). -/
def execFuseReburn (half : Half) (priv : Bool) (word : BitVec 9) (burn : BurnOutcome) (s : State) :
    Host.Outcome State Fault Refusal :=
  .next (s.halfBus half 0x40010000 30 true fun s => (s.fuseReburn priv word.toNat s.fuse.cmdData burn).1)

/-- The word that FUSE_LOCK_REFUSED names, or the region (R410): the first failing word, else 0xFFFF and the bad region; none
where every check passes. -/
def State.lockFailure (s : State) (n : Nat) : Option (Nat × Nat) :=
  match s.weakWords n with
  | w :: _ => some (w, n)
  | [] =>
    if ! s.integrityOk n then some ((regionSpan n).2, n)
    else match s.firstBad with
      | some r => some (0xFFFF, r)
      | none => none

/-- LOCK (R410), its cases in the order the rule gives. -/
def State.fuseLock (s : State) (busy : Bool) (n : Nat) (b : BurnOutcome) : State × Code :=
  if 10 < n then (s.fuseRefuse .badRange, .badRange)
  else if s.lockCell n then
    (if busy ∧ s.fuseBusy then (s.fuseRefuse .busy, .busy) else (s.fuseEnd .ok false 0 0 0, .ok))
  else if ! regionLockable n s.lifecycle then (s.fuseRefuse .refusedState, .refusedState)
  else match s.lockFailure n with
    | some (w, r) =>
      let s := s.fuseEnd .fuseIncomplete false 0 0 (15000 + 5000 * ((regionSpan n).2 - (regionSpan n).1 + 1))
      ((s.raiseLog 1303 [(2, w), (1, r)]).raise 1311, .fuseIncomplete)
    | none =>
      match s.burnStop busy with
      | some r => r
      | none =>
        let r := s.burnPriv 1 (bitMask 32 n) (bitMask 32 n) b
        let s := r.1.raiseIf (r.2.ok && ! r.2.cold) 1304
        s.burnEnd r.2 (40000 + 5000 * ((regionSpan n).2 - (regionSpan n).1 + 1))

/-- FUSE_LOCK (R410). -/
def execFuseLock (half : Half) (region : BitVec 9) (burn : BurnOutcome) (s : State) : Host.Outcome State Fault Refusal :=
  .next (s.halfBus half 0x40010000 30 true fun s => (s.fuseLock true region.toNat burn).1)

/-- The lowest spare word that no entry in use names (R421). -/
def State.freeSpare (s : State) : Option (Fin 128) :=
  (List.finRange 128).find? fun i => ! (s.redirectEntries.map fun e => (redirectOf e).spare).contains i

/-- The lowest entry not in use. -/
def State.freeEntry (s : State) : Option Nat :=
  (List.range 32).find? fun i => ! (s.fuse.priv[privIx (32 + i)]).loose.getLsbD 31

/-- The intended value burned into a spare word and verified: it must read exactly that value (R421). -/
def State.burnSpare (s : State) (sp : Fin 128) (v : Word) (b : BurnOutcome) : State × BurnResult :=
  let (lo, ti) := b.word 0
  let n := b.reaches (popCount v)
  let cells := lowestOf v n
  let c := (s.fuse.spare[sp]).burn cells lo ti
  ({ s with fuse := { s.fuse with spare := vset s.fuse.spare sp c } },
   ⟨c.weak &&& v != 0, n, popCount (cells &&& ~~~ c.loose), c.loose == v, popCount (cells &&& ~~~ c.tight),
    b.stopsCold (popCount v)⟩)

/-- REDIRECT (R421): the spare word, then the entry; in force from the next power-on reset. -/
def State.fuseRedirect (s : State) (w : Nat) (v : Word) (b : BurnOutcome) : State × Code :=
  if s.lockCell (regionOf w) then (s.fuseRefuse .deniedAccess, .deniedAccess)
  else if s.lifecycle ≠ .test ∧ s.lifecycle ≠ .provision then (s.fuseRefuse .refusedState, .refusedState)
  else match s.freeSpare, s.freeEntry with
    | some sp, some e =>
      match s.burnStop true with
      | some r => r
      | none =>
        let q := s.burnSpare sp v b
        if ! q.2.ok then q.1.burnEnd q.2 (20000 + 10000 * q.2.burned)
        else
          let ew := redirectWord w sp.val
          let r := q.1.burnPriv (32 + e) ew ew (b.drop 1 (popCount v))
          let t := q.2.and r.2
          (r.1.raiseIf (t.ok && ! t.cold) 1305).burnEnd t (40000 + 10000 * t.burned)
    | _, _ => ((s.fuseRefuse .full).raise 1306, .full)

/-- FUSE_REDIRECT (R421): the intended value is CMD_DATA. -/
def execFuseRedirect (half : Half) (word : BitVec 9) (burn : BurnOutcome) (s : State) : Host.Outcome State Fault Refusal :=
  .next (s.halfBus half 0x40010000 30 true fun s => (s.fuseRedirect word.toNat s.fuse.cmdData burn).1)

/-- The words burned one after another, each with its part of the outcome; their results together. -/
def State.burnRun (s : State) (w : Nat) (vals : List Word) (b : BurnOutcome) : State × BurnResult :=
  match vals with
  | [] => (s, ⟨false, 0, 0, true, 0, false⟩)
  | v :: vs =>
    let set := v &&& ~~~ (s.mainCells (mainIx w)).loose
    let r := s.burnMain w set v b
    let q := State.burnRun r.1 (w + 1) vs (b.drop 1 (popCount set))
    (q.1, r.2.and q.2)

/-- The cells that a run of words would burn. -/
def State.runCells (s : State) (w : Nat) (vals : List Word) : Nat :=
  ((List.range vals.length).map fun i => popCount (vals.getD i 0 &&& ~~~ (s.mainCells (mainIx (w + i))).loose)).sum

/-- The 12 words of a 384-bit value, byte 0 in bits 7:0 of the first (R406). -/
def digestWords (d : Digest) : List Word :=
  (List.range 12).map fun i => BitVec.ofNat 32 (leNat ((digestBytes d).drop (4 * i) |>.take 4))

/-- GEN_SECRET (R421): W8-W19 from the DRBG, then W20; no core sees either. -/
def State.genSecret (s : State) (b : BurnOutcome) : State × Code :=
  if s.lockCell 1 then (s.fuseRefuse .deniedAccess, .deniedAccess)
  else if s.lifecycle ≠ .test then (s.fuseRefuse .refusedState, .refusedState)
  else match s.burnStop true with
    | some r => r
    | none =>
      let vals := digestWords (Config.drbg s.free)
      let r := s.burnRun 8 vals b
      let q := r.1.burnRun 20 [r.1.integrity 1] (b.drop 12 (s.runCells 8 vals))
      let t := r.2.and q.2
      q.1.drawn.burnEnd t (13 * 20000 + 10000 * t.burned)

/-- GEN_SECRET (R421). -/
def execGenSecret (half : Half) (burn : BurnOutcome) (s : State) : Host.Outcome State Fault Refusal :=
  .next (s.halfBus half 0x40010000 30 true fun s => (s.genSecret burn).1)

/-- RELOAD of a shadow (R424, R422: 4.5 µs). -/
def State.fuseReloadWord (s : State) (priv : Bool) (w : Nat) : State :=
  if priv ∧ 64 ≤ w then s.fuseRefuse .badRange
  else if s.fuseBusy then s.fuseRefuse .busy
  else
    let s := if priv then s.loadPrivShadow (privIx w) else s.loadShadow (mainIx w)
    s.fuseEnd .ok false 0 0 4500

/-- FUSE_RELOAD (R424). -/
def execFuseReload (half : Half) (priv : Bool) (word : BitVec 9) (s : State) : Host.Outcome State Fault Refusal :=
  .next (s.halfBus half 0x40010000 30 true fun s => s.fuseReloadWord priv word.toNat)

/-- A write of OVR_DATA (R422): an override in TEST or PROVISION of a word that may be overridden; ignored otherwise. -/
def State.overrideWrite (s : State) (v : Word) : State :=
  if (s.lifecycle = .test ∨ s.lifecycle = .provision) ∧ regionOverridable (regionOf s.fuse.ovrAddr.val) then
    let os := (s.fuse.ovrAddr, v) :: s.fuse.overrides.filter fun o => o.1 != s.fuse.ovrAddr
    ({ s with fuse := { s.fuse with overrides := os } }).raise 1307
  else s

/-- FUSE_OVERRIDE_WRITE (R422). -/
def execFuseOverrideWrite (half : Half) (value : Word) (s : State) : Host.Outcome State Fault Refusal :=
  .next (s.halfBus half 0x40010044 30 true fun s => s.overrideWrite value)

/-- Every override dropped; the affected words are read from the fuses again (R422). -/
def State.dropOverrides (s : State) : State :=
  let ws := s.fuse.overrides.map fun o => o.1
  let s := { s with fuse := { s.fuse with overrides := [] } }
  ws.foldl State.loadShadow s

/-- A write of OVR_ADDR (R422, R424): bit 31 clears all overrides, bits 8:0 name the word. -/
def State.overrideAddr (s : State) (v : Word) : State :=
  let s := if v.getLsbD 31 then s.dropOverrides else s
  { s with fuse := { s.fuse with ovrAddr := mainIx (bitsOf v.toNat 0 9) } }

/-- FUSE_OVERRIDE_CLEAR (R422). -/
def execFuseOverrideClear (half : Half) (value : Word) (s : State) : Host.Outcome State Fault Refusal :=
  .next (s.halfBus half 0x40010040 30 true fun s => s.overrideAddr value)

/-! ## Fuse objects (R423) -/

/-- A PROGRAM of each word in turn, stopping at the first code that is not OK. -/
def State.programRun (s : State) (w : Nat) : List Word → BurnOutcome → State × Code
  | [], _ => (s, .ok)
  | v :: vs, b =>
    let r := s.fuseProgram false false w v b
    let n := popCount (v &&& ~~~ (s.mainCells (mainIx w)).loose)
    if r.2 = .ok then State.programRun r.1 (w + 1) vs (b.drop 1 n) else r

/-- Does some word hold a 1 where the new value holds 0 (R423). -/
def State.wouldClear (s : State) (w : Nat) (vals : List Word) : Bool :=
  (List.range vals.length).any fun i => (s.mainCells (mainIx (w + i))).loose &&& ~~~ vals.getD i 0 != 0

/-- The integrity word of region `n` over given content words. -/
def integrityOf (n : Nat) (vals : List Word) : Word :=
  crc32c (BitVec.ofNat 8 n :: vals.flatMap fun v => leBytes 4 v.toNat)

/-- Is a dictionary write to the 0x0C00 range permitted by mode (R51). -/
def State.fuseObjMode (s : State) (ownerKey : Bool) : Bool :=
  match s.dev.mode with
  | .hold | .guard | .service => true
  | .recover => s.boot.service == 1 && ownerKey && s.lifecycle == .provision
  | _ => false

/-- A write of `owner_digest` (R423): the slot's digest words and its integrity word. -/
def State.ownerDigestWrite (s : State) (who : Requester) (slot : Fin 4) (d : Digest) (b : BurnOutcome) : State × Code :=
  let n := 3 + slot.val
  let w := (regionSpan n).1
  let vals := digestWords d ++ [integrityOf n (digestWords d)]
  if ! s.authorised who then (s, .deniedAuth)
  else if s.lockCell n then (s.fuseRefuse .deniedAccess, .deniedAccess)
  else if ! s.fuseObjMode true then (s.opRefused .write, .refusedState)
  else if ! regionProgrammed n s.lifecycle then (s.fuseRefuse .refusedState, .refusedState)
  else if s.wouldClear w vals then (s, .badRange)
  else if s.hg.steward.isNone ∧ s.dev.mode ≠ .recover ∧ s.dev.mode ≠ .service then (s, .busy)
  else s.programRun w vals b

/-- A write of `owner_digest` (R423). -/
def State.ownerDigestObj (s : State) (who : Requester) (slot : Fin 4) (d : Digest) (b : BurnOutcome) : State :=
  s.asked who fun s => let r := s.ownerDigestWrite who slot d b; r.1.answer r.2

/-- OWNER_DIGEST_WRITE (R423). -/
def execOwnerDigestWrite (who : Requester) (slot : Fin 4) (digest : Digest) (burn : BurnOutcome) (s : State) :
    Host.Outcome State Fault Refusal :=
  .next (s.ownerDigestObj who slot digest burn)

/-- Would a LOCK be refused for the region or its words (R410), whatever runs. -/
def State.lockRefused (s : State) (n : Nat) : Bool :=
  decide (10 < n) || (! s.lockCell n && (! regionLockable n s.lifecycle || (s.lockFailure n).isSome))

/-- A lock request of an object (R423): LOCK of a region; without a steward BUSY, the last refusal in R11's order. -/
def State.lockRequest (s : State) (who : Requester) (ownerKey : Bool) (n : Nat) (b : BurnOutcome) : State × Code :=
  if ! s.authorised who then (s, .deniedAuth)
  else if ! s.fuseObjMode ownerKey then (s.opRefused .write, .refusedState)
  else if s.hg.steward.isNone ∧ s.dev.mode ≠ .recover ∧ s.dev.mode ≠ .service ∧ ! s.lockRefused n then (s, .busy)
  else s.fuseLock false n b

/-- `owner_lock_request` written true (R423). -/
def State.ownerLockObj (s : State) (who : Requester) (slot : Fin 4) (b : BurnOutcome) : State :=
  s.asked who fun s =>
    let r := s.lockRequest who true (3 + slot.val) b
    (if r.2 = .ok then r.1.vput 0x0C02 (slot.val + 1) [1] else r.1).answer r.2

/-- OWNER_LOCK_REQUEST (R423). -/
def execOwnerLockRequest (who : Requester) (slot : Fin 4) (burn : BurnOutcome) (s : State) :
    Host.Outcome State Fault Refusal :=
  .next (s.ownerLockObj who slot burn)

/-- The part of a burn that no operand gives: a free outcome (R404). -/
def State.freeBurn (s : State) : BurnOutcome := ⟨(Config.freeBurn s.free).1, (Config.freeBurn s.free).2, none⟩

/-- The last word of a region written with its integrity word, then the region locked (R423: `owner_data_lock_request`,
`boot_cfg_lock_request`). -/
def State.sealRegion (s : State) (n : Nat) : State × Code :=
  let r := s.fuseProgram false false (regionSpan n).2 (s.integrity n) s.freeBurn
  let s := r.1.drawn
  if r.2 = .ok then
    let q := s.fuseLock false n s.freeBurn
    (q.1.drawn, q.2)
  else (s, r.2)

end Sys2Proof.Machine
end

