-- ==== Sys2Proof/Machine/Dram.lean ====
section
/-!
DEFINITION. Mirror DRAM (R109-R120, R126, R129, R144, R145): the layout, sealing with page versions and line epochs, writes to a
channel's mirror range with their pinned copies, and mirror faults. Content stands in plaintext; what sealing protects against is
the fault that an access may meet.
-/
namespace Sys2Proof.Machine

/-! ## Layout -/

/-- The usable capacity in GiB (R110): half of what is fitted where one DRAM channel runs alone. -/
def Mirror.usableGib (m : Mirror) : Nat := if m.chanOk = 1 ∨ m.chanOk = 2 then m.fittedGib / 2 else m.fittedGib

/-- One MiB. -/
def mib : Nat := 1048576

/-- The protected space in MiB (R111). -/
def Mirror.protectedMib (m : Mirror) : Nat :=
  match m.usableGib with
  | 4 => 3072
  | 8 => 6144
  | 16 => 12288
  | _ => 16384

/-- The end of the staging region in MiB (R111). -/
def Mirror.stagingEndMib (m : Mirror) : Nat :=
  match m.usableGib with
  | 4 => 3968
  | 8 => 7936
  | 16 => 15872
  | _ => 31744

/-- The image space in bytes: the protected space less the digest area of 192 MiB (R111). -/
def Mirror.imageBytes (m : Mirror) : Nat := (m.protectedMib - 192) * mib

/-- The DRAM offset of the digest-area entry of a leaf (R113). -/
def Mirror.digestOffset (m : Mirror) (c : ChanId) (leaf : Nat) : Nat := m.imageBytes + c.val * 3 * mib + leaf * 48

/-- The digest-area entry of a leaf. -/
def State.leafDigest (s : State) (c : ChanId) (leaf : Nat) : Digest :=
  digestOfBytes (s.bytes (dramBase + s.mir.digestOffset c leaf) 48)

/-- Where a channel's mirror range starts among the memory keys (R112, R126). -/
def State.mirrorBase (s : State) (c : ChanId) : Nat := dramBase + (s.chan c).desc.mirrorPage * 4096

/-- Bytes of a channel's mirror. -/
def State.mirrorBytes (s : State) (c : ChanId) (a n : Nat) : List Byte := s.bytes (s.mirrorBase c + a) n

/-- The first and last leaf that a range touches, as a list (R151). -/
def leavesOf (a n : Nat) : List Nat := (List.range ((a + n - 1) / 4096 + 1 - a / 4096)).map fun i => a / 4096 + i

/-! ## Sealing -/

/-- The version of a protected page (R116). -/
def State.pageVersion (s : State) (p : Nat) : Nat := lookupD s.mir.versions p 0
/-- Where the epoch of a counter line lies in the reserved top of SRAM bank 4 (R117, R118). -/
def epochAddr (l : Nat) : Nat := 0x11300000 + 4 * l
/-- The epoch of a counter line (R117). -/
def State.lineEpoch (s : State) (l : Nat) : Nat := s.load (epochAddr l) 4
/-- A counter line is sealed under an epoch. -/
def State.setEpoch (s : State) (l e : Nat) : State := s.store (epochAddr l) (leBytes 4 e)
/-- The key under which a line is sealed (R120): KEY_NEXT below the pointer of a re-seal pass, else KEY_PROT. -/
def State.lineKey (s : State) (l : Nat) : Word :=
  match s.mir.reseal with
  | some p => if l < p then s.mir.keyNext else s.mir.keyProt
  | none => s.mir.keyProt

/-- What a page's sectors are sealed under, none before the first write since training. -/
def State.sealOf (s : State) (p : Nat) : Option Seal := (s.mir.seals.find? fun x => x.1 == p).map fun x => x.2

/-- Do a page's sectors pass the tag and version checks (R126, R128): sealed under the version and the key in force, training done. -/
def State.pageGood (s : State) (p : Nat) : Bool :=
  match s.sealOf p with
  | some x => s.mir.ready && x.version == s.pageVersion p && x.key == s.lineKey (p / 64)
  | none => false

/-- May the page be written now, short of R120's boundary. -/
def State.pageFree (s : State) (p : Nat) : Bool :=
  decide (s.pageVersion p < 0xFFFFFF) && decide (s.lineEpoch (p / 64) < 0xFFFFFFFF)

/-- A re-seal pass starts where a version or epoch has reached its threshold (R120). -/
def State.resealCheck (s : State) (version epoch : Nat) : State :=
  if (0xF00000 ≤ version ∨ 0xF0000000 ≤ epoch) ∧ s.mir.reseal.isNone then
    ({ s with mir := { s.mir with reseal := some 0 } }).raiseLog 1025 []
  else s

/-- A protected page is sealed under its next version, its line under the next epoch (R117, R125). -/
def State.sealPage (s : State) (p : Nat) : State :=
  let v := s.pageVersion p + 1
  let e := s.lineEpoch (p / 64) + 1
  let x : Seal := ⟨v, e, s.lineKey (p / 64)⟩
  let s := { s with mir := { s.mir with versions := setKey s.mir.versions p v, seals := setKey s.mir.seals p x } }
  (s.setEpoch (p / 64) e).resealCheck v e

/-- The protected pages that a range of a channel's mirror touches. -/
def State.rangePages (s : State) (c : ChanId) (a n : Nat) : List Nat :=
  (leavesOf a n).map fun l => (s.chan c).desc.mirrorPage + l

/-- May every page of the range be written now (R120). -/
def State.rangeFree (s : State) (c : ChanId) (a n : Nat) : Bool := (s.rangePages c a n).all s.pageFree

/-- A slot of the pinned pool (R144). -/
def pinSlotAddr (slot : Nat) : Nat := 0x10800000 + slot * 0x1000

/-- The pinned slot of a leaf that is in the list and loaded (R144). -/
def Chan.pinSlot (ch : Chan) (leaf : Nat) : Option Nat :=
  if ch.pinsLoaded.contains leaf then (ch.pins.find? fun p => p.1 == leaf).map fun p => p.2 else none

/-- The pinned copy of a leaf takes the mirror's content (R144, R145). -/
def State.pinCopy (s : State) (c : ChanId) (leaf : Nat) : State :=
  match (s.chan c).pinSlot leaf with
  | some slot => s.store (pinSlotAddr slot) (s.mirrorBytes c (leaf * 4096) 4096)
  | none => s

/-- A write to a range of a channel's mirror (R117, R145, R76): the content, each page's version, pinned copies, prefetch
buffers. -/
def State.mirrorWrite (s : State) (c : ChanId) (a : Nat) (bs : List Byte) : State :=
  if bs.isEmpty then s
  else
    let s := s.store (s.mirrorBase c + a) bs
    let s := (s.rangePages c a bs.length).foldl State.sealPage s
    let s := (leavesOf a bs.length).foldl (fun s l => s.pinCopy c l) s
    s.dropPrefetch c fun l => (leavesOf a bs.length).contains l

/-- The pages of the digest area that the entry of a leaf touches (R113). -/
def State.digestPages (s : State) (c : ChanId) (leaf : Nat) : List Nat := leavesOf (s.mir.digestOffset c leaf) 48

/-- The digest-area entry of a leaf takes a digest (R113, R122). -/
def State.writeDigest (s : State) (c : ChanId) (leaf : Nat) (d : Digest) : State :=
  (s.digestPages c leaf).foldl State.sealPage (s.store (dramBase + s.mir.digestOffset c leaf) (digestBytes d))

/-- May the entry be written now (R120). -/
def State.digestFree (s : State) (c : ChanId) (leaf : Nat) : Bool := (s.digestPages c leaf).all s.pageFree

/-- A write of the digest-area entry of a leaf; at the boundary of R120 it waits for the re-seal pass, with MIRROR_WRITE_HELD. -/
def State.putLeafDigest (s : State) (c : ChanId) (leaf : Nat) (d : Digest) : State :=
  if s.digestFree c leaf then s.writeDigest c leaf d
  else ({ s with mir := { s.mir with heldDigests := s.mir.heldDigests ++ [(c, leaf, d)] } }).raiseLog 1027 [(1, c.val), (4, leaf)]

/-- The entries that waited for the re-seal pass are written where they may be now (R120). -/
def State.retryDigests (s : State) : State :=
  let waiting := s.mir.heldDigests
  waiting.foldl (fun (s : State) x => if s.digestFree x.1 x.2.1 then s.writeDigest x.1 x.2.1 x.2.2
      else { s with mir := { s.mir with heldDigests := s.mir.heldDigests ++ [x] } })
    { s with mir := { s.mir with heldDigests := [] } }

/-- A staging sector is sealed under the next value of the write counter (R115). -/
def State.sealStaging (s : State) (i : Nat) : State :=
  let n := (s.mir.writeCounter + 1) % 2 ^ 56
  { s with mir := { s.mir with writeCounter := n, stageSeals := setKey s.mir.stageSeals i n } }

/-- A write to the staging region: the content, and the write counter for each sector written (R115). -/
def State.stagingWrite (s : State) (o : Nat) (bs : List Byte) : State :=
  let sectors := if bs.isEmpty then 0 else (o + bs.length - 1) / 512 + 1 - o / 512
  ((List.range sectors).map fun i => o / 512 + i).foldl State.sealStaging (s.store (dramBase + o) bs)

/-- Does a staging sector pass its tag check (R114, R115): it has been sealed since training. -/
def State.stageGood (s : State) (i : Nat) : Bool := s.mir.ready && s.mir.stageSeals.any fun x => x.1 == i

/-! ## Mirror faults -/

/-- The leaves of a channel that a fault touches: a line's leaves, else the one leaf (R129, R132). -/
def State.faultLeaves (s : State) (c : ChanId) (f : MirrorFault) : List Nat :=
  let d := (s.chan c).desc
  match f.kind with
  | .line => (List.range 64).filterMap fun i =>
      let p := f.leaf * 64 + i
      if d.mirrorPage ≤ p ∧ p < d.mirrorPage + d.leafCount then some (p - d.mirrorPage) else none
  | .digestArea => []
  | _ => [f.leaf]

/-- The channels in whose digest-area slot a counter line lies (R113, R132). -/
def State.lineSlots (s : State) (line : Nat) : List ChanId :=
  (List.finRange 64).filter fun c =>
    let slot := s.mir.digestOffset c 0
    decide (slot < (line + 1) * 262144) && decide (line * 262144 < slot + 3 * mib)

/-- The channels that a fault touches beside the one whose access met it: a line holds pages of others (R132). -/
def State.faultChans (s : State) (c : ChanId) (f : MirrorFault) : List ChanId :=
  if f.kind = .line then (List.finRange 64).filter fun d => d == c || ! (s.faultLeaves d f).isEmpty || (s.lineSlots f.leaf).contains d else [c]

/-- FAULT_INFO of a fault (R146): channel 0 for the digest area. -/
def faultWord (c : ChanId) (f : MirrorFault) : Word :=
  BitVec.ofNat 32 (f.kind.num * 2 ^ 29 + (if f.kind = .digestArea then 0 else c.val) * 2 ^ 22 + f.leaf % 2 ^ 22)

/-- The event of a fault (R129, R133). -/
def FaultKind.event : FaultKind → Nat
  | .sector | .linkEcc => 1013
  | .line => 1014
  | .digestArea => 1033

/-- The real part stops executing a command: the time it ran is kept (R159). -/
def WeirOp.pause (o : WeirOp) (now : Nat) : WeirOp := { o with ran := o.ran + (now - o.deadline) }

/-- A command that the real part executes is suspended for a refill (R130, R168). -/
def WeirOp.deviceSuspend (now : Nat) (o : WeirOp) : WeirOp :=
  if o.phase = .running ∧ ! o.deviceSusp then { (if o.hostSusp then o else o.pause now) with deviceSusp := true } else o

/-- It goes on when the refill ends, unless the host holds it suspended (R168). -/
def WeirOp.deviceResume (now : Nat) (o : WeirOp) : WeirOp :=
  if o.deviceSusp then { o with deviceSusp := false, deadline := if o.hostSusp then o.deadline else now } else o

/-- The port issues a command to the real part, in the flash-side mode (R156); none after a give-up, until the part is not busy (R159). -/
def Chan.issue (ch : Chan) (opcode : Byte) (addr : Nat) : Chan :=
  if ch.gaveUp then ch else { ch with issued := ch.issued ++ [⟨ch.mode, opcode, addr⟩] }

/-- The commands in flight change, and the real part is sent an opcode where they do (R130, R168). -/
def Chan.mapOps (ch : Chan) (opcode : Byte) (f : WeirOp → WeirOp) : Chan :=
  let t : Chan := { ch with op := ch.op.map f, inner := ch.inner.map f }
  if t.op = ch.op ∧ t.inner = ch.inner then ch else t.issue opcode 0

/-- The real part of a channel is suspended for a refill where its SFDP lists suspend (R130). -/
def Chan.suspendForRefill (now : Nat) (ch : Chan) : Chan :=
  if (ch.info.map fun i => i.suspend).getD false then ch.mapOps 0x75 (WeirOp.deviceSuspend now) else ch

/-- The real part goes on once no leaf of the channel waits for a refill: none is faulted but those that every source has failed. -/
def Chan.resumeAfterRefill (now : Nat) (ch : Chan) : Chan :=
  if ch.faulted.all fun l => ch.lost.contains l then ch.mapOps 0x7A (WeirOp.deviceResume now) else ch

/-- What a fault takes from a channel: its leaves wait for their refill, their prefetch buffers go (R76), the real part is suspended
for it (R130), its digest-area slot waits to be rewritten (R133). -/
def State.faultChan (s : State) (f : MirrorFault) (c : ChanId) : State :=
  let ls := s.faultLeaves c f
  let slot := f.kind = .digestArea ∨ (f.kind = .line ∧ (s.lineSlots f.leaf).contains c)
  let s := s.updChan c fun ch =>
    { ch with faulted := ch.faulted ++ ls.filter fun l => ! ch.faulted.contains l, digestFault := ch.digestFault || decide slot }
  let s := if ls.isEmpty then s else s.updChan c (Chan.suspendForRefill s.time)
  s.dropPrefetch c fun l => ls.contains l

/-- A mirror fault (R129, R132, R133): what it takes of each channel it touches; the counters and events of the access. -/
def State.mirrorFault (s : State) (c : ChanId) (f : MirrorFault) : State :=
  let s := { s with mir := { s.mir with faultInfo := faultWord c f, faultCnt := satInc 32 s.mir.faultCnt,
                                        faultSec := s.mir.faultSec + 1 } }
  let s := (s.faultChans c f).foldl (fun s d => s.faultChan f d) s
  let s := s.updChan c fun ch => { ch with stats := { ch.stats with mirrorFaults := satInc 32 ch.stats.mirrorFaults } }
  let s := s.raiseLog f.kind.event [(1, c.val), (4, f.leaf)]
  if f.kind = .digestArea then s else s.raiseLog (portEvent c.port 18) [(1, c.cs.val), (1, c.val), (4, f.leaf)]

/-! ## Fill -/

/-- Is the channel filled now: FILLING, or HELD or RELEASED while both halves verify it again from the flash after a conflict (R41, R46). -/
def State.filling (s : State) (c : ChanId) : Bool :=
  let st := (s.chan c).state
  st == .filling || ((st == .held || st == .released) && s.hg.reverify[c])

/-- The depths of the outputs in the active plan after `n` rounds (R25): 0 without a predecessor, else one more than the deepest of
them. A plan of 64 entries without a cycle is settled after 64 rounds. -/
def State.planDepths (s : State) : Nat → Vector Nat 64
  | 0 => Vector.replicate 64 0
  | n + 1 =>
    let d := s.planDepths n
    Vector.ofFn fun h : Fin 64 => (finBits (s.hg.planActive[h]).predMask).foldl (fun (m : Nat) (j : Fin 64) => max m (d[j] + 1)) 0

/-- The place of a channel in the release plan (R25): its output's depth; after every used entry's where it names none. -/
def State.planPlace (s : State) (c : ChanId) : Nat :=
  match (s.chan c).output with
  | some h => if (s.hg.planActive[h]).used then (s.planDepths 64)[h] else 64
  | none => 64

/-- Does the other chip select's waiting fill come first (R25): it stands earlier, or equal and is chip select 0's. -/
def State.fillsAfter (s : State) (c : ChanId) : Bool :=
  let o := c.sibling
  s.filling o && (s.chan o).fillNext == some 0 && decide (0 < (s.chan o).desc.leafCount) &&
    (decide (s.planPlace o < s.planPlace c) || (s.planPlace o == s.planPlace c && c.val % 2 == 1))

/-- May the channel's fill go on (R25, R140): a port fills one chip select at a time, and not while it probes the other. -/
def State.fillTurn (s : State) (c : ChanId) : Bool :=
  (s.chan c).fillRuns ||
    ! ((s.chan c.sibling).fillRuns || ((s.chan c.sibling).state == .probing && (s.chan c.sibling).probe.isSome) || s.fillsAfter c)

/-- A fill begins (R41, R121): no leaf is pinned or faulted any more; none in QUARANTINE freeze form (R39). -/
def State.startFill (s : State) (c : ChanId) : State :=
  if s.dev.form = .freeze then s
  else
  let s := s.setChan c .filling
  let s := s.updChan c fun ch => { ch with fillNext := some 0, fillCount := 0, fillDig := Both.rep [], rereads := [], pinsLoaded := [], faulted := [],
                                           lost := [], tried := [], digestFault := false, repair := none, badUnits := [] }
  s.verifyChan c

/-! ## The order of a port's flash-side operations (R140) -/

/-- The command in flight that holds the real part or runs its time: the one inside an erase suspend before the erase. -/
def Chan.current (ch : Chan) : Option WeirOp := if ch.inner.isSome then ch.inner else ch.op

/-- Does the real part execute the command now: neither host nor device holds it suspended. -/
def WeirOp.executes (o : WeirOp) : Bool := ! o.hostSusp && ! o.deviceSusp

/-- Is a channel scrubbed on schedule (R135, R146). -/
def State.scrubScheduled (s : State) (c : ChanId) : Bool := s.mir.scrubRun && (s.chan c).desc.scrubEnable

/-- Does a pass of the channel run now (R135): in GUARD and UPDATE, the forced pass as the scheduled one (DEDUCED, log entry 105). -/
def State.scrubbing (s : State) (c : ChanId) : Bool :=
  let ch := s.chan c
  (s.dev.mode == .guard || s.dev.mode == .update) && (ch.state == .held || ch.state == .released)
  && (s.scrubScheduled c || (ch.scrub.map fun x => x.forced).getD false)

/-- Does a program or erase of the channel hold the flash side (R140): it runs, recovers, is polled or read back. -/
def Chan.weirRuns (ch : Chan) : Bool :=
  match ch.current with
  | some o => (o.phase == .running && o.executes) || o.phase == .recovery || o.phase == .busyPoll || o.phase == .readback
  | none => false

/-- Does one wait for the flash side (R156). -/
def Chan.weirWaits (ch : Chan) : Bool := (ch.current.map fun o => o.phase == .waitFlash).getD false

/-- Does a leaf of the channel wait for its refill from flash (R130). -/
def Chan.refillWaits (ch : Chan) : Bool :=
  ! ch.digestFault && ch.faulted.any fun l => ! ch.lost.contains l && lookupD ch.tried l 0 == 0

/-- Does the channel fill or probe, or wait to. -/
def State.fillOn (s : State) (c : ChanId) : Bool :=
  let ch := s.chan c
  (s.filling c && (ch.fillNext.map fun n => decide (n < ch.desc.leafCount)).getD false) || (ch.state == .probing && ch.probe.isSome)

/-- Is a unit of the channel rewritten now (R138). -/
def State.repairOn (s : State) (c : ChanId) : Bool :=
  (s.chan c).state == .repairing && ((s.chan c).repair.map fun r => r.retryAt.isNone).getD false

/-- Has a leaf of a scrub pass fallen due. -/
def State.scrubDue (s : State) (c : ChanId) : Bool :=
  s.scrubbing c && ((s.chan c).scrub.map fun x => decide (x.dueAt ≤ s.time)).getD false

/-- Is an operation of a higher rank than `rank` under way or waiting at a port's flash side (R140): 1 Weir, 2 refill, 3 fill and probe,
4 repair, 5 scrub, 6 re-check. A waiting program holds back neither the repair that it waits for nor, in a freeze, anything. -/
def State.higherWaits (s : State) (p : PortId) (rank : Nat) : Bool :=
  let cs : List ChanId := [chanOf p 0, chanOf p 1]
  cs.any fun c =>
    let ch := s.chan c
    (decide (1 < rank) && (ch.weirRuns || (ch.weirWaits && rank != 4 && ! s.dev.freeze)))
    || (decide (2 < rank) && ch.refillWaits) || (decide (3 < rank) && s.fillOn c) || (decide (4 < rank) && s.repairOn c)
    || (decide (5 < rank) && s.scrubDue c)

end Sys2Proof.Machine
end

