-- ==== Sys2Proof/Machine/ChannelTable.lean ====
section
/-!
DEFINITION. The Channel Table (chapter 04): descriptors and rules as they stand in memory, the rule lookup, invalidates and their
checks, the reload, and with it the start of probing (R41, R63).
-/
namespace Sys2Proof.Machine

/-! ## Descriptors and rules in memory -/

/-- The 256 bytes of a channel's descriptor in SRAM (R88). -/
def State.descBytes (s : State) (c : ChanId) : List Byte := s.bytes (s.mir.chtBase.toNat + c.val * 0x100) 256

/-- A field of a descriptor or rule: `n` bytes from `o` on, little-endian. -/
def fieldAt (bs : List Byte) (o n : Nat) : Nat := leNat ((bs.drop o).take n)

/-- A descriptor from its bytes (R90). -/
def descOf (bs : List Byte) : Desc :=
  let f := fieldAt bs
  let flags := f 1 1
  { enable := flags.testBit 0, sfdpOverride := flags.testBit 1, pinEnable := flags.testBit 2, scrubEnable := flags.testBit 3,
    gen := f 2 2, policy := f 4 1, hostBandMax := f 5 1, flashSckMax := f 6 1, overrideSfdp := f 8 4, holdOutput := f 0xC 1,
    mirrorPage := f 0x10 4, mirrorExtent := f 0x14 4, ruleBase := f 0x18 4, ruleCount := f 0x1C 2, defaultClass := f 0x1E 1,
    manifestRef := f 0x20 4, imageSvn := f 0x24 4, leafCount := f 0x28 4, commitSeq := f 0x2C 4,
    merkleRoot := digestOfBytes ((bs.drop 0x30).take 48), mutableDigest := digestOfBytes ((bs.drop 0x60).take 48),
    goldenLocal := f 0x90 4, goldenK := f 0x94 1, goldenM := f 0x95 1, goldenState := f 0x96 1, goldenPeers := f 0x98 4,
    pinMap := f 0x9C 4, pinLeaves := f 0xA0 2, scrubHours := f 0xA2 2 }

/-- Are the RSV bytes and bits of a descriptor 0 (R90). -/
def descRsvOk (bs : List Byte) : Bool :=
  let zero (o n : Nat) : Bool := ((bs.drop o).take n).all fun b => b == 0
  fieldAt bs 1 1 < 16 && zero 7 1 && zero 0xD 3 && zero 0x1F 1 && zero 0x97 1 && zero 0xA4 92

/-- The bytes of rule `i` of an array (R92). -/
def State.ruleBytes (s : State) (base i : Nat) : List Byte := s.bytes (base + 32 * i) 32

/-- A rule from its bytes (R92); a class or kind code that is none reads as LOCKED and signed (DESIGN CHOICE, log entry 18). -/
def ruleOf (bs : List Byte) : Rule :=
  { start := fieldAt bs 0 4, length := fieldAt bs 4 4, cls := (RegionClass.ofCode (fieldAt bs 8 1)).getD .locked,
    kind := (RegionKind.ofCode (fieldAt bs 9 1)).getD .signed, journalEvent := (fieldAt bs 0xA 1).testBit 0,
    denyRate := fieldAt bs 0xC 2, ruleId := fieldAt bs 0xE 2 }

/-- The first `n` rules of an array. -/
def State.rulesAt (s : State) (base n : Nat) : List Rule := (List.range n).map fun i => ruleOf (s.ruleBytes base i)

/-- The ranges and RSV bytes of a rule (R92). -/
def ruleBytesOk (bs : List Byte) : Bool :=
  let f := fieldAt bs
  f 0 4 % 4096 == 0 && f 4 4 % 4096 == 0 && decide (4096 ≤ f 4 4) && decide (f 8 1 ≤ 3) && decide (f 9 1 ≤ 2)
  && decide (f 0xA 1 ≤ 1) && f 0xB 1 == 0 && f 0x10 16 == 0

/-- The pin list of a descriptor (R144): leaf and slot. -/
def State.pinsAt (s : State) (d : Desc) : List (Nat × Nat) :=
  if d.pinMap = 0 then []
  else (List.range d.pinLeaves).map fun i => (s.load (d.pinMap + 8 * i) 4, s.load (d.pinMap + 8 * i + 4) 2)

/-! ## Lookup -/

/-- The better of two rules for a lookup: the greater start, the earlier on a tie (R94). -/
def laterRule (best : Option Rule) (r : Rule) : Option Rule :=
  match best with
  | none => some r
  | some b => if b.start < r.start then some r else some b

/-- The rule of a list that covers an address (R94). -/
def findRule (rs : List Rule) (a : Nat) : Option Rule :=
  ((rs.filter fun r => decide (r.start ≤ a)).foldl laterRule none).filter fun r => decide (a < r.start + r.length)

/-- The class, kind and id that hold at an address, with the rule's flag and rate (R94: default_class has kind signed and id
0xFFFF). -/
structure RegionAt where
  cls : RegionClass
  kind : RegionKind
  ruleId : Nat
  journalEvent : Bool
  denyRate : Nat
  deriving DecidableEq, Repr

/-- What a lookup's rule says, or the descriptor's default (R94). -/
def regionAt (d : Desc) : Option Rule → RegionAt
  | some r => ⟨r.cls, r.kind, r.ruleId, r.journalEvent, r.denyRate⟩
  | none => ⟨(RegionClass.ofCode d.defaultClass).getD .locked, .signed, 0xFFFF, false, 0⟩

/-- Does a lookup at an address need a rule beyond the cached ones (R96). -/
def State.ruleMiss (s : State) (c : ChanId) (a : Nat) : Bool :=
  let ch := s.chan c
  let n := ch.rules.length
  decide (n < ch.desc.ruleCount) && decide ((ruleOf (s.ruleBytes ch.desc.ruleBase n)).start ≤ a)

/-- The rule that covers an address of a channel: from the cached rules, or from the whole array in SRAM (R94, R96). -/
def State.ruleAt (s : State) (c : ChanId) (a : Nat) : Option Rule :=
  let ch := s.chan c
  findRule (if s.ruleMiss c a then s.rulesAt ch.desc.ruleBase ch.desc.ruleCount else ch.rules) a

/-- The region at an address of a channel (R94, R96). -/
def State.region (s : State) (c : ChanId) (a : Nat) : RegionAt := regionAt (s.chan c).desc (s.ruleAt c a)

/-- The region of a leaf. -/
def State.leafRegion (s : State) (c : ChanId) (leaf : Nat) : RegionAt := s.region c (leaf * 4096)

/-- PORTnn_RULE_MISS, one record per channel per second (R96). -/
def State.ruleMissEvent (s : State) (c : ChanId) (a : Nat) : State :=
  s.raiseLog1 (portEvent c.port 17) c.val [(1, c.cs.val), (1, c.val), (4, a)]

/-! ## The checks of an invalidate -/

/-- Does a structure of mission firmware lie where R88 and R489 let it: in bank 4, aligned, clear of the table, the log ring and
the reserved top. -/
def State.placeOk (s : State) (a n align : Nat) : Bool :=
  let t := s.mir.chtBase.toNat
  a % align == 0 && decide (0x11000000 ≤ a) && decide (a + n ≤ 0x112C0000) && (decide (a + n ≤ t) || decide (t + 0x4000 ≤ a))

/-- The alignments and ranges of a descriptor's fields (R88, R90). -/
def State.descRangesOk (s : State) (d : Desc) : Bool :=
  decide (d.policy ≤ 2) && decide (d.hostBandMax ≤ 3) && decide (d.flashSckMax ≤ 4)
  && d.overrideSfdp % 4096 == 0 && (! d.sfdpOverride || s.placeOk d.overrideSfdp 4096 4096)
  && (decide (d.holdOutput < 64) || d.holdOutput == 0xFF)
  && ((d.mirrorExtent == 0 && d.manifestRef == 0)
      || (d.mirrorExtent % 4096 == 0 && decide (4096 ≤ d.mirrorExtent) && decide (d.mirrorExtent ≤ 268435456)))
  && d.leafCount == d.mirrorExtent / 4096
  && d.ruleBase % 32 == 0 && decide (d.ruleCount ≤ 4096) && (d.ruleCount == 0 || s.placeOk d.ruleBase (32 * d.ruleCount) 32)
  && decide (d.defaultClass ≤ 3) && decide (d.pinLeaves ≤ 512)

/-- What a descriptor counts towards the rules of the device (R98 cause 3, R107). -/
def Desc.rules (d : Desc) : Nat := if d.enable then d.ruleCount else 0

/-- The rules of all enabled descriptors, the channel's own as edited (R98 cause 3); one that another channel is loading counts with
the greater of its two counts, since either may come to be in force (DEDUCED, log entry 145). -/
def State.ruleTotal (s : State) (c : ChanId) (d : Desc) : Nat :=
  ((List.finRange 64).map fun k =>
    if k = c then d.rules
    else ((s.chan k).staged.map fun x => x.desc.rules).toList.foldl max (s.chan k).desc.rules).sum

/-- Check 3 (R98, R112). -/
def State.check3 (s : State) (c : ChanId) (bs : List Byte) (d : Desc) : Bool :=
  descRsvOk bs && s.descRangesOk d && ((List.range d.ruleCount).all fun i => ruleBytesOk (s.ruleBytes d.ruleBase i))
  && decide (s.ruleTotal c d ≤ 16384)
  && (d.mirrorExtent == 0 || decide (d.mirrorPage * 4096 + d.mirrorExtent ≤ s.mir.imageBytes))

/-- Check 4: every changed field may change in the channel's state (R98). The image group may also change for the COMMIT of a recovered
container (R232; DEDUCED, log entry 152: the table gives REPAIRING and FILLING no such change, and R232 carries out step 4 there). -/
def fieldsMayChange (st : ChanState) (o n : Desc) (recovered : Bool) : Bool :=
  let idle := st == .absent || st == .held
  let binding := idle || st == .quarantined
  let image := binding || st == .updating || recovered
  (o.enable == n.enable || (if n.enable then st == .absent else idle))
  && (idle || (o.policy == n.policy && o.hostBandMax == n.hostBandMax && o.flashSckMax == n.flashSckMax
      && o.overrideSfdp == n.overrideSfdp && o.sfdpOverride == n.sfdpOverride))
  && (binding || o.holdOutput == n.holdOutput)
  && (image || (o.mirrorPage == n.mirrorPage && o.mirrorExtent == n.mirrorExtent && o.manifestRef == n.manifestRef
      && o.imageSvn == n.imageSvn && o.leafCount == n.leafCount && o.commitSeq == n.commitSeq
      && o.merkleRoot == n.merkleRoot))

/-- The first failing check among 1 to 4, with its cause and code (R98). -/
def State.invalFailure (s : State) (c : ChanId) (gen : Nat) : Option (BitVec 3 × Code) :=
  let bs := s.descBytes c
  let d := descOf bs
  if gen = 0 ∨ gen = (s.chan c).gen then some (1, .badRange)
  else if d.gen ≠ gen then some (2, .badRange)
  else if ! s.check3 c bs d then some (3, .badRange)
  else if ! fieldsMayChange (s.chan c).state (s.chan c).desc d (s.target (.chan c)).recovered then some (4, .refusedState)
  else none

/-- The result of a completed invalidate in CHT_INVAL_STATUS (R98, R108). -/
def State.invalDone (s : State) (c : ChanId) (cause : BitVec 3) (code : Code) : State :=
  { s with mir := { s.mir with invalCode := code, invalCause := cause, invalChan := c,
                               invalErr := s.mir.invalErr || code != .ok } }

/-- A rejected invalidate: MIRROR_INVAL_REJECT and the status; the port's descriptor stays (R98). -/
def State.invalReject (s : State) (c : ChanId) (cause : BitVec 3) (code : Code) : State :=
  (s.invalDone c cause code).raiseLog 1052 [(1, c.val), (1, cause.toNat), (1, code.num)]

/-! ## Commands -/

/-- A write of CHT_BASE (R89): ignored, with cause 3, while a channel is in a state other than ABSENT; the record names channel 0 and
code 0 (DESIGN CHOICE, log entry 140: such a write concerns no channel, and no code is stated for it). -/
def State.chtBaseWrite (s : State) (v : Word) : State :=
  if (List.finRange 64).any fun c => (s.chan c).state != .absent then s.raiseLog 1052 [(1, 0), (1, 3), (1, 0)]
  else { s with mir := { s.mir with chtBase := v } }

/-- CHT_BASE_WRITE (R89). -/
def execChtBaseWrite (half : Half) (value : Word) (s : State) : Host.Outcome State Fault Refusal :=
  .next (s.halfBus half 0x40060100 23 true fun s => s.chtBaseWrite value)

/-- A write of CHT_INVAL (R98): it joins the queue of 8, or is rejected with cause 5. -/
def State.chtInvalWrite (s : State) (v : Word) : State :=
  let c : ChanId := ⟨bitsOf v.toNat 16 6 % 64, Nat.mod_lt _ (by decide)⟩
  if 8 ≤ s.mir.invals.length then s.invalReject c 5 .full
  else { s with mir := { s.mir with invals := s.mir.invals ++ [⟨c, bitsOf v.toNat 0 16⟩] } }

/-- CHT_INVAL (R98). -/
def execChtInval (half : Half) (value : Word) (s : State) : Host.Outcome State Fault Refusal :=
  .next (s.halfBus half 0x40060104 23 true fun s => s.chtInvalWrite value)

/-- The invalidate taken next: the oldest whose channel has none under way (R98). -/
def State.nextInval (s : State) : Option Inval := s.mir.invals.find? fun i => (s.chan i.chan).staged.isNone

/-- The cached rules of a channel with `n` rules beside one with `m` (R95). -/
def cachedRules (n m : Nat) : Nat := min n (256 - min m 128)

/-- The `rule_count` that a channel's sibling will have: of its staging copy, else of its descriptor in force (R95). -/
def State.siblingRules (s : State) (c : ChanId) : Nat :=
  let o := s.chan c.sibling
  ((o.staged.map fun x => x.desc).getD o.desc).ruleCount

/-- The first `n` rules of a descriptor, of which the port has some already (R95). -/
def State.fitRules (s : State) (d : Desc) (have_ : List Rule) (n : Nat) : List Rule :=
  have_.take n ++ (s.rulesAt d.ruleBase n).drop have_.length

/-- The cache of a channel as its and its sibling's `rule_count` divide the port's 256 entries (R95). -/
def State.recache (s : State) (c : ChanId) : State :=
  let ch := s.chan c
  let rules := s.fitRules ch.desc ch.rules (cachedRules ch.desc.ruleCount (s.chan c.sibling).desc.ruleCount)
  s.updChan c fun ch => { ch with rules := rules }

/-- Before a write to SRAM: the loads that have ended have read their descriptor's generation again (R98 check 2). -/
def State.closeLoads (s : State) : State :=
  (List.finRange 64).foldl (fun s c =>
    match (s.chan c).staged with
    | some st =>
      if st.genAfter.isNone ∧ st.loadedAt ≤ s.time then
        let g := (descOf (s.descBytes c)).gen
        s.updChan c fun ch => { ch with staged := some { st with genAfter := some g } }
      else s
    | none => s) s

/-- The mirror controller takes the next invalidate (R98, R99): it is rejected, or its staging load begins. -/
def State.takeInval (s : State) (loadPs : Nat) : State :=
  match s.nextInval with
  | none => s
  | some i =>
    let s := { s with mir := { s.mir with invals := s.mir.invals.erase i } }
    match s.invalFailure i.chan i.gen with
    | some (cause, code) => s.invalReject i.chan cause code
    | none =>
      let d := descOf (s.descBytes i.chan)
      let rules := s.rulesAt d.ruleBase (cachedRules d.ruleCount (s.siblingRules i.chan))
      s.updChan i.chan fun ch => { ch with staged := some ⟨d, rules, i.gen, s.time + loadPs / 1000, none⟩ }

/-! ## Probing begins -/

/-- A sensed supply lies in a window (R61). -/
def IoSupply.inWindow : IoSupply → Bool
  | .v18 | .v33 => true
  | _ => false

/-- The bank IO domains of a port are on and both supplies sensed in a window (R41, R61). -/
def State.bankReady (s : State) (p : PortId) : Bool :=
  s.domOn (15 + 2 * p.bank.val) && s.domOn (16 + 2 * p.bank.val) && (s.port p).hostIo.inWindow && (s.port p).flashIo.inWindow

/-- A supply of the port's bank was sensed in no window (R61). -/
def State.bankOutside (s : State) (p : PortId) : Bool := (s.port p).hostIo == .outside || (s.port p).flashIo == .outside

/-- Has the channel gone past PROBING (R63 step 1). -/
def ChanState.beyondProbing : ChanState → Bool
  | .absent | .probing => false
  | _ => true

/-- The first step of a probe (R63): the port's reset, unless the other chip select is past PROBING or has had it. -/
def State.firstStep (s : State) (c : ChanId) : Nat :=
  let o := s.chan c.sibling
  if o.state.beyondProbing then 2
  else if o.state = .probing ∧ (o.probe.map fun p => p.step).getD 1 ≠ 1 then 2 else 1

/-- Probing of a channel begins (R41, R63); not in QUARANTINE freeze form (R39). -/
def State.startProbing (s : State) (c : ChanId) : State :=
  let st := s.firstStep c
  if s.dev.form = .freeze then s
  else
  let s := s.setChan c .probing
  s.updChan c fun ch => { ch with probe := some ⟨1, st, .m111, .c25⟩, cal := ⟨0, 0, 0, 0, 0, false⟩, info := none,
                                  fillNext := none, repair := none, badUnits := [] }

/-- An ABSENT channel with an enabled descriptor begins to probe once its bank is ready (R41). -/
def State.probeIfReady (s : State) (c : ChanId) : State :=
  if (s.chan c).state = .absent ∧ (s.chan c).desc.enable ∧ s.bankReady c.port then s.startProbing c else s

/-- A channel becomes ABSENT (R41): what was under way on it ends. In QUARANTINE freeze form it keeps its state (R39). -/
def State.toAbsent (s : State) (c : ChanId) : State :=
  if s.dev.form = .freeze then s
  else
  let s := s.setChan c .absent
  s.updChan c fun ch => { ch with probe := none, fillNext := none, scrub := none, repair := none, badUnits := [], op := none, inner := none,
                                  noSourceAt := none, wip := false, faulted := [], lost := [] }

/-! ## The reload -/

/-- Is a host command of the channel in flight: the port holds a read of it (R99, R104). -/
def State.inFlight (s : State) (c : ChanId) : Bool :=
  match (s.port c.port).held with
  | some h => h.op.tx.chan == c
  | none => false

/-- The staging copy comes into force (R99): descriptor, rules and pin list; both verdicts are void (R43), prefetch buffers go
(R76). -/
def State.putInForce (s : State) (c : ChanId) (st : Staged) : State :=
  let pins := s.pinsAt st.desc
  let old := (s.chan c).pins
  let s := s.updChan c fun ch =>
    { ch with desc := st.desc, rules := st.rules, gen := st.gen, staged := none, pins := pins,
              pinsLoaded := ch.pinsLoaded.filter fun l =>
                (pins.find? fun p => p.1 == l) == (old.find? fun p => p.1 == l) }
  let s := (s.recache c).recache c.sibling
  let s := (s.clearVerdicts c).dropPrefetch c fun _ => true
  let s := if (s.chan c).state = .held then s.verifyChan c else s
  (s.invalDone c 0 .ok).raiseLog (portEvent c.port 16) [(1, c.cs.val), (1, c.val), (2, st.gen)]

/-- What a reload brings (R41): a descriptor newly enabled starts to probe, one disabled makes its channel ABSENT. -/
def State.afterReload (s : State) (c : ChanId) (wasOn : Bool) : State :=
  let on := (s.chan c).desc.enable
  if on ∧ ! wasOn then s.probeIfReady c
  else if ! on ∧ wasOn ∧ ((s.chan c).state = .held ∨ (s.chan c).state = .absent) then s.toAbsent c else s

/-- The moment of a reload (R99): once loaded and with no host command in flight; the descriptor's generation, as it stood at the end
of the load, is the one written (R98 check 2). -/
def State.descReload (s : State) (c : ChanId) : State :=
  match (s.chan c).staged with
  | none => s
  | some st =>
    if s.inFlight c then s
    else
      let s := s.advanceTo st.loadedAt
      if st.genAfter.getD (descOf (s.descBytes c)).gen ≠ st.gen then
        (s.updChan c fun ch => { ch with staged := none }).invalReject c 2 .badRange
      else (s.putInForce c st).afterReload c (s.chan c).desc.enable

end Sys2Proof.Machine
end

