-- ==== Sys2Proof/Machine/Image.lean ====
section
/-!
DEFINITION. The Ghevel image container (R175-R186): its sections and header, the region map, leaf values and the Merkle tree, the
certificate and the four signatures, the groups of container checks, security version floors.
-/
namespace Sys2Proof.Machine

/-! ## Header and sections -/

/-- Rounds up to a multiple of `k`. -/
def roundUp (n k : Nat) : Nat := (n + k - 1) / k * k

/-- target_kind (R176). -/
def imgKind (b : List Byte) : Nat := fieldAt b 8 1
/-- flags.payload_present (R176). -/
def imgHasPayload (b : List Byte) : Bool := (fieldAt b 9 1).testBit 0
/-- svn (R176). -/
def imgSvn (b : List Byte) : Nat := fieldAt b 0x18 4
/-- image_size (R176). -/
def imgSize (b : List Byte) : Nat := fieldAt b 0x1C 4
/-- leaf_count (R176). -/
def imgLeaves (b : List Byte) : Nat := fieldAt b 0x20 4
/-- region_count (R176). -/
def imgRegionCount (b : List Byte) : Nat := fieldAt b 0x24 2
/-- merkle_root (R176). -/
def imgRoot (b : List Byte) : Digest := digestOfBytes ((b.drop 0x30).take 48)

/-- Where R175 puts the sections after the region map. -/
def imgCertAt (b : List Byte) : Nat := roundUp (0x100 + 16 * imgRegionCount b) 16
/-- signature_offset under R175. -/
def imgSigAt (b : List Byte) : Nat := roundUp (imgCertAt b + 10117) 16
/-- leaf_level_offset under R175. -/
def imgLeafAt (b : List Byte) : Nat := roundUp (imgSigAt b + 4723) 16
/-- The length of the manifest: up to the end of the leaf level (R175). -/
def imgManifestLen (b : List Byte) : Nat := imgLeafAt b + 48 * imgLeaves b
/-- payload_offset under R175. -/
def imgPayloadAt (b : List Byte) : Nat := if imgHasPayload b then roundUp (imgManifestLen b) 4096 else 0
/-- total_length under R175 and R176. -/
def imgTotal (b : List Byte) : Nat := if imgHasPayload b then imgPayloadAt b + imgSize b else imgManifestLen b

/-- The payload's bytes. -/
def imgPayload (b : List Byte) : List Byte := (b.drop (imgPayloadAt b)).take (imgSize b)
/-- The manifest of a container (R175). -/
def imgManifest (b : List Byte) : List Byte := b.take (imgManifestLen b)
/-- owner_slot of the signer certificate (R183). -/
def imgSlot (b : List Byte) : Nat := fieldAt b (imgCertAt b + 5) 1
/-- SHA-384 of the owner root pair that the certificate names (R182). -/
def imgOwnerDigest (b : List Byte) : Digest := sha384 ((b.drop (imgCertAt b + 0x10)).take 2689)

/-- A field of the signer certificate (R183). -/
def imgCertField (b : List Byte) (off len : Nat) : List Byte := (b.drop (imgCertAt b + off)).take len
/-- The image signature section: ECDSA, then ML-DSA-87 (R184). -/
def imgSig (b : List Byte) : List Byte := (b.drop (imgSigAt b)).take 4723

/-- The regions: start, length, kind (R177). -/
def imgRegions (b : List Byte) : List (Nat × Nat × Nat) :=
  (List.range (imgRegionCount b)).map fun i =>
    (fieldAt b (0x100 + 16 * i) 4, fieldAt b (0x104 + 16 * i) 4, fieldAt b (0x108 + 16 * i) 1)

/-- The kind of a leaf under the region map; signed where no entry covers it. -/
def imgLeafKind (b : List Byte) (i : Nat) : Nat :=
  ((imgRegions b).find? fun r => decide (r.1 ≤ i * 4096) && decide (i * 4096 < r.1 + r.2.1)).elim 0 fun r => r.2.2

/-! ## The tree -/

/-- The tree's leaf value of a leaf (R180). -/
def leafValue (kind i : Nat) (d : Digest) : Digest :=
  if kind = 0 then d else sha384 (2 :: (leBytes 4 i ++ leBytes 1 kind))

/-- One level of the tree: nodes in pairs, an odd last one promoted (R180). -/
def treeLevel : List Digest → List Digest
  | a :: b :: r => sha384 (1 :: (digestBytes a ++ digestBytes b)) :: treeLevel r
  | l => l

/-- The root over the leaf values, at most 17 levels (R180). -/
def treeRoot : Nat → List Digest → Digest
  | 0, l => l.headD 0
  | n + 1, l => if l.length ≤ 1 then l.headD 0 else treeRoot n (treeLevel l)

/-- L_i of the leaf level section (R181). -/
def imgLeafLevel (b : List Byte) : List Digest :=
  (List.range (imgLeaves b)).map fun i => digestOfBytes ((b.drop (imgLeafAt b + 48 * i)).take 48)

/-- The leaf level folds to the signed root (R181). -/
def imgLeafLevelOk (b : List Byte) : Bool := treeRoot 17 (imgLeafLevel b) == imgRoot b

/-- The root that leaf digests D_i give under the container's region map (R180). -/
def imgRootOf (b : List Byte) (ds : List Digest) : Digest := treeRoot 17 (ds.zipIdx.map fun x => leafValue (imgLeafKind b x.2) x.2 x.1)

/-- The leaf digests of an image's bytes (R179). -/
def leafDigests (img : List Byte) (n : Nat) : List Digest := (List.range n).map fun i => sha384 ((img.drop (4096 * i)).take 4096)

/-! ## Signatures (R182-R185) -/

/-- A hybrid signature over a message: ECDSA P-384 over its SHA-384 digest and pure ML-DSA-87 under a context, both (R184, R185). -/
def hybridOk (ecKey mlKey ctx msg ecSig mlSig : List Byte) : Bool :=
  ecdsaVerify ecKey (sha384 msg) ecSig && mlVerify mlKey ctx msg mlSig

/-- Both certificate signatures, by the owner root keys over bytes 0x0000-0x1511 of the certificate, context "GV-SC" (R183, R184). -/
def imgCertSigsOk (b : List Byte) : Bool :=
  hybridOk (imgCertField b 0x10 97) (imgCertField b 0x71 2592) (ascii "GV-SC") (imgCertField b 0 0x1512) (imgCertField b 0x1512 96)
    (imgCertField b 0x1572 4627)

/-- Both image signatures, by the signing keys over the header, context "GV-IMG" (R184). -/
def imgSigsOk (b : List Byte) : Bool :=
  hybridOk (imgCertField b 0xA91 97) (imgCertField b 0xAF2 2592) (ascii "GV-IMG") (b.take 256) ((imgSig b).take 96) ((imgSig b).drop 96)

/-! ## Checks -/

/-- Are `n` bytes from `o` on zero. -/
def zerosAt (b : List Byte) (o n : Nat) : Bool := ((b.drop o).take n).all fun x => x == 0

/-- Zero padding from the end of one section to the start of the next (R175). -/
def gapZero (b : List Byte) (fin start : Nat) : Bool := zerosAt b fin (start - fin)

/-- The gaps between the sections of a manifest hold zero padding alone (R175). -/
def imgGapsOk (b : List Byte) : Bool :=
  gapZero b (0x100 + 16 * imgRegionCount b) (imgCertAt b) && gapZero b (imgCertAt b + 10117) (imgSigAt b)
  && gapZero b (imgSigAt b + 4723) (imgLeafAt b)

/-- The region map covers 0 to image_size - 1 in ascending order without a gap (R177). -/
def regionsCover : Nat → Nat → List (Nat × Nat × Nat) → Bool
  | at_, size, [] => at_ == size
  | at_, size, r :: rs => r.1 == at_ && r.2.1 % 4096 == 0 && decide (4096 ≤ r.2.1) && decide (r.2.2 ≤ 2)
    && regionsCover (at_ + r.2.1) size rs

/-- Header, offsets, region map and certificate of the structure group (R175-R178, R183, R186). -/
def imgFormOk (kind : Nat) (b : List Byte) : Bool :=
  imgKind b == kind && (b.take 4 == [0x47, 0x48, 0x56, 0x4C]) && fieldAt b 4 2 == 1 && fieldAt b 6 2 == 256
  && decide (fieldAt b 9 1 ≤ 1) && zerosAt b 0x0A 2 && decide (fieldAt b 0x0F 1 ≤ 3) && zerosAt b 0x26 2 && zerosAt b 0x2C 4
  && zerosAt b 0xA8 88 && imgSize b % 4096 == 0 && imgLeaves b == imgSize b / 4096
  && decide (1 ≤ imgRegionCount b) && decide (imgRegionCount b ≤ 256)
  && fieldAt b 0x90 4 == 0x100 && fieldAt b 0x94 4 == imgCertAt b && fieldAt b 0x98 4 == imgSigAt b
  && fieldAt b 0x9C 4 == imgLeafAt b && fieldAt b 0xA0 4 == imgPayloadAt b && fieldAt b 0xA4 4 == imgTotal b
  && decide (imgManifestLen b ≤ b.length) && imgGapsOk b
  && regionsCover 0 (imgSize b) (imgRegions b)
  && ((List.range (imgRegionCount b)).all fun i => zerosAt b (0x10C + 16 * i) 4)
  && digestOfBytes ((b.drop 0x60).take 48) == sha384 ((b.drop 0x100).take (16 * imgRegionCount b))
  && ((b.drop (imgCertAt b)).take 4 == [0x47, 0x48, 0x53, 0x43]) && fieldAt b (imgCertAt b + 4) 1 == 1
  && decide (imgSlot b ≤ 3) && decide (fieldAt b (imgCertAt b + 6) 2 < 8) && (fieldAt b (imgCertAt b + 6) 2).testBit kind
  && zerosAt b (imgCertAt b + 0x0C) 4

/-- The size limits of R178; judged with its payload, a container is `size` bytes long, the payload where the fields say, behind zero padding
as far as that is in (R175). -/
def imgSizeOk (kind : Nat) (size : Option Nat) (b : List Byte) : Bool :=
  (match kind with
    | 0 => decide (4096 ≤ imgSize b) && decide (imgSize b ≤ 268435456)
    | 1 => imgRegionCount b == 1 && imgLeafKind b 0 == 0 && decide (imgTotal b ≤ 0x400000) && decide (4096 ≤ imgSize b)
    | _ => imgRegionCount b == 1 && imgLeafKind b 0 == 0 && decide (imgTotal b ≤ 0x100000) && decide (4096 ≤ imgSize b))
  && (match size with
    | some n => imgHasPayload b && decide (imgTotal b ≤ n) && gapZero b (imgManifestLen b) (imgPayloadAt b)
    | none => true)

/-- The checks of the structure group against the channel: extent, density and ID (R186). -/
def State.imgChanOk (s : State) (c : ChanId) (b : List Byte) : Bool :=
  let ch := s.chan c
  imgSize b == ch.desc.mirrorExtent
  && (match ch.info with
    | some i => decide (imgSize b ≤ i.density)
    | none => true)
  && ((b.drop 0x0C).take (fieldAt b 0x0F 1) == ch.idBytes.take (fieldAt b 0x0F 1))

/-- The structure group (R186); `size` where the container is judged with its payload. -/
def State.structureOk (s : State) (t : Target) (size : Option Nat) (b : List Byte) : Bool :=
  imgFormOk t.kind b && imgSizeOk t.kind size b
  && (match t with
    | .chan c => s.imgChanOk c b
    | _ => true)

/-- The chain group's digest check: the certificate's root pair is the one fused for its slot (R186). -/
def State.ownerMatches (s : State) (b : List Byte) : Bool :=
  match finOf 4 (imgSlot b) with
  | some i => s.ownerFused i.val && imgOwnerDigest b == s.ownerDigest i
  | none => false

/-- The owner slot counts as revoked (R186): revoked, or inconsistent. -/
def State.slotRevoked (s : State) (i : Nat) : Bool := s.ownerRevoked i || s.ownerSlotState i == 3

/-- The highest set step + 1 of a thermometer of `n` steps: its count where it has no gap (R192). -/
def floorOf (w : Nat) : Nat → Nat
  | 0 => 0
  | n + 1 => if w.testBit n then n + 1 else floorOf w n

/-- The steps of a target's floor; none for extension firmware. -/
def Target.floorSteps : Target → Nat
  | .chan _ => 32
  | .mission => 64
  | .extension => 0

/-- The floor of a target (R192). -/
def State.floorVal (s : State) (t : Target) : Nat := floorOf (s.floorWord t) t.floorSteps

/-- A floor is exhausted (R194). -/
def State.floorFull (s : State) (t : Target) : Bool := t.floorSteps != 0 && s.floorWord t == 2 ^ t.floorSteps - 1

/-- The chain group (R186): the root pair fused for the slot, both certificate signatures; a REJECT fails it (R185). -/
def State.chainOk (s : State) (b : List Byte) (reject : Bool) : Bool := s.ownerMatches b && imgCertSigsOk b && ! reject

/-- The group that the fuses fail: revocation before the floor (R186). -/
def State.fuseGroup (s : State) (t : Target) (b : List Byte) : Option CheckGroup :=
  if s.slotRevoked (imgSlot b) then some .revocation else if imgSvn b < s.floorVal t then some .floor else none

/-- The root that a container's payload gives (R179, R180). -/
def payloadRoot (b : List Byte) : Digest := imgRootOf b (leafDigests (imgPayload b) (imgLeaves b))

/-- A half's judgement of a whole container at once (R186): the first failing group in the table's order. -/
def State.judge (s : State) (t : Target) (b : List Byte) (w : EngineWork) : Option CheckGroup :=
  if ! s.structureOk t (some b.length) b then some .structure_
  else if ! s.chainOk b w.reject then some .chain
  else if payloadRoot b ^^^ w.off ≠ imgRoot b ∨ ! imgSigsOk b ∨ w.reject then some .image
  else s.fuseGroup t b

/-- Is a manifest's leaf level proven (R181, R197): stages 1 to 3 and the fold of the leaf level to the signed root. -/
def State.leafLevelTrusted (s : State) (t : Target) (b : List Byte) : Bool :=
  s.structureOk t none b && s.chainOk b false && imgLeafLevelOk b

/-- The code of a judgement (R186). -/
def groupCode : Option CheckGroup → Code
  | none => .ok
  | some g => g.fail

/-- The codes of a judgement by both halves (R186). -/
def State.judgeBoth (s : State) (t : Target) (b : List Byte) (j : Judgement) : Both Code :=
  ⟨groupCode (s.judge t b j.indigo), groupCode (s.judge t b j.amber)⟩

/-- The code that two halves' codes come to: that of the half that fails. -/
def Both.code (c : Both Code) : Code := if c.indigo = .ok then c.amber else c.indigo

end Sys2Proof.Machine
end

