-- ==== Sys2Proof/Machine/Journal.lean ====
section
/-!
DEFINITION. The commit journal (R220-R225, R579): records, the image in force, open INTENTs, appends under the energy gate
(R227, R228), compaction; the mission slots and the extension region in eFlash; the ranges that an update reserves (R219).
-/
namespace Sys2Proof.Machine

/-! ## The mission slots and the extension region in eFlash (R236, R346) -/

/-- The base of mission slot A (0) or B (1) (R346). -/
def slotBase (i : Fin 2) : Nat := 0x100000 + i.val * 0x400000
/-- The size of a slot. -/
def slotSize : Nat := 0x400000
/-- The extension region. -/
def extensionBase : Nat := 0x900000
/-- Its size (R178). -/
def extensionSize : Nat := 0x100000

/-- The container at an address of eFlash: its total_length bytes, at most what the area holds. -/
def State.flashContainer (s : State) (base size : Nat) : List Byte := s.bytes base (min (s.load (base + 0xA4) 4) size)

/-- The container that a slot holds. -/
def State.slotContainer (s : State) (i : Fin 2) : List Byte := s.flashContainer (slotBase i) slotSize

/-- The container that the extension region holds. -/
def State.extensionContainer (s : State) : List Byte := s.flashContainer extensionBase extensionSize

/-- An area of eFlash erased and written. -/
def State.rewriteFlash (s : State) (base size : Nat) (b : List Byte) : State := (s.erase base size).store base (b.take size)

/-- The slot that the running mission firmware did not boot from (R235). -/
def State.idleSlot (s : State) : Fin 2 := if s.boot.slot = 0 then 1 else 0

/-! ## Records -/

/-- The 128 bytes of a record (R221). -/
def jrecBytes (r : JRec) : List Byte :=
  let b := leBytes 2 0x4A4C ++ leBytes 1 r.type.num ++ leBytes 1 r.target ++ leBytes 4 r.seq ++ leBytes 4 r.refSeq
    ++ leBytes 4 r.svn ++ leBytes 8 r.time ++ digestBytes r.root ++ leBytes 4 r.manifestRef ++ leBytes 1 r.slot
    ++ leBytes 1 r.flags ++ leBytes 2 r.aux ++ leBytes 4 r.mirrorPage ++ leBytes 4 r.imageSize ++ leBytes 32 0
  b ++ leBytes 8 (crc64 b).toNat

/-- The first byte of a commit bank (R220). -/
def journalBase (b : Fin 2) : Nat := 0x40000 + b.val * 0x8000

/-- A record of a type for a target, its other fields 0; seq and time are those of its append. -/
def JRec.of (type : JType) (target : Nat) : JRec :=
  { type := type, target := target, seq := 0, refSeq := 0, svn := 0, time := 0, root := 0, manifestRef := 0, slot := 0,
    flags := 0, aux := 0, mirrorPage := 0, imageSize := 0 }

/-- Puts a record at the end of the active bank, as it stands. -/
def State.putRec (s : State) (r : JRec) : State :=
  let s := s.store (journalBase s.upd.bank + 128 * s.upd.journal.length) (jrecBytes r)
  { s with upd := { s.upd with journal := s.upd.journal ++ [r] } }

/-- Appends a record with the next sequence number and the time. -/
def State.rawAppend (s : State) (r : JRec) : State :=
  let s := s.putRec { r with seq := s.upd.nextSeq, time := s.time }
  { s with upd := { s.upd with nextSeq := s.upd.nextSeq + 1 } }

/-! ## What the journal says -/

/-- Does a record name another in ref_seq. -/
def JRec.names (r : JRec) (seq : Nat) (ts : List JType) : Bool := r.refSeq == seq && ts.contains r.type

/-- A COMMIT is live (R222): no RETIRED, ABANDON or TRIAL_FAIL names it. -/
def State.commitLive (s : State) (r : JRec) : Bool :=
  r.type == .commit && ! s.upd.journal.any fun q => q.names r.seq [.retired, .abandon, .trialFail]

/-- The live COMMITs of a target. -/
def State.liveCommits (s : State) (t : Target) : List JRec :=
  s.upd.journal.filter fun r => r.target == t.code && s.commitLive r

/-- The one of two COMMITs that wins: the higher svn, then the higher seq (R222). -/
def betterCommit (best : Option JRec) (r : JRec) : Option JRec :=
  match best with
  | none => some r
  | some b => if b.svn < r.svn ∨ (b.svn = r.svn ∧ b.seq < r.seq) then some r else some b

/-- The COMMIT of the image in force of a target, if one is live (R222). -/
def State.commitInForce (s : State) (t : Target) : Option JRec := (s.liveCommits t).foldl betterCommit none

/-- An INTENT is open while no COMMIT or ABANDON names it (R579). -/
def State.intentOpen (s : State) (r : JRec) : Bool :=
  r.type == .intent && ! s.upd.journal.any fun q => q.names r.seq [.commit, .abandon]

/-- The open INTENTs. -/
def State.openIntents (s : State) : List JRec := s.upd.journal.filter s.intentOpen

/-- Is a record the latest FLOOR of its target. -/
def State.latestFloor (s : State) (r : JRec) : Bool :=
  r.type == .floor && ! s.upd.journal.any fun q => q.type == .floor && q.target == r.target && decide (r.seq < q.seq)

/-- Is a record still needed (R223): live COMMITs and the records that name them, open INTENTs, the latest FLOOR of each target. -/
def State.recNeeded (s : State) (r : JRec) : Bool :=
  s.commitLive r || s.intentOpen r || s.latestFloor r
  || s.upd.journal.any fun q => s.commitLive q && r.refSeq == q.seq && r.type != .commit && r.type != .bankHeader

/-- The lowest seq of a list of records, 0 of none. -/
def lowestSeq (rs : List JRec) : Nat := rs.foldl (fun m r => if m = 0 ∨ r.seq < m then r.seq else m) 0

/-- Compaction (R223): the other bank erased, the records still needed copied, a BANK_HEADER at epoch + 1, the old bank erased. -/
def State.journalCompact (s : State) : State :=
  let old := s.upd.bank
  let new : Fin 2 := if old = 0 then 1 else 0
  let keep := s.upd.journal.filter s.recNeeded
  let s := s.erase (journalBase new) 0x8000
  let s := { s with upd := { s.upd with bank := new, journal := [], bankEpoch := s.upd.bankEpoch + 1 } }
  let s := keep.foldl State.putRec s
  let s := s.rawAppend { JRec.of .bankHeader 0xFF with refSeq := lowestSeq keep, svn := s.upd.bankEpoch }
  s.erase (journalBase old) 0x8000

/-- Compaction by mission firmware once the active bank holds 224 records, under the gate (R223, R227). -/
def State.compactIfDue (s : State) : State :=
  if s.boot.phase = .running ∧ 224 ≤ s.upd.journal.length ∧ s.gateOpen journalUs then s.journalCompact else s

/-- The first record of an empty bank is its header (R223; DESIGN CHOICE, log entry 20). -/
def State.bankHeader (s : State) : State :=
  if s.upd.journal.isEmpty then s.rawAppend { JRec.of .bankHeader 0xFF with svn := s.upd.bankEpoch } else s

/-- What a target keeps of a record just appended: the seq of its INTENT or COMMIT. -/
def State.noteRec (s : State) (r : JRec) (seq : Nat) : State :=
  match Target.ofCode r.target, r.type with
  | some t, .intent => s.updTarget t fun u => { u with intent := seq }
  | some t, .commit => s.updTarget t fun u => { u with commit := seq }
  | _, _ => s

/-- A COMMIT closes the INTENT of its target's update, wherever it was queued first. -/
def State.fillRef (s : State) (r : JRec) : JRec :=
  match Target.ofCode r.target, r.type with
  | some t, .commit => { r with refSeq := if r.refSeq = 0 then (s.target t).intent else r.refSeq }
  | _, _ => r

/-- A record is appended, whatever the gate says (the caller has asked it). -/
def State.appendRec (s : State) (r : JRec) : State :=
  let s := s.bankHeader
  let seq := s.upd.nextSeq
  let r := s.fillRef r
  ((s.rawAppend r).noteRec r seq).compactIfDue

/-! ## The gate -/

/-- The target of a waiting step, as its log records name it; 0xFF the catalogue. -/
def GateStep.target : GateStep → Nat
  | .journal r => r.target
  | .floor t => t.code
  | .catalogue => 0xFF

/-- How long a step takes at most (R227). -/
def GateStep.maxUs : GateStep → Nat
  | .journal _ => journalUs
  | .floor _ => floorUs
  | .catalogue => catalogueUs

/-- The gate is closed for a step (R228): the wait is counted and logged, once per target per second. -/
def State.gateWait (s : State) (g : GateStep) : State :=
  let s := { s with upd := { s.upd with gateWaits := satInc 32 s.upd.gateWaits } }
  s.logLimited 1 (0x4A000000 + g.target) .gateWait noEvent 0 [(1, g.target)]

/-- May a step start now: the gate is open and no step of its target waits before it. -/
def State.mayStart (s : State) (g : GateStep) : Bool :=
  s.gateOpen g.maxUs && ! s.upd.waiting.any fun w => w.target == g.target

/-- A step joins the waiting ones. -/
def State.delayStep (s : State) (g : GateStep) : State := { s with upd := { s.upd with waiting := s.upd.waiting ++ [g] } }

/-- A step that may not start waits; where it is the gate that is closed for it, the wait is counted (R228). -/
def State.queueStep (s : State) (g : GateStep) : State := (if s.gateOpen g.maxUs then s else s.gateWait g).delayStep g

/-- A record appended under the gate, or queued (R227, R228). -/
def State.gatedAppend (s : State) (r : JRec) : State :=
  if s.mayStart (.journal r) then s.appendRec r else s.queueStep (.journal r)

/-! ## What an update reserves -/

/-- A half-open range. -/
abbrev Range := Nat × Nat

/-- Do two ranges meet. -/
def Range.meets (a b : Range) : Bool := decide (a.1 < b.2) && decide (b.1 < a.2)

/-- The lowest free range of a size in a space: at its start, or behind a taken range. -/
def firstFree (lo hi size : Nat) (taken : List Range) : Option Nat :=
  (sortNat (lo :: taken.map fun r => r.2)).find? fun a =>
    decide (lo ≤ a) && decide (a + size ≤ hi) && ! taken.any fun r => Range.meets (a, a + size) r

/-- The staging ranges reserved, in bytes from the start of DRAM. -/
def State.stagingTaken (s : State) : List Range :=
  s.upd.targets.toList.filterMap fun u => u.staging.map fun o => (o, o + roundUp u.imageSize 4096)

/-- The mirror range of an enabled descriptor (R112). -/
def Desc.range (d : Desc) : Option Range :=
  if d.enable ∧ d.mirrorExtent ≠ 0 then some (d.mirrorPage * 4096, d.mirrorPage * 4096 + d.mirrorExtent) else Option.none

/-- The ranges of image space in use: mirror ranges of the descriptors, cached, staged or in SRAM, so that no two ever overlap, the
ranges of superseded images that step 5 has not returned, and landing ranges (R112, R217, R219). -/
def State.landingTaken (s : State) : List Range :=
  ((List.finRange 64).flatMap fun c =>
    ((s.chan c).desc :: descOf (s.descBytes c) :: ((s.chan c).staged.map fun x => x.desc).toList).filterMap Desc.range)
  ++ (s.upd.targets.toList.filterMap fun u => u.superseded.map fun p => (p.1, p.1 + p.2))
  ++ s.upd.targets.toList.filterMap fun u => u.landing.map fun p => (p * 4096, p * 4096 + roundUp u.imageSize 4096)

/-- A free staging range (R219): above the rebuild reserve's place it may share, below the end of the region. -/
def State.freeStaging (s : State) (size : Nat) : Option Nat :=
  firstFree (s.mir.protectedMib * mib) (s.mir.stagingEndMib * mib) (roundUp size 4096) s.stagingTaken

/-- A free landing range, as a mirror page (R219). -/
def State.freeLanding (s : State) (size : Nat) : Option Nat :=
  (firstFree 0 s.mir.imageBytes (roundUp size 4096) s.landingTaken).map fun a => a / 4096

/-- This device's cascade number (R287). -/
def State.devNumber (s : State) : Nat := s.pak.seg.val * 8 + s.pak.pos.val

/-- The bytes of one pSLC block: 16 KiB pages. -/
def State.blockBytes (s : State) : Nat := s.cis.pagesPerBlock * 16384

/-- The cells' divisor in pSLC mode (R244): 4 for QLC, 3 for TLC, as the profile says; the place of the cell type within the
profile is not given (free value, log entry 21). -/
def State.cellDivisor (s : State) : Nat := if Config.profileQlc (s.pget 0x0401 1 []) then 4 else 3

/-- `pslc_capacity` (R244, R246): the raw capacity through the divisor, less 3 %. -/
def State.pslcCapacity (s : State) : Nat :=
  let n := (s.cis.targets.toList.filter fun t => t.present).length
  n * s.cis.blocksPerTarget * s.blockBytes / s.cellDivisor * 97 / 100

/-- The bytes that a catalogue entry occupies. -/
def CatEntry.bytes (e : CatEntry) : Nat := e.container.length

/-- `free_bytes`. -/
def State.cisFree (s : State) : Nat := s.pslcCapacity - (s.cis.catalogue.map CatEntry.bytes).sum

/-- The bytes that a change of the catalogue adds. -/
def CatChange.bytes : CatChange → Nat
  | .add e _ => e.bytes
  | .free _ => 0

/-- Bytes promised to incoming shards (R256): a probe of R260 takes none. -/
def State.promised (s : State) : Nat := ((s.pak.incoming.filter fun t => ! t.probe).map fun t => t.head.shardLength + 896).sum

/-- The golden-copy space that updates have reserved and their copies have not yet taken (R219), what waits for its commit, and what
peers have been granted (R256). -/
def State.goldenReserved (s : State) : Nat :=
  (s.upd.targets.toList.map fun u => u.goldenHeld).sum + (s.cis.commits.map CatChange.bytes).sum + s.promised

/-- `holding_bytes`: this device's own golden set. -/
def State.holdingBytes (s : State) : Nat :=
  ((s.cis.catalogue.filter fun e => e.owner == s.devNumber && e.role == .localCopy).map CatEntry.bytes).sum

/-- Golden-copy space for an image beside what other updates have reserved (R219, R269, R577): only while the Cistern is online, within
the holding limit. -/
def State.goldenSpace (s : State) (size : Nat) : Bool :=
  s.cis.state == 2 && decide (s.goldenReserved + size ≤ s.cisFree)
  && decide (s.holdingBytes + s.goldenReserved + size ≤ s.pnat 0x0407 2 17179869184)

/-- The ranges of R219, where all are to be had. -/
def State.reserve (s : State) (t : Target) (size : Nat) : Option State :=
  match s.freeStaging size, s.freeLanding size with
  | some o, some p =>
    if s.goldenSpace size then
      some (s.updTarget t fun u => { u with staging := some o, landing := some p, imageSize := size, goldenHeld := size })
    else none
  | _, _ => none

/-- What an update returns when it ends (R217, R218): its ranges and the container. -/
def TargetUpd.freed (u : TargetUpd) : TargetUpd :=
  { u with staging := none, landing := none, imageSize := 0, container := [], expect := 0, staged := [], route := none,
           stream := 0, idleAt := none, verified := false, golden := false, activate := false, heldOut := none, intent := 0,
           commit := 0, supersedes := 0, part1 := [], goldenHeld := 0, switchUnits := [], switchRetried := false, switchWaits := false, digests := Both.rep [], atStart := false,
           recovered := false, superseded := none }

/-- The INTENT of an update that opens (R213, R221). -/
def State.writeIntent (s : State) (t : Target) (b : List Byte) : State :=
  let u := s.target t
  s.gatedAppend { JRec.of .intent t.code with
    svn := imgSvn b, root := imgRoot b, slot := 2, mirrorPage := u.landing.getD 0, imageSize := u.imageSize }

/-- `update_state` of a target. -/
def State.setUpd (s : State) (t : Target) (st : Nat) : State := s.updTarget t fun u => { u with state := st }

end Sys2Proof.Machine
end

