-- ==== Sys2Proof/Machine/Port.lean ====
section
/-!
DEFINITION. The host side of the sluice ports (R59-R87, R126-R131, R142, R144): which commands a port acts on, the reads, the
emulated registers, resets, prefetch and the hold limit. A command takes effect at one instant; the mirror's latency and the
times on the wire of a read are reckoned in ps within it (log entry 19).
-/
namespace Sys2Proof.Machine

/-! ## Beginning a command -/

/-- The band of a host SCK period in ps, with the exact edges of R62 (R70, R86). -/
def bandOf (ps : Nat) : BitVec 2 := if 15000 ≤ ps then 0 else if 10000 ≤ ps then 1 else if 7500 ≤ ps then 2 else 3

/-- The limit of the host SCK in MHz for a protocol and supply (R62). -/
def hostLimit (io : IoSupply) (pr : Protocol) : Nat := if io = .v33 then 133 else if pr = .p8D then 200 else 166

/-- SCK_RANGE, once per personality reset (R85). -/
def State.sckCheck (s : State) (tx : HostTx) : State :=
  let ch := s.chan tx.chan
  if ch.sckRaised ∨ 1000000 ≤ hostLimit (s.port tx.port).hostIo ch.protocol * tx.sckPs then s
  else
    let s := s.updChan tx.chan fun ch => { ch with sckRaised := true }
    (s.updPort tx.port fun p => { p with sticky := putBit p.sticky 3 true }).raiseLog (portEvent tx.port 9)
      [(1, tx.cs.val), (1, tx.chan.val)]

/-- What every command the port takes leaves: the measured period, its band, an end to an earlier read's hold, and no reset armed. The
register has 16 bits, and the spec says neither that a period above 655.35 ns saturates nor that it wraps: here it wraps (DESIGN
CHOICE, log entry 125). -/
def State.hostMeasure (s : State) (tx : HostTx) : State :=
  let s := s.updPort tx.port fun p =>
    { p with hsck := BitVec.ofNat 16 (tx.sckPs / 10), band := bandOf tx.sckPs, held := none, dq := [] }
  (s.sckCheck tx).updChan tx.chan fun ch => { ch with resetArmed := false }

/-- An unknown command (R78): no lane driven, no emulated state changed; one record per opcode per channel per second. -/
def State.unknownCmd (s : State) (tx : HostTx) (opcode : Nat) : State :=
  (s.updPort tx.port fun p => { p with unkCnt := satInc 32 p.unkCnt, sticky := putBit p.sticky 1 true }).raiseLog1
    (portEvent tx.port 6) (tx.chan.val * 256 + opcode) [(1, tx.cs.val), (1, tx.chan.val), (1, opcode)]

/-- A command whose opcode the port cannot read as the host meant it: it is an unknown command, and the opcode of its record is what
the port made of lanes framed otherwise, a free value (DESIGN CHOICE, log entry 126). -/
def State.misread (s : State) (tx : HostTx) : State := (s.unknownCmd tx (Config.freeByte s.free).toNat).drawn

/-- The framing of a command (R77): in a continuous read the port takes what comes first as an address, so a command with an opcode ends
it and is not seen as itself; otherwise the opcode must come, and in the emulated protocol mode. -/
def State.hostFrame (s : State) (tx : HostTx) (noOpcode : Bool) (f : State → State) : State :=
  let ch := s.chan tx.chan
  if ch.contRead ∧ ! noOpcode then s.updChan tx.chan fun ch => { ch with contRead := false }
  else if (noOpcode ∧ ! ch.contRead) ∨ tx.framing ≠ ch.protocol then s.misread tx
  else f s

/-- What a host command meets (R79, R82, R84, R77): it is ignored for its whole length unless the channel is served and no host reset
is held; in emulated deep power-down only ABh and the reset pair are acted on (`dpdOk`). -/
def State.hostOp (s : State) (tx : HostTx) (dpdOk noOpcode : Bool) (f : State → State) : State :=
  if ! (s.chan tx.chan).state.served ∨ (s.port tx.port).hreset then s.updPort tx.port fun p => { p with dq := [] }
  else
    let s := s.hostMeasure tx
    if (s.chan tx.chan).dpd ∧ ! dpdOk then s else s.hostFrame tx noOpcode f

/-- A host command that comes with its opcode. -/
def State.hostCmd (s : State) (tx : HostTx) (dpdOk : Bool) (f : State → State) : State := s.hostOp tx dpdOk false f

/-- A state-changing command that ended off a byte or word boundary (R80): counted, nothing else. -/
def State.partialByte (s : State) (tx : HostTx) : State :=
  (s.updPort tx.port fun p => { p with partialCnt := satInc 32 p.partialCnt, sticky := putBit p.sticky 2 true }).raiseLog
    (portEvent tx.port 8) [(1, tx.cs.val), (1, tx.chan.val)]

/-- A state-changing host command (R80). One that the port would not act on in any case, a program with WEL clear, counts here too when
it ends off a boundary: R80 counts each such command, R150 says of a command off no boundary that it is counted nowhere (DESIGN CHOICE,
log entry 130). -/
def State.stateCmd (s : State) (tx : HostTx) (dpdOk : Bool) (f : State → State) : State :=
  s.hostCmd tx dpdOk fun s => if tx.whole then f s else s.partialByte tx

/-- While emulated WIP is set and nothing is suspended the port ignores writes, erases and the latch commands (R150). -/
def Chan.gated (ch : Chan) : Bool := ch.wip && ! ch.suspended

/-- The bytes a port drives. -/
def State.drive (s : State) (p : PortId) (bs : List Byte) : State := s.updPort p fun q => { q with dq := bs }

/-! ## The native window (R73, R142) -/

/-- The native window closes under LEARN, with the record of leaves (R73, R142). -/
def State.closeNative (s : State) (c : ChanId) : State :=
  let ch := s.chan c
  if ch.native ∧ ch.desc.policy ≠ 1 then
    let s := (s.closeTrace c).updChan c fun ch => { ch with native := false }
    s.raiseLog (portEvent c.port 13) [(1, c.cs.val), (1, c.val)]
  else s

/-- The minimum wait of a band (R70). -/
def bandWait (band : Nat) : Nat :=
  match band with
  | 0 => 8
  | 1 => 12
  | 2 => 16
  | _ => 24

/-- The wait the real part's SFDP gives for a read command, where it lists it. -/
def Chan.nativeWait (ch : Chan) (k : ReadKind) : Option Nat :=
  (ch.info.bind fun i => i.nativeWaits.find? fun w => w.1 == k).map fun w => w.2

/-- The effective wait of a read command (R73). -/
def Chan.effWait (ch : Chan) (k : ReadKind) : Nat :=
  if k = .read then 0
  else match ch.waitField with
    | some w => w
    | none => if ch.native then (ch.nativeWait k).getD 0 else bandWait ch.desc.hostBandMax

/-! ## Reads -/

/-- The protocol mode a read command is framed in (R77). -/
def ReadKind.protocol : ReadKind → Protocol
  | .fast444 => .p444
  | .fast888 => .p888
  | .octalDtr => .p8D
  | _ => .p1S

/-- Lanes of the address phase. -/
def ReadKind.addrLanes : ReadKind → Nat
  | .read | .fast111 | .dualOut | .quadOut | .octal => 1
  | .dualIo => 2
  | .quadIo | .fast444 => 4
  | .fast888 | .octalDtr => 8

/-- Lanes of the data phase. -/
def ReadKind.dataLanes : ReadKind → Nat
  | .read | .fast111 => 1
  | .dualOut | .dualIo => 2
  | .quadOut | .quadIo | .fast444 => 4
  | .octal | .fast888 | .octalDtr => 8

/-- Half clocks from the edge that completes address bit 9 to the end of the address (R71). -/
def ReadKind.afterBit9 (k : ReadKind) : Nat := if k = .octalDtr then 1 else 2 * (9 / k.addrLanes)

/-- Half clocks that a data byte takes. -/
def ReadKind.byteHalves (k : ReadKind) : Nat := if k = .octalDtr then 1 else 16 / k.dataLanes

/-- When byte `i` is due, in ps after the address-bit-9 edge (R71, R73). -/
def dueAt (k : ReadKind) (sckPs wait i : Nat) : Nat := (k.afterBit9 + 2 * wait + i * k.byteHalves) * sckPs / 2

/-- Are a real part's 4-byte opcodes to be had (R77). -/
def Chan.has4 (ch : Chan) : Bool := (ch.info.map fun i => i.fourByteOps).getD false

/-- Is the read command one that the port answers in the present emulated state (R77); `quad` is that it comes by a quad opcode, which
needs the emulated quad-enable bit. -/
def Chan.readListed (ch : Chan) (k : ReadKind) (quad fourByte : Bool) (io : IoSupply) : Bool :=
  k.protocol == ch.protocol && (k == .read || (ch.nativeWait k).isSome) && (k != .octalDtr || io != .v33)
  && (! quad || ch.quadEnable || (ch.info.bind fun i => i.quadBit).isNone) && (! fourByte || ch.has4)

/-- The channel as a read finds it (R101): under a pending reload the new descriptor serves. -/
def State.servingChan (s : State) (c : ChanId) : Chan :=
  let ch := s.chan c
  match ch.staged with
  | none => ch
  | some st =>
    let pins := s.pinsAt st.desc
    { ch with desc := st.desc, rules := st.rules, gen := st.gen, pins := pins,
              pinsLoaded := ch.pinsLoaded.filter fun l => (pins.find? fun p => p.1 == l) == (ch.pins.find? fun p => p.1 == l) }

/-- The channel as a held read finds it (R72, R100): under the generation in force when it began. -/
def State.heldChan (s : State) (h : HeldRead) : Chan :=
  if h.gen = (s.chan h.op.tx.chan).gen then s.chan h.op.tx.chan else s.servingChan h.op.tx.chan

/-- How far the load of a pending reload holds the fetch back, in ps (R101). -/
def State.loadWait (s : State) (c : ChanId) : Nat :=
  match (s.chan c).staged with
  | none => 0
  | some st => (st.loadedAt - s.time) * 1000

/-- The range of a command's address (R77): 32 bits after a 4-byte opcode, in the 4-byte address mode and in 8D-8D-8D, else 24. -/
def Chan.addrRange (ch : Chan) (fourByte : Bool) : Nat := if fourByte ∨ ch.addr4 ∨ ch.protocol = .p8D then 2 ^ 32 else 2 ^ 24

/-- The flash addresses of a read, wrapping at the real part's density (R82). -/
def readAddrs (ch : Chan) (op : HostReadOp) : List Nat :=
  let width := ch.addrRange op.fourByte
  let density := (ch.info.map fun i => i.density).getD width
  (List.range op.len).map fun i => (op.addr % width % density + i) % density

/-- Where a leaf staged by an open host write stream stands in DRAM (R211). -/
def State.stagedAt (s : State) (c : ChanId) (leaf : Nat) : Option Nat :=
  let t := s.target (.chan c)
  if t.stream ≠ 0 ∧ t.staged.contains leaf then t.staging.map fun o => o + leaf * 4096 else none

/-- The pinned slot that serves a leaf (R126): flags.pin_enable and the leaf in the list. -/
def Chan.servedPin (ch : Chan) (leaf : Nat) : Option Nat := if ch.desc.pinEnable then ch.pinSlot leaf else none

/-- Where a prefetch buffer lies in the reserved top of SRAM bank 4 (R118). -/
def bufferAddr (p : PortId) (i : Fin 2) : Nat := 0x11340000 + (2 * p.val + i.val) * 4096

/-- The prefetch buffer of a channel's port in which a leaf is valid (R75); under a pending reload none, since what they hold is of the
old generation (R101). -/
def State.bufferOf (s : State) (c : ChanId) (leaf : Nat) : Option (Fin 2) :=
  if (s.chan c).staged.isSome then none else (List.finRange 2).find? fun i => (s.port c.port).buffers[i] == some ⟨c, leaf⟩

/-- The content of a byte at a flash address (R82, R126, R211): 0xFF beyond the extent; the staged copy of a stream, the pinned slot,
the prefetch buffer, the mirror. -/
def State.contentAt (s : State) (c : ChanId) (ch : Chan) (a : Nat) : Byte :=
  let leaf := a / 4096
  if ch.desc.mirrorExtent ≤ a then 0xFF
  else match s.stagedAt c leaf, ch.servedPin leaf, s.bufferOf c leaf with
    | some o, _, _ => s.byte (dramBase + o + a % 4096)
    | none, some slot, _ => s.byte (pinSlotAddr slot + a % 4096)
    | none, none, some i => s.byte (bufferAddr c.port i + a % 4096)
    | none, none, none => s.byte (dramBase + ch.desc.mirrorPage * 4096 + a)

/-- The latency of a read from DRAM in ps, from the address-bit-9 edge (R71, R127): between 67 and 120 ns. -/
def HostReadOp.latency (op : HostReadOp) : Nat := max 67000 (min op.latPs 120000)

/-- When the byte at an address is ready, in ps after the address-bit-9 edge; none while its leaf waits for a refill or fails its checks
(R126, R128, R131). Nothing is ready before the load of a pending reload has ended (R101). -/
def State.readyAt (s : State) (c : ChanId) (ch : Chan) (op : HostReadOp) (a : Nat) : Option Nat :=
  let leaf := a / 4096
  let w := s.loadWait c
  if ch.desc.mirrorExtent ≤ a then some w
  else match s.stagedAt c leaf, ch.servedPin leaf, s.bufferOf c leaf with
    | some o, _, _ => if s.stageGood ((o + a % 4096) / 512) then some (w + op.latency) else none
    | none, some _, _ => some w
    | none, none, some _ => some w
    | none, none, none =>
      if ch.faulted.contains leaf ∨ ch.lost.contains leaf ∨ ! s.pageGood (ch.desc.mirrorPage + leaf) then none
      else some (w + op.latency)

/-- Is a byte's data ready by a time. -/
def readyBy (r : Option Nat) (t : Nat) : Bool :=
  match r with
  | some x => decide (x ≤ t)
  | none => false

/-- Does the read run in a strobe mode that may extend its latency (R62, R72, R86). -/
def State.extends_ (s : State) (c : ChanId) (k : ReadKind) : Bool :=
  (s.port c.port).strobeExtend
  && (k == .octalDtr || (k == .fast888 && (((s.chan c).info.map fun i => i.strobe888).getD false)))

/-- The hold limit in ps; settings below 3 act as 3 µs (R86). -/
def Port.limitPs (p : Port) : Nat := max 3 p.holdLimit.toNat * 1000000

/-- The bytes of a read with 0xFF in each position not ready when due, the strobe extended by `ext` (R72). -/
def State.readBytes (s : State) (c : ChanId) (ch : Chan) (op : HostReadOp) (k : ReadKind) (ext : Nat) : List (Bool × Byte) :=
  (readAddrs ch op).zipIdx.map fun x =>
    if readyBy (s.readyAt c ch op x.1) (dueAt k op.tx.sckPs (ch.effWait k) x.2 + ext) then (true, s.contentAt c ch x.1)
    else (false, 0xFF)

/-- READ_EXTEND (R72, R86). -/
def State.readExtend (s : State) (c : ChanId) : State :=
  let s := s.updPort c.port fun p => { p with extendCnt := satInc 32 p.extendCnt, sticky := putBit p.sticky 4 true }
  let s := s.updChan c fun ch => { ch with stats := { ch.stats with extends_ := satInc 32 ch.stats.extends_ } }
  s.raiseLog (portEvent c.port 10) [(1, c.cs.val), (1, c.val)]

/-- READ_UNDERRUN (R72, R86). -/
def State.readUnderrun (s : State) (c : ChanId) : State :=
  let s := s.updPort c.port fun p => { p with underrunCnt := satInc 32 p.underrunCnt, sticky := putBit p.sticky 5 true }
  let s := s.updChan c fun ch => { ch with stats := { ch.stats with underruns := satInc 32 ch.stats.underruns } }
  s.raiseLog (portEvent c.port 11) [(1, c.cs.val), (1, c.val)]

/-- The read's bytes go out (R72): READ_UNDERRUN where a position carries 0xFF for want of data. -/
def State.deliver (s : State) (c : ChanId) (bs : List (Bool × Byte)) : State :=
  let s := s.drive c.port (bs.map fun b => b.2)
  let s := s.updChan c fun ch => { ch with stats := { ch.stats with hostReadBytes := satAdd 64 ch.stats.hostReadBytes bs.length } }
  if bs.all fun b => b.1 then s else s.readUnderrun c

/-- How a read with its first data late is served in a strobe mode (R72): held at its first leaf, extended, or at the limit. -/
def State.serveRead (s : State) (c : ChanId) (ch : Chan) (op : HostReadOp) (k : ReadKind) : State :=
  let a := (readAddrs ch op).headD 0
  let due := dueAt k op.tx.sckPs (ch.effWait k) 0
  if ! s.extends_ c k then s.deliver c (s.readBytes c ch op k 0)
  else match s.readyAt c ch op a with
    | none => s.updPort c.port fun p => { p with held := some ⟨op, k, ch.gen, s.time, a / 4096⟩ }
    | some r =>
      if r ≤ due then s.deliver c (s.readBytes c ch op k 0)
      else if r - due ≤ (s.port c.port).limitPs then (s.readExtend c).deliver c (s.readBytes c ch op k (r - due))
      else s.deliver c (s.readBytes c ch op k (s.port c.port).limitPs)

/-- Appends what a list does not yet hold, in order, up to a limit. -/
def addNew (limit : Nat) (old new : List Nat) : List Nat :=
  new.foldl (fun l x => if l.contains x ∨ limit ≤ l.length then l else l ++ [x]) old

/-- The record of an open native window (R142), and PIN_MISS for a read outside every pinned range at a wait too short for
R71's 120 ns (R74). -/
def State.traceRead (s : State) (c : ChanId) (ch : Chan) (op : HostReadOp) (k : ReadKind) : State :=
  if ! ch.native then s
  else
    let addrs := (readAddrs ch op).filter fun a => decide (a < ch.desc.mirrorExtent)
    let leaf := ((readAddrs ch op).headD 0) / 4096
    let s := s.updChan c fun ch => { ch with trace := addNew 512 ch.trace (addrs.map fun a => a / 4096) }
    if (ch.servedPin leaf).isNone ∧ dueAt k op.tx.sckPs (ch.effWait k) 0 < 120000 ∧ addrs ≠ [] then
      let s := s.updChan c fun ch => { ch with missTrace := addNew 512 ch.missTrace [leaf],
                                               stats := { ch.stats with pinMisses := satInc 32 ch.stats.pinMisses } }
      s.raiseLog (portEvent c.port 12) [(1, c.cs.val), (1, c.val), (4, leaf)]
    else s

/-- The leaves that a read takes from DRAM (R126). -/
def State.dramLeaves (s : State) (c : ChanId) (ch : Chan) (op : HostReadOp) : List Nat :=
  (((readAddrs ch op).filter fun a => decide (a < ch.desc.mirrorExtent)).map fun a => a / 4096).eraseDups.filter fun l =>
    (s.stagedAt c l).isNone && (ch.servedPin l).isNone && (s.bufferOf c l).isNone

/-- Does a leaf of the channel's mirror fail the checks of a read (R126, R128): a page not sealed under the version in force. -/
def State.leafFails (s : State) (ch : Chan) (leaf : Nat) : Bool :=
  ! ch.faulted.contains leaf && ! ch.lost.contains leaf && ! s.pageGood (ch.desc.mirrorPage + leaf)

/-- A mirror fault met by the read (R126, R129, R133): the one that the access found, where a leaf that it takes from DRAM is touched,
else that of the first such leaf that fails its checks; the event of a link error that ECC corrected (R148). -/
def State.readFault (s : State) (c : ChanId) (ch : Chan) (op : HostReadOp) : State :=
  let dram := s.dramLeaves c ch op
  let s := if op.linkEcc ∧ dram ≠ [] then s.raiseLog 1015 [(1, c.val)] else s
  match op.fault, dram.find? (s.leafFails ch) with
  | some f, _ => if f.kind = .digestArea ∨ (s.faultLeaves c f).any fun l => dram.contains l then s.mirrorFault c f else s
  | none, some l => s.mirrorFault c ⟨.sector, l⟩
  | none, none => s

/-- An error in the slot of a pinned leaf that SECDED cannot correct (R144): MIRROR_PIN_ECC; the leaf is served as unpinned from now. -/
def State.pinEcc (s : State) (c : ChanId) (ch : Chan) (op : HostReadOp) : State :=
  match ((readAddrs ch op).map fun a => a / 4096).find? fun l => (ch.servedPin l).isSome with
  | some l => if op.pinEcc then
      (s.updChan c fun ch => { ch with pinsLoaded := ch.pinsLoaded.filter fun x => x != l }).raiseLog 1029 [(1, c.val), (4, l)]
    else s
  | none => s

/-- Bytes of a read that the pinned pool serves (R488). -/
def State.pinHits (s : State) (c : ChanId) (ch : Chan) (op : HostReadOp) : State :=
  let n := ((readAddrs ch op).filter fun a => decide (a < ch.desc.mirrorExtent) && (ch.servedPin (a / 4096)).isSome).length
  s.updChan c fun ch => { ch with stats := { ch.stats with pinHitBytes := satAdd 64 ch.stats.pinHitBytes n } }

/-- The buffer that takes a leaf: the one that does not hold the leaf before it. -/
def Port.bufferFor (p : Port) (c : ChanId) (leaf : Nat) : Fin 2 := if p.buffers[0] = some ⟨c, leaf - 1⟩ then 1 else 0

/-- A leaf stands in a prefetch buffer (R75), its content in SRAM (R118). -/
def State.fillBuffer (s : State) (c : ChanId) (ch : Chan) (leaf : Nat) : State :=
  let i := (s.port c.port).bufferFor c leaf
  let s := s.store (bufferAddr c.port i) (s.bytes (dramBase + (ch.desc.mirrorPage + leaf) * 4096) 4096)
  s.updPort c.port fun q => { q with buffers := vset q.buffers i (some ⟨c, leaf⟩) }

/-- What a read leaves in the port's buffers (R75): the last leaf that it streamed stands in one of them, and the next leaf of the channel
is to be fetched into the other. A leaf served from the pinned pool or a stream's staged copy, or that waits for its refill, takes none
(DEDUCED, log entry 127). -/
def State.streamed (s : State) (c : ChanId) (ch : Chan) (op : HostReadOp) : State :=
  match (readAddrs ch op).getLast? with
  | none => s
  | some a =>
    let leaf := a / 4096
    if ch.desc.mirrorExtent ≤ a ∨ (ch.servedPin leaf).isSome ∨ (s.stagedAt c leaf).isSome ∨ (s.chan c).faulted.contains leaf
      ∨ (s.chan c).lost.contains leaf ∨ (s.chan c).staged.isSome then s
    else
      let s := if (s.bufferOf c leaf).isSome then s else s.fillBuffer c ch leaf
      let next := leaf + 1
      if ch.desc.leafCount ≤ next ∨ (s.bufferOf c next).isSome then s
      else s.updPort c.port fun q => { q with fetchDue := some ⟨c, next⟩ }

/-- Do the mode bits of a quad I/O read keep a continuous read on (R77), as the real part's SFDP describes. -/
def Chan.keepsReading (ch : Chan) (k : ReadKind) (m : Byte) : Bool :=
  k == .quadIo && (match ch.info.bind fun i => i.continuous with
    | some (mask, v) => m &&& mask == v &&& mask
    | none => false)

/-- A host read (R77, R126): an unknown command where the SFDP does not list it in this state. -/
def State.hostRead (s : State) (k : ReadKind) (quad : Bool) (opcode : Nat) (op : HostReadOp) : State :=
  s.hostOp op.tx false op.noOpcode fun s =>
    let c := op.tx.chan
    if ! (s.servingChan c).readListed k quad op.fourByte (s.port op.tx.port).hostIo ∨ (op.noOpcode ∧ k ≠ .quadIo) then s.unknownCmd op.tx opcode
    else
      let s := s.updChan c fun ch => { ch with contRead := ch.keepsReading k op.modeBits }
      let s := s.pinEcc c (s.servingChan c) op
      let ch := s.servingChan c
      let s := (s.traceRead c ch op k).readFault c ch op
      let ch := s.servingChan c
      ((s.pinHits c ch op).serveRead c ch op k).streamed c ch op

/-- The opcode of a read, for the record of an unknown command: the 4-byte form's where so framed. -/
def readOpcode (op : HostReadOp) (three four : Nat) : Nat := if op.fourByte then four else three

/-- HOST_READ (R126). -/
def execHostRead (op : HostReadOp) (s : State) : Host.Outcome State Fault Refusal :=
  .next (s.hostRead .read false (readOpcode op 0x03 0x13) op)

/-- The framing of a fast read in the present protocol mode (R77); none in 8D-8D-8D. -/
def fastKind : Protocol → Option ReadKind
  | .p1S => some .fast111
  | .p444 => some .fast444
  | .p888 => some .fast888
  | .p8D => none

/-- FAST_READ (R77). -/
def execFastRead (op : HostReadOp) (s : State) : Host.Outcome State Fault Refusal :=
  .next (match fastKind (s.chan op.tx.chan).protocol with
    | some k => s.hostRead k false (readOpcode op 0x0B 0x0C) op
    | none => s.hostCmd op.tx false fun s => s.unknownCmd op.tx (readOpcode op 0x0B 0x0C))

/-- DUAL_READ (R77). -/
def execDualRead (io : Bool) (op : HostReadOp) (s : State) : Host.Outcome State Fault Refusal :=
  .next (if io then s.hostRead .dualIo false (readOpcode op 0xBB 0xBC) op else s.hostRead .dualOut false (readOpcode op 0x3B 0x3C) op)

/-- The framing of a quad I/O read: 4-4-4 in that protocol mode (R77). -/
def quadIoKind : Protocol → ReadKind
  | .p444 => .fast444
  | _ => .quadIo

/-- QUAD_READ (R77). -/
def execQuadRead (io : Bool) (op : HostReadOp) (s : State) : Host.Outcome State Fault Refusal :=
  .next (if io then s.hostRead (quadIoKind (s.chan op.tx.chan).protocol) true (readOpcode op 0xEB 0xEC) op
    else s.hostRead .quadOut true (readOpcode op 0x6B 0x6C) op)

/-- OCTAL_READ (R77). -/
def execOctalRead (op : HostReadOp) (s : State) : Host.Outcome State Fault Refusal :=
  .next (s.hostRead .octal false (readOpcode op 0x8B 0x7C) op)

/-- OCTAL_DTR_READ (R77). -/
def execOctalDtrRead (op : HostReadOp) (s : State) : Host.Outcome State Fault Refusal :=
  .next (s.hostRead .octalDtr false 0xEE op)

/-- The hold limit of the held read ends (R72): the strobe starts, 0xFF stands in what is not ready. -/
def State.holdLimit (s : State) (p : PortId) : State :=
  match (s.port p).held with
  | none => s
  | some h =>
    let c := h.op.tx.chan
    let s := s.advanceTo (h.dueAt + (s.port p).limitPs / 1000)
    let s := s.updPort p fun q => { q with held := none }
    s.deliver c (s.readBytes c (s.heldChan h) h.op h.kind (s.port p).limitPs)

/-- HOLD_LIMIT_REACHED (R72). -/
def execHoldLimitReached (p : PortId) (s : State) : Host.Outcome State Fault Refusal := .next (s.holdLimit p)

/-- A held read goes on once its leaf has been refilled (R131): the strobe starts with the first ready word. -/
def State.resumeRead (s : State) (c : ChanId) (leaf : Nat) : State :=
  match (s.port c.port).held with
  | none => s
  | some h =>
    if h.op.tx.chan = c ∧ h.leaf = leaf then
      let s := s.updPort c.port fun q => { q with held := none }
      (s.readExtend c).deliver c (s.readBytes c (s.heldChan h) h.op h.kind ((s.port c.port).limitPs + h.op.latency))
    else s

/-! ## Prefetch (R75, R131) -/

/-- The prefetch that is due ends (R75): its leaf, tag-checked as a whole, stands in a buffer; a fault on the way starts its refill at
once (R131). -/
def State.prefetchDone (s : State) (p : PortId) (c : ChanId) (leaf : Nat) (fault : Option MirrorFault) : State :=
  let ch := s.chan c
  if (s.port p).fetchDue ≠ some ⟨c, leaf⟩ ∨ ! ch.state.served then s
  else
    let s := s.updPort p fun q => { q with fetchDue := none }
    if ch.faulted.contains leaf ∨ ch.lost.contains leaf then s
    else match fault with
      | some f => s.mirrorFault c f
      | none => if s.leafFails ch leaf then s.mirrorFault c ⟨.sector, leaf⟩ else s.fillBuffer c ch leaf

/-- PREFETCH_LEAF_DONE (R75). -/
def execPrefetchLeafDone (p : PortId) (c : ChanId) (leaf : Nat) (fault : Option MirrorFault) (s : State) :
    Host.Outcome State Fault Refusal := .next (s.prefetchDone p c leaf fault)

/-! ## Identity and registers -/

/-- READ_ID (R68): the captured bytes, then 0xFF. -/
def execReadId (tx : HostTx) (len : Nat) (s : State) : Host.Outcome State Fault Refusal :=
  .next (s.hostCmd tx false fun s =>
    s.drive tx.port ((List.range len).map fun i => (s.chan tx.chan).idBytes.getD i 0xFF))

/-- READ_SFDP (R68, R73): the constructed SFDP, 0xFF beyond it; closes the native window under LEARN. -/
def execReadSfdp (tx : HostTx) (addr len : Nat) (s : State) : Host.Outcome State Fault Refusal :=
  .next (s.hostCmd tx false fun s =>
    let p := (s.chan tx.chan).persSfdp
    (s.drive tx.port ((List.range len).map fun i => if 4096 ≤ addr + i then 0xFF else p.getD (addr + i) 0)).closeNative tx.chan)

/-- One bit placed in a register byte. -/
def placeBit (v : Byte) (op : Byte) (at_ : Option (Byte × Fin 8)) (b : Bool) : Byte :=
  match at_ with
  | some (o, i) => if o = op then putBit v i.val b else v
  | none => v

/-- A register byte as captured in probing, with what the host's writes have changed in it (R77). -/
def Chan.heldByte (ch : Chan) (op : Byte) : Byte :=
  ((ch.emuRegs.find? fun x => x.1 == op).map fun x => x.2).getD (ch.regs.getD op.toNat 0)

/-- An emulated register byte (R77, R162): as captured and as changed by emulated writes, with WIP and WEL in the real part's positions,
and quad-enable, the fail bits and the suspend bit where the SFDP locates them. -/
def Chan.regByte (ch : Chan) (op : Byte) : Byte :=
  let v := placeBit (ch.heldByte op) op (some ((ch.info.map fun i => i.wipAt).getD (0x05, 0))) ch.wip
  let v := placeBit v op (some ((ch.info.map fun i => i.welAt).getD (0x05, 1))) ch.wel
  let v := placeBit v op (ch.info.bind fun i => i.quadBit) ch.quadEnable
  match ch.info.bind fun i => i.statusMap with
  | none => v
  | some m =>
    let v := placeBit v op (some (m.progOp, m.progBit)) ch.progErr
    let v := placeBit v op (some (m.eraseOp, m.eraseBit)) ch.eraseErr
    placeBit v op (some (m.suspOp, m.suspBit)) ch.suspended

/-- READ_REGISTERS (R77). -/
def execReadRegisters (tx : HostTx) (reg : StatusReg) (len : Nat) (s : State) : Host.Outcome State Fault Refusal :=
  .next (s.hostCmd tx false fun s =>
    let op : Byte := match reg with
      | .status => 0x05
      | .config o => o
    s.drive tx.port (List.replicate len ((s.chan tx.chan).regByte op)))

/-- WRITE_ENABLE (R77, R150). -/
def execWriteEnable (tx : HostTx) (s : State) : Host.Outcome State Fault Refusal :=
  .next (s.stateCmd tx false fun s => s.updChan tx.chan fun ch => if ch.gated then ch else { ch with wel := true })

/-- WRITE_DISABLE (R77, R150). -/
def execWriteDisable (tx : HostTx) (s : State) : Host.Outcome State Fault Refusal :=
  .next (s.stateCmd tx false fun s => s.updChan tx.chan fun ch => if ch.gated then ch else { ch with wel := false })

/-- The reading mode of the flash side that an emulated protocol mode corresponds to. -/
def Protocol.flashMode : Protocol → FlashMode
  | .p1S => .m111
  | .p444 => .m444
  | .p888 => .m888
  | .p8D => .m8D

/-- May the emulation enter a protocol mode (R62, R69, R77): the real part's SFDP lists it, and the host side's supply permits it. -/
def Chan.mayEnter (ch : Chan) (io : IoSupply) (p : Protocol) : Bool :=
  p == .p1S || (((ch.info.map fun i => i.modes).getD []).any fun e => e.mode == p.flashMode) && (p != .p8D || io != .v33)

/-- A byte that the host writes to a register (R77): its volatile bits change in the emulation. -/
def Chan.putReg (ch : Chan) (w : Byte × Byte) : Chan :=
  let mask := ((((ch.info.map fun i => i.volatileBits).getD []).find? fun x => x.1 == w.1).map fun x => x.2).getD 0
  { ch with emuRegs := (w.1, (ch.heldByte w.1 &&& ~~~mask) ||| (w.2 &&& mask)) :: ch.emuRegs.filter fun x => x.1 != w.1 }

/-- The volatile fields of a register write take effect in the emulation (R77); WEL is cleared. -/
def Chan.writeRegs (ch : Chan) (io : IoSupply) (w : RegWrite) : Chan :=
  let p := (w.protocol.filter fun p => ch.mayEnter io p).getD ch.protocol
  { w.bytes.foldl Chan.putReg ch with protocol := p, quadEnable := w.quadEnable.getD ch.quadEnable, addr4 := w.addr4.getD ch.addr4, wel := false }

/-- Does WP_N keep a register write out (R60): in the 1-1-1 mode with quad-enable clear, low, while the bit under which the real part
heeds it is set in a register that the write names. The write is then not acted on and WEL stays (PRESUMED, log entry 128). -/
def Chan.wpBlocks (ch : Chan) (tx : HostTx) (w : RegWrite) : Bool :=
  tx.wpLow && ch.protocol == .p1S && ! ch.quadEnable && (match ch.info.bind fun i => i.protectAt with
    | some (op, i) => (w.bytes.any fun x => x.1 == op) && (ch.regByte op).getLsbD i.val
    | none => false)

/-- A register write that the port acts on (R60, R73, R77). -/
def State.regWrite (s : State) (tx : HostTx) (w : RegWrite) : State :=
  let ch := s.chan tx.chan
  if ch.gated ∨ ! ch.wel ∨ ch.wpBlocks tx w then s
  else
    let s := s.updChan tx.chan fun ch => ch.writeRegs (s.port tx.port).hostIo w
    let s := match w.wait with
      | some n => (s.closeNative tx.chan).updChan tx.chan fun ch => { ch with waitField := some n }
      | none => s
    if w.ignored then s.raiseLog (portEvent tx.port 15) [(1, tx.cs.val), (1, tx.chan.val)] else s

/-- WRITE_REGISTERS (R77). -/
def execWriteRegisters (tx : HostTx) (w : RegWrite) (s : State) : Host.Outcome State Fault Refusal :=
  .next (s.stateCmd tx false fun s => s.regWrite tx w)

/-- A change of the address mode (R77), an unknown command where the real part has no such mode. While WIP is set it is acted on: R150
names it neither among the commands ignored then nor among those answered (DESIGN CHOICE, log entry 129). -/
def State.addrMode (s : State) (tx : HostTx) (opcode : Nat) (four : Bool) : State :=
  s.stateCmd tx false fun s =>
    if ((s.chan tx.chan).info.map fun i => i.fourByteMode).getD false then s.updChan tx.chan fun ch => { ch with addr4 := four }
    else s.unknownCmd tx opcode

/-- ENTER_4BYTE_MODE (R77). -/
def execEnter4ByteMode (tx : HostTx) (s : State) : Host.Outcome State Fault Refusal := .next (s.addrMode tx 0xB7 true)

/-- EXIT_4BYTE_MODE (R77). -/
def execExit4ByteMode (tx : HostTx) (s : State) : Host.Outcome State Fault Refusal := .next (s.addrMode tx 0xE9 false)

/-- DEEP_POWER_DOWN (R77): emulated; the flash is not powered down. While WIP is set it is acted on: R150 names it neither among the
commands ignored then nor among those answered (DESIGN CHOICE, log entry 129). -/
def execDeepPowerDown (tx : HostTx) (s : State) : Host.Outcome State Fault Refusal :=
  .next (s.stateCmd tx false fun s =>
    (s.updChan tx.chan fun ch => { ch with dpd := true }).raiseLog (portEvent tx.port 19) [(1, tx.cs.val), (1, tx.chan.val)])

/-- RELEASE_DEEP_POWER_DOWN (R77). -/
def execReleaseDeepPowerDown (tx : HostTx) (s : State) : Host.Outcome State Fault Refusal :=
  .next (s.stateCmd tx true fun s => s.updChan tx.chan fun ch => { ch with dpd := false })

/-- RESET_ENABLE (R79). -/
def execResetEnable (tx : HostTx) (s : State) : Host.Outcome State Fault Refusal :=
  .next (s.stateCmd tx true fun s => s.updChan tx.chan fun ch => { ch with resetArmed := true })

/-- RESET (R79): a personality reset after 66h, else nothing. -/
def execReset (tx : HostTx) (s : State) : Host.Outcome State Fault Refusal :=
  let armed := (s.chan tx.chan).resetArmed
  .next (s.stateCmd tx true fun s => if armed then s.personalityReset tx.chan else s)

/-- UNKNOWN_COMMAND (R78). -/
def execUnknownCommand (tx : HostTx) (opcode : Byte) (s : State) : Host.Outcome State Fault Refusal :=
  .next (s.hostCmd tx false fun s => s.unknownCmd tx opcode.toNat)

/-- CS_CONFLICT (R83): neither command is acted on, nor the one under way. R87 has the record name the chip select concerned: here it
names 2, for both (DESIGN CHOICE, log entry 131). -/
def execCsConflict (p : PortId) (s : State) : Host.Outcome State Fault Refusal :=
  .next (if (s.port p).hreset then s
    else (s.updPort p fun q => { q with sticky := putBit q.sticky 6 true, held := none, dq := [] }).raiseLog (portEvent p 7)
      [(1, 2)])

/-- SPnn_HRESET_N has been held 1 µs (R79): both channels' personalities reset; commands are ignored until its release. -/
def State.portReset (s : State) (p : PortId) : State :=
  let s := s.updPort p fun q => { q with hreset := true, held := none, dq := [] }
  (s.personalityReset (chanOf p 0)).personalityReset (chanOf p 1)

/-- HOST_RESET_RELEASE (R79). -/
def execHostResetRelease (p : PortId) (s : State) : Host.Outcome State Fault Refusal :=
  .next (s.updPort p fun q => { q with hreset := false })

end Sys2Proof.Machine
end

