-- ==== Sys2Proof/Machine/Weir.lean ====
section
/-!
DEFINITION. The Weir (R149-R174): which programs and erases a port acts on, their judgement by region class, the host write stream
that a command may open (R210, R211), what each class does, the flash side of a journaled command, suspend and resume, and the
mutable digest.
-/
namespace Sys2Proof.Machine

/-! ## Ranges and contents -/

/-- The page size of the SFDP used in probing (R151). -/
def Chan.pageSize (ch : Chan) : Nat := max 1 ((ch.info.map fun i => i.pageSize).getD 256)

/-- The real part's density; the mirror's extent where none was captured. -/
def Chan.density (ch : Chan) : Nat := max 1 ((ch.info.map fun i => i.density).getD ch.desc.mirrorExtent)

/-- The unit that a command's range is aligned to and as long as (R151). -/
def Chan.unitOf (ch : Chan) : WeirKind → Nat
  | .program => ch.pageSize
  | .erase4k => 0x1000
  | .erase32k => 0x8000
  | .erase64k => 0x10000
  | .chip => ch.density

/-- The first byte of a command's range (R151). -/
def Chan.rangeBase (ch : Chan) (k : WeirKind) (addr : Nat) : Nat := addr % ch.density / ch.unitOf k * ch.unitOf k

/-- The data of a program by offset in its page: data wraps, and of more than a page the last page-size bytes count (R151). -/
def programByte (page addr : Nat) (data : List Byte) (o : Nat) : Option Byte :=
  let skip := data.length - page
  let j := (o + page - (addr + skip) % page) % page
  (data.drop skip)[j]?

/-- The content that a command leaves over an old content (R154, R158): old AND data, or 0xFF. -/
def weirContent (k : WeirKind) (page addr : Nat) (data old : List Byte) : List Byte :=
  match k with
  | .program => old.zipIdx.map fun x =>
      match programByte page addr data x.2 with
      | some d => x.1 &&& d
      | none => x.1
  | _ => old.map fun _ => 0xFF

/-- The typical time of a command in ns (R155). -/
def Chan.typical (ch : Chan) (k : WeirKind) : Nat :=
  let get (f : SfdpInfo → Option Nat) (d : Nat) : Nat := (ch.info.bind f).getD d
  match k with
  | .program => get (fun i => i.typProgram) 500000
  | .erase4k => get (fun i => i.typErase4k) 45000000
  | .erase32k => get (fun i => i.typErase32k) 120000000
  | .erase64k => get (fun i => i.typErase64k) 150000000
  | .chip => get (fun i => i.typChip) (get (fun i => i.typErase64k) 150000000 * ch.density / 0x10000)

/-- The maximum time of a command in ns (R159). -/
def Chan.maxTime (ch : Chan) (k : WeirKind) : Nat := ch.typical k * (ch.info.bind fun i => i.multiplier).getD 6

/-! ## Judgement -/

/-- A judgement of R152: the way the command is carried out, the cause, the event's offset, and the region it names. -/
structure Judged where
  cls : WeirClass
  cause : Nat
  event : Option Nat
  region : RegionAt
  deriving DecidableEq, Repr

/-- The region that row 2 names (R152). -/
def beyondRegion : RegionAt := ⟨.locked, .signed, 0xFFFE, false, 0⟩

/-- Is a leaf inside an erase suspended on the channel (R152 row 5). -/
def Chan.inSuspended (ch : Chan) (leaf : Nat) : Bool :=
  match ch.op with
  | some o => o.hostSusp && o.kind.isErase && (leavesOf o.addr o.len).contains leaf
  | none => false

/-- The rows of R152 below the first, by the regions of the leaves touched. R152 names the rule_id of rows 2 to 4 alone; the record of row
1, 5 or 6 names the class and rule of the first leaf touched (DESIGN CHOICE, log entry 134). -/
def judgeRows (ch : Chan) (rs : List (Nat × RegionAt)) : Judged :=
  let first := (rs.map fun r => r.2).headD beyondRegion
  let find (q : Nat × RegionAt → Bool) : Option RegionAt := (rs.find? q).map fun r => r.2
  if rs.any fun r => decide (ch.desc.leafCount ≤ r.1) then ⟨.refused, 4, some 20, beyondRegion⟩
  else match find (fun r => r.2.cls == .loggedDeny), find (fun r => r.2.cls == .locked) with
    | some r, _ => ⟨.refused, 2, some 21, r⟩
    | none, some r => ⟨.refused, 1, some 20, r⟩
    | none, none =>
      if rs.any fun r => ch.inSuspended r.1 then ⟨.refused, 6, some 20, first⟩
      else if rs.all fun r => r.2.cls == .journaled then
        ⟨.journaled, 0, if rs.any fun r => r.2.journalEvent then some 23 else none, first⟩
      else if rs.all fun r => r.2.cls == .shadowed then ⟨.shadowed, 0, none, first⟩
      else ⟨.refused, 3, some 20, first⟩

/-- A leaf of the stream window (R210): a rule marks it of kind signed or unused and of a class other than LOGGED_DENY. -/
def State.inWindow (s : State) (c : ChanId) (leaf : Nat) : Bool :=
  decide (leaf < (s.chan c).desc.leafCount)
  && (match s.ruleAt c (leaf * 4096) with
    | some r => r.kind != .mutable_ && r.cls != .loggedDeny
    | none => false)

/-- The leaves of the stream window. -/
def State.windowLeaves (s : State) (c : ChanId) : List Nat := (List.range (s.chan c).desc.leafCount).filter (s.inWindow c)

/-- Has the channel a JOURNALED leaf (R211). -/
def State.hasJournaled (s : State) (c : ChanId) : Bool :=
  (List.range (s.chan c).desc.leafCount).any fun l => (s.leafRegion c l).cls == .journaled

/-- The judgement of a command (R152, R165, R211). -/
def State.weirJudge (s : State) (c : ChanId) (k : WeirKind) (leaves : List Nat) : Judged :=
  let rs := leaves.map fun l => (l, s.leafRegion c l)
  let first := s.leafRegion c (leaves.headD 0)
  if (s.target (.chan c)).stream ≠ 1 then
    if k = .chip then ⟨.refused, 5, some 22, first⟩ else judgeRows (s.chan c) rs
  else if k = .chip then
    if s.hasJournaled c then ⟨.refused, 5, some 22, first⟩ else ⟨.stream, 0, none, first⟩
  else if leaves.all (s.inWindow c) then ⟨.stream, 0, none, first⟩
  else if leaves.any (s.inWindow c) then ⟨.refused, 3, some 20, first⟩
  else judgeRows (s.chan c) rs

/-! ## The stream -/

/-- Would the command open a stream (R210); a chip erase does not (R165: it is refused unless a stream is open). -/
def State.opensStream (s : State) (c : ChanId) (k : WeirKind) (leaves : List Nat) : Bool :=
  k != .chip && s.pnat 0x0A20 (c.val + 1) 0 == 1 && (s.dev.mode == .hold || s.dev.mode == .guard) && (s.chan c).state == .released
  && leaves.any (s.inWindow c)

/-- stream_idle_s of a channel, in ns (R240). -/
def State.streamIdle (s : State) (c : ChanId) : Nat := s.pnat 0x0A23 (c.val + 1) 600 * secNs

/-- STREAM_OPEN (R210, R219): the channel enters UPDATING before judgement, where the reservation succeeds; else the update is refused with
FULL. -/
def State.streamOpen (s : State) (c : ChanId) : State :=
  match s.reserve (.chan c) (s.chan c).desc.mirrorExtent with
  | none => s.updTarget (.chan c) fun u => { u with status := .full }
  | some s =>
    let s := s.updTarget (.chan c) fun u =>
      { u with state := 1, layout := 2, route := some .stream, stream := 1, staged := [], idleAt := some (s.time + s.streamIdle c) }
    let m := lookupD s.rill.volatile (0x0A2200 + c.val + 1) []
    (s.setChan c .updating).writeIntent (.chan c) m

/-- A command that touches the window puts the stream's idle limit off (R212). -/
def State.streamTouch (s : State) (c : ChanId) (leaves : List Nat) : State :=
  if (s.target (.chan c)).stream = 1 ∧ leaves.any (s.inWindow c) then
    s.updTarget (.chan c) fun u => { u with idleAt := some (s.time + s.streamIdle c) }
  else s

/-- A leaf first touched is copied from the mirror into the staging region (R211). -/
def State.stageLeaf (s : State) (c : ChanId) (leaf : Nat) : State :=
  let u := s.target (.chan c)
  match u.staging with
  | none => s
  | some o =>
    if u.staged.contains leaf then s
    else (s.stagingWrite (o + leaf * 4096) (s.mirrorBytes c (leaf * 4096) 4096)).updTarget (.chan c) fun u =>
      { u with staged := u.staged ++ [leaf] }

/-- A command applied to the staged copy (R211); it touches its leaves as any Weir write does (R76). -/
def State.streamApply (s : State) (c : ChanId) (k : WeirKind) (base len addr : Nat) (data : List Byte) : State :=
  let ls := if k = .chip then s.windowLeaves c else leavesOf base len
  let s := ls.foldl (fun s l => s.stageLeaf c l) s
  match (s.target (.chan c)).staging with
  | none => s
  | some o =>
    let s := s.dropPrefetch c fun l => ls.contains l
    if k = .chip then ls.foldl (fun s l => s.stagingWrite (o + l * 4096) (List.replicate 4096 0xFF)) s
    else s.stagingWrite (o + base) (weirContent k (s.chan c).pageSize addr data (s.bytes (dramBase + o + base) len))

/-! ## Logging -/

/-- The body of a deny record (R173). -/
def denyBody (c : ChanId) (opcode : Byte) (addr len : Nat) (j : Judged) (now : Nat) : List LogField :=
  [(1, c.val), (1, opcode.toNat), (4, addr), (4, len), (1, j.region.cls.num), (2, j.region.ruleId), (1, j.cause), (8, now)]

/-- Records per second of a refusal (R173). -/
def Judged.rate (j : Judged) : Nat := if j.cause = 2 then (if j.region.denyRate = 0 then 16 else j.region.denyRate) else 1

/-- The log source of a refusal: the channel, and for LOGGED_DENY its rule (R173). -/
def Judged.source (j : Judged) (c : ChanId) (e : Nat) : Nat :=
  e * 0x1000000 + c.val * 0x10000 + (if j.cause = 2 then j.region.ruleId else 0xFFFF)

/-- The counter of a refusal (R174). -/
def ChanStats.deny (st : ChanStats) (cause : Nat) : ChanStats :=
  match cause with
  | 5 => { st with chipEraseDenied := satInc 32 st.chipEraseDenied }
  | 2 => { st with loggedDenied := satInc 32 st.loggedDenied }
  | _ => { st with denied := satInc 32 st.denied }

/-- A refusal's event, limited record and counters (R152, R173, R174). -/
def State.weirDeny (s : State) (c : ChanId) (opcode : Byte) (addr len : Nat) (j : Judged) : State :=
  let e := portEvent c.port (j.event.getD 20)
  let s := (s.raise e).updChan c fun ch => { ch with stats := ch.stats.deny j.cause }
  let before := s.log.nextSeq
  let s := s.logLimited j.rate (j.source c e) .event e 0 ((1, c.cs.val) :: denyBody c opcode addr len j s.time)
  if s.log.nextSeq = before then
    s.updChan c fun ch => { ch with stats := { ch.stats with denySuppressed := satInc 32 ch.stats.denySuppressed } }
  else s

/-! ## Acting -/

/-- The next place in the order of judgement on a port (R160). -/
def State.nextOrder (s : State) (p : PortId) : Nat :=
  let o (c : ChanId) : Nat := max (((s.chan c).op.map fun x => x.order).getD 0) (((s.chan c).inner.map fun x => x.order).getD 0)
  max (o (chanOf p 0)) (o (chanOf p 1)) + 1

/-- A command in flight. -/
def newOp (k : WeirKind) (opcode : Byte) (addr len : Nat) (data : List Byte) (cls : WeirClass) (order deadline : Nat)
    (held : Bool) : WeirOp :=
  { kind := k, opcode := opcode, addr := addr, len := len, data := data, cls := cls,
    phase := if cls = .journaled then .waitFlash else .timed, order := order, deadline := deadline, ran := 0,
    timedOut := false, resetAt := 0, hostSusp := false, suspAt := 0, suspLat := none, deviceSusp := false,
    afterReset := false, heldForLine := held, innerUsed := false }

/-- The command takes its place in the channel: inside a suspended erase, which takes one (R167), or as the command in flight. -/
def Chan.putOp (ch : Chan) (o : WeirOp) : Chan :=
  match ch.op with
  | some e => { ch with op := some { e with innerUsed := true }, inner := some o }
  | none => { ch with op := some o, issued := [] }

/-- The end of the refusal or emulated time of a judged command (R155, R164); the minimum of 4.0 µs for a refusal (DESIGN CHOICE,
log entry 23). -/
def Chan.opEnd (ch : Chan) (now : Nat) (k : WeirKind) (cls : WeirClass) : Nat :=
  match cls with
  | .refused => now + 4000
  | .journaled => 0
  | _ => now + ch.typical k

/-- A SHADOWED command's content on the mirror (R154). -/
def State.shadowApply (s : State) (c : ChanId) (k : WeirKind) (base len addr : Nat) (data : List Byte) : State :=
  let s := s.mirrorWrite c base (weirContent k (s.chan c).pageSize addr data (s.mirrorBytes c base len))
  s.updChan c fun ch => { ch with stats := { ch.stats with appliedShadowed := satInc 32 ch.stats.appliedShadowed } }

/-- A judged command takes effect (R154): held where a line may not be written now (R120). -/
def State.weirApply (s : State) (c : ChanId) (k : WeirKind) (opcode : Byte) (base len addr : Nat) (data : List Byte)
    (j : Judged) : State :=
  let held := j.cls = .shadowed ∧ ! s.rangeFree c base len
  let data' := match k with
    | .program => (List.range len).map fun o => (programByte (s.chan c).pageSize addr data o).getD 0xFF
    | _ => []
  let s := match j.cls with
    | .shadowed => if held then s.raiseLog 1027 [(1, c.val), (4, base)] else s.shadowApply c k base len addr data
    | .stream => s.streamApply c k base len addr data
    | .refused => s.weirDeny c opcode addr len j
    | .journaled => match j.event with
      | some e => s.raiseLog (portEvent c.port e) [(1, c.cs.val), (1, c.val)]
      | none => s
  s.updChan c fun ch =>
    ch.putOp (newOp k opcode base len data' j.cls (s.nextOrder c.port) (ch.opEnd s.time k j.cls) held)

/-- Does the port act on a program or erase (R150, R167): inside an erase suspend, on one program. -/
def Chan.actsOn (ch : Chan) (k : WeirKind) (data : List Byte) : Bool :=
  ch.wel && ! ch.gated && ! (k == .program && data.isEmpty)
  && (match ch.op with
    | none => true
    | some o => ch.suspended && o.kind.isErase && ch.inner.isNone && ! o.innerUsed && k == .program)

/-- The leaves a lookup misses in the cached rules raise RULE_MISS once a command (R96). -/
def State.weirMiss (s : State) (c : ChanId) (leaves : List Nat) : State :=
  match leaves.find? fun l => s.ruleMiss c (l * 4096) with
  | some l => s.ruleMissEvent c (l * 4096)
  | none => s

/-- Something done under the descriptor that serves the channel (R101): under a pending reload the staged one, and the cached one stands
again afterwards until the reload. -/
def State.underServing (s : State) (c : ChanId) (f : State → State) : State :=
  match (s.chan c).staged with
  | none => f s
  | some _ =>
    let o := s.chan c
    let s := f (s.updChan c fun _ => s.servingChan c)
    s.updChan c fun ch => { ch with desc := o.desc, rules := o.rules, gen := o.gen, pins := o.pins, pinsLoaded := o.pinsLoaded }

/-- A program or erase that the port acts on, from the rise of the chip select to the end of its judgement (R152, R153, R163);
under a pending reload by the new descriptor (R101). -/
def State.weirAct (s : State) (tx : HostTx) (k : WeirKind) (opcode : Byte) (addr : Nat) (data : List Byte) : State :=
  let c := tx.chan
  let ch := s.chan c
  if ! ch.actsOn k data then s
  else
    let a := addr % ch.density
    let base := ch.rangeBase k addr
    let len := ch.unitOf k
    let leaves := leavesOf base len
    let s := s.updChan c fun ch => { ch with progErr := false, eraseErr := false, wip := true }
    s.underServing c fun s =>
      let s := if s.opensStream c k leaves then s.streamOpen c else s
      let s := (s.streamTouch c leaves).weirMiss c leaves
      s.weirApply c k opcode base len a data (s.weirJudge c k leaves)

/-- The program and erase opcodes that carry a 4-byte address (R77). -/
def fourByteOp (opcode : Byte) : Bool := [0x12, 0x34, 0x3E, 0x84, 0x8E, 0x21, 0x5C, 0xDC].contains opcode.toNat

/-- A program or erase command (R149): an unknown command where the real part has no 4-byte opcodes and it is one. -/
def State.weirCmd (s : State) (tx : HostTx) (k : WeirKind) (opcode : Byte) (addr : Nat) (data : List Byte) : State :=
  s.stateCmd tx false fun s =>
    let ch := s.chan tx.chan
    if fourByteOp opcode ∧ ! ch.has4 then s.unknownCmd tx opcode.toNat
    else s.weirAct tx k opcode (addr % ch.addrRange (fourByteOp opcode)) data

/-- PAGE_PROGRAM (R152). -/
def execPageProgram (tx : HostTx) (opcode : Byte) (addr : Nat) (data : List Byte) (s : State) :
    Host.Outcome State Fault Refusal := .next (s.weirCmd tx .program opcode addr data)

/-- ERASE_4K (R152). -/
def execErase4K (tx : HostTx) (opcode : Byte) (addr : Nat) (s : State) : Host.Outcome State Fault Refusal :=
  .next (s.weirCmd tx .erase4k opcode addr [])

/-- ERASE_32K (R152). -/
def execErase32K (tx : HostTx) (opcode : Byte) (addr : Nat) (s : State) : Host.Outcome State Fault Refusal :=
  .next (s.weirCmd tx .erase32k opcode addr [])

/-- ERASE_64K (R152). -/
def execErase64K (tx : HostTx) (opcode : Byte) (addr : Nat) (s : State) : Host.Outcome State Fault Refusal :=
  .next (s.weirCmd tx .erase64k opcode addr [])

/-- CHIP_ERASE (R165). -/
def execChipErase (tx : HostTx) (opcode : Byte) (s : State) : Host.Outcome State Fault Refusal :=
  .next (s.weirCmd tx .chip opcode 0 [])

/-! ## The end of a command -/

/-- Changes the current command. -/
def Chan.updCurrent (ch : Chan) (f : WeirOp → WeirOp) : Chan :=
  if ch.inner.isSome then { ch with inner := ch.inner.map f } else { ch with op := ch.op.map f }

/-- The current command where it is in a phase. -/
def State.opIn (s : State) (c : ChanId) (ph : WeirPhase) : Option WeirOp := (s.chan c).current.filter fun o => o.phase == ph

/-- The current command ends (R157, R163, R164): WIP and WEL clear, a failure sets the fail bit of the command's kind. -/
def Chan.endOp (ch : Chan) (failed : Bool) : Chan :=
  let erase := (ch.current.map fun o => o.kind.isErase).getD false
  let op := if ch.inner.isSome then ch.op else none
  { ch with op := op, inner := none, wel := false, wip := (op.map fun o => ! o.hostSusp).getD false,
            suspended := ch.suspended && op.isSome, progErr := ch.progErr || (failed && ! erase),
            eraseErr := ch.eraseErr || (failed && erase) }

/-- WEIR_REFUSAL_END (R164). -/
def execWeirRefusalEnd (c : ChanId) (s : State) : Host.Outcome State Fault Refusal :=
  .next (match s.opIn c .timed with
    | some o => if o.cls = .refused ∧ ! o.hostSusp then (s.advanceTo o.deadline).updChan c fun ch => ch.endOp true else s
    | none => s)

/-- SHADOWED_DURATION_END (R155, R211). -/
def execShadowedDurationEnd (c : ChanId) (s : State) : Host.Outcome State Fault Refusal :=
  .next (match s.opIn c .timed with
    | some o =>
      if o.cls ≠ .refused ∧ ! o.hostSusp ∧ ! o.heldForLine then (s.advanceTo o.deadline).updChan c fun ch => ch.endOp false else s
    | none => s)

/-- A SHADOWED command held for a line takes effect once the line may be written (R120). -/
def State.retryHeld (s : State) (c : ChanId) : State :=
  match s.opIn c .timed with
  | some o =>
    if o.heldForLine ∧ s.rangeFree c o.addr o.len then
      (s.shadowApply c o.kind o.addr o.len o.addr o.data).updChan c fun ch =>
        ch.updCurrent fun o => { o with heldForLine := false, deadline := max o.deadline s.time }
    else s
  | none => s

/-! ## The flash side -/

/-- Does a repair of the channel hold the range of a command (R139). -/
def Chan.underRepair (ch : Chan) (o : WeirOp) : Bool :=
  match ch.repair with
  | some r => decide (o.addr < r.unit + r.unitLen) && decide (r.unit < o.addr + o.len)
  | none => false

/-- The commands waiting on a port that may start, by their order of judgement (R140, R156, R160). -/
def State.waitingOrder (s : State) (c : ChanId) : Option Nat :=
  match s.opIn c .waitFlash with
  | some o => if o.hostSusp ∨ (s.chan c).gaveUp ∨ (s.chan c).underRepair o then none else some o.order
  | none => none

/-- The real part's opcode for a command on its flash side (R156): the host's where the SFDP names no other. -/
def Chan.flashOpcode (ch : Chan) (o : WeirOp) : Byte :=
  (((ch.info.map fun i => i.opcodes).getD []).find? fun x => x.1 == o.kind).elim o.opcode fun x => x.2

/-- The port's own write enable, then the command (R156). -/
def Chan.issueOp (ch : Chan) : Chan :=
  match ch.current with
  | some o => (ch.issue 0x06 0).issue (ch.flashOpcode o) o.addr
  | none => ch

/-- JOURNAL_FLASH_START (R156, R160): the write enable and the command go to the real part, once a repair under way on the port has come
to its end (R139, R140). -/
def State.flashStart (s : State) (c : ChanId) : State :=
  match s.waitingOrder c with
  | none => s
  | some n =>
    let other := s.waitingOrder c.sibling
    if s.dev.freeze ∨ (other.map fun m => decide (m < n)).getD false ∨ s.repairOn c ∨ s.repairOn c.sibling then s
    else s.updChan c fun ch => (ch.updCurrent fun o => { o with phase := .running, deadline := s.time }).issueOp

/-- JOURNAL_FLASH_START (R156). -/
def execJournalFlashStart (c : ChanId) (s : State) : Host.Outcome State Fault Refusal := .next (s.flashStart c)

/-- FLASH_STATUS_POLL (R157, R159): completion starts the read-back; after a give-up the chip select is free again. -/
def State.statusPoll (s : State) (c : ChanId) (busy : Bool) : State :=
  if busy then s
  else match (s.chan c).current with
    | some o =>
      if (o.phase = .running ∧ o.executes) ∨ o.phase = .busyPoll then
        s.updChan c fun ch => ch.updCurrent fun o => { o with phase := .readback }
      else s.updChan c fun ch => { ch with gaveUp := false }
    | none => s.updChan c fun ch => { ch with gaveUp := false }

/-- FLASH_STATUS_POLL (R157). -/
def execFlashStatusPoll (c : ChanId) (busy : Bool) (s : State) : Host.Outcome State Fault Refusal := .next (s.statusPoll c busy)

/-- The first offset at which two contents differ. -/
def firstDiff (a b : List Byte) : Nat := ((a.zip b).zipIdx.find? fun x => x.1.1 != x.1.2).elim (min a.length b.length) fun x => x.2

/-- A JOURNALED command has completed (R171, R172, R174): the counts of the mutable record. -/
def Chan.noteMutable (ch : Chan) (now : Nat) (failed : Bool) : Chan :=
  { ch with mutCount := ch.mutCount + 1, mutFails := if failed then ch.mutFails + 1 else ch.mutFails,
            mutFirst := if ch.mutCount = 0 then now else ch.mutFirst, mutLast := now,
            stats := { ch.stats with appliedJournaled := satInc 32 ch.stats.appliedJournaled,
                                     flashFail := if failed then satInc 32 ch.stats.flashFail else ch.stats.flashFail } }

/-- The leaves that a JOURNALED command has touched wait for their digest (R170). -/
def Chan.touch (ch : Chan) (leaves : List Nat) : Chan := { ch with touched := ch.touched ++ leaves.filter fun l => ! ch.touched.contains l }

/-- PORTnn_FLASH_FAIL (R158, R159): the command, the address, the first differing offset, and whether it was read back. -/
def State.flashFailEvent (s : State) (c : ChanId) (o : WeirOp) (offset : Nat) (readBack : Bool) : State :=
  s.raiseLog (portEvent c.port 25) [(1, c.cs.val), (1, c.val), (1, o.opcode.toNat), (4, o.addr), (4, offset), (1, b2n readBack)]

/-- The read-back ends (R157, R158): the mirror takes what the flash holds; failure where a fail bit is set, where the content
differs, or where the command was reset. -/
def State.readbackDone (s : State) (c : ChanId) (rb : Readback) : State :=
  match s.opIn c .readback with
  | none => s
  | some o =>
    if ! s.rangeFree c o.addr o.len then
      if o.heldForLine then s
      else (s.updChan c fun ch => ch.updCurrent fun o => { o with heldForLine := true }).raiseLog 1027 [(1, c.val), (4, o.addr)]
    else
      let want := weirContent o.kind o.len o.addr o.data (s.mirrorBytes c o.addr o.len)
      let got := rb.data.take o.len
      let failed := rb.failBit || got != want || o.resetAt != 0
      let s := s.mirrorWrite c o.addr got
      let s := s.updChan c fun ch => ((ch.noteMutable s.time failed).touch (leavesOf o.addr o.len)).endOp failed
      if failed then s.flashFailEvent c o (firstDiff want got) true else s

/-- JOURNAL_READBACK_DONE (R157). -/
def execJournalReadbackDone (c : ChanId) (rb : Readback) (s : State) : Host.Outcome State Fault Refusal :=
  .next (s.readbackDone c rb)

/-- When a command has executed for `n` ns in all. -/
def WeirOp.ranFor (o : WeirOp) (n : Nat) : Nat := o.deadline + (n - o.ran)

/-- FLASH_TIMEOUT (R159): the event, and polling goes on. -/
def State.flashTimeout (s : State) (c : ChanId) : State :=
  match s.opIn c .running with
  | some o =>
    if o.timedOut ∨ ! o.executes then s
    else
      let s := s.advanceTo (o.ranFor ((s.chan c).maxTime o.kind))
      let s := s.updChan c fun ch =>
        { ch.updCurrent fun o => { o with timedOut := true } with
            stats := { ch.stats with flashTimeout := satInc 32 ch.stats.flashTimeout } }
      s.raiseLog (portEvent c.port 26) [(1, c.cs.val), (1, c.val), (1, o.opcode.toNat), (4, o.addr)]
  | none => s

/-- FLASH_TIMEOUT (R159). -/
def execFlashTimeout (c : ChanId) (s : State) : Host.Outcome State Fault Refusal := .next (s.flashTimeout c)

/-- FLASH_TIMEOUT_RESET (R159): at four times the maximum the port resets the chip select alone. -/
def execFlashTimeoutReset (c : ChanId) (s : State) : Host.Outcome State Fault Refusal :=
  .next (match s.opIn c .running with
    | some o =>
      if ! o.timedOut ∨ ! o.executes then s
      else
        let s := s.advanceTo (o.ranFor (4 * (s.chan c).maxTime o.kind))
        s.updChan c fun ch => ((ch.updCurrent fun o => { o with phase := .recovery, resetAt := s.time }).issue 0x66 0).issue 0x99 0
    | none => s)

/-- FLASH_RESET_RECOVERY_END (R159): 1 ms after the reset the polling begins. -/
def execFlashResetRecoveryEnd (c : ChanId) (s : State) : Host.Outcome State Fault Refusal :=
  .next (match s.opIn c .recovery with
    | some o =>
      let s := s.advanceTo (o.resetAt + msNs)
      s.updChan c fun ch => ch.updCurrent fun o => { o with phase := .busyPoll, resetAt := max 1 s.time }
    | none => s)

/-- FLASH_BUSY_GIVE_UP (R159): a failure without a read-back; nothing more is issued to the chip select until it is not busy. -/
def execFlashBusyGiveUp (c : ChanId) (s : State) : Host.Outcome State Fault Refusal :=
  .next (match s.opIn c .busyPoll with
    | some o =>
      let s := s.advanceTo (o.resetAt + 100 * msNs)
      let s := s.updChan c fun ch => { (ch.noteMutable s.time true).endOp true with gaveUp := true }
      s.flashFailEvent c o 0 false
    | none => s)

/-! ## Suspend and resume -/

/-- PORTnn_WEIR_SUSPEND (R166). -/
def State.suspendEvent (s : State) (c : ChanId) : State := s.raiseLog (portEvent c.port 24) [(1, c.cs.val), (1, c.val)]

/-- Does the SFDP used in probing list suspend (R166). -/
def Chan.canSuspend (ch : Chan) : Bool := (ch.info.map fun i => i.suspend).getD false

/-- May a host suspend act on a command: not one whose read-back or reset runs (DESIGN CHOICE, log entry 24). -/
def WeirOp.suspendable (o : WeirOp) : Bool :=
  ! o.hostSusp && (o.phase == .timed || o.phase == .waitFlash || o.phase == .running)

/-- A suspend (R166-R168): the command stops, WIP clears after the suspend latency; one that the real part executes is forwarded to it. -/
def State.weirSuspend (s : State) (c : ChanId) (opcode : Byte) : State :=
  let ch := s.chan c
  match ch.op with
  | some o =>
    if ch.inner.isSome ∨ ! o.suspendable then s
    else
      let lat := (ch.info.map fun i => i.suspendLat).getD 0
      let onPart := decide (o.phase = .running) && ! o.deviceSusp
      let o := if onPart then o.pause s.time else o
      let s := s.updChan c fun ch => { ch with op := some { o with hostSusp := true, suspAt := s.time, suspLat := some (s.time + lat) } }
      (if onPart then s.updChan c fun ch => ch.issue opcode 0 else s).suspendEvent c
  | none => s

/-- PROGRAM_ERASE_SUSPEND (R166). -/
def execProgramEraseSuspend (tx : HostTx) (opcode : Byte) (s : State) : Host.Outcome State Fault Refusal :=
  .next (s.stateCmd tx false fun s =>
    if (s.chan tx.chan).canSuspend then s.weirSuspend tx.chan opcode else s.unknownCmd tx opcode.toNat)

/-- SUSPEND_LATENCY_END (R166). -/
def execSuspendLatencyEnd (c : ChanId) (s : State) : Host.Outcome State Fault Refusal :=
  .next (match (s.chan c).op.bind fun o => o.suspLat with
    | some t => (s.advanceTo t).updChan c fun ch =>
        { ch with wip := false, suspended := true, op := ch.op.map fun o => { o with suspLat := none } }
    | none => s)

/-- A resume (R166, R168): WIP sets at once; the command goes on, forwarded to the real part unless a refill holds it. -/
def State.weirResume (s : State) (c : ChanId) (opcode : Byte) : State :=
  let ch := s.chan c
  match ch.op with
  | some o =>
    if ! o.hostSusp ∨ ch.inner.isSome then s
    else
      let d := if o.phase = .running then (if o.deviceSusp then o.deadline else s.time) else o.deadline + (s.time - o.suspAt)
      let s := s.updChan c fun ch =>
        { ch with wip := true, suspended := false, op := some { o with hostSusp := false, suspLat := none, deadline := d } }
      (if o.phase = .running ∧ ! o.deviceSusp then s.updChan c fun ch => ch.issue opcode 0 else s).suspendEvent c
  | none => s

/-- PROGRAM_ERASE_RESUME (R166). -/
def execProgramEraseResume (tx : HostTx) (opcode : Byte) (s : State) : Host.Outcome State Fault Refusal :=
  .next (s.stateCmd tx false fun s =>
    if (s.chan tx.chan).canSuspend then s.weirResume tx.chan opcode else s.unknownCmd tx opcode.toNat)

/-! ## The mutable digest -/

/-- A leaf that a JOURNALED command touched is hashed from the mirror (R170), by the home half's engine of the port's FILL_MAP; its
digest-area entry takes the digest. -/
def State.mutableLeaf (s : State) (c : ChanId) (leaf : Nat) : State :=
  if ! (s.chan c).touched.contains leaf ∨ (s.chan c).desc.leafCount ≤ leaf then s
  else
    let s := (s.updChan c fun ch => { ch with touched := ch.touched.erase leaf }).chargeFill c.port.home c.port
    s.putLeafDigest c leaf (sha384 (s.mirrorBytes c (leaf * 4096) 4096))

/-- MUTABLE_LEAF_HASHED (R170). -/
def execMutableLeafHashed (c : ChanId) (leaf : Nat) (s : State) : Host.Outcome State Fault Refusal := .next (s.mutableLeaf c leaf)

/-- The mutable digest of a channel (R171). -/
def State.mutableDigest (s : State) (c : ChanId) : Digest :=
  let ls := (List.range (s.chan c).desc.leafCount).filter fun l => (s.leafRegion c l).cls == .journaled
  if ls.isEmpty then 0 else sha384 (ls.flatMap fun l => leBytes 4 l ++ digestBytes (s.leafDigest c l))

/-- The digest of the Channel Table and of the rules in use, which the steward posts (R20, R105): over the table, the state bytes
that the mirror controller writes (R91) taken as 0, and each enabled descriptor's rules in channel order (DEDUCED, log entry 25). -/
def State.tableDigest (s : State) : Digest :=
  sha384 (((List.finRange 64).flatMap fun c => 0 :: (s.descBytes c).drop 1)
    ++ (List.finRange 64).flatMap fun c =>
        let d := descOf (s.descBytes c)
        if d.enable then s.bytes d.ruleBase (32 * d.ruleCount) else [])

/-- The steward posts the table digest anew. -/
def State.repostDigest (s : State) : State := { s with dev := { s.dev with chtPosted := some s.tableDigest } }

/-- The shadow's check of the Channel Table digest (R20), at the next whole 100 ms: the digest that it computes over the table and the
rules in use, off by a fault of its engine (0 of a sound one); SW_DIGEST with the half and both digests where they differ. -/
def State.digestCheck (s : State) (off : Digest) : State :=
  match s.hg.steward, s.dev.chtPosted with
  | some st, some p =>
    let s := s.advanceTo (nextMultiple s.time (100 * msNs))
    let d := s.tableDigest ^^^ off
    if d = p then { s with dev := { s.dev with chtMismatch := false } }
    else
      let s := { s with dev := { s.dev with chtMismatch := true } }
      s.raiseLog 1532 [(1, st.other.num), (48, d.toNat), (48, p.toNat)]
  | _, _ => s

/-- SHADOW_DIGEST_CHECK (R20). -/
def execShadowDigestCheck (off : Digest) (s : State) : Host.Outcome State Fault Refusal := .next (s.digestCheck off)

/-- The mutable digest falls due (R172): 1 s after the last command, at latest 10 s after the first; it is written to the
descriptor, the table digest reposted, MUTABLE appended. -/
def State.mutableRecompute (s : State) (c : ChanId) : State :=
  let ch := s.chan c
  if ch.mutCount = 0 ∨ ch.staged.isSome ∨ (s.mir.invals.any fun i => i.chan == c) = true ∨ s.hg.steward.isNone then s
  else
    let s := s.advanceTo (min (ch.mutLast + secNs) (ch.mutFirst + 10 * secNs))
    let d := s.mutableDigest c
    let s := s.store (s.mir.chtBase.toNat + c.val * 0x100 + 0x60) (digestBytes d)
    let s := s.updChan c fun ch => { ch with desc := { ch.desc with mutableDigest := d }, mutCount := 0, mutFails := 0 }
    s.repostDigest.logMeas .mutable_ [(1, c.val), (48, d.toNat), (4, ch.mutCount), (4, ch.mutFails), (8, s.time)]

/-- MUTABLE_DIGEST_RECOMPUTE (R172). -/
def execMutableDigestRecompute (c : ChanId) (s : State) : Host.Outcome State Fault Refusal := .next (s.mutableRecompute c)

end Sys2Proof.Machine
end

