-- ==== Sys2Proof/Machine/Mirror.lean ====
section
/-!
DEFINITION. The mirror controller's commands (R109-R148): training, fills, refills, the fault rate, re-sealing, scrub and repair,
channel commands, pin loads.
-/
namespace Sys2Proof.Machine

/-! ## Training (R109, R110, R119) -/

/-- Training ends: every epoch is zeroed, every counter line sealed with zero versions; needs the keys (R119, R146). -/
def State.sealLines (s : State) : State :=
  if s.mir.keysValid ∧ s.mir.training.isNone ∧ s.mir.chanOk ≠ 0 ∧ ! s.mir.ready then
    let s := { s with mir := { s.mir with versions := [], seals := [], stageSeals := [], heldDigests := [], ready := true } }
    (s.erase (epochAddr 0) 0x40000).raiseLog 1008 []
  else s

/-- A write of MIRCTL.CTL.train (R109); while a training runs it changes nothing. -/
def State.train (s : State) : State :=
  if s.mir.training.isSome then s
  else { s with mir := { s.mir with training := some (0, 0), ready := false, trainFail := false, chanOk := 0 } }

/-- MIRCTL_TRAIN (R109). -/
def execMirctlTrain (half : Half) (s : State) : Host.Outcome State Fault Refusal :=
  .next (s.halfBus half 0x40060000 23 true State.train)

/-- What one training run came to (R110): a DRAM channel that has failed three times is given up; with both given up mission firmware
reports INTERNAL, and the device goes into QUARANTINE in freeze form. -/
def State.trainDone (s : State) (o : TrainOutcome) : State :=
  match s.mir.training with
  | none => s
  | some (f0, f1) =>
    let f0 := if o.ok0 then f0 else f0 + 1
    let f1 := if o.ok1 then f1 else f1 + 1
    let settled0 := o.ok0 || decide (3 ≤ f0)
    let settled1 := o.ok1 || decide (3 ≤ f1)
    if ! (settled0 && settled1) then { s with mir := { s.mir with training := some (f0, f1) } }
    else
      let ok0 := o.ok0 && decide (f0 < 3)
      let ok1 := o.ok1 && decide (f1 < 3)
      let s := { s with mir := { s.mir with training := none, chanOk := BitVec.ofNat 2 (b2n ok0 + 2 * b2n ok1),
                                            trainFail := ! ok0 && ! ok1 } }
      let s := if ok0 && ok1 then s else s.raiseLog 1009 [(1, b2n ok0), (1, b2n ok1)]
      if ! ok0 && ! ok1 then (s.logIt .event noEvent Code.internal.num [(1, 0), (1, 0)]).quarantineFreeze 13 else s.sealLines

/-! ## Filling (R121-R124) -/

/-- 4,096 bytes of a leaf, missing ones 0xFF. -/
def leafBytes (data : List Byte) : List Byte := data.take 4096 ++ List.replicate (4096 - data.length) 0xFF

/-- The next leaf of a fill arrives (R121): the mirror and an engine of each half; the fill waits for its turn at the port, for operations
of higher rank (R140), for training and for a line that may be written. Where a channel served from its mirror is verified again (R46),
the leaf is hashed alone: the host goes on reading the mirror. -/
def State.fillLeaf (s : State) (c : ChanId) (data : List Byte) : State :=
  let ch := s.chan c
  match ch.fillNext with
  | none => s
  | some n =>
    if ! s.filling c ∨ ! s.fillTurn c ∨ s.higherWaits c.port 3 ∨ ch.gaveUp ∨ ! s.mir.ready ∨ ch.desc.leafCount ≤ n then s
    else if ! ch.state.served ∧ ! s.rangeFree c (n * 4096) 4096 then s.raiseLog 1027 [(1, c.val), (4, n)]
    else
      let s := if n = 0 then s.markFill c.port true else s
      let s := (s.chargeFill .indigo c.port).chargeFill .amber c.port
      let s := if ch.state.served then s.updChan c fun ch => { ch with rereads := setKey ch.rereads n (sha384 (leafBytes data)) }
        else s.mirrorWrite c (n * 4096) (leafBytes data)
      let s := s.updChan c fun ch => { ch with fillNext := some (n + 1), fillCount := n + 1 }
      if n + 1 = ch.desc.leafCount then (s.markFill c.port false).raiseLog 1010 [(1, c.val)] else s

/-- FILL_LEAF (R121). -/
def execFillLeaf (c : ChanId) (data : List Byte) (s : State) : Host.Outcome State Fault Refusal := .next (s.fillLeaf c data)

/-- A half's engine gives the digest of a leaf of the fill. -/
def Chan.noteDigest (ch : Chan) (h : Half) (leaf : Nat) (d : Digest) : Chan :=
  { ch with fillDig := ch.fillDig.upd h fun l => setKey l leaf d }

/-- Both engines' digests of a leaf (R122): the SHA-384 of the leaf as the fill put it into the mirror, off by what a faulty engine makes
of it (0 of a sound one). Equal, they go into the digest area, but for a channel served meanwhile; different, the fill ends as a verdict conflict. -/
def State.fillDigests (s : State) (c : ChanId) (leaf : Nat) (off : Both Digest) (ns : Both Nat) : State :=
  let ch := s.chan c
  let d := if ch.state.served then lookupD ch.rereads leaf 0 else sha384 (s.mirrorBytes c (leaf * 4096) 4096)
  let s := if ! s.filling c ∨ ch.fillNext.getD 0 ≤ leaf then s
    else ((s.fillTime .indigo c.port ns.indigo).fillTime .amber c.port ns.amber).updChan c fun ch =>
      (ch.noteDigest .indigo leaf (d ^^^ off.indigo)).noteDigest .amber leaf (d ^^^ off.amber)
  if ! s.filling c ∨ ch.fillNext.getD 0 ≤ leaf then s
  else if off.indigo = off.amber then (if ch.state.served then s else s.putLeafDigest c leaf (d ^^^ off.indigo))
  else
    let s := (s.raiseLog 1012 [(1, c.val), (4, leaf)]).raiseLog 1011 [(1, c.val), (4, leaf)]
    ((s.updChan c fun ch => { ch with fillNext := none }).markFill c.port false).conflict c

/-- FILL_LEAF_DIGESTS (R122). -/
def execFillLeafDigests (c : ChanId) (leaf : Nat) (off : Both Digest) (ns : Both Nat) (s : State) : Host.Outcome State Fault Refusal :=
  .next (s.fillDigests c leaf off ns)

/-- Can manifests be loaded from the catalogue (R577): online or read-only. -/
def State.catalogueReadable (s : State) : Bool := s.cis.state == 2 || s.cis.state == 3

/-- The container of a catalogue entry. -/
def State.catContainer (s : State) (handle : Nat) : Option (List Byte) :=
  if s.catalogueReadable then
    ((s.cis.catalogue.find? fun e => e.handle == handle).filter fun e => e.readable).map fun e => e.container
  else none

/-- The verification that a half runs of a target. -/
def State.verOf (s : State) (h : Half) (t : Target) : Option Verification := (s.upd.vers.get h).find? fun v => v.target == t

/-- A half ends a verification, with its result. -/
def State.endVer (s : State) (h : Half) (t : Target) : State :=
  { s with upd := { s.upd with vers := s.upd.vers.upd h fun l => l.filter fun v => v.target != t } }

/-- The manifest a half judges a channel against: the container its verification holds (a recovered one, R577), else the catalogue
entry of manifest_ref. -/
def State.manifestOf (s : State) (h : Half) (c : ChanId) : Option (List Byte) :=
  match (s.verOf h (.chan c)).map fun v => v.container with
  | some (b :: bs) => some (b :: bs)
  | _ => s.catContainer (s.chan c).desc.manifestRef

/-- The first signed leaf whose digest-area entry differs from the manifest's leaf level (R124). -/
def State.firstBadLeaf (s : State) (c : ChanId) (m : List Byte) : Option Nat :=
  (imgLeafLevel m).zipIdx.findSome? fun x =>
    if imgLeafKind m x.2 = 0 ∧ s.leafDigest c x.2 ≠ x.1 then some x.2 else none

/-- A VERDICT record of a verdict that is not OK (R205); no group where none failed: a device fault's INTERNAL (R203), or a code that a
core posts of itself. -/
def State.verdictRecord (s : State) (h : Half) (t : Target) (gen : Nat) (code : Code) (g : Option CheckGroup) (m : List Byte)
    (bad : Option Nat) : State :=
  s.logIt .verdict noEvent code.num
    ([(1, h.num), (1, t.code), (2, gen), (1, code.num), (1, (g.map CheckGroup.num).getD 0), (1, imgSlot m), (4, imgSvn m), (1, s.floorVal t), (8, s.time)]
      ++ (match bad with
        | some l => [(4, l)]
        | none => []))

/-- The steward rewrites a channel's digest-area slot from a leaf level (R124, R133, R181): the entries of signed leaves as listed, those
of mutable and unused leaves by hashing the mirror. -/
def State.rewriteDigests (s : State) (c : ChanId) (m : List Byte) : State :=
  let s := (imgLeafLevel m).zipIdx.foldl (fun (s : State) x =>
    s.putLeafDigest c x.2 (if imgLeafKind m x.2 = 0 then x.1 else sha384 (s.mirrorBytes c (x.2 * 4096) 4096))) s
  s.updChan c fun ch => { ch with digestFault := false }

/-- The root that the digest area gives under a manifest (R123, R180). -/
def State.areaRoot (s : State) (c : ChanId) (m : List Byte) : Digest :=
  imgRootOf m ((List.range (imgLeaves m)).map fun i => s.leafDigest c i)

/-- A half's result of a channel's verification is posted (R196, R197, R205): the root verified where it is good. -/
def State.postResult (s : State) (h : Half) (c : ChanId) (m : List Byte) (root : Digest) (g : Option CheckGroup) : State :=
  let s := s.endVer h (.chan c)
  match g with
  | none => (s.updChan c fun ch => { ch with verified := ch.verified.set h (some root) }).postVerdict h c root .ok
  | some g => (s.verdictRecord h (.chan c) (s.chan c).gen g.fail (some g) m (s.firstBadLeaf c m)).postVerdict h c root g.fail

/-- A half reports a device fault of its big-number engine in its verdict (R203): INTERNAL. -/
def State.postInternal (s : State) (h : Half) (c : ChanId) (m : List Byte) : State :=
  ((s.endVer h (.chan c)).verdictRecord h (.chan c) (s.chan c).gen .internal none m none).postVerdict h c (imgRoot m) .internal

/-- Does the half withhold its release verdicts (R20): the shadow, since its last check of the table's digest differed. -/
def State.withholds (s : State) (h : Half) : Bool := s.dev.chtMismatch && ! s.isSteward h

/-- A half's verification of a channel that stands at its last stage with its root, the verdict withheld. -/
def State.verdictWaits (s : State) (h : Half) (c : ChanId) (m : List Byte) (root : Digest) : State :=
  let held (v : Verification) : Verification :=
    if v.target = .chan c then { v with container := m, stage := 9, failed := none, root := some root } else v
  { s with upd := { s.upd with vers := s.upd.vers.upd h fun l => l.map held } }

/-- Every listed leaf is loaded in its pinned slot (R123, R144). -/
def Chan.pinsReady (ch : Chan) : Bool := ch.pins.all fun p => ch.pinsLoaded.contains p.1

/-- The digests that a half's own engine has given of a manifest's leaves. -/
def Chan.ownDigests (ch : Chan) (h : Half) (n : Nat) : List Digest := (List.range n).map fun i => lookupD (ch.fillDig.get h) i 0

/-- The root that a half folds from its own engine's digests (R123). -/
def State.halfRoot (s : State) (h : Half) (c : ChanId) (m : List Byte) : Digest := imgRootOf m ((s.chan c).ownDigests h (imgLeaves m))

/-- Has a half's engine given the digest of every leaf of the fill (R123). -/
def Chan.digestsIn (ch : Chan) (h : Half) : Bool :=
  (List.range ch.desc.leafCount).all fun i => (ch.fillDig.get h).any fun x => x.1 == i

/-- What stages 6 to 9 find of a filled image (R123, R186, R196): the half's own root against the signed one, both image
signatures, then the fuses as they stand. -/
def State.fillGroup (s : State) (c : ChanId) (m : List Byte) (root : Digest) (reject : Bool) : Option CheckGroup :=
  if root ≠ imgRoot m ∨ ! imgSigsOk m ∨ reject then some .image else s.fuseGroup (.chan c) m

/-- RETIRED or FLOOR of a target's COMMIT, found missing at start-up, is still to come (R225). -/
def State.stepsPending (s : State) (t : Target) : Bool := (s.target t).atStart && decide (6 ≤ (s.target t).state)

/-- Must a half withhold a release verdict of a channel: under R20, until the pin load has completed (R123, R144), and while steps of the
channel's commit that a start-up found pending are (R225). -/
def State.mayNotPost (s : State) (h : Half) (c : ChanId) : Bool :=
  s.withholds h || ! (s.chan c).pinsReady || s.stepsPending (.chan c)

/-- The end of a fill for a half whose verification has come through stage 4 with every digest in (R123, R196): stages 5 to 9, and its
verdict. A release verdict may have to wait at stage 9. -/
def State.fillVerdict (s : State) (h : Half) (c : ChanId) (reject : Bool) : State :=
  match s.verOf h (.chan c) with
  | some v =>
    if v.kind ≠ .fill ∨ v.stage < 5 ∨ ! (s.chan c).digestsIn h then s
    else if v.result.isSome then s.postInternal h c v.container
    else
      let m := v.container
      let root := s.halfRoot h c m
      let g := s.fillGroup c m root reject
      if g.isNone ∧ s.mayNotPost h c then s.verdictWaits h c m root else s.postResult h c m root g
  | none => s

/-- The last leaf is in (R123): both halves compare their roots and post. -/
def State.fillDone (s : State) (c : ChanId) (reject : Both Bool) : State :=
  let ch := s.chan c
  if ! s.filling c ∨ ch.fillNext ≠ some ch.desc.leafCount then s
  else (s.fillVerdict .indigo c reject.indigo).fillVerdict .amber c reject.amber

/-- FILL_DONE (R123). -/
def execFillDone (c : ChanId) (reject : Both Bool) (s : State) : Host.Outcome State Fault Refusal := .next (s.fillDone c reject)

/-! ## Mirror faults (R130-R134) -/

/-- Is a leaf checked against the digest area (R130, R136): neither JOURNALED nor SHADOWED, and signed or mutable. -/
def RegionAt.byDigest (r : RegionAt) : Bool := r.cls != .journaled && r.cls != .shadowed && r.kind != .unused

/-- Is the channel's real part in a program or erase, not suspended (R130). -/
def Chan.partBusy (ch : Chan) : Bool :=
  ch.gaveUp || match ch.current with
    | some o => (o.phase == .running && o.executes) || o.phase == .recovery || o.phase == .busyPoll
    | none => false

/-- Must the refill of a leaf come from the Cistern alone (R133): a signed leaf, the channel's digest-area slot at fault. -/
def State.cisternOnly (s : State) (c : ChanId) (leaf : Nat) : Bool :=
  let r := s.leafRegion c leaf
  r.byDigest && r.kind == .signed && (s.chan c).digestFault

/-- How many of a leaf's sources have failed. -/
def Chan.triedOf (ch : Chan) (leaf : Nat) : Nat := lookupD ch.tried leaf 0

/-- Is no golden copy of the channel's image to be had in the local Cistern. -/
def State.noGolden (s : State) (c : ChanId) : Bool := (s.catContainer (s.chan c).desc.manifestRef).isNone

/-- May a source serve the refill of a leaf now (R130, R133): the flash first, while the real part does not program or erase; the local
golden copy once the flash has failed, or straight away while the flash is busy; the peers once the golden copy has failed, or where
there is none. -/
def State.refillSource (s : State) (c : ChanId) (leaf : Nat) (src : Source) : Bool :=
  let r := s.leafRegion c leaf
  let n := (s.chan c).triedOf leaf
  match src with
  | .flash => ! (s.chan c).partBusy && ! s.cisternOnly c leaf && n == 0
  | .localGolden => r.byDigest && decide (n < 2) && (n == 1 || (s.chan c).partBusy || s.cisternOnly c leaf)
  | .peers => r.byDigest && ! s.cisternOnly c leaf && (n == 2 || (n == 1 && s.noGolden c))
  | _ => false

/-- The place of a source in the order of a refill (R130). -/
def Source.refillRank : Source → Nat
  | .flash => 1
  | .localGolden => 2
  | _ => 3

/-- A source whose leaf does not carry the digest has failed (R130): the next one follows. -/
def Chan.sourceFailed (ch : Chan) (leaf : Nat) (src : Source) : Chan := { ch with tried := setKey ch.tried leaf src.refillRank }

/-- A leaf that no source can supply (R130): MIRROR_REFILL_FAIL, the leaf stays faulted, the channel goes to REPAIRING. -/
def State.refillFail (s : State) (c : ChanId) (leaf : Nat) : State :=
  let s := (s.updChan c fun ch => ({ ch with lost := ch.lost ++ [leaf] }).resumeAfterRefill s.time).raiseLog 1017 [(1, c.val), (4, leaf)]
  let st := (s.chan c).state
  if st = .held ∨ st = .released then (s.setChan c .repairing).needRecovery c else s

/-- A leaf refilled (R130): sealed anew, and a held read goes on. -/
def State.refillPut (s : State) (c : ChanId) (leaf : Nat) (data : List Byte) : State :=
  let s := s.mirrorWrite c (leaf * 4096) data
  let s := s.updChan c fun ch =>
    { ch with faulted := ch.faulted.erase leaf, lost := ch.lost.erase leaf, tried := dropKey ch.tried leaf, stats := { ch.stats with refills := satInc 32 ch.stats.refills } }
  let s := s.raiseLog 1016 [(1, c.val), (4, leaf)]
  let s := if (s.leafRegion c leaf).cls = .shadowed then s.raiseLog 1018 [(1, c.val), (4, leaf)] else s
  (s.updChan c (Chan.resumeAfterRefill s.time)).resumeRead c leaf

/-- A refill ends (R130), as a job of class 1 on an engine of each half: from a source of the leaf's row in its order, with the digest of
the digest area where the row asks it, else the source has failed and the next follows; nowhere, every source has failed. -/
def State.refillDone (s : State) (c : ChanId) (leaf : Nat) (src : Source) (data : List Byte) : State :=
  if ! (s.chan c).faulted.contains leaf ∨ (s.chan c).lost.contains leaf then s
  else if src = .nowhere then s.refillFail c leaf
  else if ! s.refillSource c leaf src then s
  else if ! s.rangeFree c (leaf * 4096) 4096 then s.raiseLog 1027 [(1, c.val), (4, leaf)]
  else if ! (s.leafRegion c leaf).byDigest then s.refillPut c leaf (leafBytes data)
  else
    let t := (s.chargeBest .indigo 4096).chargeBest .amber 4096
    if sha384 (leafBytes data) = s.leafDigest c leaf then t.refillPut c leaf (leafBytes data)
    else t.updChan c fun ch => ch.sourceFailed leaf src

/-- REFILL_DONE (R130). -/
def execRefillDone (c : ChanId) (leaf : Nat) (src : Source) (data : List Byte) (s : State) : Host.Outcome State Fault Refusal :=
  .next (s.refillDone c leaf src data)

/-- The channel in whose mirror range a DRAM offset lies (R112). -/
def State.chanAtOffset (s : State) (o : Nat) : Option ChanId :=
  (List.finRange 64).find? fun c =>
    let d := (s.chan c).desc
    d.enable && decide (d.mirrorPage * 4096 ≤ o) && decide (o < d.mirrorPage * 4096 + d.mirrorExtent)

/-- A page of a line refill (R132): the leaf of the channel that it lies in, as R130; a page of the digest area comes from the manifest's
leaf level (R133), and one that no channel owns holds nothing to refill. -/
def State.pageRefill (s : State) (p : Nat) (x : PageIn) : State :=
  match s.chanAtOffset (p * 4096) with
  | some d => s.refillDone d (p - (s.chan d).desc.mirrorPage) x.src x.data
  | none => s

/-- LINE_REFILL_DONE (R132): the 64 pages of the line, in order, each as R130. -/
def execLineRefillDone (line : Nat) (pages : List PageIn) (s : State) : Host.Outcome State Fault Refusal :=
  .next ((pages.take 64).zipIdx.foldl (fun s x => s.pageRefill (64 * line + x.2) x.1) s)

/-- FAULT_RATE_WINDOW (R134): a second ends. The spec does not say whether the second slides; it is the whole second of the time counter
(DESIGN CHOICE, log entry 124). -/
def execFaultRateWindow (s : State) : Host.Outcome State Fault Refusal :=
  .next (let n := s.mir.faultSec
    let s := { s.advanceTo (nextMultiple s.time secNs) with mir := { s.mir with faultSec := 0 } }
    if s.mir.faultLimit.toNat < n then s.raiseLog 1019 [(4, n)] else s)

/-! ## Re-sealing (R120) -/

/-- Counter lines of the protected space. -/
def Mirror.lines (m : Mirror) : Nat := m.protectedMib * 4

/-- A page of a line as the re-seal pass leaves it: one that checked is sealed under KEY_NEXT with version and epoch 0; one that did not
keeps its old seal, which checks no more. -/
def State.resealPage (s : State) (bad : List Nat) (x : Nat × Seal) : Nat × Seal :=
  if s.pageGood x.1 && ! bad.contains (x.1 % 64) then (x.1, ⟨0, 0, s.mir.keyNext⟩) else x

/-- A page that the re-seal pass finds bad is a mirror fault of the channel it lies in (R120, R129). -/
def State.pageFault (s : State) (p : Nat) : State :=
  match s.chanAtOffset (p * 4096) with
  | some d => s.mirrorFault d ⟨.sector, p - (s.chan d).desc.mirrorPage⟩
  | none => s

/-- One line of the pass (R120), once KEY_NEXT is loaded: every sector is read and checked, sealed anew with versions and epoch 0; the
pointer moves on, held writes go through. `bad` names the pages of the line whose sectors fail their check. -/
def State.resealLine (s : State) (bad : List Nat) : State :=
  match s.mir.reseal with
  | none => s
  | some p =>
    if s.mir.keyNext = 0 ∨ s.mir.lines ≤ p then s
    else
      let seals := s.mir.seals.map fun (x : Nat × Seal) => if x.1 / 64 = p then s.resealPage bad x else x
      let s := { s with mir := { s.mir with reseal := some (p + 1), versions := s.mir.versions.filter fun v => v.1 / 64 != p,
                                            seals := seals } }
      let s := bad.foldl (fun (s : State) i => s.pageFault (64 * p + i % 64)) (s.setEpoch p 0)
      (List.finRange 64).foldl (fun s c => s.retryHeld c) s.retryDigests

/-- RESEAL_LINE_DONE (R120). -/
def execResealLineDone (bad : List Nat) (s : State) : Host.Outcome State Fault Refusal := .next (s.resealLine bad)

/-- MIRROR_RESEAL_DONE (R120): KEY_NEXT becomes KEY_PROT. -/
def execMirrorResealDone (s : State) : Host.Outcome State Fault Refusal :=
  .next (match s.mir.reseal with
    | some p =>
      if p < s.mir.lines then s
      else ({ s with mir := { s.mir with keyProt := s.mir.keyNext, keyNext := 0, reseal := none } }).raiseLog 1026 []
    | none => s)

/-! ## Scrub (R135-R137) -/

/-- The interval between leaves of a pass in ns (R135). -/
def State.scrubInterval (s : State) (c : ChanId) (forced : Bool) : Nat :=
  let d := (s.chan c).desc
  let hours := if d.scrubHours = 0 then s.mir.scrubHours.toNat else d.scrubHours
  if forced then msNs else hours * 3600 * secNs / max 1 d.leafCount

/-- The erase unit of a leaf (R138). -/
def Chan.repairUnit (ch : Chan) (leaf : Nat) : Nat × Nat :=
  let u := max 4096 ((ch.info.map fun i => i.smallestErase).getD 4096)
  (leaf * 4096 / u * u, u)

/-- A repair of a unit begins (R138), its content from the mirror, or from the recovery source that the mirror has taken it from; a freeze
puts it off (R229). -/
def State.startRepairFrom (s : State) (c : ChanId) (source unit len : Nat) : State :=
  s.updChan c fun ch =>
    { ch with repair := some { unit := unit, unitLen := len, retried := false, source := source, startAt := s.time, retryAt := none,
                               waits := s.dev.freeze } }

/-- A repair with the mirror's content. -/
def State.startRepair (s : State) (c : ChanId) (unit len : Nat) : State := s.startRepairFrom c Source.mirror.num unit len

/-- A confirmed mismatch (R137): MIRROR_SCRUB_MISMATCH, the channel goes to REPAIRING, its unit is repaired (R138). -/
def State.scrubMismatch (s : State) (c : ChanId) (leaf : Nat) : State :=
  let s := (s.raiseLog 1020 [(1, c.val), (4, leaf)]).setChan c .repairing
  let u := (s.chan c).repairUnit leaf
  s.startRepair c u.1 u.2

/-- The record of a mismatch that a re-read did not confirm, marked transient (R137). -/
def State.scrubTransient (s : State) (c : ChanId) (leaf : Nat) : State := s.logIt .event noEvent 0 [(1, c.val), (4, leaf), (1, 1)]

/-- The digest that a flash leaf is compared with (R136): that of the mirror's leaf where it is JOURNALED, the digest-area entry of other
signed and mutable leaves; none where it is not compared. -/
def State.flashRef (s : State) (c : ChanId) (leaf : Nat) : Option Digest :=
  let rg := s.leafRegion c leaf
  if rg.cls = .journaled then some (sha384 (s.mirrorBytes c (leaf * 4096) 4096))
  else if rg.byDigest then some (s.leafDigest c leaf) else none

/-- Does a flash leaf as read compare, its digest off by an engine's error. -/
def leafMatches (ref : Digest) (data : List Byte) (off : Digest) : Bool := sha384 (leafBytes data) ^^^ off == ref

/-- The half whose engine hashes a leaf of a scrub pass (R136): Indigo for even leaves and Amber for odd. -/
def scrubHalf (leaf : Nat) : Half := if leaf % 2 = 0 then .indigo else .amber

/-- What the compare of a leaf came to (R136, R137): a mismatch is read again for an engine of each half, and a third time for two others
where the halves disagree. -/
def State.scrubJudge (s : State) (c : ChanId) (leaf : Nat) (r : ScrubRead) : State :=
  match r.fault, s.flashRef c leaf with
  | some f, _ => s.mirrorFault c f
  | none, none => s
  | none, some ref =>
    let s := s.chargeBest (scrubHalf leaf) 4096
    if leafMatches ref r.first r.off1 then s
    else
      let s := (s.chargeBest .indigo 4096).chargeBest .amber 4096
      let ind := leafMatches ref r.second r.off2.indigo
      if ind = leafMatches ref r.second r.off2.amber then (if ind then s.scrubTransient c leaf else s.scrubMismatch c leaf)
      else
        let s := (s.chargeBest .indigo 4096).chargeBest .amber 4096
        let ind := leafMatches ref r.third r.off3.indigo
        if ind = leafMatches ref r.third r.off3.amber then (if ind then s.scrubTransient c leaf else s.scrubMismatch c leaf)
        else s.conflict c

/-- A pass ends (R135): MIRROR_SCRUB_PASS; the next starts at leaf 0 where the channel is scrubbed on schedule. -/
def State.scrubPassEnd (s : State) (c : ChanId) : State :=
  let sched := s.scrubScheduled c
  let s := s.updChan c fun ch =>
    { ch with stats := { ch.stats with scrubPasses := satInc 32 ch.stats.scrubPasses },
              scrub := if sched then some ⟨0, s.time, false, false⟩ else none }
  s.raiseLog 1021 [(1, c.val)]

/-- MIRROR_SCRUB_LATE, once a pass, when a leaf comes more than an interval late (R140). -/
def State.scrubLate (s : State) (c : ChanId) (x : Scrub) : State :=
  if x.late ∨ s.time ≤ x.dueAt + s.scrubInterval c x.forced then s
  else
    let s := s.updChan c fun ch => { ch with scrub := ch.scrub.map fun x => { x with late := true } }
    ({ s with mir := { s.mir with scrubLate := satInc 16 s.mir.scrubLate } }).raiseLog 1022 [(1, c.val)]

/-- The pass moves on past a leaf. -/
def State.scrubNext (s : State) (c : ChanId) (x : Scrub) : State :=
  let s := { s with mir := { s.mir with scrubChan := c } }
  let s := s.updChan c fun ch =>
    { ch with fillCount := x.next + 1,
              scrub := ch.scrub.map fun y => { y with next := x.next + 1, dueAt := x.dueAt + s.scrubInterval c x.forced } }
  if (s.chan c).desc.leafCount ≤ x.next + 1 then s.scrubPassEnd c else s

/-- A leaf of a pass (R135-R137). -/
def State.scrubLeaf (s : State) (c : ChanId) (r : ScrubRead) : State :=
  match (s.chan c).scrub with
  | none => s
  | some x =>
    if ! s.scrubbing c ∨ s.higherWaits c.port 5 ∨ (s.chan c).gaveUp ∨ (s.chan c).desc.leafCount ≤ x.next then s
    else
      let s := (s.scrubLate c x).advanceTo x.dueAt
      (s.scrubNext c x).scrubJudge c x.next r

/-- SCRUB_LEAF (R136). -/
def execScrubLeaf (c : ChanId) (r : ScrubRead) (s : State) : Host.Outcome State Fault Refusal := .next (s.scrubLeaf c r)

/-! ## Repair (R138-R141) -/

/-- The repaired channel's flash matches (R41): it follows its bound output. -/
def State.repairEnds (s : State) (c : ChanId) : State :=
  let source := ((s.chan c).repair.map fun r => r.source).getD Source.mirror.num
  let s := s.updChan c fun ch => { ch with repair := none, noSourceAt := none }
  match (s.chan c).badUnits with
  | u :: us =>
    let s := s.updChan c fun ch => { ch with badUnits := us }
    s.startRepairFrom c source u ((s.chan c).repairUnit (u / 4096)).2
  | [] =>
  if (s.chan c).state = .repairing ∧ (s.chan c).lost.isEmpty then s.setChan c (s.returnState c) else s

/-- The REPAIR record (R141). -/
def State.repairRecord (s : State) (c : ChanId) (r : Repair) (before after : List Digest) : State :=
  s.logMeas .repair ([(1, c.val), (4, r.unit), (4, r.unitLen), (1, r.source)] ++ (before.map fun d => (48, d.toNat))
    ++ (after.map fun d => (48, d.toNat)) ++ [(8, s.time - r.startAt), (8, s.time)])

/-- A failed repair (R138): one retry at once, then MIRROR_REPAIR_FAIL and a retry every 60 s; the channel needs recovery (R230). -/
def State.repairFails (s : State) (c : ChanId) (r : Repair) : State :=
  if ! r.retried then s.updChan c fun ch => { ch with repair := some { r with retried := true } }
  else
    let s := s.updChan c fun ch => { ch with repair := some { r with retryAt := some (s.time + 60 * secNs) } }
    (s.raiseLog 1024 [(1, c.val), (4, r.unit)]).needRecovery c

/-- The leaves of a repair unit. -/
def Repair.leaves (r : Repair) : List Nat := (List.range (r.unitLen / 4096)).map fun i => r.unit / 4096 + i

/-- Bytes of the `i`-th leaf of a unit as read. -/
def unitLeaf (data : List Byte) (i : Nat) : List Byte := (data.drop (4096 * i)).take 4096

/-- Does a half find every compared leaf of a unit as read back to match R136's references (R138), its engine's digests off by an error. -/
def State.unitMatches (s : State) (c : ChanId) (r : Repair) (back : List Byte) (off : Digest) : Bool :=
  r.leaves.zipIdx.all fun x => match s.flashRef c x.1 with
    | some ref => leafMatches ref (unitLeaf back x.2) off
    | none => true

/-- The rewriting of a unit ends (R138): the port has erased, programmed and read it back, and both halves hash every leaf. -/
def State.repairDone (s : State) (c : ChanId) (flashFail : Bool) (before back : List Byte) (off : Both Digest) : State :=
  match (s.chan c).repair with
  | none => s
  | some r =>
    if (s.chan c).state ≠ .repairing ∨ r.retryAt.isSome ∨ s.higherWaits c.port 4 ∨ (s.chan c).gaveUp ∨ (r.waits && s.dev.freeze) then s
    else
      let s := s.dropPrefetch c fun l => decide (r.unit ≤ l * 4096) && decide (l * 4096 < r.unit + r.unitLen)
      let s := if flashFail then s.raiseLog (portEvent c.port 25) [(1, c.cs.val), (1, c.val), (4, r.unit)] else s
      let s := (s.chargeBest .indigo r.unitLen).chargeBest .amber r.unitLen
      let digests (d : List Byte) : List Digest := r.leaves.zipIdx.map fun x => sha384 (leafBytes (unitLeaf d x.2))
      if flashFail ∨ ! (s.unitMatches c r back off.indigo && s.unitMatches c r back off.amber) then s.repairFails c r
      else
        let s := s.repairRecord c r (digests before) (digests back)
        let s := s.updChan c fun ch => { ch with stats := { ch.stats with repairs := satInc 32 ch.stats.repairs } }
        (s.raiseLog 1023 [(1, c.val), (4, r.unit)]).repairEnds c

/-- REPAIR_RETRY (R138): 60 s after a failed repair. -/
def execRepairRetry (c : ChanId) (s : State) : Host.Outcome State Fault Refusal :=
  .next (match (s.chan c).repair.bind fun r => r.retryAt with
    | some t => (s.advanceTo t).updChan c fun ch =>
        { ch with repair := ch.repair.map fun r => { r with retried := false, retryAt := none, waits := s.dev.freeze } }
    | none => s)

/-- NO_SOURCE in the log (R41). -/
def State.noSourceLog (s : State) (c : ChanId) : State :=
  (s.logIt .event noEvent Code.noSource.num [(1, c.val)]).updChan c fun ch => { ch with noSourceAt := some (s.time + 60 * secNs) }

/-- NO_SOURCE_REPORT (R41): every 60 s while a REPAIRING channel finds no source. -/
def execNoSourceReport (c : ChanId) (s : State) : Host.Outcome State Fault Refusal :=
  .next (match (s.chan c).noSourceAt with
    | some t => if (s.chan c).state = .repairing then (s.advanceTo t).noSourceLog c else s
    | none => s)

/-! ## Channel commands (R146) -/

/-- A completed channel command. -/
def State.chanCmdEnd (s : State) (c : ChanId) (code : Code) : State := { s with mir := { s.mir with cmdStatus := (code, c) } }

/-- A channel command (R146): its act where the channel's state permits it, else REFUSED_STATE and MIRROR_CMD_REJECT. -/
def State.chanCmd (s : State) (c : ChanId) (cmd : Nat) (ok : Bool) (act : State → State) : State :=
  if ok then (act s).chanCmdEnd c .ok else (s.chanCmdEnd c .refusedState).raiseLog 1031 [(1, c.val), (1, cmd)]

/-- Command 1, fill. -/
def State.cmdFill (s : State) (c : ChanId) : State :=
  s.chanCmd c 1 ((s.chan c).state == .quarantined) fun s => s.startFill c

/-- Command 2, to UPDATING. -/
def State.cmdUpdating (s : State) (c : ChanId) : State :=
  s.chanCmd c 2 ((s.chan c).state == .held || (s.chan c).state == .released) fun s => s.setChan c .updating

/-- Command 3, update ended. -/
def State.cmdUpdateEnded (s : State) (c : ChanId) : State :=
  s.chanCmd c 3 ((s.chan c).state == .updating) fun s => s.setChan c (s.returnState c)

/-- Command 4, to QUARANTINED: from FILLING and HELD, and from REPAIRING with its output asserted. -/
def State.cmdQuarantined (s : State) (c : ChanId) : State :=
  let st := (s.chan c).state
  s.chanCmd c 4 (st == .filling || st == .held || (st == .repairing && ! s.boundReleased c)) fun s => s.setChan c .quarantined

/-- Command 5, a forced scrub pass (R135). -/
def State.cmdScrub (s : State) (c : ChanId) : State :=
  s.chanCmd c 5 ((s.chan c).state == .held || (s.chan c).state == .released) fun s =>
    s.updChan c fun ch => { ch with scrub := some ⟨0, s.time, true, false⟩ }

/-- Command 6, repair of a unit (R138). -/
def State.cmdRepair (s : State) (c : ChanId) (unit len : Nat) : State :=
  let st := (s.chan c).state
  s.chanCmd c 6 (st == .held || st == .released || st == .repairing) fun s => (s.setChan c .repairing).startRepair c unit len

/-- CHAN_CMD_FILL (R234). -/
def execChanCmdFill (half : Half) (c : ChanId) (s : State) : Host.Outcome State Fault Refusal :=
  .next (s.halfBus half 0x40060020 23 true fun s => s.cmdFill c)

/-- CHAN_CMD_TO_UPDATING (R213). -/
def execChanCmdToUpdating (half : Half) (c : ChanId) (s : State) : Host.Outcome State Fault Refusal :=
  .next (s.halfBus half 0x40060020 23 true fun s => s.cmdUpdating c)

/-- CHAN_CMD_UPDATE_ENDED (R213). -/
def execChanCmdUpdateEnded (half : Half) (c : ChanId) (s : State) : Host.Outcome State Fault Refusal :=
  .next (s.halfBus half 0x40060020 23 true fun s => s.cmdUpdateEnded c)

/-- CHAN_CMD_TO_QUARANTINED (R41). -/
def execChanCmdToQuarantined (half : Half) (c : ChanId) (s : State) : Host.Outcome State Fault Refusal :=
  .next (s.halfBus half 0x40060020 23 true fun s => s.cmdQuarantined c)

/-- CHAN_CMD_FORCED_SCRUB (R135). -/
def execChanCmdForcedScrub (half : Half) (c : ChanId) (s : State) : Host.Outcome State Fault Refusal :=
  .next (s.halfBus half 0x40060020 23 true fun s => s.cmdScrub c)

/-- CHAN_CMD_REPAIR (R138). -/
def execChanCmdRepair (half : Half) (c : ChanId) (unit unitLen : Nat) (s : State) : Host.Outcome State Fault Refusal :=
  .next (s.halfBus half 0x40060020 23 true fun s => s.cmdRepair c unit unitLen)

/-! ## Pin loads (R144) -/

/-- Has the current fill sealed a leaf. -/
def Chan.leafSealed (ch : Chan) (leaf : Nat) : Bool :=
  decide (leaf < ch.desc.leafCount)
  && (match ch.state with
    | .filling => decide (leaf < ch.fillNext.getD 0)
    | .absent | .probing => false
    | _ => true)

/-- A write of PIN_LOAD (R144, R146): the copy starts; REFUSED_STATE for a leaf not yet sealed, BUSY while a copy runs (DESIGN
CHOICE, log entry 29). -/
def State.pinLoadWrite (s : State) (v : Word) : State :=
  let c : ChanId := ⟨bitsOf v.toNat 26 6 % 64, Nat.mod_lt _ (by decide)⟩
  let leaf := bitsOf v.toNat 10 16
  let slot := bitsOf v.toNat 0 10 + 1024 * b2n s.mir.pinHi
  let s := { s with mir := { s.mir with pinHi := false } }
  if s.mir.pinLoad.isSome then s.chanCmdEnd c .busy
  else if ! (s.chan c).leafSealed leaf then s.chanCmdEnd c .refusedState
  else { s with mir := { s.mir with pinLoad := some (c, leaf, slot) } }

/-- PIN_LOAD (R144). -/
def execPinLoad (half : Half) (value : Word) (s : State) : Host.Outcome State Fault Refusal :=
  .next (s.halfBus half 0x40060028 23 true fun s => s.pinLoadWrite value)

/-- The copy under way completes (R144): under tag and version check; MIRROR_PIN_LOAD with the last slot of the list. -/
def State.pinLoadDone (s : State) (fault : Option MirrorFault) : State :=
  match s.mir.pinLoad with
  | none => s
  | some (c, leaf, slot) =>
    let s := { s with mir := { s.mir with pinLoad := none } }
    match fault with
    | some f => (s.mirrorFault c f).chanCmdEnd c .verifyFail
    | none =>
      let s := (s.store (pinSlotAddr slot) (s.mirrorBytes c (leaf * 4096) 4096)).chanCmdEnd c .ok
      let ch := s.chan c
      if ch.pins.contains (leaf, slot) ∧ ! ch.pinsLoaded.contains leaf then
        let s := s.updChan c fun ch => { ch with pinsLoaded := ch.pinsLoaded ++ [leaf] }
        if (s.chan c).pinsReady then s.raiseLog 1028 [(1, c.val)] else s
      else s

/-- PIN_LOAD_DONE (R144). -/
def execPinLoadDone (fault : Option MirrorFault) (s : State) : Host.Outcome State Fault Refusal := .next (s.pinLoadDone fault)

/-- DRAM_REFRESH_RATE_CHANGE (R148). -/
def execDramRefreshRateChange (s : State) : Host.Outcome State Fault Refusal := .next (s.raiseLog 1032 [])

end Sys2Proof.Machine
end

