-- ==== Sys2Proof/Machine/Verify.lean ====
section
/-!
DEFINITION. The verification pipeline (R196, R197), revocation requests (R187-R190) and the security version floors (R192-R194).
-/
namespace Sys2Proof.Machine

/-! ## The pipeline -/

/-- Changes a half's verification of a target. -/
def State.updVer (s : State) (h : Half) (t : Target) (f : Verification → Verification) : State :=
  { s with upd := { s.upd with vers := s.upd.vers.upd h fun l => l.map fun v => if v.target = t then f v else v } }

/-- Leaves of flash part 1 (R214): signed in the new region map and not in the image in force. -/
def State.inPart1 (s : State) (t : Target) (b : List Byte) (i : Nat) : Bool :=
  match t with
  | .chan c => imgLeafKind b i == 0 && (s.leafRegion c i).kind != .signed
  | _ => false

/-- The bytes of leaf `i` of the image that an update brings (R175, R197, R212): the staging region's; of a stream where staged, else the
mirror's; the mirror's where the container carries no payload; of mission firmware the slot's in eFlash (R235). -/
def State.imageLeaf (s : State) (t : Target) (b : List Byte) (i : Nat) : List Byte :=
  let u := s.target t
  let mirrored := (u.route == some .stream && ! u.staged.contains i) || (u.route != some .stream && ! imgHasPayload b)
  match t, u.staging with
  | .chan c, some o => if mirrored then s.mirrorBytes c (i * 4096) 4096 else s.bytes (dramBase + o + i * 4096) 4096
  | .extension, some o => s.bytes (dramBase + o + i * 4096) 4096
  | .mission, _ => s.bytes (slotBase s.idleSlot + imgPayloadAt b + 4096 * i) 4096
  | _, _ => (imgPayload b).drop (4096 * i) |>.take 4096

/-- The leaf that a half hashes in stage 5 of an update (R213 step 2): of flash part 1 as read back, else of the staged image. -/
def State.judgedLeaf (s : State) (t : Target) (b : List Byte) (i : Nat) (back : List Byte) : List Byte :=
  if (s.target t).part1.contains i then leafBytes back else s.imageLeaf t b i

/-- The root that a half rebuilds at stage 6 (R123, R196): from its own engines' digests. -/
def State.rebuiltRoot (s : State) (h : Half) (v : Verification) : Digest :=
  match v.kind, v.target with
  | .fill, .chan c => s.halfRoot h c v.container
  | _, _ => imgRootOf v.container v.digests

/-- The first failing group noted of a verification: an earlier group keeps its place (R186). -/
def Verification.note (v : Verification) (g : CheckGroup) : Verification :=
  match v.failed with
  | some f => if f.num ≤ g.num then v else { v with failed := some g }
  | none => { v with failed := some g }

/-- The stage after one, by kind (R197). -/
def Verification.after (v : Verification) (n : Nat) : Nat :=
  match v.kind, n with
  | .reconfirm, 4 => 8
  | _, n => n + 1

/-- The image group of a re-confirmation (R44, R197): the generation confirmed is the one the port has cached; the descriptor's
root, the manifest's and the one last verified are equal, and not zeros. -/
def State.reconfirmOk (s : State) (h : Half) (c : ChanId) (gen : Nat) (b : List Byte) : Bool :=
  let ch := s.chan c
  gen == ch.gen && ch.desc.merkleRoot == imgRoot b && ch.verified.get h == some (imgRoot b) && ch.desc.merkleRoot != 0

/-- The container of an update in hand: that of its target, which may still be arriving (R213); mission firmware's lies in eFlash
(R235). -/
def State.inHand (s : State) (v : Verification) : List Byte :=
  match v.kind, v.target with
  | .update, .mission => s.slotContainer s.idleSlot
  | .update, t => (s.target t).container
  | _, _ => v.container

/-- The size of a container that is judged with its payload (R175): none of a manifest, of a stream's, and of one that carries no payload
and whose image lies in flash or mirror; the bytes of the whole transfer otherwise. -/
def State.payloadSize (s : State) (v : Verification) : Option Nat :=
  let u := s.target v.target
  match v.kind, v.target with
  | .fill, _ | .reconfirm, _ => none
  | .update, .chan _ => if u.route = some .stream ∨ ! imgHasPayload (s.inHand v) then none else some (max u.expect u.container.length)
  | .update, _ => some (max u.expect u.container.length)

/-- A verification ends with a code (R196): the verdict of a channel is posted; other kinds keep their result. -/
def State.finishVer (s : State) (h : Half) (v : Verification) (g : Option CheckGroup) : State :=
  match v.kind, v.target with
  | .fill, .chan c | .reconfirm, .chan c =>
    let s := if (v.stage ≤ 3 ∧ g.isSome ∧ (s.chan c).fillNext = some 0) then s.updChan c fun ch => { ch with fillNext := none } else s
    s.postResult h c v.container ((v.root).getD (imgRoot v.container)) g
  | _, t =>
    let s := s.updVer h t fun v => { v with result := some (groupCode g), failed := g }
    match g with
    | some g => s.verdictRecord h t v.gen g.fail (some g) v.container none
    | none => s

/-- A device fault of the half's engine ends a verification with INTERNAL (R203): posted, or kept as the result. -/
def State.finishFault (s : State) (h : Half) (v : Verification) : State :=
  match v.kind, v.target with
  | .fill, .chan c | .reconfirm, .chan c => s.postInternal h c v.container
  | _, _ => s

/-- The stage under way is complete and the verification goes on. -/
def State.nextStage (s : State) (h : Half) (v : Verification) (f : Verification → Verification) : State :=
  s.updVer h v.target fun x => { f x with stage := v.after v.stage }

/-- The container that stage 1 loads: the one in hand, else the manifest of the catalogue (R577). -/
def State.loadContainer (s : State) (v : Verification) : Option (List Byte) :=
  match s.inHand v, v.target with
  | [], .chan c => s.catContainer (s.chan c).desc.manifestRef
  | [], _ => none
  | b, _ => some (imgManifest b)

/-- Where in SRAM bank 5 a half keeps what stage 1 loads of a target (R196): 20 KiB of its half of the bank (DESIGN CHOICE, log entry
148). -/
def loadArea (h : Half) (t : Target) : Nat := 0x11400000 + h.num * 0x200000 + t.code * 0x5000

/-- Stage 1 (R196): header, region map, certificate and signature come into the half's area; the leaf level is read where they came
from. -/
def State.loadStage (s : State) (h : Half) (t : Target) (m : List Byte) : State := s.store (loadArea h t) (m.take (min (imgLeafAt m) 0x5000))

/-- Does the engine's order of work let a verification go on at stage 3 or 8 (R203): that of an update behind those for release, and
behind SPDM signing. -/
def State.engineTurn (s : State) (h : Half) (v : Verification) : Bool :=
  v.release || (s.spdm.waiting.isEmpty && ! (s.upd.vers.get h).any fun x => x.onEngine && x.release)

/-- The leaves of a verification's image. -/
def Verification.leaves (v : Verification) : Nat := imgLeaves v.container

/-- Stage 5 of a fill waits for every leaf and its digest (R121, R123). -/
def State.fillLeaves (s : State) (h : Half) (v : Verification) : State :=
  match v.target with
  | .chan c => if (s.chan c).fillNext = some (s.chan c).desc.leafCount ∧ (s.chan c).digestsIn h then s.nextStage h v id else s
  | _ => s

/-- Stage 5 of an update (R197): each leaf is a class 3 job of its own, once the whole container is in; behind the last one the container's
end is judged as its start was (R175). -/
def State.updateLeaf (s : State) (h : Half) (v : Verification) (w : StageWork) : State :=
  let t := v.target
  let b := s.inHand v
  let i := v.digests.length
  if (s.target t).state ≠ 2 then s
  else if v.leaves ≤ i then
    (if s.structureOk t (s.payloadSize v) b then s.nextStage h v id else s.finishVer h v (some .structure_))
  else match s.leafEngine h 3 with
    | none => s
    | some e =>
      let d := sha384 (s.judgedLeaf t b i w.back) ^^^ w.engine.off
      (s.leafJob e w.ns).updVer h t fun v => { v with digests := v.digests ++ [d] }

/-- Stage 9 (R196, R197): revocation and floor sampled again, the code of the first failing group posted. -/
def State.verdictStage (s : State) (h : Half) (v : Verification) : State :=
  let g := if v.failed.isSome then v.failed else s.fuseGroup v.target v.container
  let waits : Bool := match v.kind, v.target with
    | .fill, .chan c => s.mayNotPost h c
    | .reconfirm, .chan c => s.withholds h || s.stepsPending (.chan c)
    | _, _ => false
  if g.isNone ∧ waits then s else s.finishVer h v g

/-- The stage under way of a half's verification completes (R196); at stages 3 and 8 once the engine's order of work comes to it. -/
def State.verStage (s : State) (h : Half) (v : Verification) (w : StageWork) : State :=
  let b := v.container
  let t := v.target
  if v.result.isSome then s.finishFault h v
  else if v.onEngine && ! s.engineTurn h v then s
  else match v.stage with
  | 1 =>
    match s.loadContainer v with
    | some m => (s.loadStage h t m).nextStage h v fun x => { x with container := m }
    | none => s.finishVer h v (some .structure_)
  | 2 => if s.structureOk t (s.payloadSize v) b then s.nextStage h v id else s.finishVer h v (some .structure_)
  | 3 =>
    if ! s.chainOk b w.engine.reject then s.finishVer h v (some .chain)
    else match s.fuseGroup t b with
      | some g => s.nextStage h v fun x => x.note g
      | none => s.nextStage h v id
  | 4 =>
    match v.failed with
    | some g => (s.verdictRecord h t v.gen g.fail (some g) b none).nextStage h v fun x => { x with failed := none }
    | none => s.nextStage h v id
  | 5 => if v.kind = .fill then s.fillLeaves h v else s.updateLeaf h v w
  | 6 => let r := s.rebuiltRoot h v; s.nextStage h v fun x => { x with root := some r }
  | 7 => s.nextStage h v fun x => if v.root = some (imgRoot b) then x else x.note .image
  | 8 =>
    let confirmed := match v.kind, t with
      | .reconfirm, .chan c => s.reconfirmOk h c v.gen b
      | _, _ => true
    s.nextStage h v fun x => if imgSigsOk b && ! w.engine.reject && confirmed then x else x.note .image
  | _ => s.verdictStage h v

/-! ## Revocation (R187-R190) -/

/-- The owner slot under which the image in force of a channel is signed. -/
def State.slotInForce (s : State) (c : ChanId) : Option Nat := (s.catContainer (s.chan c).desc.manifestRef).map imgSlot

/-- `revoked_in_force`: the enabled channels whose image chains to the slot at the moment of the burn (R190). -/
def State.countInForce (s : State) (i : Nat) : Nat :=
  ((List.finRange 64).filter fun c => (s.chan c).desc.enable && s.slotInForce c == some i).length

/-- The refusals of a revocation request beside the access class's (R187). -/
def State.revokeRefusals (s : State) (slot : Nat) : List Code :=
  (if s.dev.mode == .hold || s.dev.mode == .guard then [] else [.refusedState])
  ++ (if slot < 4 ∧ s.ownerFused slot then [] else [.badRange])
  ++ (if s.tempOk || s.ownerRevoked slot then [] else [.busy])

/-- `owner_revoke_request` reads back the last accepted slot (R195). -/
def State.revokeAccepted (s : State) (slot : Nat) : State := s.vput 0x0B02 1 [BitVec.ofNat 8 slot]

/-- The burn of a revocation bit (R187, R189, R190); a request answered BUSY is not accepted (R195). -/
def State.revoke (s : State) (slot : Nat) (b : BurnOutcome) : State × Code :=
  if s.ownerRevoked slot then (s.revokeAccepted slot, .ok)
  else
    let r := s.fuseProgram false true 2 (bitMask 32 slot) b
    match r.2 with
    | .ok => ((r.1.vput 0x0B01 (0x21 + slot) (leBytes 1 (r.1.countInForce slot))).revokeAccepted slot, .ok)
    | .busy => r
    | _ => (r.1.revokeAccepted slot, r.2)

/-- A write of `owner_revoke_request` (R187). -/
def State.revokeObj (s : State) (who : Requester) (slot : Nat) (b : BurnOutcome) : State :=
  s.objWrite who .write .rwa false 0x0B02 1 none (s.revokeRefusals slot) fun s => s.revoke slot b

/-- OWNER_REVOKE_REQUEST (R187). -/
def execOwnerRevokeRequest (who : Requester) (slot : Byte) (burn : BurnOutcome) (s : State) : Host.Outcome State Fault Refusal :=
  .next (s.revokeObj who slot.toNat burn)

/-! ## Floors (R192-R194) -/

/-- The svn of the image in force of a target (R222): of its COMMIT, else of its channel's configuration or the booted slot. -/
def State.svnInForce (s : State) (t : Target) : Nat :=
  match s.commitInForce t, t with
  | some r, _ => r.svn
  | none, .chan c => (s.chan c).desc.imageSvn
  | none, _ => s.boot.svn

/-- The new floor of a target (R193). -/
def State.newFloor (s : State) (t : Target) : Nat := min (s.svnInForce t) t.floorSteps

/-- The lowest unset step of a target below a value. -/
def State.floorNext (s : State) (t : Target) (v : Nat) : Option Nat := (List.range v).find? fun i => ! (s.floorWord t).testBit i

/-- Burns one step (R193). -/
def State.burnStep (s : State) (t : Target) (i : Nat) (b : BurnOutcome) : State × Code :=
  match t with
  | .chan c => s.fuseProgram false false (96 + c.val) (bitMask 32 i) b
  | _ => s.fuseProgram false true (3 + i / 32) (bitMask 32 (i % 32)) b

/-- The fuse cells of one floor step: two for a logical privileged bit (R405, R417). -/
def Target.stepCells : Target → Nat
  | .chan _ => 1
  | _ => 2

/-- Burns the unset steps of a floor below a value, one at a time, each under the gate (R193, R227); the rest waits, for the gate or,
uncounted, for the fuse controller, where a burn does not come to OK (R228). -/
def State.floorRun (t : Target) (v : Nat) (b : BurnOutcome) : Nat → State → State
  | 0, s => s
  | n + 1, s =>
    match s.floorNext t v with
    | none => s
    | some i =>
      if ! s.mayStart (.floor t) then s.queueStep (.floor t)
      else
        let r := s.burnStep t i b
        if r.2 = .ok then State.floorRun t v (b.drop 0 t.stepCells) n r.1 else r.1.delayStep (.floor t)

/-- An advance of a target's floor (R193, R194): SVN_EXHAUSTED where every step is set. -/
def State.advanceFloor (s : State) (t : Target) (b : BurnOutcome) : State :=
  if s.floorFull t then s.logIt .svnExhausted noEvent 0 [(1, t.code)]
  else if s.newFloor t ≤ s.floorVal t then s
  else State.floorRun t (s.newFloor t) b 64 s

/-- An advance on request that has come to its value, or has nothing to come to, is no longer due (R193). -/
def State.settleFloor (s : State) (t : Target) : State :=
  if s.floorVal t < s.newFloor t then s else { s with upd := { s.upd with floorDue := s.upd.floorDue.erase t } }

/-- An advance on request (R193): due until its value is reached, by a later start-up where power is lost before (DESIGN CHOICE, log entry
149: what the start-up knows it by). -/
def State.requestFloor (s : State) (t : Target) (b : BurnOutcome) : State :=
  let s := { s with upd := { s.upd with floorDue := s.upd.floorDue.erase t ++ [t] } }
  (s.advanceFloor t b).settleFloor t

/-- `advance_policy` of a target (R195). -/
def State.floorPolicy (s : State) (t : Target) : Nat := s.pnat 0x0A10 t.sub 1

/-- The target of a floor sub-index. -/
def floorTarget (sub : Nat) : Option Target := if 1 ≤ sub ∧ sub ≤ 0x41 then Target.ofCode (sub - 1) else none

/-- A write of `svn_advance_request` (R193). -/
def State.svnAdvanceObj (s : State) (who : Requester) (sub : Byte) (b : BurnOutcome) : State :=
  match floorTarget sub.toNat with
  | none => s.objWrite who .write .rwa false 0x0A11 1 none [.badRange] fun s => (s, .ok)
  | some t => s.objWrite who .write .rwa false 0x0A11 1 none (if s.floorPolicy t = 2 then [] else [.refusedState]) fun s =>
      ((s.vput 0x0A11 1 [sub]).requestFloor t b, .ok)

/-- SVN_ADVANCE_REQUEST (R193). -/
def execSvnAdvanceRequest (who : Requester) (sub : Byte) (burn : BurnOutcome) (s : State) : Host.Outcome State Fault Refusal :=
  .next (s.svnAdvanceObj who sub burn)

end Sys2Proof.Machine
end

