-- ==== Sys2Proof/Machine/Coder.lean ====
section
/-!
DEFINITION. The erasure code of golden sets (R252-R254, R271): GF(2^8), data and parity shards, decoding from any k, and the shard
header.
-/
namespace Sys2Proof.Machine

/-! ## The field (R253) -/

/-- Multiplication by x in GF(2^8) with x^8 + x^4 + x^3 + x^2 + 1. -/
def gfX (b : Byte) : Byte := if b.getLsbD 7 then (b <<< 1) ^^^ 0x1D else b <<< 1

/-- The product, over `n` bits of the second factor. -/
def gfMulN : Nat → Byte → Byte → Byte
  | 0, _, _ => 0
  | n + 1, a, b => (if b.getLsbD 0 then a else 0) ^^^ gfMulN n (gfX a) (b >>> 1)

/-- The product. -/
def gfMul (a b : Byte) : Byte := gfMulN 8 a b

/-- The inverse, by the 254th power; 0 of 0. -/
def gfInv (a : Byte) : Byte :=
  let a2 := gfMul a a
  let a4 := gfMul a2 a2
  let a8 := gfMul a4 a4
  let a16 := gfMul a8 a8
  let a32 := gfMul a16 a16
  let a64 := gfMul a32 a32
  gfMul (gfMul (gfMul (gfMul a2 a4) (gfMul a8 a16)) (gfMul a32 a64)) (gfMul a64 a64)

/-- The coefficient c(r, i). -/
def cauchy (r i : Nat) : Byte := gfInv (BitVec.ofNat 8 (0x10 + r) ^^^ BitVec.ofNat 8 i)

/-- A byte string times a coefficient. -/
def gfScale (c : Byte) (bs : List Byte) : List Byte := bs.map fun b => gfMul c b

/-- The sum of two byte strings of one length. -/
def gfAdd (a b : List Byte) : List Byte := List.zipWith (fun x y => x ^^^ y) a b

/-! ## Shards -/

/-- One stripe unit, 64 KiB. -/
def stripeUnit : Nat := 65536

/-- The stripes of a container of `n` bytes in `k` data shards. -/
def stripesOf (k n : Nat) : Nat := (n + k * stripeUnit - 1) / (k * stripeUnit)

/-- Unit `n` of a container padded with zeros. -/
def unitOf (b : List Byte) (n : Nat) : List Byte :=
  let u := (b.drop (n * stripeUnit)).take stripeUnit
  u ++ List.replicate (stripeUnit - u.length) 0

/-- Data shard `i` (R253). -/
def dataShard (b : List Byte) (k i : Nat) : List Byte := (List.range (stripesOf k b.length)).flatMap fun j => unitOf b (j * k + i)

/-- Parity shard `r` over data shards (R253). -/
def parityShard (ds : List (List Byte)) (r : Nat) : List Byte :=
  ds.zipIdx.foldl (fun acc x => let t := gfScale (cauchy r x.2) x.1; if acc.isEmpty then t else gfAdd acc t) []

/-- Shard `i` of a container coded k + m. -/
def shardOf (b : List Byte) (k i : Nat) : List Byte :=
  if i < k then dataShard b k i else parityShard ((List.range k).map (dataShard b k)) (i - k)

/-! ## Decoding -/

/-- A row of the system: coefficients and the shard they give. -/
abbrev GfRow := List Byte × List Byte

/-- A row with another's multiple added so that its coefficient in a column vanishes. -/
def gfClear (col : Nat) (p r : GfRow) : GfRow :=
  let c := r.1.getD col 0
  if c = 0 then r else (gfAdd r.1 (gfScale c p.1), gfAdd r.2 (gfScale c p.2))

/-- Elimination of the columns from `col` on: the rows to go, the rows done. -/
def gfElim : Nat → Nat → List GfRow → List GfRow → List GfRow
  | 0, _, _, done => done
  | n + 1, col, rows, done =>
    match rows.find? fun r => r.1.getD col 0 != 0 with
    | none => done
    | some r =>
      let i := gfInv (r.1.getD col 0)
      let p : GfRow := (gfScale i r.1, gfScale i r.2)
      gfElim n (col + 1) ((rows.erase r).map (gfClear col p)) (done.map (gfClear col p) ++ [p])

/-- The row of shard `i` of a k + m set. -/
def gfRow (k i : Nat) (d : List Byte) : GfRow :=
  ((List.range k).map fun j => if i < k then (if i = j then 1 else 0) else cauchy (i - k) j, d)

/-- The data shards from at least k good shards, by index (R253). -/
def decodeShards (k : Nat) (good : List (Nat × List Byte)) : List (List Byte) :=
  (gfElim k 0 ((good.take k).map fun x => gfRow k x.1 x.2) []).map fun r => r.2

/-! ## The shard header (R254) -/

/-- The 896 bytes of a header. -/
def headBytes (h : ShardHead) : List Byte :=
  [0x47, 0x48, 0x53, 0x44, 1] ++ leBytes 1 h.k ++ leBytes 1 h.m ++ leBytes 1 h.index ++ leBytes 1 h.owner ++ leBytes 1 h.target
  ++ leBytes 2 0 ++ leBytes 4 h.containerLength ++ leBytes 4 h.ownerHandle ++ leBytes 4 h.svn ++ leBytes 4 h.shardLength
  ++ leBytes 4 0 ++ digestBytes h.root ++ digestBytes h.ownerId
  ++ ((h.digests ++ List.replicate (16 - h.digests.length) 0).take 16).flatMap digestBytes

/-- The header of shard `i` of a set over a container. -/
def State.shardHead (s : State) (t : Target) (g : GoldenSet) (b : List Byte) (i : Nat) : ShardHead :=
  { k := g.k, m := g.m, index := i, owner := s.devNumber, target := t.code, containerLength := b.length, ownerHandle := g.handle,
    svn := g.svn, shardLength := stripesOf g.k b.length * stripeUnit, root := g.root, ownerId := s.deviceId,
    digests := (List.range (g.k + g.m)).map fun j => sha384 (shardOf b g.k j) }

/-- owner_handle of a shard entry. -/
def CatEntry.ownerHandle (e : CatEntry) : Nat := fieldAt e.container 0x10 4
/-- owner_id of a shard entry. -/
def CatEntry.ownerId (e : CatEntry) : Digest := digestOfBytes ((e.container.drop 0x50).take 48)
/-- k and m of a shard entry. -/
def CatEntry.params (e : CatEntry) : Nat × Nat := (fieldAt e.container 5 1, fieldAt e.container 6 1)

end Sys2Proof.Machine
end

