-- ==== Sys2Proof/Machine/Allotter.lean ====
section
/-!
DEFINITION. The Allotter (R241, R249-R267): catalogue commits, golden writes, the placing of shards and their acknowledgement,
durability, what follows when a copy is durable, laggards, absence, re-protection and re-encoding.
-/
namespace Sys2Proof.Machine

/-! ## Frames and members -/

/-- Nothing sent yet by this command. -/
def State.quiet (s : State) : State := { s with pak := { s.pak with sent := [] }, rill := { s.rill with out := [] } }

/-- Is a device of this segment present: this one, or one whose beacons arrive (R290). -/
def State.isPresent (s : State) (d : Nat) : Bool :=
  d == s.devNumber || (match finOf 32 d with
    | some i => i.val / 8 == s.pak.seg.val && (s.pak.seen[i]).present
    | none => false)

/-- The present members of the segment, this device included (R252). -/
def State.present (s : State) : List Nat := (List.range 32).filter s.isPresent

/-- This device's own trunks are up. -/
def State.ownTrunk (s : State) : Bool := (s.pak.links[(2 : LinkId)]).session || (s.pak.links[(3 : LinkId)]).session

/-- The place of a device number in a list. -/
def placeOf (l : List Nat) (d : Nat) : Nat := l.findIdx fun x => x == d

/-- The ring link towards a member of the segment: the direction with fewer hops in the ring, port B on a tie (R282). -/
def State.ringLink (s : State) (d : Nat) : LinkId :=
  let ring := s.present
  let n := max 1 ring.length
  let me := placeOf ring s.devNumber
  let it := placeOf ring d
  if (it + n - me) % n ≤ (me + n - it) % n then 1 else 0

/-- The member over which frames leave the segment: position 0, or 1 where 0 reaches no trunk (R282). -/
def State.gateway (s : State) : Nat :=
  let pos0 := s.pak.seg.val * 8
  let has := if s.devNumber = pos0 then s.ownTrunk else (match finOf 32 pos0 with
    | some i => (s.pak.seen[i]).present && (s.pak.seen[i]).reachesTrunk
    | none => false)
  if has then pos0 else pos0 + 1

/-- The link on which a frame for a device leaves (R282). -/
def State.outLink (s : State) (dst : Nat) : LinkId :=
  if dst / 8 = s.pak.seg.val then s.ringLink dst
  else if s.devNumber = s.gateway then (if (dst / 8 + 4 - s.pak.seg.val) % 4 ≤ 2 then 3 else 2)
  else s.ringLink s.gateway

/-- A link that sends one frame more: its counter (R279), and its replay buffer, the last 64 frames in all (R278). -/
def Link.keep (k : Link) (f : FrameOut) : Link :=
  { k with txCounter := k.txCounter + 1, replay := (k.replay ++ [f]).drop (k.replay.length - 63) }

/-- May a link send a sealed frame (R286): it has a session, whose counter leaves room. -/
def State.linkSends (s : State) (l : LinkId) : Bool := (s.pak.links[l]).session && decide ((s.pak.links[l]).txCounter < 2 ^ 32 + 2 ^ 24)

/-- Does a link carry a frame that this device sends to `dst` (R282): a broadcast goes out on every link with a session, any other on
the one that routing names. -/
def State.carries (s : State) (dst : Nat) (l : LinkId) : Bool := s.linkSends l && (decide (0xFE ≤ dst) || s.outLink dst == l)

/-- A frame of this device goes out, with 16 hops left (R279). -/
def State.sendFrame (s : State) (type dst : Nat) (last : Bool) (payload : List Byte) : State :=
  let f : FrameOut := ⟨type, dst, s.devNumber, 16, none, last, payload⟩
  let ls := Vector.ofFn fun l : LinkId => if s.carries dst l then (s.pak.links[l]).keep f else s.pak.links[l]
  { s with pak := { s.pak with sent := s.pak.sent ++ [f], links := ls } }

/-- Bytes in framePieces of at most `n`, one empty piece of none. -/
def framePieces (n : Nat) (bs : List Byte) : List (List Byte) := (List.range (max 1 ((bs.length + n - 1) / n))).map fun i => (bs.drop (i * n)).take n

/-- A message goes out, in frames of at most 4,096 bytes of payload (R279). -/
def State.send (s : State) (type dst : Nat) (payload : List Byte) : State :=
  let ps := framePieces 4096 payload
  ps.zipIdx.foldl (fun s x => s.sendFrame type dst (x.2 + 1 == ps.length) x.1) s

/-! ## Payloads (R279, R283, R297, R299); the order of the fields of those without a table is a DESIGN CHOICE (log entry 155) -/

/-- HOLDINGS: the owner's handle and the index of each shard. -/
def heldShardBytes (l : List (Nat × Nat)) : List Byte := l.flatMap fun x => leBytes 4 x.1 ++ leBytes 1 x.2 ++ leBytes 3 0

/-- SHARD_OFFER: the transfer number and the header. -/
def offerBytes (number : Nat) (h : ShardHead) : List Byte := leBytes 2 number ++ headBytes h

/-- SHARD_GRANT and SHARD_ACK: the transfer number and the code. -/
def codeBytes (number : Nat) (c : Code) : List Byte := leBytes 2 number ++ leBytes 1 c.num

/-- SHARD_DATA: the prefix of 16 bytes, then data (R297). -/
def shardDataBytes (number offset : Nat) (data : List Byte) : List Byte :=
  leBytes 2 number ++ leBytes 2 0 ++ leBytes 4 offset ++ leBytes 8 0 ++ data

/-- SHARD_REQ: owner_id, target, svn, merkle_root, index (R299). -/
def shardReqBytes (ownerId : Digest) (target svn : Nat) (root : Digest) (index : Nat) : List Byte :=
  digestBytes ownerId ++ leBytes 1 target ++ leBytes 4 svn ++ digestBytes root ++ leBytes 1 index

/-- The data of a shard go out, 4,096 bytes in each frame, in ascending order (R297). -/
def State.sendShard (s : State) (dst number : Nat) (data : List Byte) : State :=
  (framePieces 4096 data).zipIdx.foldl (fun s x => s.sendFrame 0x22 dst true (shardDataBytes number (x.2 * 4096) x.1)) s

/-- What this device's Allotter keeps of a member. -/
def State.peer (s : State) (d : Nat) : PeerStat := s.cis.peers[(⟨d % 32, Nat.mod_lt _ (by decide)⟩ : Fin 32)]

/-- Changes it. -/
def State.updPeer (s : State) (d : Nat) (f : PeerStat → PeerStat) : State :=
  { s with cis := { s.cis with peers := vupd s.cis.peers ⟨d % 32, Nat.mod_lt _ (by decide)⟩ f } }

/-- Free Cistern space of a member as this device knows it: its own; no frame tells another's (free value, log entry 30). -/
def State.memberFree (s : State) (d : Nat) : Nat := if d = s.devNumber then s.cisFree else (Config.freeWord (s.free + d)).toNat

/-- The order in which R255 chooses members, as a number whose low byte is the device. -/
def State.memberKey (s : State) (d : Nat) : Nat :=
  b2n (s.peer d).laggard * 2 ^ 80 + b2n (d == s.devNumber) * 2 ^ 79 + (2 ^ 64 - 1 - min (s.memberFree d) (2 ^ 64 - 1)) * 256 + d

/-- The members that may take a shard, the next choice first (R255). -/
def State.memberOrder (s : State) (skip : List Nat) : List Nat :=
  (sortNat ((s.present.filter fun d => ! skip.contains d).map s.memberKey)).map fun k => k % 256

/-- `code_k` and `code_m` of the segment master (R252): this device's own objects where it is the master or there is none; of another
master no frame tells them (free values in their ranges, log entry 117). -/
def State.masterCode (s : State) : Nat × Nat :=
  if s.pak.segMaster = s.devNumber ∨ s.pak.segMaster = 0xFF then (s.pnat 0x0404 1 6, s.pnat 0x0404 2 2)
  else (2 + (Config.freeWord (s.free + 64)).toNat % 11, 1 + (Config.freeWord (s.free + 65)).toNat % 4)

/-- k and m of a set written now (R252); 0 and 0 for class 0. -/
def State.setParams (s : State) (t : Target) : Nat × Nat :=
  let n := s.present.length
  let k := s.masterCode.1
  let m := s.masterCode.2
  match s.pnat 0x0402 t.sub 1 with
  | 0 => (0, 0)
  | 2 => (1, min n 4 - 1)
  | _ =>
    if n < 4 then (1, n - 1)
    else if k + m ≤ n then (k, m)
    else let k2 := max 2 (n - m); (k2, min m (n - k2))

/-! ## Sets -/

/-- Every target. -/
def allTargets : List Target := (List.finRange 64).map Target.chan ++ [.mission, .extension]

/-- The golden sets of a target, newest first. -/
def State.setsOf (s : State) (t : Target) : List GoldenSet := s.cis.sets[t.idx]

/-- Replaces the sets of a target. -/
def State.putSets (s : State) (t : Target) (f : List GoldenSet → List GoldenSet) : State :=
  { s with cis := { s.cis with sets := vupd s.cis.sets t.idx f } }

/-- Changes one set. -/
def State.updSet (s : State) (t : Target) (id : Nat) (f : GoldenSet → GoldenSet) : State :=
  s.putSets t fun l => l.map fun g => if g.id = id then f g else g

/-- The set of a number. -/
def State.setById (s : State) (t : Target) (id : Nat) : Option GoldenSet := (s.setsOf t).find? fun g => g.id == id

/-- L (before R258): the local copy is committed and readable. -/
def State.localLive (s : State) (g : GoldenSet) : Bool :=
  s.catalogueReadable && s.cis.catalogue.any fun e => e.handle == g.handle && e.role == .localCopy && e.readable

/-- This device's entry of shard `i` of one of its sets. -/
def CatEntry.ownShard (e : CatEntry) (me : Nat) (g : GoldenSet) (i : Nat) : Bool :=
  e.owner == me && e.role == .shard i && e.ownerHandle == g.handle && e.params == (g.k, g.m)

/-- Does a placed shard count in S: acknowledged, readable, its holder present. -/
def State.locLive (s : State) (g : GoldenSet) (l : ShardLoc) : Bool :=
  l.acked && (if l.device = s.devNumber then
      s.catalogueReadable && s.cis.catalogue.any fun e => e.ownShard s.devNumber g l.index && e.readable
    else s.isPresent l.device)

/-- S of a set. -/
def State.shardsLive (s : State) (g : GoldenSet) : Nat :=
  ((List.range (g.k + g.m)).filter fun i => g.shards.any fun l => l.index == i && s.locLive g l).length

/-- golden_state of a set (R258); a set whose writing has not come to anything yet is NONE. -/
def State.durability (s : State) (g : GoldenSet) : Nat :=
  let live := s.shardsLive g
  if s.localLive g then
    if g.k = 0 ∨ live = g.k + g.m then 3 else if g.k + g.m ≤ live + 1 then 2 else 1
  else if g.state = 0 ∧ live = 0 then 0
  else if 0 < g.k ∧ g.k ≤ live then 4 else 5

/-- The event of a state that a set comes to (R272): LOCAL has one under R259 alone. -/
def durabilityEvent : Nat → Option Nat
  | 2 => some 1069 | 3 => some 1071 | 4 => some 1072 | 5 => some 1073 | _ => none

/-! ## Catalogue commits (R249) -/

/-- The commit of the first waiting change begins, under the gate (R227). -/
def State.nextCommit (s : State) : State :=
  if s.cis.committing || s.cis.commits.isEmpty || s.cis.state != 2 then s
  else if s.mayStart .catalogue then { s with cis := { s.cis with committing := true } }
  else if s.upd.waiting.contains .catalogue then s
  else s.queueStep .catalogue

/-- A change of the catalogue waits for its commit. -/
def State.catChange (s : State) (c : CatChange) : State :=
  { s with cis := { s.cis with commits := s.cis.commits ++ [c] } }.nextCommit

/-- A new handle (R249). -/
def State.takeHandle (s : State) : Nat × State := (s.cis.nextHandle, { s with cis := { s.cis with nextHandle := s.cis.nextHandle + 1 } })

/-- The fitted targets of a NAND channel (R242). -/
def State.channelTargets (s : State) (ch : Nat) : List Nat :=
  (List.range 8).filter fun t => t / 4 == ch && match finOf 8 t with
    | some i => (s.cis.targets[i]).present
    | none => false

/-- Units on one of some targets; which, and where on it, is the Allotter's own choice (free values, log entry 31). -/
def State.freeExtent (s : State) (n : Nat) (ts : List Nat) (units : Nat) : Extent :=
  { target := ts.getD ((Config.freeWord (s.free + n)).toNat % max 1 ts.length) 0, first := (Config.freeWord (s.free + n + 1)).toNat, units := units }

/-- Where the units of a new entry lie (R244): those of a golden copy on alternate channels, where both are fitted. -/
def State.placeUnits (s : State) (role : CatRole) (units : Nat) : List (List Extent) :=
  let a := s.channelTargets 0
  let b := s.channelTargets 1
  match role with
  | .localCopy => if a.isEmpty ∨ b.isEmpty then [[s.freeExtent 0 (a ++ b) units]]
    else [[s.freeExtent 0 a ((units + 1) / 2)], [s.freeExtent 2 b (units / 2)]]
  | .shard _ => [[s.freeExtent 0 (a ++ b) units]]

/-- A new entry. -/
def State.newEntry (s : State) (handle owner target svn : Nat) (root : Digest) (role : CatRole) (content : List Byte) : CatEntry :=
  { handle := handle, owner := owner, target := target, svn := svn, root := root, role := role,
    extents := s.placeUnits role ((content.length + 2047) / 2048), container := content, readable := true }

/-- Does an extent hold a unit of a target. -/
def Extent.holds (x : Extent) (t u : Nat) : Bool := x.target == t && decide (x.first ≤ u) && decide (u < x.first + x.units)

/-- The place of a unit within a lane of extents. -/
def laneIndex (t u : Nat) : List Extent → Option Nat
  | [] => none
  | x :: xs => if x.holds t u then some (u - x.first) else (laneIndex t u xs).map fun i => i + x.units

/-- The number of the unit that an entry has at a place of a target, if it has one there (R244, R245). -/
def CatEntry.unitAt (e : CatEntry) (t u : Nat) : Option Nat :=
  e.extents.zipIdx.findSome? fun x => (laneIndex t u x.1).map fun i => i * e.extents.length + x.2

/-- An extent with the units that lie in [a, b) of a target moved to a fresh place (R246, R247). -/
def Extent.moveOff (x : Extent) (t a b : Nat) (fresh : Nat → Extent) : List Extent :=
  let lo := max a x.first
  let hi := min b (x.first + x.units)
  if x.target ≠ t ∨ hi ≤ lo then [x]
  else ([{ x with units := lo - x.first }, fresh (hi - lo), { x with first := hi, units := x.first + x.units - hi }] : List Extent).filter
    fun y => y.units != 0

/-! ## Sending shards (R255, R297) -/

/-- A transfer number not in use. -/
def freeNumber (ts : List Transfer) : Nat := ((List.range 9).find? fun n => ! ts.any fun t => t.number == n).getD 9

/-- A shard is offered to a member (R297). -/
def State.offer (s : State) (dst set : Nat) (h : ShardHead) (data : List Byte) (probe : Bool) : State :=
  let n := freeNumber s.pak.outgoing
  let s := s.send 0x20 dst (offerBytes n h)
  { s with pak := { s.pak with outgoing := s.pak.outgoing ++
      [{ number := n, peer := dst, set := set, head := h, data := data, granted := false, progressAt := s.time, startAt := 0, probe := probe }] } }

/-- Is the shard of a place on its way: offered, or waiting for a commit. -/
def State.underWay (s : State) (g : GoldenSet) (l : ShardLoc) : Bool :=
  (s.pak.outgoing.any fun t => t.set == g.id && t.head.index == l.index && t.peer == l.device)
  || s.cis.commits.any fun c => match c with
    | .add e _ => l.device == s.devNumber && e.ownShard s.devNumber g l.index
    | .free _ => false

/-- The shard of a place is sent on its way, where the local copy is there and a transfer is free (R297: at most 8). -/
def State.pumpLoc (t : Target) (id : Nat) (s : State) (l : ShardLoc) : State :=
  match s.setById t id with
  | none => s
  | some g =>
    match s.catContainer g.handle with
    | none => s
    | some b =>
      if l.acked || s.underWay g l then s
      else
        let h := s.shardHead t g b l.index
        let d := shardOf b g.k l.index
        if l.device = s.devNumber then
          let r := s.takeHandle
          let e := r.2.newEntry r.1 s.devNumber t.code g.svn g.root (.shard l.index) (headBytes h ++ d)
          (r.2.catChange (.add e none)).drawn
        else if s.pak.outgoing.length < 8 then s.offer l.device g.id h d false else s

/-- Every shard of a set that waits is sent on its way. -/
def State.pumpSet (t : Target) (s : State) (g : GoldenSet) : State := g.shards.foldl (State.pumpLoc t g.id) s

/-- Every set of every target. -/
def State.pump (s : State) : State := allTargets.foldl (fun s t => (s.setsOf t).foldl (State.pumpSet t) s) s

/-- Members are chosen for the indices of a set that have no place (R255); where no member is left the set holds fewer shards. -/
def State.placeShards (s : State) (t : Target) (id : Nat) : State :=
  match s.setById t id with
  | none => s
  | some g =>
    let missing := (List.range (g.k + g.m)).filter fun i => ! g.shards.any fun l => l.index == i
    let order := s.memberOrder (g.full ++ g.shards.map fun l => l.device)
    let locs := (missing.zip order).map fun x => (⟨x.1, x.2, false⟩ : ShardLoc)
    let s := { s.updSet t id fun g => { g with shards := g.shards ++ locs } with free := s.free + 32 }
    s.pump

/-! ## Golden writes (R251, R252) -/

/-- A container with its payload: as given where it carries one; else the manifest, with the leaves of the update's image or of the
channel's mirror at the next multiple of 4,096. -/
def State.fullContainer (s : State) (t : Target) (b : List Byte) : List Byte :=
  if imgHasPayload b && decide (imgTotal b ≤ b.length) then b.take (imgTotal b)
  else
    let m := imgManifest b
    let leaves := (List.range (imgLeaves b)).flatMap fun i => match t with
      | .chan c => if (s.target t).staging.isSome then s.imageLeaf t b i else s.mirrorBytes c (i * 4096) 4096
      | _ => s.imageLeaf t b i
    m ++ List.replicate (roundUp m.length 4096 - m.length) 0 ++ leaves

/-- A golden write joins those that wait for the Cistern (R577). -/
def State.deferGolden (s : State) (t : Target) (b : List Byte) : State :=
  { s with cis := { s.cis with pendingWrites := s.cis.pendingWrites ++ [(t, b)] } }

/-- The local copy of a golden write goes to its catalogue commit; its set takes the parameters of now (R252). -/
def State.putGolden (s : State) (t : Target) (b : List Byte) : State :=
  let r := s.takeHandle
  let q := s.setParams t
  let g : GoldenSet := { id := r.1, handle := r.1, svn := imgSvn b, root := imgRoot b, size := b.length, k := q.1, m := q.2, shards := [], full := [],
                         state := 0, replaces := none }
  let e := r.2.newEntry r.1 s.devNumber t.code (imgSvn b) (imgRoot b) .localCopy b
  ((r.2.putSets t fun l => g :: l).catChange (.add e none)).drawn

/-- A golden write (R251, R577): it waits while the Cistern is not online, and is refused for space or in read-only (R246, R269). -/
def State.goldenWrite (s : State) (t : Target) (b : List Byte) : State :=
  if s.cis.state = 3 then s.raiseLog 1068 [(1, t.code)]
  else if s.cis.state ≠ 2 then s.deferGolden t b
  else
    let full := s.fullContainer t b
    if s.goldenSpace full.length then s.putGolden t full else s.raiseLog 1068 [(1, t.code)]

/-- The container of a golden write that names none: the manifest of the image in force, with the mirror's content. -/
def State.goldenSource (s : State) (t : Target) : Option (List Byte) :=
  match t with
  | .chan c => s.catContainer (s.chan c).desc.manifestRef
  | _ => none

/-- A waiting golden write is carried out. -/
def State.runPending (s : State) (w : Target × List Byte) : State :=
  match w.2 with
  | [] =>
    match s.goldenSource w.1 with
    | some b => s.goldenWrite w.1 (imgManifest b)
    | none => s
  | b => s.goldenWrite w.1 b

/-- The golden writes that waited, once the Cistern is online (R577). -/
def State.runPendings (s : State) : State :=
  if s.cis.state = 2 then
    let ws := s.cis.pendingWrites
    ws.foldl State.runPending { s with cis := { s.cis with pendingWrites := [] } }
  else s

/-! ## Disposal (R257) -/

/-- The root of the image in force of a target. -/
def State.rootInForce (s : State) (t : Target) : Digest :=
  match s.commitInForce t, t with
  | some r, _ => r.root
  | none, .chan c => (s.chan c).desc.merkleRoot
  | none, _ => s.boot.root

/-- A set is freed: its local copy where no other set shares it, and this device's shards; what it has on peers is theirs to be told
of (no frame says so; log entry 32). -/
def State.freeSet (s : State) (t : Target) (g : GoldenSet) : State :=
  let s := s.putSets t fun l => l.filter fun x => x.id != g.id
  let shared := (s.setsOf t).any fun x => x.handle == g.handle
  let hs := (s.cis.catalogue.filter fun e =>
    (e.handle == g.handle && ! shared) || (e.owner == s.devNumber && e.ownerHandle == g.handle && e.params == (g.k, g.m) &&
      (match e.role with
        | .shard _ => true
        | .localCopy => false))).map fun e => e.handle
  let s := { s with pak := { s.pak with outgoing := s.pak.outgoing.filter fun x => x.set != g.id } }
  if hs.isEmpty then s else s.catChange (.free hs)

/-- The sets of a target that R257 keeps: down to the image in force and its predecessors. -/
def State.keptSets (s : State) (t : Target) : Nat :=
  let i := ((s.setsOf t).findIdx? fun g => g.root == s.rootInForce t).getD 0
  i + 1 + s.pnat 0x0403 t.sub 1

/-- The older copies of a target are freed once that of its image in force is DURABLE or better (R257, R259). -/
def State.dispose (s : State) (t : Target) : State :=
  let drop := (s.setsOf t).drop (s.keptSets t)
  if (s.setsOf t).any fun g => g.root == s.rootInForce t && (g.state == 2 || g.state == 3) then drop.foldl (fun s g => s.freeSet t g) s
  else s

/-! ## The update waits for its copy -/

/-- The landing of a channel update begins (R215): the output, where it is released, is asserted by the steward's hold. -/
def State.startLanding (s : State) (c : ChanId) : State :=
  let t : Target := .chan c
  match s.hg.steward, (s.chan c).output with
  | some h, some o =>
    if s.outReleased o then ((s.setUpd t 4).updTarget t fun u => { u with heldOut := some h }).holdSet h o else s.setUpd t 4
  | _, _ => s.setUpd t 4

/-- A component is applied once verified and durable, until it is activated (R207: ApplyComplete). -/
def State.applied (s : State) (t : Target) : State :=
  if (s.target t).route = some .pldm ∧ ! (s.target t).activate ∧ ! s.upd.pldmApplied.contains t then
    ({ s with upd := { s.upd with pldmApplied := s.upd.pldmApplied ++ [t], pldmComp := none, pldm := .readyXfer } }).pldmTell t 0x18 0
  else s

/-- An update that is verified and whose golden copy is durable goes on (R213, R235, R239): a channel's to its landing, once asked. -/
def State.updProceed (s : State) (t : Target) : State :=
  let u := s.target t
  if u.state = 3 ∧ u.verified ∧ u.golden then
    let s := s.applied t
    match t with
    | .chan c => if u.activate then s.startLanding c else s
    | _ => s
  else s

/-- The copy of an update is durable (R213 step 2, R259). -/
def State.updDurable (s : State) (t : Target) (root : Digest) : State :=
  let u := s.target t
  if u.verified ∧ ! u.golden ∧ imgRoot u.container = root then (s.updTarget t fun u => { u with golden := true, idleAt := none }).updProceed t else s

/-! ## Durability (R258) -/

/-- The bytes left of a re-protection or re-encoding (shards not acknowledged), or of a rebuild (containers not in the Cistern). -/
def State.bytesLeft (s : State) : Nat :=
  (allTargets.map fun t => ((s.setsOf t).map fun g =>
    if s.cis.rebuild = 3 then (if s.localLive g then 0 else g.size)
    else if g.k = 0 then 0
    else (g.shards.filter fun l => ! l.acked).length * (stripesOf g.k g.size * stripeUnit)).sum).sum

/-- What a set's work came to: the set it re-encodes is freed once it is durable (R263), and older copies (R257). -/
def State.setDurable (s : State) (t : Target) (g : GoldenSet) : State :=
  let s := s.updDurable t g.root
  let s := match g.replaces.bind fun i => s.setById t i with
    | some old => ((s.freeSet t old).updSet t g.id fun x => { x with replaces := none }).raiseLog 1080 [(1, t.code)]
    | none => s
  s.dispose t

/-- Is an invalidate of a channel under way: queued, or staged (R98, R255). -/
def State.invalOpen (s : State) (c : ChanId) : Bool := (s.chan c).staged.isSome || s.mir.invals.any fun i => i.chan == c

/-- The golden fields that a set gives a descriptor (R90, R255): handle, k, m, state, and the members that hold a shard. -/
def GoldenSet.fields (g : GoldenSet) : Nat × Nat × Nat × Nat × Nat :=
  (g.handle, g.k, g.m, g.state, (g.shards.filter fun l => l.acked).foldl (fun n l => n ||| 2 ^ l.device) 0)

/-- The golden fields of a descriptor in force. -/
def Desc.goldens (d : Desc) : Nat × Nat × Nat × Nat × Nat := (d.goldenLocal, d.goldenK, d.goldenM, d.goldenState, d.goldenPeers)

/-- The newest set of the image that a channel's descriptor names. -/
def State.descSet (s : State) (c : ChanId) : Option GoldenSet :=
  (s.setsOf (.chan c)).find? fun g => g.root == (s.chan c).desc.merkleRoot

/-- Are the golden fields of a channel's descriptor to be written (R255): they differ from the set's, and no invalidate is under way. -/
def State.goldensDue (s : State) (c : ChanId) : Bool :=
  ! s.invalOpen c && match s.descSet c with
    | some g => g.fields != (s.chan c).desc.goldens
    | none => false

/-- Writes the golden fields of a descriptor and reposts the digest (R255). -/
def State.goldenPut (s : State) (c : ChanId) (f : Nat × Nat × Nat × Nat × Nat) : State :=
  let s := s.store (s.mir.chtBase.toNat + c.val * 0x100 + 0x90)
    (leBytes 4 f.1 ++ leBytes 1 f.2.1 ++ leBytes 1 f.2.2.1 ++ leBytes 1 f.2.2.2.1 ++ leBytes 1 0 ++ leBytes 4 f.2.2.2.2)
  let s := s.updChan c fun ch => { ch with desc := { ch.desc with goldenLocal := f.1, goldenK := f.2.1, goldenM := f.2.2.1,
                                                                  goldenState := f.2.2.2.1, goldenPeers := f.2.2.2.2 } }
  s.repostDigest

/-- The golden fields of a channel's descriptor are those of the newest set of its image in force (R255). -/
def State.goldenSync (s : State) (c : ChanId) : State :=
  match s.descSet c with
  | some g => if s.goldensDue c then s.goldenPut c g.fields else s
  | none => s

/-- A set in the state that the rule gives it now (R258): its event, a GOLDEN record, and what follows. -/
def State.refreshSet (t : Target) (s : State) (g0 : GoldenSet) : State :=
  match s.setById t g0.id with
  | none => s
  | some g =>
    let st := s.durability g
    if st = g.state then s
    else
      let s := s.updSet t g.id fun x => { x with state := st }
      let s := match durabilityEvent st with
        | some e => s.raise e
        | none => s
      let s := s.logIt .golden ((durabilityEvent st).getD noEvent) 0 [(1, t.code), (4, g.handle), (1, g.state), (1, st)]
      if 2 ≤ st ∧ st ≤ 3 then s.setDurable t { g with state := st } else s

/-- No re-protection, re-encoding or rebuild is left to do: its end is told (R272). -/
def State.rebuildCheck (s : State) : State :=
  let left := s.bytesLeft
  let s := { s with cis := { s.cis with rebuildLeft := if s.cis.rebuild = 0 then 0 else left } }
  if s.cis.rebuild = 0 ∨ left ≠ 0 then s
  else if s.cis.rebuild = 2 then { s with cis := { s.cis with rebuild := 0 } }
  else ({ s with cis := { s.cis with rebuild := 0 } }).raiseLog 1078 []

/-- Every set in the state that it has now, and the descriptors with it. -/
def State.refreshSets (s : State) : State :=
  let s := (allTargets.foldl (fun s t => (s.setsOf t).foldl (State.refreshSet t) s) s).rebuildCheck
  (List.finRange 64).foldl State.goldenSync s

/-! ## A commit completes (R249) -/

/-- A place of a set is acknowledged; a laggard's or an absent member's copy of the same index gives way (R261, R263). -/
def GoldenSet.acknowledge (g : GoldenSet) (index device : Nat) : GoldenSet :=
  { g with shards := (g.shards.filter fun l => l.index != index || l.device == device).map fun l =>
      if l.index = index ∧ l.device = device then { l with acked := true } else l }

/-- What a committed entry brings: the shards of a local copy are placed (R251), a shard kept here counts, a peer has its
acknowledgement (R256, R297). -/
def State.entryIn (s : State) (e : CatEntry) (ack : Option (Nat × Nat)) : State :=
  match ack, Target.ofCode e.target, e.role with
  | some (peer, number), _, _ => s.send 0x23 peer (codeBytes number .ok)
  | none, some t, .localCopy =>
    ((s.setsOf t).filter fun g => g.handle == e.handle).foldl (fun s g => s.placeShards t g.id) s
  | none, some t, .shard i =>
    ((s.setsOf t).filter fun g => e.ownShard s.devNumber g i).foldl (fun s g => s.updSet t g.id fun x => x.acknowledge i s.devNumber) s
  | none, none, _ => s

/-- The catalogue with a change. -/
def CatChange.apply (c : CatChange) (l : List CatEntry) : List CatEntry :=
  match c with
  | .add e _ => l ++ [e]
  | .free hs => l.filter fun e => ! hs.contains e.handle

/-- A change takes effect, and what an entry brings with it. -/
def State.applyChange (s : State) (c : CatChange) : State :=
  let s := { s with cis := { s.cis with catalogue := c.apply s.cis.catalogue } }
  match c with
  | .add e ack => s.entryIn e ack
  | .free _ => s

/-- The blocks of copy A and of copy B (R244), as target and block: B on the other channel where target 4 is fitted. -/
def State.copyBlocks (s : State) : List (Nat × Nat) × List (Nat × Nat) :=
  ([(0, 0), (0, 1)], if (s.cis.targets[(4 : Fin 8)]).present then [(4, 0), (4, 1)] else [(0, 2), (0, 3)])

/-- Both copies are written; one that fails its read-back holds nothing new (R244, R249). -/
def State.writeCopies (s : State) (l : List CatEntry) (okA okB : Bool) : State :=
  let x : CatCopy := ⟨l, s.cis.badBlocks⟩
  { s with cis := { s.cis with copyA := if okA then x else s.cis.copyA, copyB := if okB then x else s.cis.copyB } }

/-- The commit under way ends (R249): the change takes effect where both copies read back; else the previous catalogue stays. -/
def State.commitDone (s : State) (okA okB : Bool) : State :=
  match s.cis.committing, s.cis.commits with
  | true, c :: rest =>
    let s := { s with cis := { s.cis with commits := rest, committing := false } }
    let s := s.writeCopies (c.apply s.cis.catalogue) okA okB
    let s := if okA && okB then s.applyChange c else s.raiseLog 1065 []
    s.refreshSets.nextCommit
  | _, _ => s

/-! ## Members come and go (R262-R264, R291) -/

/-- The sets of this device that have a shard on a member. -/
def State.setsOn (s : State) (d : Nat) : List (Target × GoldenSet) :=
  allTargets.flatMap fun t => ((s.setsOf t).filter fun g => g.shards.any fun l => l.device == d).map fun g => (t, g)

/-- The shards kept of owners that match become orphans (R264); what is one already keeps its time. -/
def State.orphanWhere (s : State) (gone : CatEntry → Bool) : State :=
  let es := s.cis.catalogue.filter fun e => gone e && (match e.role with
    | .shard _ => true
    | .localCopy => false) && ! s.cis.orphans.any fun o => o.handles.contains e.handle
  let new := es.map fun e => (⟨e.owner, e.ownerId, e.target, s.time, [e.handle]⟩ : OrphanSet)
  { s with cis := { s.cis with orphans := s.cis.orphans ++ new } }

/-- The sets that a member owned become orphans (R264). -/
def State.orphan (s : State) (d : Nat) : State := s.orphanWhere fun e => e.owner == d

/-- The sets of no present member become orphans (R264): a position without one, or this one's under another DeviceID. -/
def State.orphanAbsent (s : State) : State :=
  s.orphanWhere fun e => ! s.isPresent e.owner || (e.owner == s.devNumber && e.ownerId != s.deviceId)

/-- Transfers with a peer end with FRAME_ABORT (R298): what has come is freed, the Allotter places the shards again. -/
def State.abortTransfers (s : State) (sel : Transfer → Bool) : State :=
  let gone := s.pak.outgoing.filter sel ++ s.pak.incoming.filter sel
  let s := { s with pak := { s.pak with outgoing := s.pak.outgoing.filter fun t => ! sel t, incoming := s.pak.incoming.filter fun t => ! sel t } }
  gone.foldl (fun s t => s.raiseLog 1113 [(1, t.peer), (2, t.number)]) s

/-- A shard whose transfer was abandoned is placed again under R255 (R298). -/
def State.placeAgain (s : State) (t : Transfer) : State :=
  match Target.ofCode t.head.target with
  | none => s
  | some g =>
    let s := s.updSet g t.set fun x => { x with shards := x.shards.filter fun l => ! (l.index == t.head.index && l.device == t.peer && ! l.acked) }
    s.placeShards g t.set

/-- A member is absent (R262, R264, R298): its shards leave S, the wait for a replacement begins. -/
def State.peerAbsent (s : State) (d : Nat) : State :=
  let n := (s.setsOn d).length
  let s := s.updPeer d fun p => { p with absentSince := some s.time, slow := 0, good := 0, acks := [] }
  let s := s.raiseLog 1076 [(1, d), (2, n)]
  let gone := s.pak.outgoing.filter fun t => t.peer == d
  let s := (s.abortTransfers fun t => t.peer == d).orphan d
  (gone.foldl State.placeAgain s).refreshSets

/-- A joining member has none of the shards placed at its position (R263): they are sent to it. -/
def State.reprotect (s : State) (d : Nat) (has : List (Nat × Nat)) : State :=
  let sets := s.setsOn d
  let s := sets.foldl (fun s x => s.updSet x.1 x.2.id fun g => { g with shards := g.shards.map fun l =>
    if l.device = d then { l with acked := has.contains (g.handle, l.index) } else l }) s
  let missing := sets.any fun x => x.2.shards.any fun l => l.device == d && ! has.contains (x.2.handle, l.index)
  let s := if missing then ({ s with cis := { s.cis with rebuild := 1 } }).raiseLog 1077 [(1, d)] else s
  (s.pump).refreshSets

/-- The shards held of an owner as HOLDINGS lists them (R291): none while the Cistern cannot be read, whose holdings count as lost (R243). -/
def State.holdings (s : State) (sel : CatEntry → Bool) : List Byte :=
  if s.catalogueReadable then
    heldShardBytes ((s.cis.catalogue.filter fun e => sel e && e.readable).filterMap fun e => match e.role with
      | .shard i => some (e.ownerHandle, i)
      | .localCopy => none)
  else []

/-- A member joins (R263, R264, R291): orphans of its DeviceID are none any more; a new device at a position gets the shards it
lacks, one that returns is asked by its HOLDINGS. -/
def State.peerJoined (s : State) (d : Nat) (id : Digest) (same : Bool) : State :=
  let s := s.updPeer d fun p => { p with absentSince := none, laggard := p.laggard && same }
  let s := { s with cis := { s.cis with orphans := s.cis.orphans.filter fun o => o.ownerId != id && ! (same && o.ownerDev == d) } }
  let s := s.send 0x13 d (s.holdings fun e => e.owner == d && (same || e.ownerId == id))
  if same then s.refreshSets else s.reprotect d []

/-- A re-encoding of a set begins (R263): a new set under R252 over the same local copy. -/
def State.reencode (s : State) (t : Target) (g : GoldenSet) : State :=
  let r := s.takeHandle
  let q := s.setParams t
  let n : GoldenSet := { g with id := r.1, k := q.1, m := q.2, shards := [], full := [], state := 0, replaces := some g.id }
  ((r.2.putSets t fun l => n :: l).raiseLog 1079 [(1, t.code)]).placeShards t n.id

/-- replace_wait_s ends without a join (R263). -/
def State.replaceWait (s : State) (d : Nat) : State :=
  match (s.peer d).absentSince with
  | none => s
  | some at_ =>
    if s.isPresent d then s
    else
      let s := s.advanceTo (at_ + s.pnat 0x0404 3 3600 * secNs)
      let s := s.updPeer d fun p => { p with absentSince := none }
      let sets := (s.setsOn d).filter fun x => decide (s.shardsLive x.2 < x.2.k + x.2.m)
      if sets.isEmpty then s
      else
        let s := { s with cis := { s.cis with rebuild := 2 } }
        (sets.foldl (fun s x => s.reencode x.1 x.2) s).refreshSets

end Sys2Proof.Machine
end

