-- ==== Sys2Proof/Machine/Cistern.lean ====
section
/-!
DEFINITION. The Cistern controller (R242-R250, R270-R272): init, the command queue, bad blocks, patrol; and the Allotter's
commands over it (R251-R267): golden writes, windows and waits, the fill map.
-/
namespace Sys2Proof.Machine

/-! ## Init (R242, R243) -/

/-- CISTERN (R270). -/
def cisternBase : Nat := 0x40070000

/-- Init begins: the targets are reset, calibrated and trained (R242, R270 CTL.init). -/
def State.cisternInit (s : State) : State :=
  { s with cis := { s.cis with state := 1, ready := false, committing := false, commits := [] } }

/-- CISTERN_INIT (R242, R243). -/
def execCisternInit (half : Half) (s : State) : Host.Outcome State Fault Refusal :=
  .next (s.halfBus half cisternBase 25 true State.cisternInit)

/-- The target of a block or page key. -/
def keyTarget (k : Nat) : Nat := k / 2 ^ 32

/-- A target as its blocks stand (R246): 3 % in reserve, bad blocks taken from it. -/
def targetOf (present : Bool) (blocks : Nat) (bad : List Nat) (t : Nat) : NandTarget :=
  let n := (bad.filter fun k => keyTarget k == t).length
  let r := blocks * 3 / 100
  if present then ⟨true, n, r, r - n⟩ else ⟨false, 0, 0, 0⟩

/-- Some fitted target has no reserve left (R246). -/
def State.reserveGone (s : State) : Bool := s.cis.targets.toList.any fun t => t.present && t.reserveLeft == 0

/-- The targets that a rebuild asks for the shards of a set (R266, R299): one SHARD_REQ for each index that another member holds. -/
def State.requestShards (s : State) (t : Target) (g : GoldenSet) : State :=
  (g.shards.filter fun l => l.acked && l.device != s.devNumber && s.isPresent l.device).foldl
    (fun s l => s.send 0x24 l.device (shardReqBytes s.deviceId t.code g.svn g.root l.index)) s

/-- Rebuild begins where a local copy is gone and its shards can restore it (R266); refused outside HOLD, GUARD and UPDATE (R51). -/
def State.startRebuild (s : State) : State :=
  let lost := allTargets.flatMap fun t => ((s.setsOf t).filter fun g =>
    ! s.localLive g && decide (0 < g.k) && decide (g.k ≤ s.shardsLive g)).map fun g => (t, g)
  if lost.isEmpty ∨ s.cis.state ≠ 2 ∨ s.cis.rebuild = 3 then s
  else if ! ModeOp.golden.permitted s.dev.mode then (s.opRefused .golden).answer .refusedState
  else
    let s := ({ s with cis := { s.cis with rebuild := 3 } }).raiseLog 1077 []
    (lost.foldl (fun s x => s.requestShards x.1 x.2) s).rebuildCheck

/-- Init completes (R243, R246): the Cistern goes online, read-only or offline; under another lifecycle what it holds cannot be
opened (R50, R245). -/
def State.cisternInitDone (s : State) (o : InitOutcome) : State :=
  if s.cis.state ≠ 1 then s
  else
    let present := o.fitted &&& o.trained
    let s := { s with cis := { s.cis with trainFail := o.fitted &&& ~~~ o.trained != 0, pagesPerBlock := o.pagesPerBlock,
                                          blocksPerTarget := o.blocksPerTarget } }
    if ! o.match_ ∨ s.pget 0x0401 1 [] = [] ∨ present = 0 then
      ({ s with cis := { s.cis with state := 4 } }).raiseLog 1057 [] |>.refreshSets
    else
      let marks := ! s.cis.marksRead && s.lifecycle == .provision
      let s := if marks then { s with cis := { s.cis with badBlocks := s.cis.badBlocks ++ o.factoryBad, marksRead := true } } else s
      let s := { s with cis := { s.cis with
        targets := Vector.ofFn fun t : Fin 8 => targetOf (present.getLsbD t.val) o.blocksPerTarget s.cis.badBlocks t.val,
        ready := true } }
      let s := if s.cis.sealedUnder = s.lifecycle then s
        else { s with cis := { s.cis with catalogue := [], copyA := ⟨[], []⟩, copyB := ⟨[], []⟩, pages := [], sealedUnder := s.lifecycle } }
      let s := { s with cis := { s.cis with state := if s.reserveGone then 3 else 2, patrolAt := s.time } }
      let s := if s.reserveGone then s.raiseLog 1063 [] else s
      ((s.raiseLog 1056 []).orphanAbsent.refreshSets.runPendings).startRebuild

/-! ## The queue (R270, R271) -/

/-- Rows of a target: none where it is not fitted. -/
def State.rowsOf (s : State) (t : Nat) : Nat :=
  match finOf 8 t with
  | some i => if (s.cis.targets[i]).present then s.cis.blocksPerTarget * s.cis.pagesPerBlock else 0
  | none => 0

/-- Does a DRAM range (offset ÷ 512, bytes) lie in the staging region (R111, R271). -/
def State.inStaging (s : State) (off n : Nat) : Bool :=
  decide (s.mir.protectedMib * mib ≤ off * 512) && decide (off * 512 + n ≤ s.mir.stagingEndMib * mib)

/-- The bits set of a number below 2^16. -/
def bits16 (v : Nat) : Nat := popCount (BitVec.ofNat 16 v)

/-- The field checks of R271: the code's width, missing shards, rows, and the DRAM ranges. -/
def State.cisCmdOk (s : State) (c : CisCmd) : Bool :=
  let rows := c.op ≤ 3 || c.op == 6
  let coder := c.op == 4 || c.op == 5
  decide (c.k + c.m ≤ 16)
  && (c.op != 5 || decide (bits16 c.missing ≤ c.m))
  && (! rows || decide (c.row + (if c.op = 3 then 1 else c.pages) ≤ s.rowsOf c.target))
  && ((c.op != 1 && c.op != 2 && c.op != 6) || s.inStaging c.dram (c.pages * 16384))
  && (c.op != 7 || s.inStaging c.dram 256)
  && (! coder || (List.range (c.k + c.m)).all fun i => s.inStaging (c.shardBase + i * c.stride) c.length)

/-- A command pushed (R270, R271). -/
def State.cisternPush (s : State) (c : CisCmd) : State :=
  if 64 ≤ s.cis.queue.length then ({ s with cis := { s.cis with lostPush := true } }).raiseLog 1083 []
  else if ! s.cisCmdOk c then
    ({ s with cis := { s.cis with done := s.cis.done ++ [(c.tag, Code.badRange)] } }).raiseLog 1084 [(2, c.tag)]
  else { s with cis := { s.cis with queue := s.cis.queue ++ [c] } }

/-- A push by a half (R19, R270). -/
def State.cisternQpush (s : State) (half : Half) (c : CisCmd) : State :=
  s.halfBus half (cisternBase + 0x100) 25 true fun s => s.cisternPush c

/-- CISTERN_READ (R270). -/
def execCisternRead (half : Half) (cmd : CisCmd) (s : State) : Host.Outcome State Fault Refusal :=
  .next (s.cisternQpush half { cmd with op := 1 })
/-- CISTERN_PROGRAM (R270). -/
def execCisternProgram (half : Half) (cmd : CisCmd) (s : State) : Host.Outcome State Fault Refusal :=
  .next (s.cisternQpush half { cmd with op := 2 })
/-- CISTERN_ERASE (R270). -/
def execCisternErase (half : Half) (cmd : CisCmd) (s : State) : Host.Outcome State Fault Refusal :=
  .next (s.cisternQpush half { cmd with op := 3 })
/-- CISTERN_ENCODE (R271). -/
def execCisternEncode (half : Half) (cmd : CisCmd) (s : State) : Host.Outcome State Fault Refusal :=
  .next (s.cisternQpush half { cmd with op := 4 })
/-- CISTERN_DECODE (R271). -/
def execCisternDecode (half : Half) (cmd : CisCmd) (s : State) : Host.Outcome State Fault Refusal :=
  .next (s.cisternQpush half { cmd with op := 5 })
/-- CISTERN_PATROL_READ (R247). -/
def execCisternPatrolRead (half : Half) (cmd : CisCmd) (s : State) : Host.Outcome State Fault Refusal :=
  .next (s.cisternQpush half { cmd with op := 6 })
/-- CISTERN_PARAMETER_PAGE (R270). -/
def execCisternParameterPage (half : Half) (cmd : CisCmd) (s : State) : Host.Outcome State Fault Refusal :=
  .next (s.cisternQpush half { cmd with op := 7 })

/-- A pop (R270): FULL after a lost push, EMPTY with nothing waiting. -/
def State.cisternPop (s : State) : State :=
  let put (s : State) (v : Nat) : State := { s with cis := { s.cis with popped := BitVec.ofNat 32 v } }
  if s.cis.lostPush then put { s with cis := { s.cis with lostPush := false } } Code.full.num
  else match s.cis.done with
    | [] => put s Code.empty.num
    | (tag, c) :: r => put { s with cis := { s.cis with done := r } } (tag * 65536 + c.num)

/-- CISTERN_QPOP (R270). -/
def execCisternQpop (half : Half) (s : State) : Host.Outcome State Fault Refusal :=
  .next (s.halfBus half (cisternBase + 0x108) 25 false State.cisternPop)

/-- CISTERN_ECC_MAX_READ (R270): a read clears. -/
def execCisternEccMaxRead (half : Half) (s : State) : Host.Outcome State Fault Refusal :=
  .next (s.halfBus half (cisternBase + 0x10) 25 false fun s =>
    { s with cis := { s.cis with popped := BitVec.ofNat 32 s.cis.eccMax.toNat, eccMax := 0 } })

/-! ## Serving (R245-R247, R250) -/

/-- May a command start: not a program or erase in a freeze (R229). -/
def State.cisServes (s : State) (c : CisCmd) : Bool := ! (s.dev.freeze && (c.op == 2 || c.op == 3))

/-- The command served next: the lowest class number, first in first out (R250). -/
def State.nextCis (s : State) : Option CisCmd :=
  (s.cis.queue.filter s.cisServes).foldl (fun b c => match b with
    | none => some c
    | some x => if c.cls < x.cls then some c else some x) none

/-- The key of a page of a target. -/
def pageKey (t row : Nat) : Nat := t * 2 ^ 32 + row

/-- The live units of the block of a row are rewritten to a fresh place of the same channel (R246, R247). -/
def State.rewriteBlock (s : State) (t row : Nat) : State :=
  let n := max 1 s.cis.pagesPerBlock * 8
  let a := row / max 1 s.cis.pagesPerBlock * n
  let fresh := s.freeExtent 0 (s.channelTargets (t / 4))
  let move (e : CatEntry) : CatEntry := { e with extents := e.extents.map fun l => l.flatMap fun x => x.moveOff t a (a + n) fresh }
  ({ s with cis := { s.cis with catalogue := s.cis.catalogue.map move } }).drawn

/-- Both copies of the bad-block table as it stands (R244). -/
def State.writeBad (s : State) : State :=
  let put (x : CatCopy) : CatCopy := { x with bad := s.cis.badBlocks }
  { s with cis := { s.cis with copyA := put s.cis.copyA, copyB := put s.cis.copyB } }

/-- A block is retired (R246): its live units are moved, the reserve gives a block for it, both copies of the table take it. -/
def State.retireBlock (s : State) (t row : Nat) : State :=
  let k := pageKey t (row / max 1 s.cis.pagesPerBlock)
  if s.cis.badBlocks.contains k then s
  else
    let s := s.rewriteBlock t row
    let i : Fin 8 := ⟨t % 8, Nat.mod_lt _ (by decide)⟩
    let s := { s with cis := { s.cis with badBlocks := s.cis.badBlocks ++ [k],
                                          targets := vupd s.cis.targets i fun n => { n with bad := n.bad + 1, reserveLeft := n.reserveLeft - 1 } } }
    let s := s.writeBad
    let s := s.raiseLog 1061 [(1, t), (4, row)]
    let left : Nat := (s.cis.targets[i]).reserveLeft
    let low : Nat := s.cis.blocksPerTarget
    let s : State := if left * 200 < low ∧ low ≤ (left + 1) * 200 then s.raiseLog 1062 [(1, t)] else s
    if left = 0 ∧ s.cis.state = 2 then ({ s with cis := { s.cis with state := 3 } }).raiseLog 1063 [] else s

/-- The bits corrected in the worst codeword of those read. -/
def CisOutcome.corrected (o : CisOutcome) : Nat := (o.words.map fun w => w.corrected).foldl max 0
/-- The codewords beyond correction. -/
def CisOutcome.uncorr (o : CisOutcome) : Nat := (o.words.filter fun w => w.uncorr).length
/-- The tag failures. -/
def CisOutcome.tagFail (o : CisOutcome) : Nat := (o.words.filter fun w => w.tagFail).length

/-- Is a unit of an entry among the codewords that a command could not read (R247). -/
def CisOutcome.loses (o : CisOutcome) (c : CisCmd) (e : CatEntry) : Bool :=
  o.words.any fun w => (w.uncorr || w.tagFail) && (e.unitAt c.target ((c.row + w.page) * 8 + w.word.val)).isSome

/-- What one codeword brings on its block (R246, R247): retired, or its live units rewritten. -/
def State.codewordRead (c : CisCmd) (s : State) (w : WordRead) : State :=
  if w.tagFail ∨ 96 < w.corrected then s.retireBlock c.target (c.row + w.page)
  else if 80 ≤ w.corrected then s.rewriteBlock c.target (c.row + w.page)
  else s

/-- What reading pages met (R246, R247): the ECC and tag registers, events, the units lost, the blocks retired. -/
def State.cisRead (s : State) (c : CisCmd) (o : CisOutcome) : State :=
  let hit := s.cis.catalogue.any fun e => e.readable && o.loses c e
  let s := { s with cis := { s.cis with
    eccMax := if s.cis.eccMax.toNat < o.corrected then BitVec.ofNat 8 (min o.corrected 255) else s.cis.eccMax,
    eccUncorr := satAdd 32 s.cis.eccUncorr o.uncorr, tagFails := satAdd 32 s.cis.tagFails o.tagFail,
    catalogue := s.cis.catalogue.map fun e => if o.loses c e then { e with readable := false } else e } }
  let s := if 80 ≤ o.corrected then s.raiseLog 1058 [(1, c.target), (4, c.row)] else s
  let s := if 0 < o.uncorr then s.raiseLog 1059 [(1, c.target), (4, c.row)] else s
  let s := if 0 < o.tagFail then s.raiseLog 1060 [(1, c.target), (4, c.row)] else s
  let s := o.words.foldl (State.codewordRead c) s
  if hit then (s.refreshSets).startRebuild else s

/-- The data of a page, zeros where it was never programmed. -/
def State.pageData (s : State) (t row : Nat) : List Byte := (lookupD s.cis.pages (pageKey t row) ([], 0)).1

/-- 16 KiB of data. -/
def padPage (bs : List Byte) : List Byte := (bs.take 16384) ++ List.replicate (16384 - bs.length) 0

/-- The pages of a command come into the staging region (R270 op 1 and 6). -/
def State.cisFetch (s : State) (c : CisCmd) : State :=
  (List.range c.pages).foldl (fun s i => s.stagingWrite (c.dram * 512 + i * 16384) (padPage (s.pageData c.target (c.row + i)))) s

/-- The erase sequence that the block of a row took at its last erase (R245). -/
def State.blockSeq (s : State) (t row : Nat) : Nat := lookupD s.cis.blockSeqs (pageKey t (row / max 1 s.cis.pagesPerBlock)) 0

/-- The pages of a command are programmed from the staging region, each under its block's erase sequence (R245, R270 op 2). -/
def State.cisStore (s : State) (c : CisCmd) : State :=
  (List.range c.pages).foldl (fun s i =>
    let d := s.bytes (dramBase + c.dram * 512 + i * 16384) 16384
    { s with cis := { s.cis with pages := setKey s.cis.pages (pageKey c.target (c.row + i)) (d, s.blockSeq c.target (c.row + i)) } }) s

/-- The block of a command is erased under a new erase sequence (R245, R270 op 3). -/
def State.cisErase (s : State) (c : CisCmd) : State :=
  let n := max 1 s.cis.pagesPerBlock
  let b := c.row / n
  let left := s.cis.pages.filter fun p => ! (keyTarget p.1 == c.target && p.1 % 2 ^ 32 / n == b)
  let q := (s.cis.eraseSeq + 1) % 2 ^ 40
  { s with cis := { s.cis with eraseSeq := q, blockSeqs := setKey s.cis.blockSeqs (pageKey c.target b) q, pages := left } }

/-- Shard `i` of a coder command in the staging region. -/
def State.coderShard (s : State) (c : CisCmd) (i : Nat) : List Byte := s.bytes (dramBase + (c.shardBase + i * c.stride) * 512) c.length

/-- A shard written by the coder. -/
def State.coderPut (c : CisCmd) (s : State) (x : Nat × List Byte) : State := s.stagingWrite ((c.shardBase + x.1 * c.stride) * 512) x.2

/-- op 4: the parity shards from the data shards (R253, R271). -/
def State.cisEncode (s : State) (c : CisCmd) : State :=
  let ds := (List.range c.k).map (s.coderShard c)
  (List.range c.m).foldl (fun s r => State.coderPut c s (c.k + r, parityShard ds r)) s

/-- op 5: the missing shards from those that are there (R253, R271). -/
def State.cisDecode (s : State) (c : CisCmd) : State :=
  let gone (i : Nat) : Bool := c.missing.testBit i
  let good := ((List.range (c.k + c.m)).filter fun i => ! gone i).map fun i => (i, s.coderShard c i)
  let ds := decodeShards c.k good
  ((List.range (c.k + c.m)).filter gone).foldl (fun s i =>
    State.coderPut c s (i, if i < c.k then ds.getD i [] else parityShard ds (i - c.k))) s

/-- op 7: the parameter page, whose content is the part's (free value, log entry 33). -/
def State.cisParameter (s : State) (c : CisCmd) : State :=
  let n := s.free
  ({ s with free := n + 256 }).stagingWrite (c.dram * 512) ((List.range 256).map fun i => Config.freeByte (n + i))

/-- A command's effect and the code that it completes with. -/
def State.cisServe (s : State) (c : CisCmd) (o : CisOutcome) : State × Code :=
  let bad := decide (0 < o.uncorr) || decide (0 < o.tagFail)
  match c.op with
  | 1 => ((if bad then s else s.cisFetch c).cisRead c o, if bad then .verifyFail else .ok)
  | 6 => (s.cisRead c o, if bad then .verifyFail else .ok)
  | 2 => if o.opFail then (s.retireBlock c.target c.row, .internal) else (s.cisStore c, .ok)
  | 3 => if o.opFail then (s.retireBlock c.target c.row, .internal) else (s.cisErase c, .ok)
  | 4 => if o.coderFault then (s.raiseLog 1085 [(2, c.tag)], .internal) else (s.cisEncode c, .ok)
  | 5 => if o.coderFault then (s.raiseLog 1085 [(2, c.tag)], .internal) else (s.cisDecode c, .ok)
  | _ => (s.cisParameter c, .ok)

/-- The command served next completes (R250). -/
def State.cisCmdDone (s : State) (o : CisOutcome) : State :=
  match s.nextCis with
  | none => s
  | some c =>
    let r := ({ s with cis := { s.cis with queue := s.cis.queue.erase c } }).cisServe c o
    { r.1 with cis := { r.1.cis with done := r.1.cis.done ++ [(c.tag, r.2)] } }

/-- CISTERN_CMD_DONE (R250). -/
def execCisternCmdDone (o : CisOutcome) (s : State) : Host.Outcome State Fault Refusal := .next (s.quiet.cisCmdDone o)

/-- CATALOGUE_COMMIT_DONE (R249). -/
def execCatalogueCommitDone (okA okB : Bool) (s : State) : Host.Outcome State Fault Refusal :=
  .next (s.quiet.commitDone okA okB)

/-- A patrol pass ends (R247): each written page has been read within the period. -/
def State.patrolPass (s : State) : State :=
  if ! s.cis.patrolOn ∨ ! s.catalogueReadable then s
  else
    let s := s.advanceTo (s.cis.patrolAt + s.pnat 0x0401 2 7 * 86400 * secNs)
    ({ s with cis := { s.cis with patrolAt := s.time } }).raiseLog 1067 []

/-- PATROL_PERIOD (R247). -/
def execPatrolPeriod (s : State) : Host.Outcome State Fault Refusal := .next s.patrolPass

/-! ## The Allotter's commands -/

/-- May a golden copy be refreshed from the mirror (R52): a channel HELD or RELEASED. -/
def State.refreshState (s : State) (t : Target) : Bool :=
  match t with
  | .chan c => (s.chan c).state == .held || (s.chan c).state == .released
  | _ => false

/-- The Allotter writes a golden copy (R251): the container given; or the write that waits for the target; or a refresh from the
mirror, refused in a channel state that R52 marks. -/
def State.goldenCmd (s : State) (t : Target) (b : List Byte) : State :=
  if ! ModeOp.golden.permitted s.dev.mode then (s.opRefused .golden).answer .refusedState
  else if ! b.isEmpty then s.goldenWrite t b
  else match s.cis.pendingWrites.find? fun w => w.1 == t with
    | some w =>
      if s.cis.state = 2 then ({ s with cis := { s.cis with pendingWrites := s.cis.pendingWrites.erase w } }).runPending w else s
    | none => if s.refreshState t then s.runPending (t, []) else s.answer .refusedState

/-- GOLDEN_WRITE (R251). -/
def execGoldenWrite (t : Target) (container : List Byte) (s : State) : Host.Outcome State Fault Refusal :=
  .next (s.quiet.goldenCmd t container)

/-- A window counts for a peer from which an acknowledgement came (R260): the run of slow or of good windows. -/
def PeerStat.judge (p : PeerStat) (all : Nat) : PeerStat :=
  if p.acks.isEmpty then p
  else
    let m := median p.acks
    { p with medianNs := min m (2 ^ 32 - 1), slow := if 4 * all < m then p.slow + 1 else 0, good := if m ≤ 2 * all then p.good + 1 else 0 }

/-- A shard on a laggard is written to a member that is no laggard and holds none of the set (R261). -/
def State.moveShard (t : Target) (id lag : Nat) (s : State) (l : ShardLoc) : State :=
  match s.setById t id with
  | none => s
  | some g =>
    match (s.memberOrder (g.full ++ g.shards.map fun x => x.device)).find? fun d => ! (s.peer d).laggard with
    | some d =>
      if l.device = lag ∧ (g.shards.filter fun x => x.index == l.index).length = 1 then
        s.updSet t id fun g => { g with shards := g.shards ++ [⟨l.index, d, false⟩] }
      else s
    | none => s

/-- What a peer's run of windows makes of it (R260, R261). -/
def State.judgePeer (s : State) (d : Nat) : State :=
  let p := s.peer d
  if 3 ≤ p.slow ∧ ! p.laggard then
    let s := (s.updPeer d fun p => { p with laggard := true, good := 0 }).raiseLog 1074 [(1, d)]
    ((s.setsOn d).foldl (fun s x => x.2.shards.foldl (State.moveShard x.1 x.2.id d) s) s).pump
  else if 3 ≤ p.good ∧ p.laggard then (s.updPeer d fun p => { p with laggard := false, slow := 0 }).raiseLog 1075 [(1, d)]
  else s

/-- The data of a probe shard (DESIGN CHOICE, log entry 155: zeros). -/
def probeData : List Byte := List.replicate 1048576 0

/-- The header of a probe shard of 1 MiB (R260). -/
def State.probeHead (s : State) : ShardHead :=
  { k := 1, m := 0, index := 0, owner := s.devNumber, target := 0xFF, containerLength := 1048576, ownerHandle := 0, svn := 0,
    shardLength := 1048576, root := 0, ownerId := s.deviceId, digests := [sha384 probeData] }

/-- A probe goes to a member to which nothing was sent in the window. -/
def State.probePeer (s : State) (d : Nat) : State :=
  if d = s.devNumber ∨ (s.peer d).sent ∨ 8 ≤ s.pak.outgoing.length then s else s.offer d 0 s.probeHead probeData true

/-- A 10 s window ends (R260). -/
def State.laggardWindow (s : State) : State :=
  let s := s.advanceTo (nextMultiple s.time (10 * secNs))
  let all := s.cis.peers.toList.flatMap fun p => p.acks
  let others := s.present.filter fun d => d != s.devNumber
  let s := if 8 ≤ all.length then
      let m := median all
      others.foldl (fun s d => (s.updPeer d fun p => p.judge m).judgePeer d) s
    else s
  let s := others.foldl State.probePeer s
  { s with cis := { s.cis with peers := s.cis.peers.map fun p => { p with acks := [], sent := false } } }

/-- LAGGARD_WINDOW (R260). -/
def execLaggardWindow (s : State) : Host.Outcome State Fault Refusal := .next s.quiet.laggardWindow

/-- REPLACE_WAIT_EXPIRED (R263). -/
def execReplaceWaitExpired (device : Fin 32) (s : State) : Host.Outcome State Fault Refusal := .next (s.quiet.replaceWait device.val)

/-- The keep time of the oldest orphan ends (R264): it is freed. -/
def State.orphanExpired (s : State) : State :=
  match s.cis.orphans with
  | [] => s
  | o :: rest =>
    let s := s.advanceTo (o.since + s.pnat 0x0404 5 168 * 3600 * secNs)
    let s := ({ s with cis := { s.cis with orphans := rest } }).raiseLog 1082 [(1, o.ownerDev), (1, o.target)]
    s.catChange (.free o.handles)

/-- ORPHAN_KEEP_EXPIRED (R264). -/
def execOrphanKeepExpired (s : State) : Host.Outcome State Fault Refusal := .next s.orphanExpired

/-! ## The fill map (R267) -/

/-- The bytes a port still has to fill. -/
def State.pendingFill (s : State) (p : PortId) : Nat :=
  ([chanOf p 0, chanOf p 1].map fun c =>
    let ch := s.chan c
    if ch.state = .filling then (ch.desc.leafCount - ch.fillNext.getD 0) * 4096 else 0).sum

/-- Is a fill of the port under way on an engine. -/
def State.fillUnderWay (s : State) (p : PortId) : Bool := s.hash.engines.toList.any fun g => g.fill == some p

/-- The engine of a half that FILL_MAP names for a port. -/
def State.fillEngine (s : State) (h : Half) (p : PortId) : Fin 8 := (s.hash.fillMap.get h)[p]

/-- Is engine `e` of a half retired (R201). -/
def State.fillRetired (s : State) (h : Half) (e : Fin 8) : Bool :=
  (s.hash.engines[(⟨(h.engine0 + e.val) % 16, Nat.mod_lt _ (by decide)⟩ : Fin 16)]).retired

/-- The load of an engine of a half under a map. -/
def State.fillLoad (s : State) (m : Vector (Fin 8) 32) (e : Fin 8) : Nat :=
  ((List.finRange 32).map fun p : PortId => if m[p] = e then s.pendingFill p else 0).sum

/-- The least loaded engine of a half, the lower number on a tie, of those not retired. -/
def State.leastEngine (s : State) (h : Half) (load : Fin 8 → Nat) : Fin 8 :=
  ((List.finRange 8).filter fun e => ! s.fillRetired h e).foldl (fun (b : Option (Fin 8)) e => match b with
    | none => some e
    | some x => if load e < load x then some e else some x) none |>.getD 0

/-- The ports to reassign, largest first. -/
def State.fillPorts (s : State) (h : Half) : List PortId :=
  let ps := (List.finRange 32).filter fun p => ! s.fillUnderWay p && (decide (0 < s.pendingFill p) || s.fillRetired h (s.fillEngine h p))
  (sortNat (ps.map fun p => (2 ^ 40 - s.pendingFill p) * 32 + p.val)).map fun k => ⟨k % 32, Nat.mod_lt _ (by decide)⟩

/-- The map with the ports reassigned, one after another, each to the engine with the least load of those placed so far. -/
def State.assignPorts (s : State) (h : Half) : List PortId → Vector (Fin 8) 32 → Vector (Fin 8) 32
  | [], m => m
  | p :: ps, m =>
    let placed (q : PortId) : Bool := q != p && ! ps.contains q
    let load (e : Fin 8) : Nat := ((List.finRange 32).map fun q : PortId => if placed q ∧ m[q] = e then s.pendingFill q else 0).sum
    s.assignPorts h ps (vset m p (s.leastEngine h load))

/-- A half's map out of balance by more than 25 %, or naming a retired engine. -/
def State.fillUneven (s : State) (h : Half) : Bool :=
  let m := s.hash.fillMap.get h
  let ls := ((List.finRange 8).filter fun e => ! s.fillRetired h e).map (s.fillLoad m)
  let hi := ls.foldl max 0
  let lo := ls.foldl min hi
  (s.pnat 0x0430 1 1 != 0 && decide (lo * 5 < hi * 4)) || (List.finRange 32).any fun p : PortId => s.fillRetired h m[p]

/-- The maps are rewritten for the ports that have no fill under way (R267). -/
def State.remapFill (s : State) : State :=
  let step (s : State) (h : Half) : State :=
    if s.fillUneven h then
      { s with hash := { s.hash with fillMap := s.hash.fillMap.set h (s.assignPorts h (s.fillPorts h) (s.hash.fillMap.get h)) } }
    else s
  let s2 := step (step s .indigo) .amber
  if s2.hash.fillMap = s.hash.fillMap then s else s2.raiseLog 1087 []

/-- FILL_REMAP (R267): before a fill of port `p`. -/
def execFillRemap (p : PortId) (s : State) : Host.Outcome State Fault Refusal := .next (if s.fillUnderWay p then s else s.remapFill)

end Sys2Proof.Machine
end

