-- ==== Sys2Proof/Machine/Levee.lean ====
section
/-!
DEFINITION. Sessions that end (R377, R391), the restart of the management cores (R537), and the Levee (R38, R394-R401): detection,
the tamper response, the self-test.
-/
namespace Sys2Proof.Machine

/-! ## Sessions and the management cores -/

/-- A management session ends (R377, R391): its slots are invalidated. -/
def State.endSession (s : State) (id : Nat) : State :=
  match s.spdm.sessions.find? fun x => x.id == id with
  | none => s
  | some x =>
    let s := { s with spdm := { s.spdm with sessions := s.spdm.sessions.filter fun y => y.id != id } }
    (s.dropSessionSlots x).dropRequester (x.endpoint + 0x10000)

/-- Every management session ends. -/
def State.endSessions (s : State) : State := (s.spdm.sessions.map fun x => x.id).foldl State.endSession s

/-- Some cores restart at their reset vector, running where their cluster runs. -/
def State.restartCores (s : State) (sel : CoreId → Bool) (on : Bool) : State :=
  { s with cores := Vector.ofFn fun k : Fin 12 =>
      if sel k = true then { Core.reset with released := on, releasedAt := s.time } else s.cores[k] }

/-- Subscriptions and block transfers end (R498, R500, R537). -/
def State.dropTransfers (s : State) : State := { s with rill := { s.rill with writes := [], snaps := [], subs := [] } }

/-- The management cores restart (R537): sessions and subscriptions end, open block transfers are abandoned. -/
def State.mgmtRestart (s : State) : State :=
  let s := (s.restartCores isMgmtCore true).endSessions.dropTransfers
  { s with spdm := { Spdm.reset with nextId := s.spdm.nextId, checked := s.spdm.checked, mismatch := s.spdm.mismatch } }

/-- The measurement cores restart (R537): the estimate is invalid until their first computation. -/
def State.measRestart (s : State) : State :=
  let s := s.restartCores isMeasCore true
  { s with ms := { s.ms with valid := false, holdupMs := 0, huStep := none } }

/-! ## The Levee -/

/-- Sill counts the tamper responses it still owes once the gate is open (R396). -/
def State.countTampers (s : State) : State :=
  if s.lev.uncounted = 0 ∨ ! s.gateOpen journalUs ∨ ! s.domOn 2 then s
  else
    let n := min (s.pnat 0x0620 3 0 + s.lev.uncounted) (2 ^ 32 - 1)
    let s := s.storePut 0x0620 3 (leBytes 4 n)
    { s with lev := { s.lev with uncounted := 0 } }

/-- Every channel that is not ABSENT becomes QUARANTINED (R39). -/
def State.quarantineAll (s : State) : State :=
  (List.finRange 64).foldl (fun s c => if (s.chan c).state = .absent then s else s.setChan c .quarantined) s

/-- Vault, operand memories and session state zeroised (R396). -/
def State.tamperZeroise (s : State) : State :=
  let s := { s with fuse := { s.fuse with busyUntil := min s.fuse.busyUntil s.time } }
  let s := if s.domOn 6 then s.kvZeroise else s
  let s := if s.domOn 4 then pkeAbortAs .indigo .frameAbort s else s
  let s := if s.domOn 5 then pkeAbortAs .amber .frameAbort s else s
  let s := { s with spdm := { s.spdm with sessions := [], waiting := [] } }
  { s with pak := { s.pak with links := s.pak.links.map fun l => { l with session := false, hsScalar := 0 } } }

/-- The debug domain goes off (R396). -/
def State.debugOff (s : State) : State := { s with pw := { s.pw with domOn := putBit s.pw.domOn 32 false } }

/-- The tamper response (R38, R396): in one moment every channel that is not ABSENT is quarantined (R39), every output asserts and the
secrets go; in SERVICE the debug domain goes off in place of the quarantine. -/
def State.tamperResponse (s : State) (n : Sensor) : State :=
  let s : State :=
    if s.dev.mode = .service then s.puenLow.tamperZeroise.debugOff
    else
      let s := { s with dev := { s.dev with form := .tamper, dormantSeq := false }, lev := { s.lev with uncounted := s.lev.uncounted + 1 },
                        boot := { s.boot with phase := .zeroised, timer := none } }
      let s := (s.setMode .quarantine 11).quarantineAll.puenLow.tamperZeroise
      (s.restartCores (fun _ => true) (s.domOn 2)).dropTransfers
  let s : State := (s.raise 1438).logIt .tamper 1438 0 [(1, n.val), (2, s.lev.cause.toNat), (8, s.lev.causeTime)]
  if s.dev.mode = .quarantine then s.countTampers else s

/-- A sensor's response is masked: in RAW and TEST alone (R397). -/
def State.sensorMasked (s : State) (n : Sensor) : Bool :=
  s.lev.mask.getLsbD n.val && (s.lifecycle == .raw || s.lifecycle == .test)

/-- A detection (R396, R397): the first latches sensor and time and brings the response; further ones only add bits. -/
def State.detect (s : State) (n : Sensor) : State :=
  let s := ({ s with lev := { s.lev with now := bitMask 14 n.val } }).raise (1424 + n.val)
  if s.sensorMasked n then s.raise 1440
  else if s.lev.latched then { s with lev := { s.lev with cause := putBit s.lev.cause n.val true } }
  else
    let s := { s with lev := { s.lev with latched := true, cause := putBit s.lev.cause n.val true, first := n.val,
                                          causeTime := s.time } }
    s.tamperResponse n

/-- TAMPER_DETECT (R396). -/
def execTamperDetect (sensor : Sensor) (s : State) : Host.Outcome State Fault Refusal := .next (s.detect sensor)

/-- A write of LEVEE.CTL (R398): a control core's; refused in QUARANTINE; the self-test takes 200 µs. -/
def State.leveeCtl (s : State) (k : CoreId) (v : Word) : State × Code :=
  if (coreHalf k).isNone then (s, .deniedAccess)
  else if ! v.getLsbD 0 ∨ s.lev.selftest.isSome then (s, .ok)
  else if s.dev.mode = .quarantine then (s, .refusedState)
  else ({ s with lev := { s.lev with selftest := some (s.time + 200 * usNs) } }, .ok)

/-- LEVEE_SELFTEST (R398). -/
def execLeveeSelftest (core : CoreId) (value : Word) (s : State) : Host.Outcome State Fault Refusal :=
  .next (s.busEnd core 0x400E0000 (s.leveeCtl core value))

/-- The self-test ends (R398): LEVEE_SELFTEST_FAIL where a sensor failed. -/
def State.selftestDone (s : State) (passed : BitVec 14) : State :=
  match s.lev.selftest with
  | none => s
  | some t =>
    let s := s.advanceTo t
    let s := { s with lev := { s.lev with selftest := none, result := passed } }
    s.raiseIf (passed != BitVec.allOnes 14) 1439

/-- LEVEE_SELFTEST_DONE (R398). -/
def execLeveeSelftestDone (passed : BitVec 14) (s : State) : Host.Outcome State Fault Refusal := .next (s.selftestDone passed)

end Sys2Proof.Machine
end

