-- ==== Sys2Proof/Machine/Session.lean ====
section
/-!
DEFINITION. SPDM sessions (R377, R524, R525): the key schedule of DSP0274 in the key vault, and the records of DSP0277. The formulas
are those of the standards that R377 and R385 name.
-/
namespace Sys2Proof.Machine

/-! ## Sessions -/

/-- The session of a number. -/
def State.session (s : State) (id : Nat) : Option Session := s.spdm.sessions.find? fun x => x.id == id

/-- Changes it. -/
def State.updSession (s : State) (id : Nat) (f : Session → Session) : State :=
  { s with spdm := { s.spdm with sessions := s.spdm.sessions.map fun x => if x.id = id then f x else x } }

/-- The endpoint of a Pakor link's handshake (log entry 6). -/
def linkEndpoint (l : LinkId) : Nat := 0x400 + l.val

/-- Is a session one of the four that R391 counts: of a requester, not of a Pakor link. -/
def Session.counts (x : Session) : Bool := decide (x.endpoint < 0x400)

/-! ## The key schedule (R377) -/

/-- A key goes into a free slot (R369): common, with a value, destinations, usage and a parent. -/
def State.newKey (s : State) (v : List Byte) (dest usage : BitVec 8) (parent : Option (Fin 128)) : Option (Fin 128) × State :=
  match s.freeKslot with
  | none => (none, s.raise 1314)
  | some i =>
    (some i, s.setKslot i { state := .inUse, owner := .common, bits := 8 * v.length, value := beNat v, dest := dest, usage := usage,
                            parent := parent.map fun p => (p, (s.kslot p).gen), gen := (s.kslot i).gen, bound := false,
                            depth := s.kvDepth parent })

/-- How many slots a session takes. -/
def sessionSlotCount : Nat := 14

/-- Are enough slots free for a session (R369). -/
def State.roomForSession (s : State) : Bool :=
  decide (sessionSlotCount ≤ ((List.finRange 128).filter fun i => decide (8 ≤ i.val) && ((s.kslot i).state == .empty || (s.kslot i).state == .orphaned)).length)

/-- What the `i`th slot of a session holds. -/
def State.sessionBytes (s : State) (x : Session) (i : Nat) : List Byte := ((x.slots[i]?).map fun k => (s.kslot k).bytes).getD []

/-- A key joins a session, with its `parent`th as parent. -/
def State.addKey (s : State) (id : Nat) (v : List Byte) (dest usage : BitVec 8) (parent : Option Nat) : State :=
  match s.session id with
  | none => s
  | some x =>
    let r := s.newKey v dest usage (parent.bind fun i => x.slots[i]?)
    r.2.updSession id fun x => { x with slots := x.slots ++ r.1.toList }

/-- The info of an expansion: length, version, label, context. -/
def binConcat (len : Nat) (label : String) (ctx : List Byte) : List Byte := leBytes 2 len ++ ascii "spdm1.3 " ++ ascii label ++ ctx

/-- HKDF-Expand with SHA-384, at most 96 bytes. -/
def hkdfExpand (key info : List Byte) (n : Nat) : List Byte := (hkdfBlocks key info [] 1 2).take n

/-- A key expanded from a session's `src`th slot joins it (EXPAND). -/
def State.expandKey (s : State) (id src : Nat) (label : String) (ctx : List Byte) (len : Nat) (dest usage : BitVec 8) : State :=
  match s.session id with
  | none => s
  | some x => s.addKey id (hkdfExpand (s.sessionBytes x src) (binConcat len label ctx) len) dest usage (some src)

/-- The shared secret and the handshake secret: slots 0 and 1 of a session (STORE_PKE, EXTRACT). -/
def State.exchangeKeys (s : State) (id : Nat) (shared : List Byte) : State :=
  (s.addKey id shared 0x40 0x01 none).addKey id (hmac384 (List.replicate 48 0) shared) 0x40 0x01 none

/-- Usage of a record key: open for what comes in, seal for what goes out; `own` where this device is the responder, so that requests come
in. -/
def recordUsage (own request : Bool) : BitVec 8 := if own == request then 0x10 else 0x08

/-- The handshake keys: the two secrets (2, 3), the finished keys (4, 5), the AEAD keys (6, 7), those of the requests first. -/
def State.handshakeKeys (s : State) (id : Nat) (own : Bool) (th : List Byte) : State :=
  let s := s.expandKey id 1 "req hs data" th 48 0x40 0x01
  let s := s.expandKey id 1 "rsp hs data" th 48 0x40 0x01
  let s := s.expandKey id 2 "finished" [] 48 0x04 0x20
  let s := s.expandKey id 3 "finished" [] 48 0x04 0x20
  let s := s.expandKey id 2 "key" [] 32 0x20 (recordUsage own true)
  s.expandKey id 3 "key" [] 32 0x20 (recordUsage own false)

/-- The application keys: salt and master secret (8, 9), the two secrets (10, 11), the AEAD keys (12, 13). -/
def State.appKeys (s : State) (id : Nat) (own : Bool) (th : List Byte) : State :=
  let s := s.expandKey id 1 "derived" [] 48 0x40 0x01
  let s := match s.session id with
    | some x => s.addKey id (hmac384 (s.sessionBytes x 8) (List.replicate 48 0)) 0x40 0x01 (some 8)
    | none => s
  let s := s.expandKey id 9 "req app data" th 48 0x40 0x01
  let s := s.expandKey id 9 "rsp app data" th 48 0x40 0x01
  let s := s.expandKey id 10 "key" [] 32 0x20 (recordUsage own true)
  s.expandKey id 11 "key" [] 32 0x20 (recordUsage own false)

/-! ## Records (R525) -/

/-- Key and nonce of a record, out or in, under a sequence number: the initial value with the number added into its first bytes. -/
def State.recordKey (s : State) (x : Session) (out : Bool) (seq : Nat) : List Byte × List Byte :=
  let o := b2n out
  let iv := hkdfExpand (s.sessionBytes x ((if x.finished then 10 else 2) + o)) (binConcat 12 "iv" []) 12
  (s.sessionBytes x ((if x.finished then 12 else 6) + o), xorBytes iv (leBytes 8 seq ++ List.replicate 4 0))

/-- The record of a message that goes out (R525): session, sequence number, length; then, sealed, the message with its length before it,
and the tag. -/
def State.recordOut (s : State) (x : Session) (m : List Byte) : List Byte :=
  let h := leBytes 4 x.id ++ leBytes 8 x.txSeq ++ leBytes 2 (m.length + 18)
  let k := s.recordKey x true x.txSeq
  let c := gcmSealWith h k.1 k.2 (leBytes 2 m.length ++ m)
  h ++ c.1 ++ c.2

/-- The message of a record that came in; none where its tag does not verify or its length does not fit (R525). Counter mode opens as it
seals. -/
def State.recordIn (s : State) (x : Session) (r : List Byte) : Option (List Byte) :=
  let h := r.take 14
  let body := (r.drop 14).take (r.length - 30)
  let k := s.recordKey x false x.rxSeq
  let plain := (gcmSealWith h k.1 k.2 body).1
  let c := gcmSealWith h k.1 k.2 plain
  let n := leNat (plain.take 2)
  if r.length < 32 ∨ leNat (h.drop 12) + 14 ≠ r.length ∨ c.2 ≠ r.drop (r.length - 16) ∨ plain.length < n + 2 then none
  else some ((plain.drop 2).take n)

/-- A message goes out in a session of the SPI port (R524, R525): its record waits for a SECURE_FRAME receive. -/
def State.secureOut (s : State) (x : Session) (m : List Byte) : State :=
  let w : List Byte := 0x06 :: s.recordOut x m
  let s := s.updSession x.id fun y => { y with txSeq := y.txSeq + 1 }
  { s with spi := { s.spi with waiting := s.spi.waiting ++ [w] } }

end Sys2Proof.Machine
end

