-- ==== Sys2Proof/Machine/Reply.lean ====
section
/-!
DEFINITION. Replies of Rill (R491, R495, R502): frames as bytes, the transports that carry them, and the order in which they go out
to an endpoint.
-/
namespace Sys2Proof.Machine

/-- The bytes of a Rill frame (R491). -/
def rillBytes (r : RillReq) : List Byte :=
  leBytes 1 r.version ++ leBytes 1 r.op ++ [r.tag, r.device] ++ leBytes 2 r.index ++ leBytes 1 r.sub ++ leBytes 1 r.status
    ++ [r.flags] ++ leBytes 3 r.rsv ++ leBytes 4 r.offset ++ leBytes 4 r.length ++ leBytes 4 r.total ++ r.data

/-- A reply to a frame (R491). -/
def rillReply (f : RillReq) (c : Code) (flags : Byte) (total : Nat) (data : List Byte) : RillReq :=
  { f with version := 1, op := f.op % 0x80 + 0x80, status := c.num, flags := flags, rsv := 0, length := data.length, total := total,
           data := data }

/-- A reply with a code alone. -/
def rillCode (f : RillReq) (c : Code) : RillReq := rillReply f c 0 0 []

/-- The interim reply (R495). -/
def rillInterim (f : RillReq) : RillReq := rillReply f .busy 2 0 []

/-- The key under which Rill keeps what a requester opened: its endpoint, told apart by authorisation (R498, R500, R502). -/
def Requester.key (who : Requester) : Nat := who.endpoint + 0x10000 * b2n who.authorised

/-- The endpoint of a key. -/
def endpointOf (k : Nat) : Nat := k % 0x10000

/-- The endpoint of SECURE_FRAME traffic on the SPI port (log entry 6). -/
def secureEndpoint : Nat := 0x201

/-- The endpoint of a device of the cascade (log entry 6). -/
def pakorEndpoint (d : Nat) : Nat := 0x300 + d

/-! ## Carriers -/

/-- A Rill frame as MCTP's message type 0x7E carries it (R501, R525): type, enterprise number, frame. -/
def rillBody (r : RillReq) : List Byte := 0x7E :: (leBytes 4 101182 ++ rillBytes r)

/-- A Rill frame goes out in the session of the SPI port (R524, R525). -/
def State.secureRill (s : State) (r : RillReq) : State :=
  match s.spdm.sessions.find? fun x => x.endpoint == secureEndpoint with
  | some x => s.secureOut x (rillBody r)
  | none => s

/-- The Rill window takes a reply (R527): REPLY holds it, reply_ready sets, and pending clears with the final one. -/
def State.windowReply (s : State) (r : RillReq) : State :=
  { s with spi := { s.spi with reply := rillBytes r, replyReady := true, pending := s.spi.pending && r.flags.getLsbD 1 } }

/-- A frame goes to an endpoint over its transport (R501, R524, R527, R300). -/
def State.emit (s : State) (e : Nat) (r : RillReq) : State :=
  let s := { s with rill := { s.rill with out := s.rill.out ++ [⟨e, r⟩] } }
  if e = spiEndpoint then s.windowReply r
  else if e = secureEndpoint then s.secureRill r
  else if endpointTransport e = 3 then s.send 0x31 (e % 0x100) (rillBytes r)
  else s

/-! ## Order -/

/-- The requests of an endpoint that wait for their final reply. -/
def State.waitingOf (s : State) (e : Nat) : List Outstanding := s.rill.outstanding.filter fun o => endpointOf o.endpoint == e

/-- The first entry for which `p` holds, changed. -/
def updFirst {α : Type} (p : α → Bool) (f : α → α) : List α → List α
  | [] => []
  | x :: xs => if p x then f x :: xs else x :: updFirst p f xs

/-- Sends what may go out to an endpoint in the order of its requests (R495): final replies from the front, then the interim reply of
the first request that has none. -/
def State.flush (e : Nat) : Nat → State → State
  | 0, s => s
  | n + 1, s =>
    match (s.waitingOf e).head? with
    | none => s
    | some o =>
      match o.reply with
      | some r =>
        let s := { s with rill := { s.rill with outstanding := s.rill.outstanding.erase o } }
        State.flush e n (s.emit e r)
      | none =>
        if o.told || o.forwarded then s
        else
          let os := updFirst (fun x => x == o) (fun (x : Outstanding) => { x with told := true }) s.rill.outstanding
          ({ s with rill := { s.rill with outstanding := os } }).emit e (rillInterim o.frame)

/-- Flushes an endpoint. -/
def State.flushAll (s : State) (e : Nat) : State := State.flush e (s.rill.outstanding.length + 1) s

/-- A request joins its endpoint's queue, with its reply or without. -/
def State.enqueue (s : State) (key : Nat) (o : Outstanding) : State :=
  ({ s with rill := { s.rill with outstanding := s.rill.outstanding ++ [o] } }).flushAll (endpointOf key)

/-- A final reply to a request at once. -/
def State.replyTo (s : State) (who : Requester) (f r : RillReq) : State := s.enqueue who.key ⟨who.key, f, some r, false, false, false⟩

/-- A refusal or a code, counted (R504), and its reply. -/
def State.replyCode (s : State) (who : Requester) (f : RillReq) (c : Code) : State := (s.answer c).replyTo who f (rillCode f c)

/-- The first waiting request for which `p` holds gets its final reply. -/
def State.settle (s : State) (e : Nat) (p : Outstanding → Bool) (reply : RillReq → RillReq) : State :=
  let os := updFirst (fun o => endpointOf o.endpoint == e && o.reply.isNone && p o)
    (fun (o : Outstanding) => { o with reply := some (reply o.frame) }) s.rill.outstanding
  ({ s with rill := { s.rill with outstanding := os } }).flushAll e

/-- A forwarded request ends (R300, R301). -/
def State.settleForward (s : State) (fw : Forwarded) (reply : RillReq → RillReq) : State :=
  ({ s with pak := { s.pak with forwards := s.pak.forwards.erase fw } }).settle (endpointOf fw.endpoint)
    (fun o => o.forwarded && o.frame.tag == fw.frame.tag) reply

end Sys2Proof.Machine
end

