-- ==== Sys2Proof/Machine/Pakor.lean ====
section
/-!
DEFINITION. Pakor (R273-R305): links and their training, sessions, frames, forwarding, membership, elections, shard transfers, cable
length, and the send queue.
-/
namespace Sys2Proof.Machine

/-! ## Links -/

/-- PAKOR (R304). -/
def pakorBase : Nat := 0x40080000

/-- A link. -/
def State.link (s : State) (l : LinkId) : Link := s.pak.links[l]
/-- Changes a link. -/
def State.updLink (s : State) (l : LinkId) (f : Link → Link) : State := { s with pak := { s.pak with links := vupd s.pak.links l f } }

/-- The domain of a link's port (R273, R276). -/
def LinkId.domain (l : LinkId) : Nat := if l.val % 2 = 0 then 26 else 27

/-- May a link train: its port's domain on, CTL and `pakor_enable` set (R276, R303, R304). -/
def State.linkEnabled (s : State) (l : LinkId) : Bool :=
  s.domOn (LinkId.domain l) && (if l.val % 2 = 0 then s.pak.enableA else s.pak.enableB) && s.pnat 0x0901 3 1 != 0

/-- A mode that admits to membership (R288): HOLD, GUARD, UPDATE, or QUARANTINE in freeze form. -/
def State.admitted (s : State) : Bool := s.dev.mode.running || (s.dev.mode == .quarantine && s.dev.form == .freeze)

/-- The codes of modes in which a peer may be a member, as its HELLO tells them. -/
def modeAdmits (m : Nat) : Bool := m == 1 || m == 2 || m == 3 || m == 5

/-- Is this device a member: an authenticated link, and a mode that admits (R288). -/
def State.isMember (s : State) : Bool := s.pak.links.toList.any (fun l => l.session) && s.admitted

/-- Is it healthy (R288). -/
def State.isHealthy (s : State) : Bool := s.isMember && s.dev.mode.running && ! s.hg.warm && s.hg.steward.isSome

/-- What is under way of a link's handshake is dropped: its connection, its session with its slots, its signature (R285). -/
def State.dropHandshake (s : State) (l : LinkId) : State :=
  let e := linkEndpoint l
  let xs := s.spdm.sessions.filter fun x => x.endpoint == e
  let s := (xs.flatMap fun x => x.slots).foldl (fun s i => s.destroySlot i .empty) s
  { s with spdm := { s.spdm with
    sessions := s.spdm.sessions.filter fun x => x.endpoint != e, conns := s.spdm.conns.filter fun x => x.endpoint != e,
    waiting := s.spdm.waiting.filter fun x => x.1.endpoint != e } }

/-- A link's session ends: every slot of it is invalidated (R377). -/
def State.endLinkSession (s : State) (l : LinkId) : State :=
  let ks := (s.link l).slots
  let s := s.dropHandshake l
  let s := s.updLink l fun k =>
    { k with session := false, keyTx := 0, keyRx := 0, hsStep := 0, replay := [], slots := [], peerChain := [], hsSent := [], hsLeft := [],
             hsPart := [], hsScalar := 0 }
  ks.foldl (fun s i => s.destroySlot i .empty) s

/-- A HANDSHAKE frame goes out on a link (R279, R285): one SPDM message. -/
def State.sendSetup (s : State) (l : LinkId) (m : List Byte) : State :=
  let f : FrameOut := ⟨0x02, (s.link l).peer, s.devNumber, 16, some l, true, m⟩
  { s with pak := { s.pak with sent := s.pak.sent ++ [f] } }

/-- Is this device the requester of a link's handshake: the one with the lower device number (R285). -/
def State.requests (s : State) (l : LinkId) : Bool := decide (s.devNumber < (s.link l).peer)

/-- The request that opens a handshake: GET_VERSION (R285). -/
def getVersionMsg : List Byte := [0x10, 0x84, 0, 0]

/-- Step 5 of training begins (R276, R285): the requester asks for the version. -/
def State.startHandshake (s : State) (l : LinkId) : State :=
  if ! s.requests l then s
  else (s.updLink l fun k => { k with hsStep := 0, hsSent := getVersionMsg, hsLeft := [], hsPart := [], peerChain := [] }).sendSetup l getVersionMsg

/-! ## Health and islands (R288, R296) -/

/-- Since when this device has been healthy without a break (R293). -/
def State.syncHealth (s : State) : State :=
  if s.isHealthy then
    (if s.pak.healthySince.isSome then s else { s with pak := { s.pak with healthySince := some s.time } })
  else { s with pak := { s.pak with healthySince := none } }

/-- The segment's master reaches a trunk: over this device's own, or over a member that says it has one (R283, R296). -/
def State.trunkReach (s : State) : Bool :=
  s.ownTrunk || (List.finRange 32).any fun d => d.val / 8 == s.pak.seg.val && (s.pak.seen[d]).present && (s.pak.seen[d]).reachesTrunk

/-- Another device acts as cascade master, or none does: requests outstanding end with FRAME_ABORT (R301). -/
def State.moveCas (s : State) (d : Nat) : State :=
  if s.pak.casMaster = d then s
  else
    let s := s.pak.forwards.foldl (fun (s : State) fw => s.settleForward fw fun f => rillCode f .frameAbort) s
    { s with pak := { s.pak with casMaster := d, isCas := d == s.devNumber } }

/-- The cascade master changes; a new one is told (R295). -/
def State.setCasMaster (s : State) (d : Nat) : State :=
  if s.pak.casMaster = d ∨ d = 0xFF then s.moveCas d else (s.moveCas d).raiseLog 1107 [(1, d)]

/-- The master of an island acts as its cascade master, without an election (R296). -/
def State.islandMaster (s : State) : State :=
  let s := s.moveCas s.pak.segMaster
  { s with pak := { s.pak with isCas := s.pak.isSeg } }

/-- An island ends (R296): what its master was for it ends with it. -/
def State.islandOver (s : State) : State := ({ s with pak := { s.pak with isCas := false } }).moveCas 0xFF

/-- The segment is an island, or no longer one (R296); of a cascade of one segment the segment master is cascade master. -/
def State.islandCheck (s : State) : State :=
  if ! s.pak.multiSeg then (if s.pak.segMaster = 0xFF then s else s.setCasMaster s.pak.segMaster)
  else
    let was := s.pak.island
    let now := s.pak.segMaster != 0xFF && ! s.trunkReach
    let s := { s with pak := { s.pak with island := now } }
    if now then (if was then s.islandMaster else s.islandMaster.raiseLog 1110 [])
    else if was then s.islandOver.raiseLog 1111 [] else s

/-! ## Training (R276-R278) -/

/-- A try of a link failed: retried after 100 ms, after five failures in a row every second (R277). -/
def State.linkFailed (s : State) (l : LinkId) (st : LinkState) : State :=
  (s.dropHandshake l).updLink l fun k =>
    { k with state := st, step := 0, fails := k.fails + 1, hsStep := 0,
             retryAt := some (s.time + (if 5 ≤ k.fails + 1 then secNs else 100 * msNs)) }

/-- A step of a link's training ends (R276); after a position conflict nothing goes past the HELLO (R292). -/
def State.trainStep (s : State) (l : LinkId) (step : Nat) (ok : Bool) : State :=
  let k := s.link l
  if ! s.linkEnabled l ∨ step ≠ k.step + 1 ∨ 5 ≤ step ∨ (s.pak.posConflict ∧ 3 < step) ∨ k.retryAt.isSome then s
  else if ok then
    let s := s.updLink l fun k => { k with step := step, state := .training }
    if step = 4 then s.startHandshake l else s
  else s.linkFailed l .down

/-- PAKOR_LINK_TRAIN_STEP (R276). -/
def execPakorLinkTrainStep (l : LinkId) (step : Fin 7) (ok : Bool) (s : State) : Host.Outcome State Fault Refusal :=
  .next (s.quiet.trainStep l step.val ok)

/-- PAKOR_TRAIN_RETRY (R277). -/
def execPakorTrainRetry (l : LinkId) (s : State) : Host.Outcome State Fault Refusal :=
  .next (match (s.link l).retryAt with
    | some t => (s.advanceTo t).updLink l fun k => { k with retryAt := none, step := 0, state := .training, ringTold := false }
    | none => s)

/-- 32 CRC failures in a second (R278): the link retrains; the third retrain in 60 s takes the worse lane out. -/
def State.crcRetrain (s : State) (l : LinkId) (worse : Fin 2) : State :=
  let k := s.link l
  let rs := s.time :: k.retrains.filter fun t => decide (s.time ≤ t + 60 * secNs)
  let off := 3 ≤ rs.length ∧ k.laneOff.isNone ∧ k.lane0 ∧ k.lane1
  let s := (s.endLinkSession l).updLink l fun k =>
    { k with crcCnt := satAdd 32 k.crcCnt 32, retrains := rs, state := .training, step := 1, ringTold := false }
  if off then
    (s.updLink l fun k => { k with laneOff := some worse, lane0 := worse != 0, lane1 := worse != 1 }).raiseLog 1096 [(1, l.val), (1, worse.val)]
  else s

/-- PAKOR_CRC_RETRAIN (R278). -/
def execPakorCrcRetrain (l : LinkId) (worse : Fin 2) (s : State) : Host.Outcome State Fault Refusal :=
  .next ((s.crcRetrain l worse).syncHealth)

/-- The DeviceID and state of this device's shards go to each present member as it joins (R291). -/
def State.sendHoldings (s : State) (d : Nat) : State :=
  s.send 0x13 d (s.holdings fun e => e.owner == d)

/-- A message goes out by hardware (R304). -/
def State.sendCmdOut (s : State) (c : SendCmd) : State :=
  let a := if c.flags.testBit 0 then dramBase + c.src * 512 else c.src
  let s := s.send c.type c.dst (s.bytes a c.length)
  { s with pak := { s.pak with done := s.pak.done ++ [(c.tag, Code.ok)] } }

/-- May frames be sent on some link (R286). -/
def State.maySend (s : State) : Bool := (List.finRange 4).any s.linkSends

/-- The priority of a frame on a link, the highest 0 (R283). -/
def SendCmd.priority (c : SendCmd) : Nat := if c.type < 0x20 then 0 else if 0x30 ≤ c.type then 1 else 2 + c.cls

/-- The queue drains while frames may be sent, in the order of R283. -/
def State.drainSend (s : State) : State :=
  if s.maySend then
    ((List.range 7).flatMap fun p => s.pak.queue.filter fun c => min c.priority 6 == p).foldl State.sendCmdOut { s with pak := { s.pak with queue := [] } }
  else s

/-- A link is up (R276, R305): once its handshake is done. -/
def State.linkUp (s : State) (l : LinkId) (oneLane : Bool) : State :=
  let k := s.link l
  if ! k.session ∨ k.step ≠ 5 then s
  else
    let s := s.updLink l fun k => { k with state := if oneLane then .upOneLane else .up, step := 6, fails := 0, trunk := 2 ≤ l.val }
    let s := s.raiseLog (1088 + 2 * l.val) [(1, k.peer)]
    let s := if 2 ≤ l.val then { s with pak := { s.pak with multiSeg := true } } else s
    let s := s.syncHealth
    let s := (s.present.filter fun d => d != s.devNumber).foldl State.sendHoldings s
    s.islandCheck.drainSend

/-- PAKOR_LINK_UP (R276). -/
def execPakorLinkUp (l : LinkId) (oneLane : Bool) (s : State) : Host.Outcome State Fault Refusal := .next (s.quiet.linkUp l oneLane)

/-- A link goes down (R305): its session ends, a lane taken out returns at the next training. -/
def State.linkDown (s : State) (l : LinkId) : State :=
  let was := (s.link l).state
  let s := (s.endLinkSession l).updLink l fun k =>
    { k with state := .down, peer := 0xFF, lane0 := false, lane1 := false, step := 0, laneOff := none, ringTold := false, retryAt := none }
  let s := if was = .up ∨ was = .upOneLane then s.raiseLog (1089 + 2 * l.val) [] else s
  s.syncHealth.islandCheck

/-- Every link goes down. -/
def State.linksDown (s : State) : State := ([0, 1, 2, 3] : List LinkId).foldl State.linkDown s

/-- PAKOR_LINK_DOWN (R305). -/
def execPakorLinkDown (l : LinkId) (s : State) : Host.Outcome State Fault Refusal := .next (s.quiet.linkDown l)

/-! ## Frames received (R279-R282) -/

/-- A frame dropped and counted (R280). -/
def State.dropFrame (s : State) (l : LinkId) : State := s.updLink l fun k => { k with dropCnt := satInc 32 k.dropCnt }

/-- A frame that fails its tag (R281): at the 16th within a second the session ends and step 5 is repeated. -/
def State.tagFail (s : State) (l : LinkId) : State :=
  let ts := s.time :: (s.link l).tagTimes.filter fun t => decide (s.time ≤ t + secNs)
  let s := s.updLink l fun k => { k with tagCnt := satInc 32 k.tagCnt, tagTimes := ts }
  if ts.length < 16 then s
  else
    let s := (s.endLinkSession l).updLink l fun k => { k with step := 4, state := .training, tagTimes := [] }
    ((s.startHandshake l).raiseLog 1100 [(1, l.val)]).syncHealth

/-- The link opposite to the one a broadcast came on (R282). -/
def LinkId.onward (l : LinkId) : LinkId := if l.val % 2 = 0 then ⟨(l.val + 1) % 4, Nat.mod_lt _ (by decide)⟩ else ⟨l.val - 1, by omega⟩

/-- The payload of a BEACON (R283). -/
def Beacon.bytes (b : Beacon) : List Byte :=
  leBytes 1 b.mode ++ [b.flags] ++ leBytes 1 b.segMaster ++ leBytes 1 b.cascadeMaster ++ leBytes 4 b.segEpoch ++ leBytes 4 b.cascadeEpoch
  ++ leBytes 4 b.members.toNat ++ leBytes 4 b.seq ++ leBytes 12 0

/-- The payload of a CLAIM (R283). -/
def ClaimMsg.bytes (m : ClaimMsg) : List Byte :=
  leBytes 1 (b2n m.cascade) ++ leBytes 1 m.claimant ++ leBytes 1 m.rank ++ leBytes 1 0 ++ leBytes 4 m.epoch ++ leBytes 4 m.seq ++ leBytes 4 0

/-- A frame is sent on (R282): resealed, hops less one. -/
def State.forward (s : State) (f : FrameIn) (type : Nat) (payload : List Byte) (l : LinkId) : State :=
  let g : FrameOut := ⟨type, f.dst, f.src, f.hops - 1, some l, true, payload⟩
  if s.linkSends l then { s with pak := { s.pak with sent := s.pak.sent ++ [g], links := vupd s.pak.links l fun k => k.keep g } } else s

/-- Changes what is kept of a cascade device. -/
def State.updSeen (s : State) (d : Nat) (f : Member → Member) : State :=
  match finOf 32 d with
  | some i => { s with pak := { s.pak with seen := vupd s.pak.seen i f } }
  | none => s

/-- Is a broadcast the first copy by source and message sequence (R282); one whose payload has no sequence says so itself (log entry
156). -/
def State.firstCopy (s : State) (f : FrameIn) (seq : Option Nat) : Bool :=
  match seq, finOf 32 f.src with
  | some n, some i => (s.pak.seen[i]).lastSeq != some n
  | _, _ => f.fresh

/-- A broadcast's sequence is noted. -/
def State.noteSeq (s : State) (f : FrameIn) (seq : Option Nat) : State :=
  if seq.isSome then s.updSeen f.src fun m => { m with lastSeq := seq } else s

/-- A message for this device lies in SRAM until its address is popped (R304); where hardware puts it is not given (free value,
log entry 35). -/
def State.received (s : State) : State :=
  if 255 ≤ s.pak.rx.length then s
  else ({ s with pak := { s.pak with rx := s.pak.rx ++ [(Config.freeWord s.free).setWidth 32] } }).drawn

/-- A sealed frame (R280-R282): dropped, failed, sent on, or acted on. -/
def State.frame (s : State) (f : FrameIn) (type : Nat) (payload : List Byte) (seq : Option Nat) (act : State → State) : State :=
  let s := s.quiet
  if f.hops = 0 ∨ ! f.isSealed ∨ ! (s.link f.link).session ∨ s.pak.posConflict then s.dropFrame f.link
  else if ! f.tagOk then s.tagFail f.link
  else
    let s := s.updLink f.link fun k => { k with rxCounter := k.rxCounter + 1 }
    if f.dst = 0xFE ∨ f.dst = 0xFF then (if s.firstCopy f seq then act ((s.noteSeq f seq).forward f type payload (LinkId.onward f.link)).received else s)
    else if f.dst = s.devNumber then act s.received
    else s.forward f type payload (s.outLink f.dst)

/-- An unsealed frame of link set-up (R280). -/
def State.setupFrame (s : State) (f : FrameIn) (act : State → State) : State :=
  let s := s.quiet
  if f.hops = 0 ∨ f.isSealed then s.dropFrame f.link else act s

/-! ## Link set-up (R274, R284, R285, R292, R302) -/

/-- Another device holds this one's number (R292): neither joins. -/
def State.posConflict (s : State) : State :=
  let s := (List.finRange 4).foldl (fun s l => (s.endLinkSession l).updLink l fun k => { k with state := .untrusted }) s
  ({ s with pak := { s.pak with posConflict := true } }).raiseLog 1101 []

/-- A DeviceID seen at a position (R291). -/
def Member.identify (m : Member) (id : Digest) : Member :=
  { m with changed := m.changed || (m.deviceId != 0 && m.deviceId != id), deviceId := id }

/-- The role of lane 1 (R274): bonded, a trunk, or disabled. -/
def State.laneOne (s : State) (l : LinkId) (device : Nat) (same : Bool) (mode : Nat) (id : Digest) : State :=
  if same then s.updLink l fun k => { k with lane1 := k.laneOff != some 1, peer := device }
  else if device / 8 ≠ s.pak.seg.val ∧ s.pak.pos.val ≤ 1 ∧ l.val < 2 then
    let t : LinkId := ⟨(l.val + 2) % 4, Nat.mod_lt _ (by decide)⟩
    s.updLink t fun k => { k with trunk := true, lane0 := false, lane1 := true, peer := device, peerMode := mode, peerId := id }
  else s.raiseLog 1103 [(1, l.val)]

/-- A HELLO (R274, R291, R292). -/
def State.hello (s : State) (l : LinkId) (device : Nat) (lane : Fin 2) (same : Bool) (mode : Nat) (id : Digest) (ringOk : Bool) : State :=
  if s.pak.posConflict then s
  else if device = s.devNumber then s.posConflict
  else
    let s := s.updSeen device fun m => m.identify id
    let s := if lane = 0 then s.updLink l fun k => { k with peer := device, lane0 := k.laneOff != some 0, peerMode := mode, peerId := id }
      else s.laneOne l device same mode id
    if ringOk ∨ (s.link l).ringTold then s else (s.updLink l fun k => { k with ringTold := true }).raiseLog 1102 [(1, l.val)]

/-- HELLO (R274). -/
def execHello (f : FrameIn) (device : Nat) (lane : Fin 2) (sameAsLane0 : Bool) (mode : Nat) (id : Digest) (ringOk : Bool) (s : State) :
    Host.Outcome State Fault Refusal :=
  .next (s.setupFrame f fun s => s.hello f.link device lane sameAsLane0 mode id ringOk)

/-- The length of a cable in cm (R302). -/
def State.cableCm (s : State) (l : LinkId) (rtt : Nat) : Nat :=
  let p := 1 + l.val % 2
  (rtt * 5 - s.pnat 0x0902 (0x10 + p) 0) * 100 / max 1 (s.pnat 0x0902 p 4700)

/-- LINK_TEST (R302). -/
def execLinkTest (f : FrameIn) (rtt : Nat) (copper : Bool) (s : State) : Host.Outcome State Fault Refusal :=
  .next (s.setupFrame f fun s =>
    if s.pak.posConflict then s else
    let s := s.updLink f.link fun k => { k with rtt := min rtt (2 ^ 24 - 1) }
    if copper ∧ 700 < s.cableCm f.link rtt then s.raiseLog 1117 [(1, f.link.val)] else s)

/-! ## Masters (R293-R296) -/

/-- Does a claim of an epoch and rank win over another (R294). -/
def claimBeats (epoch rank cur curRank : Nat) : Bool :=
  if epoch = 0xFFFFFFFF ∧ cur = 0xFFFFFFFF then decide (rank < curRank)
  else if epoch = 0xFFFFFFFF then decide (rank ≤ curRank)
  else decide (cur < epoch) || (cur == epoch && decide (rank < curRank))

/-- This device loses its mastership (R294): its view goes, and it joins again as a member under R291. -/
def State.stepDown (s : State) (equal : Bool) : State :=
  let s := { s with pak := { s.pak with isSeg := false, isCas := false, flags := s.pak.flags &&& 0xF9, members := 0 } }
  let s := if equal then s.raiseLog 1108 [] else s
  let s := s.raiseLog 1109 []
  (s.present.filter fun d => d != s.devNumber).foldl State.sendHoldings s

/-- A device is segment master from now on (R294). -/
def State.setSegMaster (s : State) (d epoch : Nat) : State :=
  let new := s.pak.segMaster != d
  let s := { s with pak := { s.pak with segMaster := d, segEpoch := epoch, isSeg := d == s.devNumber } }
  (if new then s.raiseLog 1106 [(1, d), (4, epoch)] else s).islandCheck

/-- A rival for the segment (R294): at its epoch and position. -/
def State.segRival (s : State) (d epoch : Nat) : State :=
  let cur := s.pak.segMaster
  if cur = d then (if s.pak.segEpoch ≤ epoch then { s with pak := { s.pak with segEpoch := epoch } } else s)
  else if cur = 0xFF ∨ claimBeats epoch (d % 8) s.pak.segEpoch (cur % 8) then
    let s := if s.pak.isSeg then s.stepDown (epoch == s.pak.segEpoch) else s
    s.setSegMaster d epoch
  else s

/-- A rival for the cascade (R295): at its epoch and segment. -/
def State.casRival (s : State) (d epoch : Nat) : State :=
  let cur := s.pak.casMaster
  let s := if d / 8 ≠ s.pak.seg.val then { s with pak := { s.pak with multiSeg := true } } else s
  if cur = d then (if s.pak.casEpoch ≤ epoch then { s with pak := { s.pak with casEpoch := epoch } } else s)
  else if cur = 0xFF ∨ claimBeats epoch (d / 8) s.pak.casEpoch (cur / 8) then
    let s : State := if s.pak.isCas then
        let s : State := { s with pak := { s.pak with isCas := false, flags := s.pak.flags &&& 0xFB } }
        (if epoch = s.pak.casEpoch then s.raiseLog 1108 [] else s).raiseLog 1109 []
      else s
    ({ s with pak := { s.pak with casEpoch := epoch } }).setCasMaster d
  else s

/-! ## Membership (R289-R291) -/

/-- A member of the segment appears (R291). -/
def State.memberJoins (s : State) (d : Nat) : State :=
  match finOf 32 d with
  | none => s
  | some i =>
    let m := s.pak.seen[i]
    if m.present ∨ d / 8 ≠ s.pak.seg.val ∨ d = s.devNumber then s
    else
      let s := s.updSeen d fun m => { m with present := true, changed := false }
      ((s.raiseLog 1104 [(1, d)]).peerJoined d m.deviceId (! m.changed)).startRebuild

/-- A member is absent: the Allotter's part (R262), and 1105 where this device, the segment master, declares it (R290). -/
def State.memberGone (s : State) (d : Nat) (declared : Bool) : State :=
  let s := s.updSeen d fun m => { m with present := false, healthy := false }
  let s := if declared then ({ s with pak := { s.pak with members := putBit s.pak.members d false } }).raiseLog 1105 [(1, d)] else s
  (s.peerAbsent d).islandCheck

/-- Is a device of this segment present by beacons. -/
def State.seenPresent (s : State) (d : Nat) : Bool :=
  match finOf 32 d with
  | some i => (s.pak.seen[i]).present
  | none => false

/-- The master's view of the segment (R290): members that it no longer lists are absent. -/
def State.takeView (s : State) (master : Nat) (members : Word) : State :=
  let s := { s with pak := { s.pak with members := members } }
  (List.range 32).foldl (fun s d =>
    if s.seenPresent d ∧ d ≠ master ∧ ! members.getLsbD d then s.memberGone d false else s) s

/-- A BEACON (R289, R290, R292, R294). -/
def State.beacon (s : State) (src : Nat) (b : Beacon) : State :=
  if src = s.devNumber then s.posConflict
  else
    let s := s.updSeen src fun m => { m with lastBeacon := s.time, healthy := b.flags.getLsbD 0, reachesTrunk := b.flags.getLsbD 3 }
    let s := s.memberJoins src
    let s := if b.flags.getLsbD 1 then s.segRival src b.segEpoch else s
    let s := if b.flags.getLsbD 2 then s.casRival src b.cascadeEpoch else s
    let s := { s with pak := { s.pak with segEpoch := max s.pak.segEpoch (min b.segEpoch (2 ^ 32 - 1)),
                                          casEpoch := max s.pak.casEpoch (min b.cascadeEpoch (2 ^ 32 - 1)) } }
    let s := if s.pak.isSeg then { s with pak := { s.pak with members := putBit s.pak.members src true } }
      else if s.pak.segMaster = src then s.takeView src b.members else s
    s.islandCheck

/-- BEACON (R290). -/
def execBeacon (f : FrameIn) (b : Beacon) (s : State) : Host.Outcome State Fault Refusal :=
  .next (s.frame f 0x10 b.bytes (some b.seq) fun s => s.beacon f.src b)

/-- CLAIM (R294). -/
def execClaim (f : FrameIn) (m : ClaimMsg) (s : State) : Host.Outcome State Fault Refusal :=
  .next (s.frame f 0x11 m.bytes (some m.seq) fun s => if m.cascade then s.casRival m.claimant m.epoch else s.segRival m.claimant m.epoch)

/-- LEAVE (R290). -/
def execLeave (f : FrameIn) (s : State) : Host.Outcome State Fault Refusal :=
  .next (s.frame f 0x12 [] none fun s => if s.pak.isSeg ∧ s.seenPresent f.src then s.memberGone f.src true else s)

/-- HOLDINGS (R291). -/
def execHoldings (f : FrameIn) (shards : List (Nat × Nat)) (s : State) : Host.Outcome State Fault Refusal :=
  .next (s.frame f 0x13 (heldShardBytes shards) none fun s => (s.reprotect f.src shards).startRebuild)

/-- The flags byte of this device's beacons (R283). -/
def State.beaconFlags (s : State) : Byte :=
  BitVec.ofNat 8 (b2n s.isHealthy + 2 * b2n s.pak.isSeg + 4 * b2n s.pak.isCas + 8 * b2n s.ownTrunk + 16 * b2n s.dev.freeze)

/-- The next message sequence number (R282, R283). -/
def State.nextSeq (s : State) : State := { s with pak := { s.pak with seq := (s.pak.seq + 1) % 2 ^ 32 } }

/-- A beacon goes out every 100 ms (R289), from the beacon registers. -/
def State.beaconOut (s : State) : State :=
  let s := s.advanceTo (nextMultiple s.time (100 * msNs))
  if ! s.pak.beaconRun ∨ ! s.maySend then s
  else
    let p := s.pak
    let b : Beacon := { mode := s.dev.mode.num, flags := p.flags, segMaster := p.segMaster, cascadeMaster := p.casMaster, segEpoch := p.segEpoch,
                        cascadeEpoch := p.casEpoch, members := p.members, seq := p.seq }
    let s := s.send 0x10 0xFE b.bytes
    s.nextSeq

/-- BEACON_SEND (R289). -/
def execBeaconSend (s : State) : Host.Outcome State Fault Refusal := .next s.quiet.beaconOut

/-- Does PAKOR answer: one of its ports' domains is on (DESIGN CHOICE, log entry 36). -/
def State.pakorBus (s : State) (half : Half) (off : Nat) (stewardOnly : Bool) (f : State → State) : State :=
  s.halfBus half (pakorBase + off) (if s.domOn 26 then 26 else 27) stewardOnly f

/-- The steward refreshes the beacon registers (R289), with the flags that hold now. -/
def State.beaconRefresh (s : State) : State :=
  let s := s.syncHealth
  { s with pak := { s.pak with refreshAt := s.time, stale := false, flags := s.beaconFlags } }

/-- BEACON_REFRESH (R289). -/
def execBeaconRefresh (half : Half) (s : State) : Host.Outcome State Fault Refusal :=
  .next (s.pakorBus half 0x24 true State.beaconRefresh)

/-- BEACON_STALE (R289): 2 s without a refresh. -/
def execBeaconStale (s : State) : Host.Outcome State Fault Refusal :=
  .next (if s.pak.beaconRun then
      let s := s.advanceTo (s.pak.refreshAt + 2 * secNs)
      { s with pak := { s.pak with stale := true, flags := s.pak.flags &&& 0xF8 } }
    else s)

/-- MEMBER_ABSENCE_TIMEOUT (R290): 1.0 s without a beacon, declared by the segment master. -/
def execMemberAbsenceTimeout (device : Fin 32) (s : State) : Host.Outcome State Fault Refusal :=
  .next (let m := s.pak.seen[device]
    if ! m.present ∨ ! s.pak.isSeg then s else ((s.quiet).advanceTo (m.lastBeacon + secNs)).memberGone device.val true)

/-- Members whose beacons have been missing for 1.0 s, as a new master finds them (R290). -/
def State.declareStale (s : State) : State :=
  (List.range 32).foldl (fun s d => match finOf 32 d with
    | some i => if (s.pak.seen[i]).present ∧ (s.pak.seen[i]).lastBeacon + secNs ≤ s.time then s.memberGone d true else s
    | none => s) s

/-- The rightful master of the segment (R293): healthy, with no healthy member below its position. -/
def State.rightful (s : State) : Bool :=
  s.isHealthy && ! (List.finRange 32).any fun d =>
    d.val / 8 == s.pak.seg.val && decide (d.val < s.devNumber) && (s.pak.seen[d]).present && (s.pak.seen[d]).healthy

/-- From when this device may claim its segment (R293); where it knows no master, 1.0 s after it became healthy. -/
def State.claimAt (s : State) : Option Nat :=
  match finOf 32 s.pak.segMaster with
  | none => some (s.pak.healthySince.getD s.time + secNs)
  | some m =>
    let k := s.pak.seen[m]
    if ! k.healthy then some s.time
    else if s.devNumber < m.val then s.pak.healthySince.map fun t => t + 10 * secNs
    else some (k.lastBeacon + secNs)

/-- The next epoch of an election, saturating (R294). -/
def nextEra (e : Nat) : Nat := min (e + 1) (2 ^ 32 - 1)

/-- A claim to the segment (R293). -/
def State.claimSegment (s : State) : State :=
  if s.pak.isSeg ∨ ! s.rightful then s
  else match s.claimAt with
    | none => s
    | some t =>
      let s := s.advanceTo t
      let e := nextEra s.pak.segEpoch
      let s := s.setSegMaster s.devNumber e
      let ms := s.present.foldl (fun m d => putBit m d true) (0 : Word)
      let s := { s with pak := { s.pak with members := ms, flags := s.beaconFlags } }
      (s.send 0x11 0xFE (ClaimMsg.bytes ⟨false, s.devNumber, s.pak.pos.val, e, s.pak.seq⟩)).nextSeq.declareStale

/-- A claim to the cascade (R295): by a segment master that reaches a trunk, where there is no master or one of a higher segment. -/
def State.claimCascade (s : State) : State :=
  if ! s.pak.isSeg ∨ s.pak.isCas ∨ ! s.trunkReach ∨ (s.pak.casMaster ≠ 0xFF ∧ s.pak.casMaster / 8 ≤ s.pak.seg.val) then s
  else
    let e := nextEra s.pak.casEpoch
    let s := ({ s with pak := { s.pak with casEpoch := e } }).setCasMaster s.devNumber
    let s := { s with pak := { s.pak with flags := s.beaconFlags } }
    (s.send 0x11 0xFF (ClaimMsg.bytes ⟨true, s.devNumber, s.pak.seg.val, e, s.pak.seq⟩)).nextSeq

/-- MASTER_CLAIM_START (R293, R295). -/
def execMasterClaimStart (cascade : Bool) (s : State) : Host.Outcome State Fault Refusal :=
  .next (if cascade then s.quiet.claimCascade else s.quiet.claimSegment)

/-! ## Shard transfers (R297-R299) -/

/-- What an offer is answered with (R246, R256, R297). -/
def State.grantCode (s : State) (h : ShardHead) : Code :=
  if s.dev.mode = .quarantine then .refusedState
  else if s.dev.freeze ∨ 8 ≤ s.pak.incoming.length then .busy
  else if h.target = 0xFF then .ok
  else if s.cis.state = 2 ∧ s.goldenReserved + h.shardLength + 896 ≤ s.cisFree then .ok
  else .full

/-- A SHARD_OFFER (R297). -/
def State.shardOffer (s : State) (src number : Nat) (h : ShardHead) : State :=
  let c := s.grantCode h
  let s := s.send 0x21 src (codeBytes number c)
  match c with
  | .ok =>
    { s with pak := { s.pak with incoming := s.pak.incoming ++
      [{ number := number, peer := src, set := 0, head := h, data := [], granted := true, progressAt := s.time, startAt := s.time,
         probe := h.target == 0xFF }] } }
  | .full => s.raiseLog 1068 [(1, src)]
  | _ => s

/-- SHARD_OFFER (R297). -/
def execShardOffer (f : FrameIn) (number : Nat) (h : ShardHead) (s : State) : Host.Outcome State Fault Refusal :=
  .next (s.frame f 0x20 (offerBytes number h) none fun s => s.shardOffer f.src number h)

/-- A transfer of this device to a peer. -/
def State.outTransfer (s : State) (peer number : Nat) : Option Transfer :=
  s.pak.outgoing.find? fun t => t.peer == peer && t.number == number

/-- A transfer of this device ends. -/
def State.dropOut (s : State) (t : Transfer) : State :=
  { s with pak := { s.pak with outgoing := s.pak.outgoing.filter fun x => ! (x.peer == t.peer && x.number == t.number) } }

/-- A member will not take a shard (R255): another is chosen, or the set holds fewer. -/
def State.skipMember (s : State) (t : Transfer) : State :=
  match Target.ofCode t.head.target with
  | none => s
  | some g =>
    let s := s.updSet g t.set fun x => { x with full := x.full ++ [t.peer], shards := x.shards.filter fun l => ! (l.index == t.head.index && l.device == t.peer) }
    s.placeShards g t.set

/-- A SHARD_GRANT (R297): the data goes, or the shard elsewhere; a member that is busy is asked again. -/
def State.shardGrant (s : State) (src number : Nat) (c : Code) : State :=
  match s.outTransfer src number with
  | none => s
  | some t =>
    match c with
    | .ok =>
      let others := s.pak.outgoing.map fun x =>
        if x.peer = src ∧ x.number = number then { x with granted := true, startAt := s.time, progressAt := s.time } else x
      let s := { s with pak := { s.pak with outgoing := others } }
      (s.updPeer src fun p => { p with sent := true }).sendShard src number t.data
    | .full => (s.dropOut t).skipMember t
    | _ => s.dropOut t

/-- SHARD_GRANT (R297). -/
def execShardGrant (f : FrameIn) (number : Nat) (code : Code) (s : State) : Host.Outcome State Fault Refusal :=
  .next (s.frame f 0x21 (codeBytes number code) none fun s => s.shardGrant f.src number code)

/-- A received shard is whole (R297): its digest decides between the commit and VERIFY_FAIL; a probe is only acknowledged. -/
def State.shardWhole (s : State) (t : Transfer) : State :=
  let s := { s with pak := { s.pak with incoming := s.pak.incoming.filter fun x => ! (x.peer == t.peer && x.number == t.number) } }
  if t.head.digests.getD t.head.index 0 != sha384 t.data then s.send 0x23 t.peer (codeBytes t.number .verifyFail)
  else if t.probe then s.send 0x23 t.peer (codeBytes t.number .ok)
  else
    let r := s.takeHandle
    let h := t.head
    let e := r.2.newEntry r.1 h.owner h.target h.svn h.root (.shard h.index) (headBytes h ++ t.data)
    (r.2.catChange (.add e (some (t.peer, t.number)))).drawn

/-- A SHARD_DATA (R297): the next bytes of an incoming shard. -/
def State.shardData (s : State) (src number offset : Nat) (data : List Byte) : State :=
  match s.pak.incoming.find? fun t => t.peer == src && t.number == number with
  | none => s
  | some t =>
    if offset ≠ t.data.length then s
    else
      let t2 := { t with data := t.data ++ data, progressAt := s.time }
      let others := s.pak.incoming.map fun x => if x.peer = src ∧ x.number = number then t2 else x
      let s := { s with pak := { s.pak with incoming := others } }
      if t.head.shardLength ≤ t2.data.length then s.shardWhole t2 else s

/-- SHARD_DATA (R297). -/
def execShardData (f : FrameIn) (number offset : Nat) (data : List Byte) (s : State) : Host.Outcome State Fault Refusal :=
  .next (s.frame f 0x22 (shardDataBytes number offset data) none fun s => s.shardData f.src number offset data)

/-- A SHARD_ACK (R258, R260, R297): its time, and the shard counts. -/
def State.shardAck (s : State) (src number : Nat) (c : Code) : State :=
  match s.outTransfer src number with
  | none => s
  | some t =>
    let ns := (s.time - t.startAt) * 1048576 / max 1 t.head.shardLength
    let s := (s.dropOut t).updPeer src fun p => { p with acks := p.acks ++ [ns] }
    match c, Target.ofCode t.head.target with
    | .ok, some g => ((s.updSet g t.set fun x => x.acknowledge t.head.index src).refreshSets).pump
    | _, _ => s.pump

/-- SHARD_ACK (R297). -/
def execShardAck (f : FrameIn) (number : Nat) (code : Code) (s : State) : Host.Outcome State Fault Refusal :=
  .next (s.frame f 0x23 (codeBytes number code) none fun s => s.shardAck f.src number code)

/-- A SHARD_REQ (R299): the shard, or EMPTY. -/
def State.shardReq (s : State) (src : Nat) (ownerId : Digest) (target svn : Nat) (root : Digest) (index : Nat) : State :=
  let e := s.cis.catalogue.find? fun e =>
    e.role == .shard index && e.ownerId == ownerId && e.target == target && e.svn == svn && e.root == root && e.readable
  match e, s.catalogueReadable with
  | some e, true => (s.sendShard src 0 (e.container.drop 896)).send 0x23 src (codeBytes 0 .ok)
  | _, _ => s.send 0x23 src (codeBytes 0 .empty)

/-- SHARD_REQ (R299). -/
def execShardReq (f : FrameIn) (ownerId : Digest) (target svn : Nat) (root : Digest) (index : Nat) (s : State) :
    Host.Outcome State Fault Refusal :=
  .next (s.frame f 0x24 (shardReqBytes ownerId target svn root index) none fun s => s.shardReq f.src ownerId target svn root index)

/-- A transfer without progress for 5 s (R298): abandoned, and the Allotter places the shard again. -/
def State.transferStall (s : State) (number : Nat) (outgoing : Bool) : State :=
  let l := if outgoing then s.pak.outgoing else s.pak.incoming
  match l.find? fun t => t.number == number with
  | none => s
  | some t =>
    let s := s.advanceTo (t.progressAt + 5 * secNs)
    let same (x : Transfer) : Bool := x == t
    let s := s.abortTransfers same
    if outgoing then s.placeAgain t else s

/-- SHARD_TRANSFER_STALL (R298). -/
def execShardTransferStall (number : Nat) (outgoing : Bool) (s : State) : Host.Outcome State Fault Refusal :=
  .next (s.quiet.transferStall number outgoing)

/-! ## The send queue (R304) -/

/-- Is a frame type a shard frame. -/
def shardType (t : Nat) : Bool := decide (0x20 ≤ t) && decide (t ≤ 0x24)

/-- The field checks of a send command (R304). -/
def State.sendCmdOk (s : State) (c : SendCmd) : Bool :=
  ([0x10, 0x11, 0x12, 0x13, 0x20, 0x21, 0x22, 0x23, 0x24, 0x30, 0x31].contains c.type)
  && (if shardType c.type then decide (1 ≤ c.cls) && decide (c.cls ≤ 4) else c.cls == 0)
  && (decide (c.dst < 32) || c.dst == 0xFE || c.dst == 0xFF) && decide (c.flags < 2)
  && decide (1 ≤ c.length) && decide (c.length ≤ 16777216)
  && (if c.flags.testBit 0 then s.inStaging c.src c.length else inSecureSram c.src c.length)

/-- A push (R304). -/
def State.pakorPush (s : State) (c : SendCmd) : State :=
  if 64 ≤ s.pak.queue.length then ({ s with pak := { s.pak with lostPush := true } }).raiseLog 1115 []
  else if ! s.sendCmdOk c then
    ({ s with pak := { s.pak with done := s.pak.done ++ [(c.tag, Code.badRange)] } }).raiseLog 1116 [(2, c.tag)]
  else ({ s with pak := { s.pak with queue := s.pak.queue ++ [c] } }).drainSend

/-- PAKOR_QPUSH (R304). -/
def execPakorQpush (half : Half) (cmd : SendCmd) (s : State) : Host.Outcome State Fault Refusal :=
  .next (s.quiet.pakorBus half 0x200 true fun s => s.pakorPush cmd)

/-- PAKOR_RXPOP (R304): the address of the next received message, 0 of none. -/
def execPakorRxpop (half : Half) (s : State) : Host.Outcome State Fault Refusal :=
  .next (s.pakorBus half 0x214 false fun s =>
    { s with pak := { s.pak with popped := s.pak.rx.headD 0, rx := s.pak.rx.tail } })

/-- A pop (R304). -/
def State.pakorPop (s : State) : State :=
  let put (s : State) (v : Nat) : State := { s with pak := { s.pak with popped := BitVec.ofNat 32 v } }
  if s.pak.lostPush then put { s with pak := { s.pak with lostPush := false } } Code.full.num
  else match s.pak.done with
    | [] => put s Code.empty.num
    | (tag, c) :: r => put { s with pak := { s.pak with done := r } } (tag * 65536 + c.num)

/-- PAKOR_QPOP (R304). -/
def execPakorQpop (half : Half) (s : State) : Host.Outcome State Fault Refusal :=
  .next (s.pakorBus half 0x208 false State.pakorPop)

end Sys2Proof.Machine
end

