-- ==== Sys2Proof/Machine/Restart.lean ====
section
/-!
DEFINITION. Power-on reset and the internal full reset (R33, R394, R555).
-/
namespace Sys2Proof.Machine

/-! ## Resets -/

/-- What a power-on reset keeps of the update block: the journal, the trace area, and what names them (R220, R224: eFlash). -/
def Update.kept (u : Update) : Update :=
  { Update.reset with bank := u.bank, bankEpoch := u.bankEpoch, journal := u.journal, nextSeq := u.nextSeq, floorDue := u.floorDue, traces := u.traces,
                      traceBoot := u.traceBoot, bootTraces := u.bootTraces }

/-- What it keeps of the Cistern: the NAND and the erase sequence (R245, R249). -/
def Cistern.kept (c : Cistern) : Cistern :=
  { Cistern.reset with eraseSeq := c.eraseSeq, pagesPerBlock := c.pagesPerBlock, blocksPerTarget := c.blocksPerTarget, pages := c.pages,
                       marksRead := c.marksRead, sealedUnder := c.sealedUnder, badBlocks := c.badBlocks, catalogue := c.catalogue,
                       nextHandle := c.nextHandle, sets := c.sets, orphans := c.orphans }

/-- What it keeps of the dictionary: the object store in eFlash (R484). -/
def Rill.kept (r : Rill) : Rill :=
  { Rill.reset with store := r.store, bank := r.bank, epoch := r.epoch, nextSeq := r.nextSeq, used := r.used }

/-- What it keeps of the fuses: the cells. -/
def Fuses.kept (f : Fuses) : Fuses := { Fuses.reset with main := f.main, spare := f.spare, priv := f.priv }

/-- The stop-code record over a power-on reset: kept while VDD_AON stays in range; the start-up reports it (R344, R360). -/
def Boot.kept (b : Boot) (aonKept : Bool) : Boot :=
  { Boot.reset with stopCode := if aonKept then b.stopCode else 0, lastStop := if aonKept then b.stopCode else 0 }

/-- A power-on reset (R33): everything but fuses, eFlash, NAND, straps and the fitted DRAM returns to reset; the mode is COLD, with
the cause given (R34: 0; 8 from RECOVER), every channel ABSENT (R41). -/
def State.fullReset (s : State) (aonKept : Bool) (cause : Nat) (phase : BootPhase) : State :=
  let old := s.dev.mode.num
  let chans := s.chans
  let r := State.reset
  let s : State := { r with
    fuse := s.fuse.kept, upd := s.upd.kept, cis := s.cis.kept, rill := s.rill.kept,
    boot := { s.boot.kept aonKept with phase := phase }, pak := { r.pak with seg := s.pak.seg, pos := s.pak.pos },
    mir := { r.mir with fittedGib := s.mir.fittedGib }, dev := { r.dev with cause := cause },
    mem := s.mem.filter fun x => decide (x.1 < 0xA00000), free := s.free, pending := s.pending }
  let s := (List.finRange 64).foldl (fun (s : State) c =>
    let ch : Chan := chans[c]
    if ch.state = .absent then s
    else s.logRec .chanState noEvent 0 .sill [(1, c.val), (1, ch.state.num), (1, 0), (2, ch.gen), (8, 0)]) s
  s.logRec .modeChange noEvent 0 .sill [(1, old), (1, 0), (1, cause), (8, 0)]

/-- An internal full reset: PORST_N stays released, so start-up goes on from the root PLL (R33). -/
def State.internalReset (s : State) (cause : Nat) : State := s.fullReset true cause .pll

/-- POWER_ON_RESET (R555). -/
def execPowerOnReset (aonKept : Bool) (s : State) : Host.Outcome State Fault Refusal := .next (s.fullReset aonKept 0 .held)

/-- BROWN_OUT (R394): an undervoltage of 1 µs or more acts as a power-on reset; a shorter one is the glitch sensors' matter. -/
def execBrownOut (ns : Nat) (aonKept : Bool) (s : State) : Host.Outcome State Fault Refusal :=
  .next (if 1000 ≤ ns then s.fullReset aonKept 0 (if s.boot.phase = .held then .held else .pll) else s)

end Sys2Proof.Machine
end

