-- ==== Sys2Proof/Machine/Update.lean ====
section
/-!
DEFINITION. Updates of channels and of the device's own firmware (R206-R219, R225, R227-R228, R235-R239): receipt, verification,
landing, the commit and the steps behind it, abandoning, the energy gate's retries.
-/
namespace Sys2Proof.Machine

/-! ## Ends -/

/-- The mode when an update of the device's own firmware ends (R34 cause 6): GUARD where a release stands, else HOLD. -/
def State.updateModeEnds (s : State) : State :=
  if s.dev.mode ≠ .update then s
  else if s.hg.out ≠ 0 then s.setMode .guard 6
  else { s.setMode .hold 6 with hg := { (s.setMode .hold 6).hg with holdAt := s.time } }

/-- Both halves drop their verification of a target. -/
def State.endVers (s : State) (t : Target) : State := (s.endVer .indigo t).endVer .amber t

/-- A channel leaves UPDATING, or the REPAIRING of a recovered install, and follows its bound output (R41, R213). -/
def State.chanUpdEnds (s : State) (c : ChanId) : State :=
  match (s.chan c).state with
  | .updating => s.setChan c (s.returnState c)
  | .repairing => if (s.chan c).repair.isSome then s else s.setChan c (s.returnState c)
  | _ => s

/-- A target's update is over: its ranges return, `update_status` says how (R217, R240). -/
def State.updEnd (s : State) (t : Target) (code : Code) : State :=
  let s := (s.endVers t).updTarget t fun u => { u.freed with state := 0, layout := 0, status := code, recState := 0, recUntil := none, recLocal := false, recCodes := [] }
  match t with
  | .chan c => s.chanUpdEnds c
  | _ => s

/-! ## The recovered or staged image -/

/-- Leaf `i` of the image to land: of the container where the new map signs it, else what the mirror holds (R214). -/
def State.landLeaf (s : State) (c : ChanId) (b : List Byte) (i : Nat) : List Byte :=
  if imgLeafKind b i = 0 then s.imageLeaf (.chan c) b i else s.mirrorBytes c (i * 4096) 4096

/-- The image lands at a mirror page (R215): every leaf written and sealed. -/
def State.landImage (s : State) (c : ChanId) (b : List Byte) (page : Nat) : State :=
  ((List.range (imgLeaves b)).map fun i => (i, s.landLeaf c b i)).foldl
    (fun s x => (s.store (dramBase + (page + x.1) * 4096) x.2).sealPage (page + x.1)) s

/-- The leaves of flash part 2 (R214): signed in both maps, content that differs. -/
def State.part2 (s : State) (c : ChanId) (b : List Byte) : List Nat :=
  (List.range (imgLeaves b)).filter fun i =>
    imgLeafKind b i == 0 && (s.leafRegion c i).kind == .signed && sha384 (s.imageLeaf (.chan c) b i) != s.leafDigest c i

/-- The signed leaves whose content differs, whatever the map in force says (R232). -/
def State.differing (s : State) (c : ChanId) (b : List Byte) : List Nat :=
  (List.range (imgLeaves b)).filter fun i => imgLeafKind b i == 0 && sha384 (s.imageLeaf (.chan c) b i) != s.leafDigest c i

/-- The erase units of some leaves, each once. -/
def State.unitsOf (s : State) (c : ChanId) (leaves : List Nat) : List Nat :=
  (leaves.map fun i => ((s.chan c).repairUnit i).1).eraseDups

/-- `update_layout` of an update (R214): A/B where part 2 has at most 64 leaves, else staging. -/
def State.layoutOf (s : State) (c : ChanId) (b : List Byte) : Nat := if (s.part2 c b).length ≤ 64 then 1 else 2

/-! ## The rules for a new map (R215, R106) -/

/-- The places where a rule or an entry of the new map begins or ends. -/
def ruleCuts (rs : List Rule) (b : List Byte) : List Nat :=
  sortNat ((0 :: imgSize b :: (rs.flatMap fun r => [r.start, r.start + r.length])
    ++ (imgRegions b).flatMap fun r => [r.1, r.1 + r.2.1]).eraseDups.filter fun a => decide (a ≤ imgSize b))

/-- The rule of one piece between two cuts: class, flags, rate and id of the rule in force there, the kind of the new map; a piece
that no rule covers needs one only where the map does not sign it, in the default class (DEDUCED, log entry 37). -/
def pieceRule (rs : List Rule) (dflt : RegionClass) (b : List Byte) (lo hi : Nat) : Option Rule :=
  let kind := (RegionKind.ofCode (imgLeafKind b (lo / 4096))).getD .signed
  match findRule rs lo with
  | some r => some { r with start := lo, length := hi - lo, kind := kind }
  | none => if kind = .signed then none else some ⟨lo, hi - lo, dflt, kind, false, 0, 0xFFFF⟩

/-- The rules for a container's map, from the rules in force. -/
def State.newRules (s : State) (c : ChanId) (b : List Byte) : List Rule :=
  let d := (s.chan c).desc
  let rs := s.rulesAt d.ruleBase d.ruleCount
  let cuts := ruleCuts rs b
  (cuts.zip (cuts.drop 1)).filterMap fun x => pieceRule rs ((RegionClass.ofCode d.defaultClass).getD .locked) b x.1 x.2

/-- The 32 bytes of a rule (R92). -/
def ruleToBytes (r : Rule) : List Byte :=
  leBytes 4 r.start ++ leBytes 4 r.length ++ leBytes 1 r.cls.num ++ leBytes 1 r.kind.num ++ leBytes 1 (b2n r.journalEvent)
    ++ leBytes 1 0 ++ leBytes 2 r.denyRate ++ leBytes 2 r.ruleId ++ leBytes 16 0

/-- What bank 4 holds below the log ring: the table, and what the descriptors, cached or staged or in SRAM, reference. -/
def State.bank4Taken (s : State) : List Range :=
  let refs (d : Desc) : List Range :=
    (if d.ruleCount = 0 then [] else [(d.ruleBase, d.ruleBase + 32 * d.ruleCount)])
    ++ (if d.sfdpOverride then [(d.overrideSfdp, d.overrideSfdp + 4096)] else [])
    ++ (if d.pinMap = 0 then [] else [(d.pinMap, roundUp (d.pinMap + 8 * d.pinLeaves) 32)])
  (s.mir.chtBase.toNat, s.mir.chtBase.toNat + 0x4000) ::
    (List.finRange 64).flatMap fun c =>
      refs (s.chan c).desc ++ refs (descOf (s.descBytes c)) ++ ((s.chan c).staged.map fun x => refs x.desc).getD []

/-- A free place of bank 4 of `size` bytes with an alignment (R106). -/
def State.freePlace (s : State) (size align : Nat) : Option Nat :=
  let taken := s.bank4Taken
  (sortNat (0x11000000 :: taken.map fun r => roundUp r.2 align)).find? fun a =>
    decide (0x11000000 ≤ a) && decide (a + size ≤ 0x112C0000) && ! taken.any fun r => Range.meets (a, a + size) r

/-- Bytes stored at an offset of a channel's descriptor in SRAM. -/
def State.putField (s : State) (c : ChanId) (off : Nat) (bs : List Byte) : State :=
  s.store (s.mir.chtBase.toNat + c.val * 0x100 + off) bs

/-- The pool slots that the lists in use of other channels hold (R144). -/
def State.slotsTaken (s : State) (c : ChanId) : List Nat :=
  ((List.finRange 64).filter fun k => k != c).flatMap fun k =>
    ((s.chan k).pins ++ s.pinsAt (descOf (s.descBytes k))).map fun p => p.2

/-- Pairs leaves with the lowest free slots (R268). -/
def pairSlots (leaves taken : List Nat) : List (Nat × Nat) :=
  leaves.zip ((List.range 2048).filter fun i => ! taken.contains i)

/-- The pin list for the next fill is written and the descriptor names it (R144, R268). -/
def State.placePins (s : State) (c : ChanId) : State :=
  let ps := pairSlots (sortNat (s.chan c).pinNext) (s.slotsTaken c)
  if ps.isEmpty then s.putField c 0x9C (leBytes 6 0)
  else match s.freePlace (8 * ps.length) 32 with
    | some a => (s.store a (ps.flatMap fun p => leBytes 4 p.1 ++ leBytes 2 p.2 ++ leBytes 2 0)).putField c 0x9C
        (leBytes 4 a ++ leBytes 2 ps.length)
    | none => s

/-- The 256 bytes of a descriptor (R90). -/
def descToBytes (st : ChanState) (d : Desc) : List Byte :=
  leBytes 1 st.num ++ leBytes 1 (b2n d.enable + 2 * b2n d.sfdpOverride + 4 * b2n d.pinEnable + 8 * b2n d.scrubEnable) ++ leBytes 2 d.gen
  ++ leBytes 1 d.policy ++ leBytes 1 d.hostBandMax ++ leBytes 1 d.flashSckMax ++ leBytes 1 0 ++ leBytes 4 d.overrideSfdp
  ++ leBytes 1 d.holdOutput ++ leBytes 3 0 ++ leBytes 4 d.mirrorPage ++ leBytes 4 d.mirrorExtent ++ leBytes 4 d.ruleBase
  ++ leBytes 2 d.ruleCount ++ leBytes 1 d.defaultClass ++ leBytes 1 0 ++ leBytes 4 d.manifestRef ++ leBytes 4 d.imageSvn
  ++ leBytes 4 d.leafCount ++ leBytes 4 d.commitSeq ++ digestBytes d.merkleRoot ++ digestBytes d.mutableDigest
  ++ leBytes 4 d.goldenLocal ++ leBytes 1 d.goldenK ++ leBytes 1 d.goldenM ++ leBytes 1 d.goldenState ++ leBytes 1 0
  ++ leBytes 4 d.goldenPeers ++ leBytes 4 d.pinMap ++ leBytes 2 d.pinLeaves ++ leBytes 2 d.scrubHours ++ leBytes 92 0

/-- After a rejected invalidate the descriptor in SRAM is what the port serves again, its rules where they lie, and the digest is posted
(R106). -/
def State.restoreDesc (s : State) (c : ChanId) : State :=
  (s.putField c 0 (descToBytes (s.chan c).state (s.chan c).desc)).repostDigest

/-- The generation after one (R90): 0 is none. -/
def nextGen (g : Nat) : Nat := if 0xFFFF ≤ g then 1 else g + 1

/-- CHT_INVAL is written by the steward, or falls due while the queue is full or MIRCTL is off (R105). -/
def State.invalidate (s : State) (c : ChanId) (g : Nat) : State :=
  if s.domOn 23 ∧ s.mir.invals.length < 8 then
    (s.updTarget (.chan c) fun u => { u with invalDue := false }).chtInvalWrite (BitVec.ofNat 32 (c.val * 65536 + g))
  else s.updTarget (.chan c) fun u => { u with invalDue := true }

/-- The generation of an edit (R106): the one after the descriptor's; before its first, the one after the port's (R90). -/
def State.newGen (s : State) (c : ChanId) : Nat :=
  let g := (descOf (s.descBytes c)).gen
  nextGen (if g = 0 then (s.chan c).gen else g)

/-- The end of the edit procedure (R106): the next generation is set, the digest posted and the descriptor invalidated. -/
def State.newGeneration (s : State) (c : ChanId) (k : EditKind) : State :=
  let g := s.newGen c
  let s := s.updTarget (.chan c) fun u => { u with edit := some (k, g), editCode := none }
  ((s.putField c 2 (leBytes 2 g)).repostDigest).invalidate c g

/-- The descriptor edit of step 4 (R215): the rules for the new map in a free place, the image group, the digest area; the range of the
image superseded is kept until step 5 (R217). -/
def State.editImage (s : State) (c : ChanId) (r : JRec) : State :=
  let u := s.target (.chan c)
  let b := u.container
  let rules := s.newRules c b
  let s := match s.freePlace (32 * rules.length) 32 with
    | some base => (s.store base (rules.flatMap ruleToBytes)).putField c 0x18 (leBytes 4 base ++ leBytes 2 rules.length)
    | none => s
  let old := (s.chan c).desc
  let s := s.updTarget (.chan c) fun u => { u with superseded := some (old.mirrorPage * 4096, old.mirrorExtent) }
  let s := s.putField c 0x10 (leBytes 4 r.mirrorPage ++ leBytes 4 (imgSize b))
  let s := s.putField c 0x20 (leBytes 4 r.manifestRef ++ leBytes 4 (imgSvn b) ++ leBytes 4 (imgLeaves b) ++ leBytes 4 u.commit
    ++ digestBytes (imgRoot b))
  let s := (List.range (imgLeaves b)).foldl (fun s i =>
    s.putLeafDigest c i (sha384 (s.bytes (dramBase + (r.mirrorPage + i) * 4096) 4096))) s
  s.newGeneration c .image

/-- An invalidate of the channel is queued, loading or due (R98, R105). -/
def State.editPending (s : State) (c : ChanId) : Bool :=
  (s.chan c).staged.isSome || (s.mir.invals.any fun i => i.chan == c) || (s.target (.chan c)).invalDue

/-- No edit of the channel's descriptor may begin: an invalidate is pending, or an earlier edit waits for it (R105). -/
def State.editBusy (s : State) (c : ChanId) : Bool := s.editPending c || ! (s.target (.chan c)).editsDue.isEmpty

/-- An edit that the steward makes of itself (R106): of the image for the COMMIT in hand, or of the pin list. -/
def State.runEdit (s : State) (c : ChanId) (k : EditKind) : State :=
  match k with
  | .config => s
  | .pins => (s.placePins c).newGeneration c .pins
  | .image =>
    match s.upd.journal.find? fun r => r.type == .commit && r.target == (Target.chan c).code && r.seq == (s.target (.chan c)).commit with
    | some r => s.editImage c r
    | none => s

/-- The steward's own edit, at once, or once the invalidate pending of the channel has completed (R105). -/
def State.edit (s : State) (c : ChanId) (k : EditKind) : State :=
  let s := if k = .image then s.setUpd (.chan c) 5 else s
  if s.editBusy c then s.updTarget (.chan c) fun u => { u with editsDue := u.editsDue ++ [k] } else s.runEdit c k

/-- The edits that waited, once no invalidate of the channel is pending (R105). -/
def State.dueEdit (s : State) (c : ChanId) : State :=
  match (s.target (.chan c)).editsDue with
  | [] => s
  | k :: ks =>
    if s.editPending c then s else (s.updTarget (.chan c) fun u => { u with editsDue := ks }).runEdit c k

/-- The invalidate of an edit has completed (R106): a rejected one has the descriptor restored; then the edits that waited begin. -/
def State.settleEdit (s : State) (c : ChanId) : State :=
  if s.editPending c then s
  else match (s.target (.chan c)).edit with
    | none => s.dueEdit c
    | some (k, g) =>
      let code := if (s.chan c).gen = g then Code.ok else if s.mir.invalChan = c then s.mir.invalCode else .reject
      let s := s.updTarget (.chan c) fun u => { u with edit := none, editCode := if k = .config then some code else u.editCode }
      (if code = .ok then s else s.restoreDesc c).dueEdit c

/-- The invalidates that fell due are written once the queue has a place. -/
def State.flushInvals (s : State) : State :=
  (List.finRange 64).foldl (fun s c =>
    if (s.target (.chan c)).invalDue then s.invalidate c (descOf (s.descBytes c)).gen else s) s

/-- MIRROR_TRAIN_DONE (R110): once the mirror is ready, the steward writes the invalidates that fell due (R89). -/
def execMirrorTrainDone (o : TrainOutcome) (s : State) : Host.Outcome State Fault Refusal :=
  let s := s.trainDone o
  .next (if s.mir.ready then s.flushInvals else s)

/-- INVALIDATE_TAKEN (R98): a rejected one ends its edit (R106). -/
def execInvalidateTaken (loadPs : Nat) (s : State) : Host.Outcome State Fault Refusal :=
  let s := s.takeInval loadPs
  .next (s.settleEdit s.mir.invalChan).flushInvals

/-! ## After a record -/

/-- The record of the COMMIT of a target's update. -/
def State.ownCommit (s : State) (t : Target) : Option JRec :=
  s.upd.journal.find? fun r => r.type == .commit && r.target == t.code && r.seq == (s.target t).commit

/-- The record that a target's later steps append (R221, R225): it names the update's COMMIT, with its svn and root. -/
def State.stepRec (s : State) (t : Target) (ty : JType) : JRec :=
  let u := s.target t
  let r := s.ownCommit t
  { JRec.of ty t.code with refSeq := u.commit, svn := (r.map fun q => q.svn).getD (imgSvn u.container),
                           root := (r.map fun q => q.root).getD (imgRoot u.container), flags := if u.atStart then 4 else 0 }

/-- A record of a type waits for the gate for the target. -/
def State.recWaits (s : State) (t : Target) (ty : JType) : Bool := s.upd.waiting.any fun g => match g with
  | .journal r => r.target == t.code && r.type == ty
  | _ => false

/-- The extension region takes the container committed (R239). -/
def State.extensionWrite (s : State) : State :=
  (s.rewriteFlash extensionBase extensionSize (s.target .extension).container).setUpd .extension 5

/-- A component that PLDM has activated has its COMMIT, or is abandoned: with the last one the activation is over (R207). -/
def State.pldmSettled (s : State) (t : Target) : State :=
  let left := s.upd.pldmApplied.erase t
  { s with upd := { s.upd with pldmApplied := left, pldm := if s.upd.pldm = .activate ∧ left.isEmpty then .idle else s.upd.pldm } }

/-- The RECOVERY record of Sill is in the journal: the device resets (R358). -/
def State.recoveryReset (s : State) : State := if s.boot.phase = .recover then s.internalReset 8 else s

/-- Sill's COMMIT is in the journal: its RECOVERY record follows (R358). -/
def State.sillRecovery (s : State) (r : JRec) : State :=
  let q : JRec := { JRec.of .recovery r.target with
    refSeq := (s.target .mission).commit, svn := r.svn, root := r.root, slot := (s.boot.recoverImage.map fun x => x.1).getD 0 }
  if s.mayStart (.journal q) then (s.appendRec q).recoveryReset else s.queueStep (.journal q)

/-- The code that an update ends with: OK; ROLLBACK where the start-up that completed it had to retire a downgrade's COMMIT (R222). -/
def TargetUpd.endCode (u : TargetUpd) : Code := if u.atStart ∧ u.status = .rollback then .rollback else .ok

/-- The flash of a channel whose recovered image has been switched in matches (R41, R232): REPAIRING is over. -/
def State.recoveredMatches (s : State) (t : Target) : State :=
  match t with
  | .chan c => if (s.target t).recovered ∧ (s.chan c).state = .repairing ∧ (s.chan c).repair.isNone then s.setChan c (s.returnState c) else s
  | _ => s

/-- What follows a record of an update once it is in the journal. -/
def State.afterRec (s : State) (r : JRec) : State :=
  match r.type, Target.ofCode r.target with
  | .commit, some (.chan c) => (s.pldmSettled (.chan c)).edit c .image
  | .commit, some .mission =>
    if r.flags.testBit 1 then s.sillRecovery r
    else
      let s := (s.pldmSettled .mission).setUpd .mission 4
      { s with boot := { s.boot with warmAsked := true } }
  | .commit, some .extension => (s.pldmSettled .extension).extensionWrite
  | .switched, some t => (s.setUpd t 6).recoveredMatches t
  | .retired, some t => (if (s.target t).state = 6 then s.setUpd t 7 else s).dispose t
  | .confirm, some .mission => s.updateModeEnds.setUpd .mission 6
  | .floor, some t => if (s.target t).state = 7 then s.updEnd t (s.target t).endCode else s
  | .recovery, some .mission => s.recoveryReset
  | _, _ => s

/-- A record of an update is appended under the gate, and what follows it happens; or it waits (R227, R228). -/
def State.journalStep (s : State) (r : JRec) : State :=
  if s.mayStart (.journal r) then (s.appendRec r).afterRec r else s.queueStep (.journal r)

/-! ## Abandoning (R218) -/

/-- The incomplete golden copy of an update is freed; the copies of the image in force stay. -/
def State.dropGolden (s : State) (t : Target) (root : Digest) : State :=
  if root = s.rootInForce t then s
  else
    let gs := (s.setsOf t).filter fun g => g.root == root
    let hs := gs.map fun g => g.handle
    let mine (c : CatChange) : Option Nat := match c with
      | .add e _ => if e.owner = s.devNumber ∧ e.target = t.code ∧ hs.contains e.handle then some e.handle else none
      | .free _ => none
    let busy := if s.cis.committing then s.cis.commits.take 1 else []
    let rest := if s.cis.committing then s.cis.commits.drop 1 else s.cis.commits
    let late := busy.filterMap mine
    let s := { s with cis := { s.cis with
      commits := busy ++ rest.filter (fun c => (mine c).isNone),
      pendingWrites := s.cis.pendingWrites.filter fun w => ! (w.1 == t && ! w.2.isEmpty && imgRoot w.2 == root) } }
    let s := gs.foldl (fun s g => s.freeSet t g) s
    if late.isEmpty then s else s.catChange (.free late)

/-- Does a waiting step open or commit an update of the target. -/
def GateStep.opens (g : GateStep) (t : Target) : Bool :=
  match g with
  | .journal r => r.target == t.code && (r.type == .intent || r.type == .commit)
  | _ => false

/-- May the update of a target be abandoned: one is under way and its COMMIT does not exist. -/
def State.mayAbandon (s : State) (t : Target) : Bool :=
  let u := s.target t
  decide (1 ≤ u.state) && decide (u.state ≤ 4) && u.commit == 0

/-- The channel of an abandoned update (R218): it follows its output; a hold made for the landing ends, and both halves re-confirm. -/
def State.abandonChan (s : State) (c : ChanId) (held : Option Half) : State :=
  let s := match held with
    | some h => s.holdClear h (((s.chan c).output).getD 0)
    | none => s
  if (s.chan c).state = .updating then
    let s := s.setChan c (s.returnState c)
    if held.isSome then s.verifyChan c else s
  else s

/-- An update is abandoned with a code (R218). -/
def State.abandon (s : State) (t : Target) (code : Code) : State :=
  if ! s.mayAbandon t then s
  else
    let u := s.target t
    let s := { s with upd := { s.upd with waiting := s.upd.waiting.filter fun g => ! g.opens t } }.pldmSettled t
    let s := if s.upd.pldmComp = some t then { s with upd := { s.upd with pldm := .readyXfer, pldmComp := none, pldmReq := none } } else s
    let s := s.journalStep { JRec.of .abandon t.code with
      refSeq := u.intent, svn := imgSvn u.container, root := imgRoot u.container, aux := code.num }
    let s := if u.container.isEmpty then s else s.dropGolden t (imgRoot u.container)
    let s := (s.endVers t).updTarget t fun u => { u.freed with state := 0, layout := 0, status := code }
    match t with
    | .chan c => s.abandonChan c u.heldOut
    | .mission => s.updateModeEnds
    | .extension => s

/-- UPDATE_ABANDON (R218). -/
def execUpdateAbandon (t : Target) (code : Code) (s : State) : Host.Outcome State Fault Refusal := .next (s.quiet.abandon t code)

/-! ## Receipt and verification -/

/-- Is the header of the container in, whose fields the INTENT carries. -/
def headerIn (n : Nat) : Bool := decide (256 ≤ n)

/-- Both halves start to judge a target's container (R213 step 2, R235, R239). -/
def State.startUpdVer (s : State) (t : Target) : State :=
  let gen := match t with
    | .chan c => (s.chan c).gen
    | _ => 0
  s.startVer t .update gen []

/-- Do the halves judge an update of a target. -/
def State.judging (s : State) (t : Target) : Bool := (s.verOf .indigo t).any fun v => v.kind == .update

/-- The payload leaves whole once `n` bytes of a container are in. -/
def leavesWhole (b : List Byte) (n : Nat) : Nat := min (imgLeaves b) ((n - imgPayloadAt b) / 4096)

/-- A payload leaf that has come in whole is staged (R213); one of flash part 1 is written to the flash as well (R214). -/
def State.leafArrived (t : Target) (b : List Byte) (s : State) (i : Nat) : State :=
  match (s.target t).staging with
  | none => s
  | some o =>
    let s := s.stagingWrite (o + 4096 * i) (((imgPayload b).drop (4096 * i)).take 4096)
    if s.inPart1 t b i then s.updTarget t fun u => { u with part1 := u.part1 ++ [i] } else s

/-- What the bytes in hand from `was` on bring (R213): the INTENT of a channel that has its ranges, with the header; stages 1 to 4, with the
manifest; payload leaves, as each is whole. -/
def State.partIn (s : State) (t : Target) (was : Nat) : State :=
  let b := (s.target t).container
  let n := b.length
  let chan : Bool := match t with
    | .chan _ => true
    | _ => false
  let s := if chan ∧ ! headerIn was ∧ headerIn n ∧ (s.target t).staging.isSome then s.writeIntent t b else s
  let manifest := headerIn n && decide (imgManifestLen b ≤ n)
  let s := if manifest && ! s.judging t then s.startUpdVer t else s
  if manifest && imgHasPayload b then
    ((List.range (leavesWhole b n)).drop (leavesWhole b was)).foldl (State.leafArrived t b) s
  else s

/-- A part of the container arrives (R213); bytes beyond what the transfer carries are padding. Mission firmware's is judged from eFlash,
once it is there whole (R235). -/
def State.takeData (s : State) (t : Target) (data : List Byte) : State :=
  let u := s.target t
  let was := u.container.length
  let s := s.updTarget t fun u => { u with container := u.container ++ data.take (u.expect - was), idleAt := none }
  match t with
  | .mission => s
  | _ => s.partIn t was

/-- Mission firmware's container goes to the slot that it did not boot from (R235). -/
def State.writeSlot (s : State) (t : Target) : State :=
  match t with
  | .mission => s.rewriteFlash (slotBase s.idleSlot) slotSize (s.target t).container
  | _ => s

/-- The whole container is in (R213): its layout is known, step 2 begins; eFlash is written once no freeze forbids it (R229). -/
def State.receiveDone (s : State) (t : Target) : State :=
  if t = .mission ∧ s.dev.freeze then s
  else
    let s := s.writeSlot t
    let l := match t with
      | .chan c => s.layoutOf c (s.target t).container
      | _ => 0
    let s := s.updTarget t fun u => { u with state := 2, layout := l, idleAt := none }
    if s.judging t then s else s.startUpdVer t

/-- The results of both halves' pipelines for a target, once each has one. -/
def State.halfResults (s : State) (t : Target) : Option (Both Code) :=
  match (s.verOf .indigo t).bind fun v => v.result, (s.verOf .amber t).bind fun v => v.result with
  | some a, some b => some ⟨a, b⟩
  | _, _ => none

/-- The durable wait of step 2, s (R259). -/
def State.durableWait (s : State) : Nat := s.pnat 0x0404 4 60 * secNs

/-- The digests that a half's pipeline has come to. -/
def State.verDigests (s : State) (h : Half) (t : Target) : List Digest := ((s.verOf h t).map fun v => v.digests).getD []

/-- An update found REVOKED on a channel whose image in force chains to a revoked slot calls for recovery (R190); a channel RELEASED keeps
running until its output is next asserted (DEDUCED, log entry 150). -/
def State.revokedUpdate (s : State) (t : Target) (code : Code) : State :=
  match t with
  | .chan c =>
    if code = .revoked ∧ (s.chan c).state = .held ∧ (s.slotInForce c).any s.slotRevoked then s.needRecovery c else s
  | _ => s

/-- Both halves are done with step 2 (R213): the golden copy takes the space reserved for it, or the update is abandoned with the failing
half's code. -/
def State.updVerified (s : State) (t : Target) (r : Both Code) : State :=
  if r.code = .ok then
    let d : Both (List Digest) := ⟨s.verDigests .indigo t, s.verDigests .amber t⟩
    let s := (s.endVers t).updTarget t fun u =>
      { u with verified := true, state := 3, idleAt := some (s.time + s.durableWait), digests := d, goldenHeld := 0 }
    let s := if (s.target t).route = some .pldm then { s with upd := { s.upd with pldm := .apply } } else s
    (s.pldmTell t 0x17 0).goldenWrite t (s.target t).container
  else ((s.pldmTell t 0x17 r.code.verifyResult).abandon t r.code).revokedUpdate t r.code

/-- A stage completes; where both halves have ended an update of the device's own firmware, step 2 is over. -/
def State.stageDone (s : State) (h : Half) (t : Target) (w : StageWork) : State :=
  let s := match s.verOf h t with
    | some v => s.verStage h v w
    | none => s
  match t, s.halfResults t with
  | .chan _, _ => s
  | t, some r => if (s.target t).state = 2 then s.updVerified t r else s
  | _, none => s

/-- SWITCHED once no unit of part 2 is left (R216). -/
def State.switchCheck (s : State) (t : Target) : State :=
  if (s.target t).state = 5 ∧ (s.target t).switchUnits.isEmpty ∧ ! s.recWaits t .switched then s.journalStep (s.stepRec t .switched) else s

/-- SWITCHED of a COMMIT that a start-up found without one, once the fill has found that the flash matches (R225). -/
def State.startSwitch (s : State) (c : ChanId) : State :=
  let u := s.target (.chan c)
  let ch := s.chan c
  if u.state = 5 ∧ u.atStart ∧ (ch.state = .held ∨ ch.state = .released) ∧ ch.repair.isNone ∧ ch.badUnits.isEmpty
      ∧ (s.ownCommit (.chan c)).any (fun r => r.root == ch.desc.merkleRoot) then s.switchCheck (.chan c)
  else s

/-- A core's own post of a code that is not OK has its VERDICT record (R205): what the manifest and the fuses give, no group. -/
def State.corePostRecord (s : State) (h : Half) (value : Word) : State :=
  match Code.ofNum (value.toNat / 2 ^ 24) with
  | some code =>
    if code = .ok ∨ (s.vpostStore h value).2 ≠ .ok then s
    else
      let c := vpostChan value
      let m := (s.manifestOf h c).getD []
      s.verdictRecord h (.chan c) (value.toNat % 2 ^ 16) code none m (s.firstBadLeaf c m)
  | none => s

/-- VPOST (R320). -/
def execVpost (h : Half) (value : Word) (s : State) : Host.Outcome State Fault Refusal :=
  .next (((s.corePostRecord h value).vpost h value).startSwitch (vpostChan value))

/-- REPAIR_UNIT_DONE (R138). -/
def execRepairUnitDone (c : ChanId) (flashFail : Bool) (before back : List Byte) (off : Both Digest) (s : State) :
    Host.Outcome State Fault Refusal :=
  .next ((s.repairDone c flashFail before back off).startSwitch c)

/-- VERIFY_STAGE_DONE (R196). -/
def execVerifyStageDone (half : Half) (t : Target) (w : StageWork) (s : State) : Host.Outcome State Fault Refusal :=
  let s := s.quiet.stageDone half t w
  .next (match t with
    | .chan c => s.startSwitch c
    | _ => s)

/-- durable_wait_s ends (R259): the update goes on with the copy LOCAL. -/
def State.durableExpired (s : State) (t : Target) : State :=
  let u := s.target t
  match u.idleAt with
  | some at_ =>
    if u.state = 3 ∧ u.verified ∧ ! u.golden then
      (((s.advanceTo at_).raiseLog 1070 [(1, t.code)]).updTarget t fun u => { u with golden := true, idleAt := none }).updProceed t
    else s
  | none => s

/-- DURABLE_WAIT_EXPIRED (R259). -/
def execDurableWaitExpired (t : Target) (s : State) : Host.Outcome State Fault Refusal := .next (s.quiet.durableExpired t)

/-! ## Landing and commit (R215) -/

/-- A COMMIT of the target waits for the gate. -/
def State.commitWaits (s : State) (t : Target) : Bool := s.recWaits t .commit

/-- The catalogue handle of a target's newest copy of a root. -/
def State.handleFor (s : State) (t : Target) (root : Digest) : Nat := (((s.setsOf t).find? fun g => g.root == root).map fun g => g.handle).getD 0

/-- The COMMIT of a landed image is appended (R215); the COMMIT in force is superseded. -/
def State.landCommit (s : State) (c : ChanId) (page : Nat) (flags : Nat) (units : List Nat) : State :=
  let t : Target := .chan c
  let b := (s.target t).container
  let old := ((s.commitInForce t).map fun r => r.seq).getD 0
  let s := s.updTarget t fun u =>
    { u with supersedes := old, switchUnits := units, switchWaits := s.dev.freeze, recovered := flags == 2 }
  s.journalStep { JRec.of .commit t.code with
    svn := imgSvn b, root := imgRoot b, manifestRef := s.handleFor t (imgRoot b), slot := (s.target t).layout, flags := flags,
    mirrorPage := page, imageSize := imgSize b }

/-- Does a half find every signed leaf of a landed image to have the digest it verified (R215), its engine's digests off by an error. -/
def State.landedOk (s : State) (b : List Byte) (page : Nat) (verified : List Digest) (off : Digest) : Bool :=
  (List.range (imgLeaves b)).all fun i =>
    imgLeafKind b i != 0 || verified[i]? == some (sha384 (s.bytes (dramBase + (page + i) * 4096) 4096) ^^^ off)

/-- The staged image lands and one engine of each half hashes it (R215): a mismatch abandons the update. -/
def State.landingDone (s : State) (c : ChanId) (off : Both Digest) : State :=
  let t : Target := .chan c
  let u := s.target t
  match u.landing with
  | some page =>
    if u.state ≠ 4 ∨ s.commitWaits t then s
    else
      let b := u.container
      let s := ((s.landImage c b page).chargeBest .indigo (imgSize b)).chargeBest .amber (imgSize b)
      if s.landedOk b page u.digests.indigo off.indigo && s.landedOk b page u.digests.amber off.amber then
        s.landCommit c page 0 (s.unitsOf c (s.part2 c b))
      else s.abandon t .verifyFail
  | none => s

/-- LANDING_DONE (R215). -/
def execLandingDone (c : ChanId) (off : Both Digest) (s : State) : Host.Outcome State Fault Refusal := .next (s.quiet.landingDone c off)

/-- Both halves post good verdicts for the generation of a commit (R215), and the hold of the landing ends. -/
def State.commitVerdicts (s : State) (c : ChanId) : State :=
  let u := s.target (.chan c)
  let root := imgRoot u.container
  let s := (s.endVers (.chan c)).updChan c fun ch => { ch with verified := Both.rep (some root) }
  let s := (s.postVerdict .indigo c root .ok).postVerdict .amber c root .ok
  match u.heldOut with
  | some h => (s.holdClear h (((s.chan c).output).getD 0)).updTarget (.chan c) fun u => { u with heldOut := none }
  | none => s

/-- A reload (R99); that of a commit brings its verdicts, and with nothing to switch its SWITCHED. -/
def State.reloadDone (s : State) (c : ChanId) : State :=
  let g := (s.chan c).staged.map fun x => x.gen
  let s := s.descReload c
  let u := s.target (.chan c)
  if g.isSome ∧ (s.chan c).staged.isNone ∧ g = some (s.chan c).gen ∧ u.state = 5 ∧ (s.chan c).desc.merkleRoot = imgRoot u.container then
    ((s.commitVerdicts c).switchCheck (.chan c)).settleEdit c
  else s.settleEdit c

/-- DESC_RELOAD (R99). -/
def execDescReload (c : ChanId) (s : State) : Host.Outcome State Fault Refusal := .next (s.quiet.reloadDone c)

/-- The unit of part 2 under way did not come through (R216, as R138): it is rewritten again; a second failure raises MIRROR_REPAIR_FAIL. -/
def State.switchFails (s : State) (c : ChanId) (unit : Nat) : State :=
  let again := (s.target (.chan c)).switchRetried
  let s := s.updTarget (.chan c) fun u => { u with switchRetried := ! again }
  if again then s.raiseLog 1024 [(1, c.val), (4, unit)] else s

/-- A unit of part 2 has been rewritten with the mirror's content and read back (R216, as R138 does for a repair): both halves hash its
leaves; a freeze lets no further unit begin (R229). -/
def State.switchUnit (s : State) (c : ChanId) (flashFail : Bool) (back : List Byte) (off : Both Digest) : State :=
  let t : Target := .chan c
  let u := s.target t
  match u.switchUnits with
  | [] => s
  | unit :: rest =>
    if u.state ≠ 5 ∨ s.higherWaits c.port 4 ∨ (s.chan c).gaveUp ∨ (u.switchWaits && s.dev.freeze) then s
    else
      let r : Repair := { unit := unit, unitLen := ((s.chan c).repairUnit (unit / 4096)).2, retried := false, source := Source.mirror.num,
                          startAt := s.time, retryAt := none, waits := false }
      let s := if flashFail then s.raiseLog (portEvent c.port 25) [(1, c.cs.val), (1, c.val), (4, unit)] else s
      let s := ((s.chargeBest .indigo r.unitLen).chargeBest .amber r.unitLen).updTarget t fun u => { u with switchWaits := s.dev.freeze }
      if flashFail ∨ ! (s.unitMatches c r back off.indigo && s.unitMatches c r back off.amber) then s.switchFails c unit
      else (s.updTarget t fun u => { u with switchUnits := rest, switchRetried := false }).switchCheck t

/-- SWITCH_UNIT_DONE (R216). -/
def execSwitchUnitDone (c : ChanId) (flashFail : Bool) (back : List Byte) (off : Both Digest) (s : State) :
    Host.Outcome State Fault Refusal :=
  .next (s.quiet.switchUnit c flashFail back off)

/-! ## Steps 5 and 6 (R217) -/

/-- The live COMMITs of a target that are not the update's own are retired (R225). -/
def State.retireLosers (s : State) (t : Target) : State :=
  ((s.liveCommits t).filter fun r => r.seq != (s.target t).commit).foldl
    (fun s r => s.journalStep { s.stepRec t .retired with refSeq := r.seq }) s

/-- Step 5: the superseded COMMIT is retired; where none was, there is nothing to retire. -/
def State.updRetire (s : State) (t : Target) : State :=
  let u := s.target t
  if u.state ≠ 6 ∨ s.recWaits t .retired then s
  else
    let s := s.updTarget t fun u => { u with staging := none, landing := none, superseded := none }
    if u.supersedes = 0 then (s.setUpd t 7).dispose t
    else if u.atStart then s.retireLosers t
    else s.journalStep { s.stepRec t .retired with refSeq := u.supersedes }

/-- UPDATE_RETIRE (R217). -/
def execUpdateRetire (t : Target) (s : State) : Host.Outcome State Fault Refusal := .next (s.quiet.updRetire t)

/-- Step 6 is skipped (R217, R232, R239): by policy, at or above the svn, after a recovery, without a floor. -/
def State.floorSkipped (s : State) (t : Target) : Bool :=
  s.floorPolicy t != 1 || decide (s.svnInForce t ≤ s.floorVal t) || (s.target t).recovered || t.floorSteps == 0

/-- The FLOOR record once the burn has come to its value, else the rest waits; an exhausted floor only logs it (R193, R194). -/
def State.floorDone (s : State) (t : Target) : State :=
  if (s.target t).state ≠ 7 then s
  else if s.floorVal t < s.newFloor t then s
  else s.journalStep { s.stepRec t .floor with aux := s.floorVal t }

/-- Step 6 (R217). -/
def State.updFloor (s : State) (t : Target) (b : BurnOutcome) : State :=
  if (s.target t).state ≠ 7 then s
  else if s.floorSkipped t then s.updEnd t (s.target t).endCode
  else if s.floorFull t then (s.advanceFloor t b).updEnd t (s.target t).endCode
  else (s.advanceFloor t b).floorDone t

/-- UPDATE_FLOOR (R217). -/
def execUpdateFloor (t : Target) (burn : BurnOutcome) (s : State) : Host.Outcome State Fault Refusal := .next (s.quiet.updFloor t burn)

/-! ## The device's own firmware (R235-R239) -/

/-- ActivateFirmware of mission firmware (R235): the trial COMMIT of the slot written. -/
def State.missionActivate (s : State) : State :=
  let u := s.target .mission
  if u.state = 3 ∧ u.verified ∧ u.golden ∧ s.dev.mode = .update ∧ ! s.commitWaits .mission then
    let old := ((s.commitInForce .mission).map fun r => r.seq).getD 0
    let s := s.updTarget .mission fun u => { u with supersedes := old, activate := true }
    s.journalStep { JRec.of .commit Target.mission.code with
      svn := imgSvn u.container, root := imgRoot u.container, manifestRef := s.handleFor .mission (imgRoot u.container),
      slot := s.idleSlot.val, flags := 1, imageSize := imgSize u.container }
  else s

/-- MISSION_UPDATE_ACTIVATE (R235). -/
def execMissionUpdateActivate (s : State) : Host.Outcome State Fault Refusal := .next s.quiet.missionActivate

/-- The extension region has been rewritten and read back (R239): SWITCHED, RETIRED, and extension code runs. -/
def State.extensionSwitched (s : State) : State :=
  let u := s.target .extension
  let s := s.journalStep (s.stepRec .extension .switched)
  let s := { s with boot := { s.boot with extRuns := true, extDigest := sha384 (u.container.take 256) } }
  let s := s.updRetire .extension
  if (s.target .extension).state = 7 then s.updEnd .extension .ok else s

/-- The COMMIT of the extension firmware (R239): extension code has stopped before. -/
def State.extensionCommit (s : State) : State :=
  let u := s.target .extension
  if u.state = 3 ∧ u.verified ∧ u.golden ∧ u.activate ∧ ! s.commitWaits .extension then
    let old := ((s.commitInForce .extension).map fun r => r.seq).getD 0
    let s := { s with boot := { s.boot with extRuns := false } }.updTarget .extension fun u => { u with supersedes := old }
    s.journalStep { JRec.of .commit Target.extension.code with
      svn := imgSvn u.container, root := imgRoot u.container, manifestRef := s.handleFor .extension (imgRoot u.container),
      imageSize := imgSize u.container }
  else s

/-- The extension firmware committed is applied (R239): its COMMIT, the region rewritten and read back; one that does not read back is
rewritten, outside a freeze (R229). -/
def State.extensionApply (s : State) (readBackOk : Bool) : State :=
  let s := s.extensionCommit
  if (s.target .extension).state ≠ 5 ∨ s.dev.freeze then s else if readBackOk then s.extensionSwitched else s.extensionWrite

/-- EXTENSION_UPDATE_APPLY (R239). -/
def execExtensionUpdateApply (readBackOk : Bool) (s : State) : Host.Outcome State Fault Refusal :=
  .next (s.quiet.extensionApply readBackOk)

/-- Is the trial booted still without CONFIRM and TRIAL_FAIL (R237). -/
def State.trialUnconfirmed (s : State) : Bool :=
  s.boot.trial && s.boot.commitSeq != 0
  && ! s.upd.journal.any (fun q => q.names s.boot.commitSeq [.confirm, .trialFail])
  && ! s.upd.waiting.any (fun g => match g with
    | .journal r => r.type == .confirm
    | _ => false)

/-- New mission firmware confirms its trial (R237): CONFIRM, and with it cause 6. -/
def State.confirmTrial (s : State) : State :=
  s.journalStep { JRec.of .confirm Target.mission.code with refSeq := s.boot.commitSeq, svn := s.boot.svn, root := s.boot.root }

/-- A write of CONFIRM_DISARM (R237, R333): the steward's bit 0 disarms the timer; an unconfirmed trial is confirmed with it
(DESIGN CHOICE, log entry 38). -/
def State.confirmWrite (s : State) (half : Half) (v : Word) : State :=
  s.halfBus half 0x40000078 1 true fun s =>
    if v.getLsbD 0 then
      let s := if s.trialUnconfirmed then s.confirmTrial else s
      { s with hg := { s.hg with confirm := none } }
    else s

/-- CONFIRM_DISARM (R237). -/
def execConfirmDisarm (half : Half) (value : Word) (s : State) : Host.Outcome State Fault Refusal := .next (s.quiet.confirmWrite half value)

/-- The confirm timer ends (R238, R348): a warm restart is requested in UPDATE, QUARANTINE stays, else the Headgate resets the device. -/
def State.confirmExpired (s : State) : State :=
  match s.hg.confirm with
  | none => s
  | some t =>
    let s := (s.advanceTo t).raiseLog 1515 []
    let s := { s with hg := { s.hg with confirm := none } }
    if s.dev.mode = .update then { s with boot := { s.boot with warmAsked := true } }
    else if s.dev.mode = .quarantine then s
    else s.internalReset 0

/-- CONFIRM_TIMER_EXPIRED (R238). -/
def execConfirmTimerExpired (s : State) : Host.Outcome State Fault Refusal := .next s.quiet.confirmExpired

/-! ## The gate's retries (R228) -/

/-- A waiting step is tried again: it runs, or waits on. -/
def State.retryStep (s : State) (g : GateStep) : State :=
  if ! s.mayStart g then s.queueStep g
  else match g with
    | .journal r => (s.appendRec r).afterRec r
    | .floor t => ((State.floorRun t (s.newFloor t) s.freeBurn 64 s.drawn).settleFloor t).floorDone t
    | .catalogue => s.nextCommit

/-- The trial that the closed gate kept from booting (R348): once it opens, mission firmware requests the warm restart of R235. -/
def State.trialRetry (s : State) : State :=
  if s.boot.trialWaits ∧ s.gateOpen journalUs ∧ (s.dev.mode = .hold ∨ s.dev.mode = .guard) then
    let s := s.setMode .update 5
    { s with boot := { s.boot with trialWaits := false, warmAsked := true } }
  else s

/-- Sill waits on the gate for the TRIAL_BOOT of the candidate it has accepted (R348). -/
def State.trialBootWaits (s : State) : Bool := s.recWaits .mission .trialBoot

/-- The boot timer goes on once Sill's wait is over (R341). -/
def State.resumeTimer (s : State) : State :=
  match s.boot.timerLeft with
  | some n =>
    if s.trialBootWaits then s else { s with boot := { s.boot with timer := some (s.time + n), timerLeft := none } }
  | none => s

/-- The waiting steps, in order, and what else waits for the gate: a compaction, the count of tampers, a trial. -/
def State.gateRetry (s : State) : State :=
  let ws := s.upd.waiting
  let s := ws.foldl State.retryStep { s with upd := { s.upd with waiting := [] } }
  s.compactIfDue.countTampers.trialRetry.resumeTimer

/-- GATE_RETRY (R228). -/
def execGateRetry (s : State) : Host.Outcome State Fault Refusal := .next s.quiet.gateRetry

end Sys2Proof.Machine
end

