-- ==== Sys2Proof/Machine/Recovery.lean ====
section
/-!
DEFINITION. Recovery of channels (R230-R234, R265, R266), management uploads (R206), the host write stream's ends (R212), and what
the Cistern's coming online brings (R239, R349, R357).
-/
namespace Sys2Proof.Machine

/-! ## A recovery run (R230-R233) -/

/-- Does a container hold the image in force. -/
def State.sameRoot (s : State) (c : ChanId) (b : List Byte) : Bool := imgRoot b == (s.chan c).desc.merkleRoot

/-- The newest COMMIT's seq of a target and a root, 0 of none. -/
def State.seqOf (s : State) (t : Target) (root : Digest) : Nat :=
  ((s.upd.journal.filter fun r => r.type == .commit && r.target == t.code && r.root == root).map fun r => r.seq).foldl max 0

/-- The place of a container within its source (R231): the image in force first, then the higher svn, then the higher seq. -/
def State.tryKey (s : State) (c : ChanId) (b : List Byte) : Nat :=
  b2n (! s.sameRoot c b) * 2 ^ 72 + (2 ^ 32 - imgSvn b) * 2 ^ 34 + (2 ^ 32 - s.seqOf (.chan c) (imgRoot b))

/-- Puts a container into its place. -/
def State.insertTry (s : State) (c : ChanId) (b : List Byte) : List (List Byte) → List (List Byte)
  | [] => [b]
  | y :: ys => if s.tryKey c b ≤ s.tryKey c y then b :: y :: ys else y :: s.insertTry c b ys

/-- Source 2 (R230): each container that the local Cistern holds for the channel, in the order of R231. -/
def State.localCopies (s : State) (c : ChanId) : List (List Byte) :=
  if s.catalogueReadable then
    ((s.cis.catalogue.filter fun e => e.target == c.val && e.role == .localCopy && e.owner == s.devNumber && e.readable).map
      fun e => e.container).foldr (fun b l => s.insertTry c b l) []
  else []

/-- Source 1 (R230, R231): a REPAIRING channel whose mirror has every leaf under its checks is repaired from it. -/
def State.mirrorSource (s : State) (c : ChanId) : Bool :=
  let ch := s.chan c
  ch.state == .repairing && ch.lost.isEmpty && ch.faulted.isEmpty && ! ch.digestFault

/-- The channel's sets of which the segment holds shards enough (R230, R265). -/
def State.peerSets (s : State) (c : ChanId) : List GoldenSet := (s.setsOf (.chan c)).filter fun g => decide (0 < g.k) && decide (g.k ≤ s.shardsLive g)

/-- Source 3 may yield (R230, R264, R265): one of the channel's sets, or an orphan, which any target may use that it fits. -/
def State.peerSource (s : State) (c : ChanId) : Bool := ! (s.peerSets c).isEmpty || ! s.cis.orphans.isEmpty

/-- The other members are asked for the shards of the orphan that an entry of this device belongs to (R264, R299). -/
def State.requestOrphan (s : State) (e : CatEntry) : State :=
  (s.present.filter fun d => d != s.devNumber).foldl (fun s d => (List.range (e.params.1 + e.params.2)).foldl (fun s i =>
    if e.role = .shard i then s else s.send 0x24 d (shardReqBytes e.ownerId e.target e.svn e.root i)) s) s

/-- The peers are asked for what a recovery of a channel may use (R230 source 3). -/
def State.askPeers (s : State) (c : ChanId) : State :=
  let orphans := s.cis.catalogue.filter fun e => s.cis.orphans.any fun o => o.handles.contains e.handle
  let s := (s.peerSets c).foldl (fun s g => s.requestShards (.chan c) g) s
  if s.catalogueReadable then orphans.foldl State.requestOrphan s else s

/-- May an acceptable container be installed (R219, R577): the image in force always; another only with the Cistern online and a
landing range free. -/
def State.installable (s : State) (c : ChanId) (b : List Byte) : Bool :=
  s.sameRoot c b || (s.cis.state == 2 && (s.freeLanding (imgSize b)).isSome)

/-- The RECOVERY record of a run (R230): the source used and the result. -/
def State.recoveryRecord (s : State) (t : Target) (source : Nat) (code : Code) : State :=
  let r := s.commitInForce t
  s.journalStep { JRec.of .recovery t.code with
    refSeq := (r.map fun q => q.seq).getD 0, svn := (r.map fun q => q.svn).getD 0, root := s.rootInForce t, slot := source, aux := code.num }

/-- The recovery of a target has come to a source. -/
def State.recoveryEnds (s : State) (t : Target) (source : Nat) : State :=
  s.updTarget t fun u => { u with recState := 0, recSource := source, recUntil := none }

/-- Both halves post good verdicts for the root of a recovered container. -/
def State.recoveredVerdicts (s : State) (c : ChanId) (root : Digest) : State :=
  let s := (s.endVers (.chan c)).updChan c fun ch => { ch with verified := Both.rep (some root) }
  (s.postVerdict .indigo c root .ok).postVerdict .amber c root .ok

/-- The units to repair become the repair under way and those that wait; a source names where their content comes from. -/
def State.queueRepairs (s : State) (c : ChanId) (source : Nat) (units : List Nat) : State :=
  match units with
  | [] => s
  | u :: us => (s.updChan c fun ch => { ch with badUnits := us }).startRepairFrom c source u ((s.chan c).repairUnit (u / 4096)).2

/-- The signed leaves of the image in force come from a container of that image (R124): mirror and digest area take them, the flash
units that differ are repaired. -/
def State.restoreLeaves (s : State) (c : ChanId) (source : Nat) (b : List Byte) : State :=
  let bad := (List.range (imgLeaves b)).filter fun i =>
    imgLeafKind b i == 0 && (sha384 (s.imageLeaf (.chan c) b i) != s.leafDigest c i || (s.chan c).lost.contains i)
  let units := s.unitsOf c bad
  let s := bad.foldl (fun s i =>
    let d := s.imageLeaf (.chan c) b i
    (s.mirrorWrite c (i * 4096) d).putLeafDigest c i (sha384 d)) s
  let s := s.updChan c fun ch => { ch with lost := ch.lost.filter (fun l => ! bad.contains l), fillNext := none,
                                           faulted := ch.faulted.filter fun l => ! bad.contains l }
  let s := if (s.chan c).digestFault ∧ s.leafLevelTrusted (.chan c) b then s.rewriteDigests c b else s
  s.queueRepairs c source units

/-- The image in force is restored from its verified mirror (R231): the channel is REPAIRING until its flash matches. -/
def State.recoverMirror (s : State) (c : ChanId) : State :=
  let s := ((s.recoveryRecord (.chan c) 1 .ok).recoveryEnds (.chan c) 1).setChan c .repairing
  if (s.chan c).repair.isNone then s.repairEnds c else s

/-- The image in force is restored from a container (R231): the channel is REPAIRING until its flash matches, and may be released
meanwhile. Where the fill had not started for want of the manifest, it runs against the recovered container instead (R577). -/
def State.recoverSame (s : State) (c : ChanId) (source : Nat) (b : List Byte) : State :=
  if (s.chan c).state = .filling ∧ (s.catContainer (s.chan c).desc.manifestRef).isNone then
    (s.startFill c).startVer (.chan c) .fill (s.chan c).gen b
  else
  let s := ((s.setChan c .repairing).restoreLeaves c source b).recoveredVerdicts c (imgRoot b)
  if (s.chan c).repair.isNone then s.repairEnds c else s

/-- A container of another root is installed as an update (R232): it lands, COMMIT with flag bit 1, steps 4 and 5. -/
def State.recoverOther (s : State) (c : ChanId) (b : List Byte) : State :=
  let t : Target := .chan c
  match s.freeLanding (imgSize b) with
  | none => s
  | some page =>
    let s := s.setChan c .repairing
    let s := s.updTarget t fun u =>
      { u.freed with state := 4, route := some .recovery, container := b, expect := b.length, landing := some page,
                     imageSize := imgSize b, verified := true, golden := true, layout := 2 }
    let s := if s.handleFor t (imgRoot b) = 0 then s.goldenWrite t b else s
    let s := s.updChan c fun ch => { ch with fillNext := none }
    (s.landImage c b page).landCommit c page 2 (s.unitsOf c (s.differing c b))

/-- An acceptable container of a source is installed (R230-R232). -/
def State.recoverFrom (s : State) (c : ChanId) (source : Nat) (b : List Byte) : State :=
  let s := (s.recoveryRecord (.chan c) source .ok).recoveryEnds (.chan c) source
  if s.sameRoot c b then s.recoverSame c source b else s.recoverOther c b

/-- Did a container with a code pass the chain and image groups (R186): what fails behind them reports its own code. -/
def Code.passedImage (c : Code) : Bool := c != .verifyFail && c != .internal

/-- No source yields a container (R233): REVOKED where every one that passed chain and image failed on revocation alone, else
NO_SOURCE. -/
def runCode (codes : List Code) : Code :=
  let passed := codes.filter Code.passedImage
  if ! passed.isEmpty ∧ (passed.all fun x => x == .revoked) then .revoked else .noSource

/-- A channel is quarantined at the end of recovery (R230 source 5). -/
def State.recoveryQuarantine (s : State) (c : ChanId) (code : Code) : State :=
  let s := (s.recoveryRecord (.chan c) 5 code).updTarget (.chan c) fun u => { u with recState := 3, recSource := 5, recUntil := none, status := code }
  (s.setChan c .quarantined).updChan c fun ch => { ch with fillNext := none }

/-- upload_wait_s (R240). -/
def State.uploadWait (s : State) : Nat := s.pnat 0x0A43 1 60 * secNs

/-- What a run without a source means (R41, R234): a REPAIRING channel goes on with its verified mirror while its output is released; a
FILLING one waits for an upload; a HELD one is quarantined. -/
def State.recoveryNone (s : State) (c : ChanId) (code : Code) : State :=
  let t : Target := .chan c
  match (s.chan c).state with
  | .repairing =>
    if s.boundReleased c then
      ((s.recoveryRecord t 0 code).recoveryEnds t (s.target t).recSource).noSourceLog c
    else s.recoveryQuarantine c code
  | .filling =>
    let s := s.recoveryRecord t 0 code
    s.updTarget t fun u => { u with recState := 2, recUntil := some (s.time + s.uploadWait), status := code }
  | _ => s.recoveryQuarantine c code

/-- The codes of the containers judged join those of the run (R233). -/
def State.noteCodes (s : State) (c : ChanId) (codes : List Code) : State :=
  s.updTarget (.chan c) fun u => { u with recCodes := u.recCodes ++ codes }

/-- The run ends without a source. -/
def State.recoveryFails (s : State) (c : ChanId) : State := s.recoveryNone c (runCode (s.target (.chan c)).recCodes)

/-- A recovery run (R230, R231): the verified mirror, then each container of the local Cistern as both halves judge it; then the peers, for
which the run waits where they may yield one. Each source is tried once. -/
def State.recoveryRun (s : State) (c : ChanId) (j : Judgement) : State :=
  let u := s.target (.chan c)
  if u.recState ≠ 1 ∨ u.recLocal then s
  else if s.mirrorSource c then s.recoverMirror c
  else
    let tries := (s.localCopies c).map fun b => (b, (s.judgeBoth (.chan c) b j).code)
    match tries.find? fun x => x.2 == .ok && s.installable c x.1 with
    | some x => s.recoverFrom c 2 x.1
    | none =>
      let s := (s.noteCodes c (tries.map fun x => x.2)).updTarget (.chan c) fun u => { u with recLocal := true }
      if s.peerSource c then s.askPeers c else s.recoveryFails c

/-- RECOVERY_RUN (R230). -/
def execRecoveryRun (c : ChanId) (j : Judgement) (s : State) : Host.Outcome State Fault Refusal := .next (s.quiet.recoveryRun c j)

/-- What sound engines make of a judgement. -/
def soundJudgement : Judgement := Both.rep ⟨false, 0⟩

/-- Source 3's 60 s end (R230): it yields nothing in this run, whose local sources are tried where they have not been. -/
def State.peersTimeout (s : State) (c : ChanId) : State :=
  let u := s.target (.chan c)
  if u.recState ≠ 1 then s
  else
    let s := (s.advanceTo (u.recUntil.getD s.time)).recoveryRun c soundJudgement
    if (s.target (.chan c)).recState = 1 then s.recoveryFails c else s

/-- PEER_RECOVERY_TIMEOUT (R230). -/
def execPeerRecoveryTimeout (c : ChanId) (s : State) : Host.Outcome State Fault Refusal := .next (s.quiet.peersTimeout c)

/-- The upload wait ends (R234). -/
def State.uploadWaitExpired (s : State) (c : ChanId) : State :=
  let u := s.target (.chan c)
  if u.recState ≠ 2 then s else (s.advanceTo (u.recUntil.getD s.time)).recoveryQuarantine c u.status

/-- UPLOAD_WAIT_EXPIRED (R234). -/
def execUploadWaitExpired (c : ChanId) (s : State) : Host.Outcome State Fault Refusal := .next (s.quiet.uploadWaitExpired c)

/-! ## Reassembled containers (R265, R266) -/

/-- A header without the index, in which the shards of a set differ. -/
def ShardHead.common (h : ShardHead) : ShardHead := { h with index := 0 }

/-- The header that the most shards agree on (R265); of several, the first in the list (DEDUCED, log entry 153). -/
def agreedHead (l : List ShardCopy) : Option ShardHead :=
  let hs := l.map fun x => x.1.common
  let count (h : ShardHead) : Nat := (hs.filter fun y => y == h).length
  hs.foldl (fun b h => match b with
    | none => some h
    | some x => if count x < count h then some h else some x) none

/-- The good shards, one for each index (R265): those that the digests of the header confirm. -/
def goodShards (h : ShardHead) (l : List ShardCopy) : List (Nat × List Byte) :=
  (List.range (h.k + h.m)).filterMap fun i =>
    (l.find? fun x => x.1.index == i && x.2.length == h.shardLength && h.digests.getD i 0 == sha384 x.2).map fun x => (i, x.2)

/-- The container of k good shards (R253, R265). -/
def joinShards (h : ShardHead) (good : List (Nat × List Byte)) : List Byte :=
  let ds := decodeShards h.k good
  ((List.range (h.shardLength / stripeUnit)).flatMap fun j => ds.flatMap fun d => unitOf d j).take h.containerLength

/-- Is an entry a shard of the set that a header names. -/
def CatEntry.shardOfHead (e : CatEntry) (h : ShardHead) (used : List Nat) : Bool :=
  e.ownerId == h.ownerId && e.ownerHandle == h.ownerHandle && e.root == h.root && (match e.role with
    | .shard i => used.contains i
    | .localCopy => false)

/-- A container reassembled from shards was bad (R265): the shards that supplied it are unreadable. -/
def State.shardsBad (s : State) (t : Target) (h : ShardHead) (used : List Nat) : State :=
  let s := ((s.setsOf t).filter fun g => g.root == h.root && g.handle == h.ownerHandle).foldl (fun s g => s.updSet t g.id fun g =>
    { g with shards := g.shards.map fun l => if used.contains l.index then { l with acked := false } else l }) s
  let mark (e : CatEntry) : CatEntry := if e.shardOfHead h used then { e with readable := false } else e
  let s := { s with cis := { s.cis with catalogue := s.cis.catalogue.map mark } }
  (s.raiseLog 1081 [(1, t.code)]).refreshSets

/-- A reassembled container serves a recovery run that waits for its peers, as source 3 (R230, R266); the local sources come first. -/
def State.peerRecovers (s : State) (c : ChanId) (b : List Byte) (code : Code) : State :=
  let s := s.recoveryRun c soundJudgement
  if (s.target (.chan c)).recState ≠ 1 then s
  else if code = .ok ∧ s.installable c b then s.recoverFrom c 3 b
  else s.noteCodes c [code]

/-- A good reassembled container of this device's own set (R265, R266): the local copy is restored under its handle. -/
def State.shardsGood (s : State) (t : Target) (g : GoldenSet) (b : List Byte) : State :=
  if s.localLive g ∨ s.cis.state ≠ 2 then s
  else
    let e := s.newEntry g.handle s.devNumber t.code g.svn g.root .localCopy b
    let s := { s with cis := { s.cis with catalogue := s.cis.catalogue.filter fun x => x.handle != g.handle } }
    (s.catChange (.add e none)).drawn

/-- A container reassembled in the staging region is judged by both halves on the whole image, as work of class 5 (R197, R265). -/
def State.judgeReassembled (s : State) (t : Target) (h : ShardHead) (used : List Nat) (b : List Byte) (j : Judgement) : State :=
  let s := (s.chargeBest .indigo (imgSize b)).chargeBest .amber (imgSize b)
  let code := (s.judgeBoth t b j).code
  let s := if code = .ok then
      (match (s.setsOf t).find? fun g => g.root == imgRoot b && h.ownerId == s.deviceId with
        | some g => s.shardsGood t g b
        | none => s)
    else s.shardsBad t h used
  match t with
  | .chan c => s.peerRecovers c b code
  | _ => s

/-- A container is reassembled from the shards that members supplied (R265, R266): with k good ones it is decoded into the staging
region, for which reassembly waits while no room is there. -/
def State.reassembled (s : State) (t : Target) (l : List ShardCopy) (j : Judgement) : State :=
  match agreedHead l with
  | none => s
  | some h =>
    let good := goodShards h l
    let b := joinShards h good
    match s.freeStaging b.length with
    | none => s
    | some o => if good.length < h.k then s else (s.stagingWrite o b).judgeReassembled t h ((good.take h.k).map fun x => x.1) b j

/-- SHARD_REASSEMBLY_DONE (R265). -/
def execShardReassemblyDone (t : Target) (shards : List ShardCopy) (j : Judgement) (s : State) : Host.Outcome State Fault Refusal :=
  .next (s.quiet.reassembled t shards j)

/-! ## Verified channel updates and recovery uploads (R213, R234) -/

/-- An upload that recovers its channel: QUARANTINED, or FILLING in its upload wait (R206, R234). -/
def State.recoveringUpload (s : State) (c : ChanId) : Bool :=
  (s.chan c).state == .quarantined || ((s.chan c).state == .filling && decide (2 ≤ (s.target (.chan c)).recState))

/-- The container of a recovery that PLDM has sent is judged: the transfer is over, whatever became of it (R207). -/
def State.pldmRecovered (s : State) (t : Target) (code : Code) : State :=
  if (s.target t).route = some .pldm then
    let s := s.pldmTell t 0x17 code.verifyResult
    { s with upd := { s.upd with pldm := .readyXfer, pldmComp := none, pldmReq := none } }
  else s

/-- The container uploaded has been judged (R234): acceptable, it moves the channel to FILLING and is installed; else its code stands. One
that cannot be installed is FULL (R577). -/
def State.uploadJudged (s : State) (c : ChanId) (r : Both Code) : State :=
  let t : Target := .chan c
  let b := (s.target t).container
  let code := if r.code = .ok ∧ ! s.installable c b then .full else r.code
  let s := ((s.pldmRecovered t code).endVers t).updTarget t fun u => { u.freed with state := 0, layout := 0, status := code }
  if code = .ok then (s.setChan c .filling).recoverFrom c 4 b else s

/-- Both halves have finished step 2 (R213). -/
def State.channelVerified (s : State) (c : ChanId) : State :=
  let t : Target := .chan c
  match s.halfResults t with
  | none => s
  | some r =>
    if (s.target t).state ≠ 2 then s
    else if s.recoveringUpload c then s.uploadJudged c r else s.updVerified t r

/-- CHANNEL_UPDATE_VERIFIED (R213). -/
def execChannelUpdateVerified (c : ChanId) (s : State) : Host.Outcome State Fault Refusal := .next (s.quiet.channelVerified c)

/-! ## Management uploads (R206) -/

/-- An upload waits for its first segment: opened by a write of 5 to `chan_state`. -/
def State.uploadOpen (s : State) (c : ChanId) : Bool :=
  let u := s.target (.chan c)
  u.state == 1 && u.route == some .upload && u.expect == 0

/-- Is a segment of the upload under way one that continues it. -/
def TargetUpd.continues (u : TargetUpd) (offset total : Nat) : Bool :=
  u.state == 1 && u.route == some .upload && u.expect == total && u.container.length == offset && offset != 0

/-- The states in which a first segment is taken (R52, R206, R234). -/
def State.uploadState (s : State) (c : ChanId) : Bool :=
  s.uploadOpen c || s.recoveringUpload c || (s.chan c).state == .held

/-- The refusal of a segment for a channel, if any. -/
def State.uploadRefusals (s : State) (c : ChanId) (offset total : Nat) : List Code :=
  let u := s.target (.chan c)
  let modeOk := ModeOp.channelUpdate.permitted s.dev.mode
  if offset = 0 then
    (if modeOk && s.uploadState c && (u.state == 0 || s.uploadOpen c) then [] else [.refusedState])
    ++ (if 272629760 < total then [.badRange] else [])
  else if u.state = 1 ∧ u.route = some .upload ∧ u.expect ≠ 0 then [] else [.refusedState]

/-- Does a whole container's length agree with what its first segment said. -/
def TargetUpd.whole (u : TargetUpd) : Bool := u.container.length == u.expect

/-- The last segment is in: a container of another length is a broken frame; else step 2 begins, and its end activates it. -/
def State.uploadLast (s : State) (t : Target) : State × Code :=
  if (s.target t).whole then ((s.updTarget t fun u => { u with activate := true }).receiveDone t, .ok)
  else (s.abandon t .frameAbort, .frameAbort)

/-- A segment is taken; one that goes beyond what the first segment said is a broken frame. -/
def State.uploadPut (s : State) (t : Target) (last : Bool) (data : List Byte) : State × Code :=
  let u := s.target t
  if u.expect < u.container.length + data.length then (s.abandon t .frameAbort, .frameAbort)
  else
    let s := s.takeData t data
    if last then s.uploadLast t else (s, .ok)

/-- The first segment (R206, R219): the ranges are reserved from its header; without them the upload is refused with FULL, and a
channel that a write of 5 had moved to UPDATING is HELD again. A recovery reserves at its install. -/
def State.uploadFirst (s : State) (c : ChanId) (total : Nat) (last : Bool) (data : List Byte) : State × Code :=
  let t : Target := .chan c
  let start (s : State) : State := s.updTarget t fun u =>
    { u with state := 1, status := .ok, route := some .upload, container := [], expect := total }
  if s.recoveringUpload c then (start s).uploadPut t last data
  else match s.reserve t (imgSize data) with
    | none =>
      if s.uploadOpen c then ((s.updTarget t fun u => { u.freed with state := 0, status := .full }).chanUpdEnds c, .full) else (s, .full)
    | some s =>
      let s := start s
      (if (s.chan c).state = .held then s.setChan c .updating else s).uploadPut t last data

/-- A segment for a channel. -/
def State.uploadChan (s : State) (c : ChanId) (offset total : Nat) (last : Bool) (data : List Byte) : State × Code :=
  let t : Target := .chan c
  if offset = 0 then s.uploadFirst c total last data
  else if (s.target t).continues offset total then s.uploadPut t last data
  else (s.abandon t .frameAbort, .frameAbort)

/-- The container that Sill holds for judgement while it serves RECOVER (R357). -/
def State.recoverPut (s : State) (offset total : Nat) (last : Bool) (data : List Byte) : State × Code :=
  let u := s.target .mission
  if offset ≠ 0 ∧ (u.container.length ≠ offset ∨ u.expect ≠ total) then
    (s.updTarget .mission fun u => { u.freed with state := 0, status := .frameAbort }, .frameAbort)
  else
    let b := (if offset = 0 then [] else u.container) ++ data
    if ! last then (s.updTarget .mission fun u => { u with state := 1, route := some .upload, container := b, expect := total }, .ok)
    else if b.length ≠ total then (s.updTarget .mission fun u => { u.freed with state := 0, status := .frameAbort }, .frameAbort)
    else
      let s := s.updTarget .mission fun u => { u.freed with state := 2 }
      ({ s with boot := { s.boot with recoverImage := some (4, b) } }, .ok)

/-- RECOVER's service takes uploads (R345, R357): open, and no container under judgement. -/
def State.recoverRefusals (s : State) : List Code :=
  if s.boot.service ≠ 1 then [.refusedState] else if s.boot.recoverImage.isSome then [.busy] else []

/-- A segment of `image_upload`. -/
def State.uploadSegment (s : State) (who : Requester) (t : Target) (offset total : Nat) (last : Bool) (data : List Byte) : State :=
  match t with
  | .chan c => s.objWrite who .channelUpdate .rwa false 0x0A42 t.sub none (s.uploadRefusals c offset total)
      fun s => s.uploadChan c offset total last data
  | .mission => s.objWrite who .deviceUpdate .rwa false 0x0A42 t.sub none
      (if s.dev.mode = .recover then s.recoverRefusals else [.refusedState]) fun s => s.recoverPut offset total last data
  | .extension => s.objWrite who .deviceUpdate .rwa false 0x0A42 t.sub none [.refusedState] fun s => (s, .ok)

/-- IMAGE_UPLOAD_SEGMENT (R206). -/
def execImageUploadSegment (who : Requester) (t : Target) (offset total : Nat) (last : Bool) (data : List Byte) (s : State) :
    Host.Outcome State Fault Refusal :=
  .next (s.quiet.uploadSegment who t offset total last data)

/-- No first segment came within stream_idle_s (R206). -/
def State.uploadTimeout (s : State) (c : ChanId) : State :=
  if s.uploadOpen c then (s.advanceTo ((s.target (.chan c)).idleAt.getD s.time)).abandon (.chan c) .frameAbort else s

/-- UPLOAD_START_TIMEOUT (R206). -/
def execUploadStartTimeout (c : ChanId) (s : State) : Host.Outcome State Fault Refusal := .next (s.quiet.uploadTimeout c)

/-! ## The stream's ends (R212, R214) -/

/-- The stream closes for commit: its manifest joins the staged image, flash part 1 is written (R214), both halves judge; without a manifest
it is abandoned. -/
def State.streamClose (s : State) (c : ChanId) : State :=
  let t : Target := .chan c
  if (s.target t).stream ≠ 1 then s
  else match s.vget 0x0A22 t.sub [] with
    | [] => s.abandon t .frameAbort
    | m =>
      let s := s.updTarget t fun u => { u with stream := 2, container := m, activate := true, idleAt := none }
      let new := (List.range (imgLeaves m)).filter fun i => s.inPart1 t m i
      (s.updTarget t fun u => { u with state := 2, layout := s.layoutOf c m, part1 := new }).startUpdVer t

/-- Is the stream of a channel open. -/
def State.streamRefusals (s : State) (c : ChanId) : List Code := if (s.target (.chan c)).stream = 1 then [] else [.refusedState]

/-- `stream_ctl` written 2 (R212). -/
def State.streamCommitObj (s : State) (who : Requester) (c : ChanId) : State :=
  s.objWrite who .write .rwa false 0x0A21 (c.val + 1) none (s.streamRefusals c) fun s => (s.streamClose c, .ok)

/-- `stream_ctl` written 3 (R212). -/
def State.streamAbandonObj (s : State) (who : Requester) (c : ChanId) : State :=
  s.objWrite who .write .rwa false 0x0A21 (c.val + 1) none (s.streamRefusals c) fun s => (s.abandon (.chan c) .frameAbort, .ok)

/-- STREAM_COMMIT (R212). -/
def execStreamCommit (who : Requester) (c : ChanId) (s : State) : Host.Outcome State Fault Refusal :=
  .next (s.quiet.streamCommitObj who c)

/-- STREAM_ABANDON (R212). -/
def execStreamAbandon (who : Requester) (c : ChanId) (s : State) : Host.Outcome State Fault Refusal :=
  .next (s.quiet.streamAbandonObj who c)

/-- No host command has touched the window for stream_idle_s (R212). -/
def State.streamIdleExpired (s : State) (c : ChanId) : State :=
  let u := s.target (.chan c)
  if u.stream = 1 then (s.advanceTo (u.idleAt.getD s.time)).abandon (.chan c) .frameAbort else s

/-- STREAM_IDLE_EXPIRED (R212). -/
def execStreamIdleExpired (c : ChanId) (s : State) : Host.Outcome State Fault Refusal := .next (s.quiet.streamIdleExpired c)

/-- A host reset closes an open stream for commit where the object says so, the hold made first (R212, R215). -/
def State.resetStream (s : State) (c : ChanId) : State :=
  let t : Target := .chan c
  if (s.target t).stream = 1 ∧ s.pnat 0x0A24 t.sub 1 ≠ 0 then
    let s := match s.hg.steward, (s.chan c).output with
      | some h, some o => if s.outReleased o then (s.updTarget t fun u => { u with heldOut := some h }).holdSet h o else s
      | _, _ => s
    s.streamClose c
  else s

/-- HOST_RESET (R79, R212). -/
def execHostReset (p : PortId) (s : State) : Host.Outcome State Fault Refusal :=
  .next (((s.quiet.portReset p).resetStream (chanOf p 0)).resetStream (chanOf p 1))

/-! ## The Cistern online (R239, R349, R357) -/

/-- Inserts a copy's svn, seq and handle by descending svn, then descending seq (R357). -/
def insertCopy (x : Nat × Nat × Nat) : List (Nat × Nat × Nat) → List (Nat × Nat × Nat)
  | [] => [x]
  | y :: ys => if y.1 < x.1 ∨ (y.1 = x.1 ∧ y.2.1 ≤ x.2.1) then x :: y :: ys else y :: insertCopy x ys

/-- The local golden copies of mission firmware, highest svn first and then highest seq of the COMMIT that names the root (R357). -/
def State.missionCopies (s : State) : List Nat :=
  (((s.cis.catalogue.filter fun e => e.target == Target.mission.code && e.role == .localCopy && e.owner == s.devNumber && e.readable).map
    fun e => (e.svn, s.seqOf .mission e.root, e.handle)).foldr insertCopy []).map fun x => x.2.2

/-- The next local copy that RECOVER tries (R357). -/
def State.nextRecoverCopy (s : State) : State :=
  match s.boot.recoverLeft with
  | [] => { s with boot := { s.boot with recoverImage := none } }
  | h :: hs =>
    { s with boot := { s.boot with recoverLeft := hs, recoverImage := (s.catContainer h).map fun b => (2, b) } }

/-- In RECOVER the Cistern's copies are looked at once it is online (R357). -/
def State.recoverSearch (s : State) : State :=
  if s.boot.phase = .recover ∧ s.boot.service = 1 ∧ s.boot.recoverImage.isNone ∧ s.cis.state = 2 then
    ({ s with boot := { s.boot with recoverLeft := s.missionCopies } }).nextRecoverCopy
  else s

/-- The golden copy of a target whose root is a given one. -/
def State.copyOf (s : State) (t : Target) (root : Digest) : Option (List Byte) :=
  (s.cis.catalogue.find? fun e => e.target == t.code && e.role == .localCopy && e.root == root && e.readable).map fun e => e.container

/-- The REPAIR record of an area of eFlash restored from the Cistern: target, base, length, source 2. -/
def State.flashRepair (s : State) (t : Target) (base size : Nat) (b : List Byte) : State :=
  (s.rewriteFlash base size b).logMeas .repair [(1, t.code), (4, base), (4, size), (1, Source.localGolden.num), (8, s.time)]

/-- A rejected slot that a live COMMIT names is restored (R349). -/
def State.restoreSlot (s : State) (c : Candidate) : State :=
  match c.commit.bind fun q => s.upd.journal.find? fun r => r.seq == q && s.commitLive r with
  | none => s
  | some r =>
    match s.copyOf .mission r.root with
    | some b => s.flashRepair .mission (slotBase c.slot) slotSize b
    | none => s

/-- The rejected slots of this start-up, restored once the Cistern is readable (R349), outside a freeze (R229). -/
def State.restoreSlots (s : State) : State :=
  if s.boot.phase ≠ .running ∨ ! s.catalogueReadable ∨ s.dev.freeze then s
  else
    let rs := s.boot.rejected
    rs.foldl State.restoreSlot { s with boot := { s.boot with rejected := [] } }

/-- Does the extension region hold the image in force (R239): well formed, leaves under the root of its COMMIT. -/
def State.extensionOk (s : State) : Bool :=
  let b := s.extensionContainer
  match s.commitInForce .extension with
  | some r => s.structureOk .extension (some b.length) b && imgRoot b == r.root && payloadRoot b == r.root
  | none => false

/-- Extension code runs where its region passes its check at start-up (R239). -/
def State.extensionStart (s : State) : State :=
  if s.extensionOk then
    { s with boot := { s.boot with extRuns := true, extDigest := sha384 (s.extensionContainer.take 256) } }
  else { s with boot := { s.boot with extRuns := false, extDigest := 0 } }

/-- SWITCHED of an extension COMMIT that the start-up found without one, once the region holds its image (R225). -/
def State.extensionSwitch (s : State) : State :=
  if (s.target .extension).atStart ∧ s.boot.extRuns then s.switchCheck .extension else s

/-- A region that failed its check is restored from the golden copy (R239), outside a freeze (R229). -/
def State.restoreExtension (s : State) : State :=
  let u := s.target .extension
  if s.boot.phase ≠ .running ∨ ! s.catalogueReadable ∨ s.dev.freeze ∨ s.boot.extRuns ∨ ! (u.state == 0 || u.atStart) then s
  else match s.commitInForce .extension with
    | none => s
    | some r =>
      match s.copyOf .extension r.root with
      | some b => (s.flashRepair .extension extensionBase extensionSize b).extensionStart.extensionSwitch
      | none => s

/-- CISTERN_INIT_DONE (R243). -/
def execCisternInitDone (o : InitOutcome) (s : State) : Host.Outcome State Fault Refusal :=
  .next ((s.quiet.cisternInitDone o).recoverSearch.restoreSlots.restoreExtension)

/-- The mission container that is in hand whole goes to its slot (R235), where a freeze had put that off (R229). -/
def State.resumeSlot (s : State) : State :=
  let u := s.target .mission
  if u.state = 1 ∧ u.expect ≠ 0 ∧ u.container.length = u.expect ∧ s.boot.phase = .running then s.receiveDone .mission else s

/-- FREEZE_END (R229): what the freeze had put off goes on, each critical step under the gate. -/
def execFreezeEnd (s : State) : Host.Outcome State Fault Refusal :=
  let s := s.freezeEnd
  .next (if s.dev.freeze then s else s.quiet.resumeSlot.restoreSlots.restoreExtension)

end Sys2Proof.Machine
end

