-- ==== Sys2Proof/Machine/Pldm.lean ====
section
/-!
DEFINITION. The PLDM firmware device (R207-R209, R235, R357): identification, the update's commands, the device's own requests for
data.
-/
namespace Sys2Proof.Machine

/-! ## Answers -/

/-- The completion code of a shared code (R209); the codes that the table does not name are errors. -/
def Code.pldm : Code → Nat
  | .ok => 0x00
  | .busy => 0x04
  | .deniedAuth | .deniedAccess | .full => 0x8A
  | .refusedState => 0x84
  | .badRange | .badType => 0x02
  | _ => 0x01

/-- A PLDM response (model's output). -/
def State.pldmAnswer (s : State) (completion : Nat) (data : List Byte) : State :=
  { s with upd := { s.upd with pldmOut := some ⟨completion, data⟩ } }

/-- The response that a shared code gives. -/
def State.pldmCode (s : State) (c : Code) : State := s.pldmAnswer c.pldm []

/-- A PLDM request: it travels in MCTP over I3C or SMBus (R207), where the device answers at all. -/
def State.pldmAsked (s : State) (who : Requester) (f : State → State) : State :=
  if endpointTransport who.endpoint ≤ 1 then s.quiet.asked who f else s

/-- Bytes of ASCII text in hexadecimal of the first `n` bytes of a digest. -/
def hexPrefix (d : Digest) (n : Nat) : List Byte :=
  ((digestBytes d).take n).flatMap fun b =>
    let digit (x : Nat) : Byte := BitVec.ofNat 8 (if x < 10 then 48 + x else 87 + x)
    [digit (b.toNat / 16), digit (b.toNat % 16)]

/-! ## Identification -/

/-- `0x0100.06 iana_enterprise` (R486). -/
def ianaPen : List Byte := leBytes 4 101182

/-- The descriptors of QueryDeviceIdentifiers (R207): IANA enterprise number, and the vendor-defined "GV4896-B1", in the form of
DSP0267 (PRESUMED, log entry 39). -/
def pldmDescriptors : List Byte :=
  let name := ascii "GV4896-B1"
  let d := leBytes 2 0x0001 ++ leBytes 2 4 ++ ianaPen ++ leBytes 2 0xFFFF ++ leBytes 2 (name.length + 2) ++ leBytes 1 1 ++ leBytes 1 name.length ++ name
  leBytes 4 d.length ++ leBytes 1 2 ++ d

/-- QUERY_DEVICE_IDENTIFIERS (R207). -/
def execQueryDeviceIdentifiers (who : Requester) (s : State) : Host.Outcome State Fault Refusal :=
  .next (s.pldmAsked who fun s => s.pldmAnswer 0 pldmDescriptors)

/-- The components (R207): each enabled channel, mission and extension firmware. -/
def State.pldmComponents (s : State) : List Target :=
  ((List.finRange 64).filter fun c => (s.chan c).desc.enable).map Target.chan ++ [.mission, .extension]

/-- An entry of GetFirmwareParameters (R207): the vendor-defined classification, the identifier, the svn in force, the first 16 hex
digits of the root in force (PRESUMED, log entry 39). -/
def State.pldmEntry (s : State) (t : Target) : List Byte :=
  let v := hexPrefix (s.rootInForce t) 8
  leBytes 2 0xFFFF ++ leBytes 2 t.code ++ leBytes 1 0 ++ leBytes 4 (s.svnInForce t) ++ leBytes 1 1 ++ leBytes 1 v.length ++ leBytes 8 0
    ++ leBytes 4 0 ++ leBytes 1 0 ++ leBytes 1 0 ++ leBytes 8 0 ++ leBytes 2 2 ++ leBytes 4 0 ++ v

/-- The parameters of the device (R207). -/
def State.pldmParameters (s : State) : List Byte :=
  leBytes 4 0 ++ leBytes 2 s.pldmComponents.length ++ leBytes 1 1 ++ leBytes 1 0 ++ leBytes 1 0 ++ leBytes 1 0
    ++ s.pldmComponents.flatMap s.pldmEntry

/-- GET_FIRMWARE_PARAMETERS (R207). -/
def execGetFirmwareParameters (who : Requester) (s : State) : Host.Outcome State Fault Refusal :=
  .next (s.pldmAsked who fun s => s.pldmAnswer 0 s.pldmParameters)

/-! ## Update mode -/

/-- The mode takes updates at all (R51): HOLD, GUARD, or RECOVER with its service open. -/
def State.pldmMode (s : State) : Bool := ModeOp.channelUpdate.permitted s.dev.mode || (s.dev.mode == .recover && s.boot.service == 1)

/-- The code a RequestUpdate is answered with (R208). -/
def State.requestUpdateCode (s : State) (who : Requester) : Code :=
  if ! s.authorised who then .deniedAuth else if ! s.pldmMode ∨ s.upd.pldm ≠ .idle then .refusedState else .ok

/-- REQUEST_UPDATE (R208): MaximumTransferSize is noted, never below the baseline of 32 bytes. -/
def execRequestUpdate (who : Requester) (maxTransfer : Nat) (s : State) : Host.Outcome State Fault Refusal :=
  .next (s.pldmAsked who fun s =>
    match s.requestUpdateCode who with
    | .ok =>
      ({ s with upd := { s.upd with pldm := .learnComponents, pldmMax := max 32 maxTransfer, pldmComp := none, pldmApplied := [], pldmReq := none } }).pldmCode .ok
    | c => s.pldmCode c)

/-- Does a component exist: an enabled channel, or the device's own firmware. -/
def State.pldmTarget (s : State) (component : Word16) : Option Target := (Target.ofCode component.toNat).filter fun t => s.pldmComponents.contains t

/-- A channel update is under way past its INTENT or with it waiting (R236, R579). -/
def State.chanIntentOpen (s : State) : Bool :=
  (s.openIntents.any fun r => decide (r.target < 64)) || s.upd.waiting.any fun g => match g with
    | .journal r => r.type == .intent && decide (r.target < 64)
    | _ => false

/-- The state in which a component may be updated (R51, R52, R236, R357); a channel that recovers takes a container as source 4 (R230). -/
def State.pldmState (s : State) (t : Target) : Code :=
  let start := ModeOp.channelUpdate.permitted s.dev.mode
  match t with
  | .chan c =>
    let st := (s.chan c).state
    if (s.target t).state ≠ 0 then .refusedState
    else if start ∧ (st = .held ∨ st = .released ∨ s.recoveringUpload c) then .ok else .refusedState
  | .mission =>
    if s.dev.mode = .recover then (if s.boot.service ≠ 1 then .refusedState else if s.boot.recoverImage.isSome then .busy else .ok)
    else if ! start ∨ (s.target t).state ≠ 0 then .refusedState
    else if s.chanIntentOpen then .busy else .ok
  | .extension => if start ∧ (s.target t).state = 0 then .ok else .refusedState

/-- The check of a component (R207). -/
def State.componentCode (s : State) (component : Word16) : Code :=
  match s.pldmTarget component with
  | none => .badRange
  | some t => s.pldmState t

/-- PASS_COMPONENT_TABLE (R207): each component is checked for existence and state; the response says whether it may be updated. -/
def execPassComponentTable (who : Requester) (component : Word16) (s : State) : Host.Outcome State Fault Refusal :=
  .next (s.pldmAsked who fun s =>
    if s.upd.pldm ≠ .learnComponents ∧ s.upd.pldm ≠ .readyXfer then s.pldmCode .refusedState
    else
      let c := s.componentCode component
      ({ s with upd := { s.upd with pldm := .readyXfer } }).pldmAnswer 0 [BitVec.ofNat 8 (b2n (c != Code.ok)), BitVec.ofNat 8 c.pldm])

/-- The device asks for the next chunk (R208): ascending, at most 4,096 bytes, never below the baseline of 32; what a last chunk holds
beyond the component is padding. -/
def State.pldmNext (s : State) (t : Target) : State :=
  let u := s.target t
  let n := max 32 (min (min s.upd.pldmMax 4096) (u.expect - u.container.length))
  { s with upd := { s.upd with pldmReq := some (u.container.length, n, s.time + 5 * secNs, 0) } }

/-- The record of an update that PLDM opens. -/
def TargetUpd.opened (u : TargetUpd) (size : Nat) : TargetUpd :=
  { u with state := 1, status := .ok, route := some .pldm, container := [], expect := size }

/-- What an update reserves where it opens (R219): a channel's ranges of its extent; for extension firmware a staging range; golden-copy
space for each. In RECOVER, and for the recovery of a channel, nothing is reserved. -/
def State.pldmReserve (s : State) (t : Target) (size : Nat) : Option State :=
  match t with
  | .chan c => if s.recoveringUpload c then some s else s.reserve t (s.chan c).desc.mirrorExtent
  | .mission =>
    if s.dev.mode = .recover then some s
    else if s.goldenSpace size then some (s.updTarget t fun u => { u with goldenHeld := size }) else none
  | .extension =>
    match s.freeStaging size with
    | some o =>
      if s.goldenSpace size then some (s.updTarget t fun u => { u with staging := some o, imageSize := size, goldenHeld := size }) else none
    | none => none

/-- An update opens (R207, R235): a channel enters UPDATING, mission firmware moves the mode to UPDATE. -/
def State.pldmOpen (s : State) (t : Target) (size : Nat) : State × Code :=
  match s.pldmReserve t size with
  | none => (s, .full)
  | some s =>
    let s : State := s.updTarget t fun u => u.opened size
    let s : State := match t with
      | .chan c => if s.recoveringUpload c then s else s.setChan c .updating
      | .mission => if s.dev.mode = .recover then s else s.setMode .update 5
      | .extension => s
    (({ s with upd := { s.upd with pldm := .download, pldmComp := some t } }).pldmNext t, .ok)

/-- The code of an UpdateComponent before anything is reserved. -/
def State.updateComponentCode (s : State) (who : Requester) (component : Word16) (size : Nat) : Code :=
  if ! s.authorised who then .deniedAuth
  else if s.upd.pldm ≠ .readyXfer then .refusedState
  else if s.componentCode component ≠ .ok then s.componentCode component
  else if size = 0 ∨ 272629760 < size then .badRange else .ok

/-- An update that is refused records its shared code in `update_status` of its target (R209); REFUSED_STATE is logged (R51). -/
def State.noteRefusal (s : State) (t : Option Target) (code : Code) : State :=
  let s := if code = .refusedState then s.opRefused .channelUpdate else s
  match t with
  | some t => if code = .ok then s else s.updTarget t fun u => { u with status := code }
  | none => s

/-- UPDATE_COMPONENT (R207). -/
def execUpdateComponent (who : Requester) (component : Word16) (imageSize : Nat) (s : State) : Host.Outcome State Fault Refusal :=
  .next (s.pldmAsked who fun s =>
    match s.updateComponentCode who component imageSize, s.pldmTarget component with
    | .ok, some t =>
      let r := s.pldmOpen t imageSize
      (r.1.noteRefusal (some t) r.2).pldmCode r.2
    | c, t => (s.noteRefusal t c).pldmCode c)

/-- The transfer is complete (R207: TransferComplete): step 2 begins; in RECOVER Sill has the container to judge (R357). -/
def State.pldmDone (s : State) (t : Target) : State :=
  let s := ({ s with upd := { s.upd with pldm := .verify, pldmReq := none } }).pldmTell t 0x16 0
  if s.dev.mode = .recover then
    let b := (s.target t).container
    { s.updTarget t fun u => { u with state := 2 } with boot := { s.boot with recoverImage := some (4, b) } }
  else s.receiveDone t

/-- A chunk arrives (R208): the whole of what was asked for; an answer that is none leaves the request outstanding. -/
def State.firmwareData (s : State) (completion : Nat) (data : List Byte) : State :=
  match s.upd.pldmComp, s.upd.pldmReq with
  | some t, some (_, n, _, _) =>
    if completion ≠ 0 ∨ data.length ≠ n ∨ s.upd.pldm ≠ .download then s
    else
      let s := s.takeData t data
      let u := s.target t
      if u.container.length < u.expect then s.pldmNext t else s.pldmDone t
  | _, _ => s

/-- FIRMWARE_DATA_RESPONSE (R208). -/
def execFirmwareDataResponse (who : Requester) (completion : Nat) (data : List Byte) (s : State) : Host.Outcome State Fault Refusal :=
  .next (s.pldmAsked who fun s => s.firmwareData completion data)

/-- An update of the present component is dropped: abandoned under R218, or in RECOVER forgotten. -/
def State.pldmDrop (s : State) (t : Target) (code : Code) : State :=
  if s.dev.mode = .recover then
    { s.updTarget t fun u => { u.freed with state := 0, status := code } with upd :=
      { (s.updTarget t fun u => { u.freed with state := 0, status := code }).upd with pldm := .readyXfer, pldmComp := none, pldmReq := none } }
  else s.abandon t code

/-- A request goes unanswered for 5 s (R208): it is repeated, at most three times; then FRAME_ABORT. -/
def State.firmwareTimeout (s : State) : State :=
  match s.upd.pldmComp, s.upd.pldmReq with
  | some t, some (o, n, due, k) =>
    let s := s.advanceTo due
    if k < 3 then { s with upd := { s.upd with pldmReq := some (o, n, s.time + 5 * secNs, k + 1) } } else s.pldmDrop t .frameAbort
  | _, _ => s

/-- FIRMWARE_DATA_TIMEOUT (R208). -/
def execFirmwareDataTimeout (s : State) : Host.Outcome State Fault Refusal := .next s.quiet.firmwareTimeout

/-! ## Activation, status, cancelling -/

/-- One applied component is activated (R207, R213, R235, R239). -/
def State.pldmActivate (s : State) (t : Target) : State :=
  let s := s.updTarget t fun u => { u with activate := true }
  match t with
  | .chan _ => s.updProceed t
  | .mission => s.missionActivate
  | .extension => s

/-- ACTIVATE_FIRMWARE (R207): self-contained activation of every applied component; until the COMMIT of each exists it may be cancelled. -/
def execActivateFirmware (who : Requester) (s : State) : Host.Outcome State Fault Refusal :=
  .next (s.pldmAsked who fun s =>
    if s.upd.pldm ≠ .readyXfer ∨ s.upd.pldmApplied.isEmpty then s.pldmCode .refusedState
    else
      let ts := s.upd.pldmApplied
      (ts.foldl State.pldmActivate { s with upd := { s.upd with pldm := .activate } }).pldmCode .ok)

/-- GET_STATUS (R207): the device's state. -/
def execGetStatus (who : Requester) (s : State) : Host.Outcome State Fault Refusal :=
  .next (s.pldmAsked who fun s => s.pldmAnswer 0 [BitVec.ofNat 8 s.upd.pldm.num])

/-- May the update of a component be cancelled (R207): no COMMIT record exists. -/
def State.mayCancel (s : State) (t : Target) : Bool := s.dev.mode == .recover || s.mayAbandon t

/-- Every component of the update in hand: the one in transfer, then those applied. -/
def State.pldmAll (s : State) : List Target := s.upd.pldmComp.toList ++ s.upd.pldmApplied

/-- CANCEL_UPDATE_COMPONENT (R207): of the component in hand. -/
def execCancelUpdateComponent (who : Requester) (s : State) : Host.Outcome State Fault Refusal :=
  .next (s.pldmAsked who fun s =>
    match s.pldmAll.head? with
    | some t => if s.mayCancel t then (s.pldmDrop t .frameAbort).pldmCode .ok else s.pldmCode .refusedState
    | none => s.pldmCode .refusedState)

/-- CANCEL_UPDATE (R207). -/
def execCancelUpdate (who : Requester) (s : State) : Host.Outcome State Fault Refusal :=
  .next (s.pldmAsked who fun s =>
    if s.upd.pldm = .idle ∨ ! s.pldmAll.all s.mayCancel then s.pldmCode .refusedState
    else
      let s := s.pldmAll.foldl (fun s t => s.pldmDrop t .frameAbort) s
      ({ s with upd := { s.upd with pldm := .idle, pldmComp := none, pldmApplied := [], pldmReq := none } }).pldmCode .ok)

/-- PLDM_UNSUPPORTED_CMD (R207): ERROR_UNSUPPORTED_PLDM_CMD. -/
def execPldmUnsupportedCmd (who : Requester) (command : Byte) (s : State) : Host.Outcome State Fault Refusal :=
  .next (s.pldmAsked who fun s => s.pldmAnswer 0x05 [command])

end Sys2Proof.Machine
end

