-- ==== Sys2Proof/Machine/Power.lean ====
section
/-!
DEFINITION. EVENTS (R530-R535, R550) and PWRCLK (R536-R542, R547, R548, R551): delivery and configuration of events, watchdogs and
timers, power domains, clock monitors.
-/
namespace Sys2Proof.Machine

/-! ## Events -/

/-- The half at home of an event's source (R23, R532): of ports, hash engines, big-number engines and control cores; none for an event that
follows the steward. -/
def eventHome (e : Nat) : Option Half :=
  if e < 896 then (finOf 32 (e / 28)).map PortId.home
  else if e < 992 then some (if (e - 896) / 6 < 8 then .indigo else .amber)
  else if e < 1008 then some (if e < 1000 then .indigo else .amber)
  else if 1486 ≤ e ∧ e < 1502 then some (if e < 1494 then .indigo else .amber)
  else none

/-- The half whose control cores own an event now. -/
def State.eventOwner (s : State) (e : Nat) : Option Half :=
  match eventHome e with
  | some h => some h
  | none => s.hg.steward

/-- The configuration of an event. -/
def State.evCfg (s : State) (e : EventId) : EventCfg := s.ev.cfg[e]

/-- Is core `k` a control core of the half that owns the event. -/
def State.eventWriter (s : State) (k : CoreId) (e : EventId) : Bool := (coreHalf k).isSome && coreHalf k == s.eventOwner e.val

/-- May core `k` clear the event or set its mask (R532): its owner's control cores, and management cores those routed to group 1. -/
def State.eventToucher (s : State) (k : CoreId) (e : EventId) : Bool :=
  s.eventWriter k e || (isMgmtCore k && (s.evCfg e).group == 1)

/-- The core that an event is routed to (R532). -/
def State.eventCore (s : State) (e : EventId) : Option CoreId :=
  let c := s.evCfg e
  match c.group.toNat, s.eventOwner e.val with
  | 0, some h => finOf 12 (4 * h.num + c.core.toNat)
  | 1, _ => finOf 12 (8 + c.core.toNat)
  | _, _ => none

/-- May the event be claimed by core `k`: pending, unmasked, routed to it (R533). -/
def State.claimable (s : State) (k : CoreId) (e : EventId) : Bool :=
  s.ev.pending.getLsbD e.val && ! s.ev.mask.getLsbD e.val && s.eventCore e == some k

/-- The event that CLAIMk names (R533): the highest priority, the lowest number. -/
def State.claimOf (s : State) (k : CoreId) : Option EventId :=
  ((List.finRange 1536).filter (s.claimable k)).foldl (fun b e => match b with
    | none => some e
    | some x => if (s.evCfg x).priority.toNat < (s.evCfg e).priority.toNat then some e else some x) none

/-- EVENTS (R550). -/
def eventsBase : Nat := 0x400C0000

/-- A write of 1 to a pending bit (R531, R532). -/
def State.pendingClear (s : State) (k : CoreId) (e : EventId) : State × Code :=
  if s.eventToucher k e then ({ s with ev := { s.ev with pending := putBit s.ev.pending e.val false } }, .ok) else (s, .deniedAccess)

/-- EVENT_PENDING_CLEAR (R531): beside a raise in the same AON clock cycle the clear is without effect. -/
def execEventPendingClear (core : CoreId) (e : EventId) (raising : Bool) (s : State) : Host.Outcome State Fault Refusal :=
  let r := s.pendingClear core e
  .next (s.busEnd core (eventsBase + 0x1000 + 4 * (e.val / 32)) (if raising ∧ r.2 = .ok then (s, .ok) else r))

/-- Is the route of a CFGe value one (R532). -/
def routeOk (v : Nat) : Bool :=
  match bitsOf v 4 2 with
  | 0 => decide (bitsOf v 0 4 ≤ 3)
  | 1 => decide (bitsOf v 0 4 ≤ 1)
  | 2 => true
  | _ => false

/-- A write of CFGe (R532, R550). -/
def State.cfgWrite (s : State) (k : CoreId) (e : EventId) (v : Word) : State × Code :=
  if ! s.eventWriter k e then (s, .deniedAccess)
  else if ! routeOk v.toNat then (s, .badRange)
  else
    let c : EventCfg := ⟨BitVec.ofNat 3 (bitsOf v.toNat 8 3), BitVec.ofNat 2 (bitsOf v.toNat 4 2), BitVec.ofNat 4 (bitsOf v.toNat 0 4)⟩
    ({ s with ev := { s.ev with cfg := vset s.ev.cfg e c } }, .ok)

/-- EVENT_CFG_WRITE (R532). -/
def execEventCfgWrite (core : CoreId) (e : EventId) (value : Word) (s : State) : Host.Outcome State Fault Refusal :=
  .next (s.busEnd core (eventsBase + 0x4000 + 4 * e.val) (s.cfgWrite core e value))

/-- A write of SWTRIG by a control core (R535). -/
def State.swtrig (s : State) (k : CoreId) (v : Word) : State × Code :=
  if (coreHalf k).isNone then (s, .deniedAccess)
  else ((List.range 4).foldl (fun s i => s.raiseIf (v.getLsbD i) (1532 + i)) s, .ok)

/-- SWTRIG (R535). -/
def execSwtrig (core : CoreId) (value : Word) (s : State) : Host.Outcome State Fault Refusal :=
  .next (s.busEnd core (eventsBase + 0x40) (s.swtrig core value))

/-- A write of ALERT (R476, R477): 1 in bit 0 raises COREkk_ALERT. -/
def State.alertWrite (s : State) (k : CoreId) (v : Word) : State :=
  if v.getLsbD 0 then s.raiseLog (1486 + 2 * k.val) [(1, k.val), (4, v.toNat)] else s

/-- CORE_ALERT_WRITE (R477). -/
def execCoreAlertWrite (k : CoreId) (value : Word) (s : State) : Host.Outcome State Fault Refusal := .next (s.alertWrite k value)

/-! ## Watchdogs and timers -/

/-- PWRCLK (R551). -/
def pwrclkBase : Nat := 0x400D0000

/-- The watchdog group of a core (R537). -/
def coreGroup (k : CoreId) : Fin 4 := if k.val < 4 then 0 else if k.val < 8 then 1 else if k.val < 10 then 2 else 3

/-- Changes a watchdog. -/
def State.updWdog (s : State) (g : Fin 4) (f : Wdog → Wdog) : State := { s with pw := { s.pw with wdogs := vupd s.pw.wdogs g f } }

/-- When a watchdog expires that starts its period now. -/
def Wdog.restart (w : Wdog) (now : Nat) : Wdog := { w with deadline := now + w.periodMs.toNat * msNs }

/-- A write of WDOG_KICKg (R537, R551). -/
def State.wdogKick (s : State) (k : CoreId) (g : Fin 4) : State × Code :=
  if coreGroup k = g then (s.updWdog g fun w => w.restart s.time, .ok) else (s, .deniedAccess)

/-- WDOG_KICK (R537). -/
def execWdogKick (core : CoreId) (g : Fin 4) (s : State) : Host.Outcome State Fault Refusal :=
  .next (s.busEnd core (pwrclkBase + 0x104 + 0x10 * g.val) (s.wdogKick core g))

/-- A write of WDOG_CFGg (R537, R551): the period while disarmed; the armed bit sets alone. An armed one is locked: a management core's
write of it is DENIED_ACCESS, another core's has no effect (R7). -/
def State.wdogArm (s : State) (k : CoreId) (g : Fin 4) (v : Word) : State × Code :=
  if coreGroup k ≠ g ∨ (isMgmtCore k ∧ s.pw.wdogs[g].armed) then (s, .deniedAccess)
  else
    (s.updWdog g fun w =>
      if w.armed then w
      else
        let w := { w with periodMs := BitVec.ofNat 16 v.toNat, armed := v.getLsbD 31 }
        if w.armed then w.restart s.time else w, .ok)

/-- WDOG_ARM (R537). -/
def execWdogArm (core : CoreId) (g : Fin 4) (value : Word) (s : State) : Host.Outcome State Fault Refusal :=
  .next (s.busEnd core (pwrclkBase + 0x100 + 0x10 * g.val) (s.wdogArm core g value))

/-- What a watchdog's expiry does to its group (R537). -/
def State.wdogEffect (s : State) (g : Fin 4) : State :=
  match g with
  | 0 => s.halfRestart .indigo
  | 1 => s.halfRestart .amber
  | 2 => (s.disarmWdog 2).mgmtRestart
  | 3 => (s.disarmWdog 3).measRestart

/-- A watchdog expires (R537). -/
def State.wdogExpired (s : State) (g : Fin 4) : State :=
  let w := s.pw.wdogs[g]
  if w.armed then ((s.advanceTo w.deadline).raiseLog (1510 + g.val) []).wdogEffect g else s

/-- A general timer reaches its period (R536, R537): once, or again from there. -/
def State.timerExpired (s : State) (t : Fin 8) : State :=
  let x := s.pw.timers[t]
  if ! x.enable ∨ x.periodUs = 0 then s
  else
    let at_ := x.start + x.periodUs.toNat * usNs
    let s := (s.advanceTo at_).raise (1516 + t.val)
    { s with pw := { s.pw with timers := vset s.pw.timers t { x with enable := x.periodic, start := at_ } } }

/-- GENERAL_TIMER_EXPIRED (R536). -/
def execGeneralTimerExpired (t : Fin 8) (s : State) : Host.Outcome State Fault Refusal := .next (s.timerExpired t)

/-- TIME_LO_READ (R547): the read latches TIME_HI. -/
def execTimeLoRead (core : CoreId) (s : State) : Host.Outcome State Fault Refusal :=
  .next (if core.val < 12 then { s with pw := { s.pw with timeHi := BitVec.ofNat 32 (s.time / 2 ^ 32) } } else s)

/-! ## Power domains: requests (R538-R541) -/

/-- Sill runs on the control halves' first cores: from the fuse load to handover, in RECOVER and SERVICE. -/
def BootPhase.sill : BootPhase → Bool
  | .fuses | .judging | .accepted | .recover | .service => true
  | _ => false

/-- Is the core one on which Sill runs now. -/
def State.sillCore (s : State) (k : CoreId) : Bool := s.boot.phase.sill && (k.val == 0 || k.val == 4)

/-- The half at home of a domain (R16, R21): engines' groups and banks in pairs. -/
def domainHalf (d : Nat) : Half :=
  if d = 4 then .indigo else if d = 5 then .amber
  else if d < 11 then (if d < 9 then .indigo else .amber)
  else if d < 15 then (if d < 13 then .indigo else .amber)
  else if d < 19 then .indigo else .amber

/-- May the core switch the domain (R538). -/
def State.maySwitch (s : State) (k : CoreId) (d : Nat) : Bool :=
  if d = 29 ∨ d = 31 ∨ d = 32 then s.sillCore k
  else if d = 25 then s.stewardCore k || (s.sillCore k && s.dev.mode == .recover)
  else if d = 23 ∨ d = 24 ∨ d = 26 ∨ d = 27 ∨ d = 30 then s.stewardCore k
  else if 4 ≤ d ∧ d ≤ 22 ∧ d ≠ 6 then coreHalf k == some (domainHalf d)
  else false

/-- Will the domain be on once the requests that wait are done. -/
def State.domWill (s : State) (d : Nat) : Bool := s.pw.queue.foldl (fun b r => if r.dom.val = d then r.on else b) (s.domOn d)

/-- The ports of a bank. -/
def portsOfBank (b : Nat) : List PortId := (List.finRange 32).filter fun p => p.val / 8 == b
/-- The channels of a bank. -/
def chansOfBank (b : Nat) : List ChanId := (List.finRange 64).filter fun c => c.val / 16 == b

/-- The engines of a hash group. -/
def groupEngines (g : Nat) : List (Fin 16) := (List.finRange 16).filter fun e => e.val / 4 == g

/-- A port whose fill map names an engine of the group is filling (R540). -/
def State.groupFills (s : State) (g : Nat) : Bool :=
  let h : Half := if g < 2 then .indigo else .amber
  (List.finRange 32).any fun p =>
    (h.engine0 + (s.fillEngine h p).val) / 4 == g
    && ((s.chan (chanOf p 0)).state == .filling || (s.chan (chanOf p 1)).state == .filling)

/-- The domains marked never (R538): they do not go off outside DORMANT. -/
def neverOff (d : Nat) : Bool := [1, 2, 3, 6, 28, 29, 31, 33, 34, 37, 38].contains d

/-- The refusal of a switch (R540), where one applies. -/
def State.switchRefusal (s : State) (d : Nat) (on : Bool) : Option Code :=
  let refused (b : Bool) : Option Code := if b then some .refusedState else none
  let busy (b : Bool) : Option Code := if b then some .busy else none
  if 7 ≤ d ∧ d ≤ 10 ∧ ! on then
    if s.groupFills (d - 7) then some .refusedState else busy ((groupEngines (d - 7)).any fun e => (s.hash.engines[e]).job.isSome)
  else if 11 ≤ d ∧ d ≤ 14 ∧ ! on then refused (s.domWill (15 + 2 * (d - 11)) || s.domWill (16 + 2 * (d - 11)))
  else if 15 ≤ d ∧ d ≤ 22 then
    let b := (d - 15) / 2
    if on then refused (! s.domWill (11 + b))
    else refused ((chansOfBank b).any fun c => (s.chan c).state.served)
  else if d = 23 ∧ ! on then refused (s.domWill 24)
  else if d = 24 then
    if on then refused (! s.domWill 23)
    else refused ((List.finRange 64).any fun c => (s.chan c).state != .absent && (s.chan c).state != .quarantined)
  else if d = 25 ∧ ! on then busy (s.cis.committing || ! s.cis.queue.isEmpty)
  else if d = 30 ∧ ! on then busy (s.fuseBusy || ! s.fuse.allLoaded)
  else if d = 32 ∧ on then refused (s.lifecycle != .raw && s.lifecycle != .test && s.dev.mode != .service)
  else if (d = 35 ∨ d = 36) ∧ ! on then
    refused ((List.finRange 64).any fun c => (s.chan c).state.served && ! (s.chan c).pins.isEmpty)
  else refused (! on && neverOff d)

/-- DOM_REQ_STATUS (R551). -/
def State.domStatus (s : State) (d : Fin 39) (c : Code) : State := { s with pw := { s.pw with reqCode := c, reqDom := d } }

/-- PWRdd (R541). -/
def State.pwrEvent (s : State) (d : Fin 39) : State := s.raise (1447 + d.val)

/-- A request that finds the queue full (R541). -/
def State.domFull (s : State) (d : Fin 39) : State :=
  let s := (s.domStatus d .full).raise 1530
  { s with pw := { s.pw with refusals := satInc 32 s.pw.refusals } }

/-- A request joins the queue of 8 (R541): Indigo's before Amber's of the same cycle, which finds the queue full where one place was left. -/
def State.domJoin (s : State) (d : Fin 39) (on tied : Bool) : State :=
  match if tied then s.pw.queue.getLast? else none with
  | some x =>
    let rest := s.pw.queue.dropLast ++ [⟨d, on⟩]
    if 8 ≤ s.pw.queue.length then ({ s with pw := { s.pw with queue := rest } }).domFull x.dom
    else { s with pw := { s.pw with queue := rest ++ [x] } }
  | none => if 8 ≤ s.pw.queue.length then s.domFull d else { s with pw := { s.pw with queue := s.pw.queue ++ [⟨d, on⟩] } }

/-- A switch request (R540, R541): without effect where the domain is or will be so, refused, or queued. -/
def State.domRequest (s : State) (d : Fin 39) (on tied : Bool) : State :=
  if s.domWill d.val = on then s.domStatus d .ok
  else match s.switchRefusal d.val on with
  | some c =>
    let s := ((s.domStatus d c).pwrEvent d)
    { s with pw := { s.pw with refusals := satInc 32 s.pw.refusals } }
  | none => s.domJoin d on tied

/-- A write of DOM_REQ (R538, R551); `tied`: it is Indigo's, and Amber's of the same cycle joined the queue last (R541). -/
def State.domReqWrite (s : State) (k : CoreId) (v : Word) (tied : Bool) : State × Code :=
  match finOf 39 (bitsOf v.toNat 0 6) with
  | none => (s, .badRange)
  | some d => if d = 0 then (s, .badRange) else if s.maySwitch k d.val then (s.domRequest d (v.getLsbD 8) (tied && coreHalf k == some .indigo), .ok) else (s, .deniedAccess)

/-- DOM_REQ (R540). -/
def execDomReq (core : CoreId) (value : Word) (tied : Bool) (s : State) : Host.Outcome State Fault Refusal :=
  .next (s.busEnd core (pwrclkBase + 0x10) (s.domReqWrite core value tied))

/-! ## Power domains: switching (R541, R542) -/

/-- The state of a big-number engine whose power is off: its engine at reset, its operand memory lost (R443, R542). -/
def State.pkeOff (s : State) (h : Half) : State :=
  let s := pkeAbortAs h .frameAbort s
  { s.erase (opBase h) opBytes with pke := s.pke.set h Pke.reset }

/-- What the ports of a bank lose with their logic: personality, caches, counters (R542). -/
def State.bankOff (s : State) (b : Nat) : State :=
  let s := (chansOfBank b).foldl (fun s c => (s.toAbsent c).updChan c fun ch => { Chan.reset with state := ch.state, stats := ch.stats }) s
  (portsOfBank b).foldl (fun s p => s.updPort p fun _ => Port.reset) s

/-- A side of a bank's pads goes off (R41, R542): its channels are ABSENT, its supply is not sensed any more. -/
def State.ioOff (s : State) (b : Nat) (host : Bool) : State :=
  let s := (chansOfBank b).foldl State.toAbsent s
  (portsOfBank b).foldl (fun s p => s.updPort p fun q => if host then { q with hostIo := .off } else { q with flashIo := .off }) s

/-- MIRCTL loses its state; the DRAM fitted and the channels it knows absent stay (R542). -/
def State.mirctlOff (s : State) : State := { s with mir := { Mirror.reset with fittedGib := s.mir.fittedGib } }

/-- The PHY off (R542): DRAM is not refreshed, its content is lost; the mirror is not ready. -/
def State.phyOff (s : State) : State :=
  let s := { s with mir := { s.mir with ready := false, chanOk := 0, training := none } }
  { s with mem := s.mem.filter fun x => decide (x.1 < dramBase) }

/-- The Cistern off (R542): offline, its NAND as it is. -/
def State.cisternOff (s : State) : State := { s with cis := { s.cis.kept with pendingWrites := s.cis.pendingWrites, peers := s.cis.peers } }

/-- PAKOR with both its domains off (R542): its logic is at reset; the device's place and what it has on the wire stay. -/
def State.pakorLost (s : State) : State := { s with pak := { Pakor.reset with seg := s.pak.seg, pos := s.pak.pos, sent := s.pak.sent } }

/-- A Pakor port off (R542): its links go down; before the last one a member sends LEAVE (R290). -/
def State.pakorOff (s : State) (d : Nat) : State :=
  let other := if d = 26 then 27 else 26
  let s := if ! s.domOn other ∧ s.pak.links.toList.any (fun k => k.session) then s.send 0x12 0xFF [] else s
  let ls : List LinkId := if d = 26 then [0, 2] else [1, 3]
  let s := ls.foldl State.linkDown s
  if s.domOn other then s else s.pakorLost

/-- What switching a domain off does (R542). -/
def State.domOffEffect (s : State) (d : Nat) : State :=
  if d = 4 then s.pkeOff .indigo
  else if d = 5 then s.pkeOff .amber
  else if 7 ≤ d ∧ d ≤ 10 then (groupEngines (d - 7)).foldl (fun s e => s.updEngine e Engine.kept) s
  else if 11 ≤ d ∧ d ≤ 14 then s.bankOff (d - 11)
  else if 15 ≤ d ∧ d ≤ 22 then s.ioOff ((d - 15) / 2) ((d - 15) % 2 == 0)
  else if d = 23 then s.mirctlOff
  else if d = 24 then s.phyOff
  else if d = 25 then s.cisternOff
  else if d = 26 ∨ d = 27 then s.pakorOff d
  else if d = 30 then { s with fuse := { s.fuse with status := Fuses.reset.status, cmdData := 0, readTight := 0, readLoose := 0, readWeak := 0 } }
  else s

/-- What switching a domain on does: channels of a bank may probe once both sides are sensed (R41). -/
def State.domOnEffect (s : State) (d : Nat) : State :=
  if 15 ≤ d ∧ d ≤ 22 then (chansOfBank ((d - 15) / 2)).foldl State.probeIfReady s else s

/-- A domain switches, with its event. -/
def State.switchDomain (s : State) (d : Fin 39) (on : Bool) : State :=
  let s := if on then s else s.domOffEffect d.val
  let s := { s with pw := { s.pw with domOn := putBit s.pw.domOn d.val on } }
  (if on then s.domOnEffect d.val else s).pwrEvent d

/-- The switch at the queue's head completes (R541). -/
def State.domSwitchDone (s : State) : State :=
  match s.pw.queue with
  | [] => s
  | r :: rest => (({ s with pw := { s.pw with queue := rest } }).switchDomain r.dom r.on).domStatus r.dom .ok

/-- DOMAIN_SWITCH_DONE (R541). -/
def execDomainSwitchDone (s : State) : Host.Outcome State Fault Refusal := .next s.quiet.domSwitchDone

/-! ## Clock monitors (R548) -/

/-- The mirror PHY's clock is lost: reads in flight fail with link ECC, the channels retrain (R129, R548). -/
def State.mirrorClockLost (s : State) : State :=
  let held := (List.finRange 32).filterMap fun p => (s.port p).held
  let s := held.foldl (fun s h => s.mirrorFault h.op.tx.chan ⟨.linkEcc, h.leaf⟩) s
  if s.domOn 24 then ({ s with mir := { s.mir with ready := false } }).train else s

/-- The effect of a clock at fault (R548). -/
def State.clockFault (s : State) (i : Nat) : State :=
  let s := { s.raiseLog (1524 + i) [] with pw := { (s.raiseLog (1524 + i) []).pw with clkStatus := putBit s.pw.clkStatus i true } }
  if i ≤ 3 then
    if s.dev.mode.running then (s.logIt .event (1524 + i) Code.internal.num []).quarantineFreeze 13 else s
  else if i = 4 then s.mirrorClockLost
  else s.linksDown

/-- The cycles of the monitored clocks in a window of 100 µs at their nominal frequencies (R546): ENG, CORE, PORT, SCK, PERI, the mirror
PHY, and the Pakor lane rate. -/
def clockNominal : Vector Nat 7 := #v[120000, 80000, 40000, 20000, 10000, 320000, 1250000]

/-- Is a clock's count more than 0.5 % from nominal (R548). -/
def ClockCounts.off (w : ClockCounts) (i : Fin 7) : Bool :=
  decide (200 * w.counts[i] < 199 * clockNominal[i]) || decide (201 * clockNominal[i] < 200 * w.counts[i])

/-- The CLKMON events of a window by their number from 1524 (R536, R548): PORT and SCK share one; what a PLL that is off
would drive is not judged (DEDUCED, log entry 168). -/
def State.badClocks (s : State) (w : ClockCounts) : List Nat :=
  (List.range 6).filter fun i => match i with
    | 0 => s.pw.rootLock && w.off 0
    | 1 => s.pw.rootLock && w.off 1
    | 2 => s.pw.rootLock && (w.off 2 || w.off 3)
    | 3 => s.pw.rootLock && w.off 4
    | 4 => s.domOn 24 && (w.off 5 || w.mirrorLost)
    | _ => (s.domOn 26 || s.domOn 27) && (w.off 6 || w.pakorLost)

/-- A window of 100 µs ends (R548); the loss of the root PLL's lock is a tamper condition and takes precedence (R38, R394). -/
def State.clockWindow (s : State) (w : ClockCounts) : State :=
  let s := s.advanceTo (nextMultiple s.time (100 * usNs))
  if w.rootLost ∧ s.pw.rootLock then s.detect 10
  else (s.badClocks w).foldl State.clockFault s

/-- CLOCK_MONITOR_WINDOW (R548). -/
def execClockMonitorWindow (w : ClockCounts) (s : State) : Host.Outcome State Fault Refusal := .next (s.quiet.clockWindow w)

end Sys2Proof.Machine
end

