-- ==== Sys2Proof/Machine/Sill.lean ====
section
/-!
DEFINITION. Sill and the start-up (R337-R360, R384): from PORST_N to handover, the self-check, alarms and stops, the choice and
judgement of mission firmware, identity, RECOVER's install.
-/
namespace Sys2Proof.Machine

/-! ## From PORST_N to the fuse load (R337-R340, R539) -/

/-- PORST_N is released with rails and REFCLK in range: time counts from 0, the straps are sampled (R287, R340, R547). -/
def State.porstRelease (s : State) (seg : Fin 4) (pos : Fin 8) : State :=
  if s.boot.phase ≠ .held ∨ s.dev.mode = .dormant then s
  else { s with time := 0, pak := { s.pak with seg := seg, pos := pos }, boot := { s.boot with phase := .pll, startAt := 0 } }

/-- PORST_N_RELEASE (R337). -/
def execPorstNRelease (seg : Fin 4) (pos : Fin 8) (s : State) : Host.Outcome State Fault Refusal := .next (s.porstRelease seg pos)

/-- Switches a list of domains, in order. -/
def State.switchAll (s : State) (ds : List (Fin 39)) (on : Bool) : State :=
  ds.foldl (fun (s : State) d => if s.domOn d.val = on then s else s.switchDomain d on) s

/-- The domains that hardware switches on once the root PLL locks, in order (R539). -/
def hardwareDomains : List (Fin 39) := [28, 2, 3, 6, 30, 33, 34, 35, 36, 37, 38]

/-- The domains that Sill switches on at step 5 (R539). -/
def sillDomains : List (Fin 39) := [31, 4, 5, 7, 8, 9, 10, 29]

/-- The root PLL locks (R539, R546). -/
def State.pllLock (s : State) : State :=
  if s.boot.phase ≠ .pll then s
  else
    let s := s.switchAll hardwareDomains true
    { s with pw := { s.pw with rootLock := true }, boot := { s.boot with phase := .fuses } }

/-- ROOT_PLL_LOCK (R539). -/
def execRootPllLock (s : State) : Host.Outcome State Fault Refusal := .next s.pllLock

/-- The cores that start at the Sill vector (R339). -/
def sillVector (k : CoreId) : Bool := k.val == 0 || k.val == 4 || k.val == 8

/-- A core released at its reset vector. -/
def coreAtVector (now : Nat) : Core := { Core.reset with released := true, releasedAt := now }

/-- Those cores released at 0x0000_0000, every other held; the boot timer starts (R339, R341). -/
def State.releaseSill (s : State) : State :=
  let cores := Vector.ofFn fun k : Fin 12 => if sillVector k then coreAtVector s.time else Core.reset
  let s := { s with cores := cores }
  { s with boot := { s.boot with timer := some (s.time + 25 * msNs), timerLeft := none } }

/-! ## Stops (R343, R344) -/

/-- The cores that run halt (R341, R344). -/
def State.haltCores (s : State) : State := { s with cores := s.cores.map fun k => { k with halted := k.released || k.halted } }

/-- The device stops with a code (R344): cores halted, every output asserted, HG_PUEN low, the record in AON. -/
def State.bootStop (s : State) (code : Nat) : State :=
  let s := s.haltCores.puenLow
  let s := { s with boot := { s.boot with phase := .stopped, stopCode := code, timer := none, timerLeft := none } }
  s.logRec .bootStop noEvent 0 .sill [(1, code)]

/-- The boot timer expires (R341). -/
def State.bootTimeout (s : State) : State :=
  match s.boot.timer with
  | some t => ((s.advanceTo t).raise 1514).bootStop 4
  | none => s

/-- BOOT_TIMER_EXPIRED (R341). -/
def execBootTimerExpired (s : State) : Host.Outcome State Fault Refusal := .next s.bootTimeout

/-! ## The self-check and the alarms (R342, R343) -/

/-- The CRC-64 of Sill's region and the one stored in its last 8 bytes, the second added to the first: 0 where they are equal (R342). -/
def State.sillSyndrome (s : State) : DWord := crc64 (s.bytes 0 0x3FFF8) ^^^ BitVec.ofNat 64 (s.load 0x3FFF8 8)

/-- Which of a half's three reads match (R342): those whose wrong bits, if any, leave the computed and the stored value equal. -/
def State.readsMatch (s : State) (l : Vector (BitVec 64) 3) : List Bool := l.toList.map fun e => s.sillSyndrome ^^^ e == 0

/-- The reads that a half makes: up to three, the last the first that matches (R342). -/
def readsMade (l : List Bool) : Nat := min 3 ((l.takeWhile fun b => ! b).length + 1)

/-- The stop that the self-check calls for, 0 none (R342, R343): it passes for a half when any of its reads matches. -/
def State.crcStop (s : State) (c : CrcReads) : Nat :=
  match (s.readsMatch c.indigo).any id, (s.readsMatch c.amber).any id with
  | true, true => 0
  | false, false => 2
  | _, _ => 1

/-- A mismatch that a re-read cleared is noted (R343). -/
def State.crcNote (s : State) (c : CrcReads) : State :=
  let i := readsMade (s.readsMatch c.indigo)
  let a := readsMade (s.readsMatch c.amber)
  if i = 1 ∧ a = 1 then s else s.logRec .boot noEvent 0 .sill [(1, i), (1, a)]

/-- The unique secret region is unusable: locked but inconsistent, or not locked (R411). -/
def State.secretUnusable (s : State) : Bool := ! s.regionLocked 1 || ! s.fuse.regionOk.getLsbD 1

/-- A region other than the secret's and the owner slots' is locked but inconsistent, of those loaded (R411). -/
def State.otherRegionBad (s : State) : Bool := [0, 2, 7].any fun n => s.regionLocked n && ! s.fuse.regionOk.getLsbD n

/-- The conditions that Sill finds after the load (R343): each has its record and its bit. -/
def State.bootAlarms (s : State) : State :=
  let gap := (thermo (s.privWord 0).toNat 5).isNone
  let secret := s.secretUnusable && s.lifecycle != .raw
  let other := s.otherRegionBad
  let s := (s.raiseIf gap 1299).fuseAlarm gap 0 1299
  let s := s.fuseAlarm secret 1 (if s.regionLocked 1 then 1299 else noEvent)
  let s := s.fuseAlarm ((List.range 4).any fun i => s.ownerSlotState i == 3) 2 1299
  let s := s.fuseAlarm (thermo (s.floorWord .mission) 64).isNone 3 noEvent
  let s := s.fuseAlarm other 4 1299
  { s with boot := { s.boot with secretBad := secret, otherBad := other,
                                 alarm := putBit s.boot.alarm 6 (decide (s.fuse.weakCnt ≠ 0)) } }

/-! ## Identity (R350, R351, R378) -/

/-- The Sill measurement (R350). -/
def State.sillDigest (s : State) : Digest := sha384 (s.bytes 0 0x40000)

/-- What Sill derives where no mission firmware runs: slots 1, 2, 3 and 7, then the root lock (R378); slot 7 is kept over a warm
restart (R355). Nothing with an unusable secret (R343). -/
def State.recoverIdentity (s : State) : State :=
  if s.boot.secretBad then s
  else
    let s := s.sillDevice s.sillDigest
    (if s.boot.entry = .warm then s else s.sillCistern).setRootLock

/-- What Sill derives before handover (R350, R351, R355). -/
def State.missionIdentity (s : State) : State :=
  let s : State :=
    if s.boot.secretBad then s
    else
      let s := (s.sillDevice s.boot.sillMeas).sillAlias s.boot.missionMeas
      if s.boot.entry = .warm then s else s.sillCistern
  s.setRootLock

/-! ## RECOVER and SERVICE (R345, R357, R378, R384) -/

/-- Is RECOVER's service open (R343, R345): not in RMA and SCRAP, nor in MISSION with an unusable secret. -/
def State.serviceOpen (s : State) : Bool :=
  match s.lifecycle with
  | .mission => ! s.boot.secretBad
  | .rma | .scrap | .raw => false
  | .test | .provision => true

/-- Sill brings the Cistern online for RECOVER (R357): with the key of slot 7, unless it is online already. -/
def State.recoverCistern (s : State) : State :=
  let s := s.switchAll [25] true
  if s.boot.service ≠ 1 then s
  else if s.cis.state = 2 ∨ s.cis.state = 3 then s.recoverSearch
  else ({ s with cis := { s.cis with key := handleOf 7 (s.kslot 7).gen, keyValid := true } }).cisternInit

/-- The measurement routine runs in RECOVER (R359). -/
def State.recoverMeasures (s : State) : State :=
  let s := s.restartCores isMeasCore true
  let s := { s with ms := { s.ms with pace := Vector.replicate 2 true } }
  if s.ms.run then s else s.measStart

/-- Entry to RECOVER (R34 causes 2 and 7, R37, R345, R357): every output asserted, the boot timer stopped. A device that was frozen
during the warm restart stays in QUARANTINE (R35), stopped, its outputs as they are. -/
def State.enterRecover (s : State) : State :=
  if ! s.dev.mode.mayBecome .recover then
    { s.haltCores with boot := { s.boot with phase := .stopped, timer := none, timerLeft := none } }
  else
    let cause := if s.dev.mode = .update then 7 else 2
    let s := s.puenLow
    let s := { s with
      hg := { s.hg with warm := false, confirm := none },
      boot := { s.boot with phase := .recover, service := if s.serviceOpen then 1 else 2, timer := none, timerLeft := none, slot := 0xFF,
                            candidates := [], accepted := none, rejudged := false, recoverImage := none, installing := false } }
    let s := ((s.updTarget .mission fun _ => TargetUpd.idle).setMode .recover cause).linksDown
    s.recoverIdentity.recoverMeasures.recoverCistern

/-- The mailbox of the service request (R345). -/
def ticketBox (s : State) : Mailbox := s.mbox[(15 : Fin 16)]

/-- Bytes of a mailbox's inbound buffer. -/
def Mailbox.inField (m : Mailbox) (o n : Nat) : List Byte := (m.inBuf.toList.drop o).take n

/-- Does mailbox 15 hold a service ticket for this device in this lifecycle (R345, R384), signed under the test root's key that Sill
carries. -/
def State.ticketOk (s : State) : Bool :=
  let m := ticketBox s
  m.inFull && m.inLen == 256 && m.inField 0 4 == ascii "GVSR" && m.inField 4 1 == [1]
  && m.inField 5 1 == [BitVec.ofNat 8 s.lifecycle.num] && (s.lifecycle == .test || s.lifecycle == .rma)
  && m.inField 6 2 == List.replicate 2 0 && m.inField 8 8 == s.identityBytes
  && m.inField 0x14 44 == List.replicate 44 0 && m.inField 0xA0 96 == List.replicate 96 0
  && ecdsaVerify Config.testRootKey (sha384 (m.inField 0 0x40)) (m.inField 0x40 96)

/-- Entry to SERVICE (R34 cause 3, R378, R384): the test secret, the device identity under it, the debug domain, the record. -/
def State.enterService (s : State) : State :=
  let s := s.setTestSecret
  let s := s.sillDevice s.sillDigest
  let s := s.switchAll [32] true
  let s := { s with boot := { s.boot with phase := .service, timer := none } }
  (s.setMode .service 3).logRec .service noEvent 0 .sill [(4, leNat ((ticketBox s).inField 0x10 4))]

/-! ## Candidates (R346, R348) -/

/-- A COMMIT is a trial that nothing has confirmed (R348). -/
def State.unconfirmed (s : State) (r : JRec) : Bool := r.flags.testBit 0 && ! s.upd.journal.any fun q => q.names r.seq [.confirm]

/-- A trial that has been booted once (R237). -/
def State.trialTried (s : State) (r : JRec) : Bool := s.upd.journal.any fun q => q.names r.seq [.trialBoot]

/-- The trials that have failed: booted and not confirmed (R237, R348). -/
def State.failedTrials (s : State) : List JRec := (s.liveCommits .mission).filter fun r => s.unconfirmed r && s.trialTried r

/-- TRIAL_FAIL for a COMMIT. -/
def trialFailRec (r : JRec) (flags : Nat) : JRec :=
  { JRec.of .trialFail r.target with refSeq := r.seq, svn := r.svn, root := r.root, slot := r.slot, flags := flags }

/-- TRIAL_FAIL is appended for each failed trial, or stays pending while the gate is closed (R348). -/
def State.failTrials (s : State) : State :=
  s.failedTrials.foldl (fun (s : State) r =>
    let q := trialFailRec r 0
    if s.mayStart (.journal q) then s.appendRec q else { s with boot := { s.boot with trialFailPending := true } }) s

/-- A trial not yet booted that the closed gate keeps out of this start-up (R348). -/
def State.trialHeld (s : State) (r : JRec) : Bool :=
  s.unconfirmed r && ! s.trialTried r && s.boot.entry != .warm && ! s.gateOpen journalUs

/-- Inserts a COMMIT by R222's order: the higher svn, then the higher seq. -/
def insertCommit (r : JRec) : List JRec → List JRec
  | [] => [r]
  | q :: qs => if betterCommit (some q) r = some r then r :: q :: qs else q :: insertCommit r qs

/-- Rule 1 of R346: the slots named by live COMMITs. -/
def State.commitCandidates (s : State) : List Candidate :=
  (((s.liveCommits .mission).foldr insertCommit []).filter fun r => ! (s.unconfirmed r && s.trialTried r) && ! s.trialHeld r).map fun r =>
    ⟨if r.slot = 1 then 1 else 0, some r.seq, s.unconfirmed r⟩

/-- The svn in the header of a slot that reads as a container (R346). -/
def State.slotSvn (s : State) (i : Fin 2) : Option Nat :=
  if s.bytes (slotBase i) 4 = ascii "GHVL" then some (s.load (slotBase i + 0x18) 4) else none

/-- Rule 2 of R346: slots not yet listed that hold a container, by higher svn, then slot A. -/
def State.slotCandidates (s : State) (listed : List (Fin 2)) : List Candidate :=
  let free (i : Fin 2) : Option Nat := if listed.contains i then none else s.slotSvn i
  let cand (i : Fin 2) : Candidate := ⟨i, none, false⟩
  match free 0, free 1 with
  | some a, some b => if a < b then [cand 1, cand 0] else [cand 0, cand 1]
  | some _, none => [cand 0]
  | none, some _ => [cand 1]
  | none, none => []

/-- The candidate list (R346). -/
def State.candidateList (s : State) : List Candidate :=
  let l := s.commitCandidates
  l ++ s.slotCandidates (l.map fun c => c.slot)

/-- The choice of mission firmware begins (R346, R348); with no candidate the device enters RECOVER. -/
def State.chooseMission (s : State) : State :=
  let s := s.failTrials
  let held := (s.liveCommits .mission).any s.trialHeld
  let l := s.candidateList
  let s := { s with boot := { s.boot with phase := .judging, candidates := l, rejudged := false, rejected := [], accepted := none,
                                          results := (0xFF, 0xFF), trialWaits := held } }
  if l.isEmpty then s.enterRecover else s

/-- The path by lifecycle (R343, R345). -/
def State.lifecyclePath (s : State) : State :=
  let l := s.lifecycle
  if (l = .mission ∨ l = .rma) ∧ s.boot.secretBad then s.enterRecover
  else if s.ticketOk then s.enterService
  else if l = .rma ∨ l = .scrap then s.enterRecover
  else s.chooseMission

/-- The first stop that applies (R343): the redirection table, the self-check, RAW; 0 none. -/
def State.stopDue (s : State) (c : CrcReads) : Nat :=
  let n := s.crcStop c
  if s.redirectsBad then 5 else if n ≠ 0 then n else if s.lifecycle = .raw then 3 else 0

/-- Slot 0 takes the unique secret where it is usable (R338, R343). -/
def State.loadSecret (s : State) : State := if s.secretUnusable then s else s.loadSlot0

/-- The boot-critical set is loaded (R338, R339, R413); Sill runs its self-check and goes its way. A stop overrides every other response,
but no condition passes without its record (R343). -/
def State.bootLoaded (s : State) (c : CrcReads) : State :=
  if s.boot.phase ≠ .fuses then s
  else
    let s := s.loadBootFuses.loadSecret.releaseSill
    let n := s.stopDue c
    let s := (s.crcNote c).bootAlarms
    if n ≠ 0 then s.bootStop n else (s.switchAll sillDomains true).lifecyclePath

/-- BOOT_FUSE_LOAD_DONE (R339). -/
def execBootFuseLoadDone (crc : CrcReads) (s : State) : Host.Outcome State Fault Refusal :=
  .next (s.quiet.bootLoaded crc)

/-! ## Judgement (R347) -/

/-- A half's judgement of a mission container (R186, R347): the code, the failing group and the root it rebuilds, which is set against the
header and against the COMMIT that names the slot. -/
def State.halfJudge (s : State) (b : List Byte) (commit : Option JRec) (w : EngineWork) : Code × Nat × Digest :=
  let root := payloadRoot b ^^^ w.off
  match s.judge .mission b w with
  | some g => (g.fail, g.num, root)
  | none => if commit.any (fun r => r.root != root) then (.verifyFail, CheckGroup.image.num, root) else (.ok, 0, root)

/-- Both halves' judgements. -/
def State.bothJudge (s : State) (b : List Byte) (commit : Option JRec) (j : Judgement) : Both (Code × Nat × Digest) :=
  ⟨s.halfJudge b commit j.indigo, s.halfJudge b commit j.amber⟩

/-- Do the halves agree on code and root (R347). -/
def agreed (r : Both (Code × Nat × Digest)) : Bool := r.indigo.1 == r.amber.1 && r.indigo.2.2 == r.amber.2.2

/-- A second difference (R347): each half's core 0 raises its event. -/
def State.judgeDiffers (s : State) : State := (s.raise 1486).raise 1494

/-- `slot_result` of a slot (R360); where the halves' codes differ it is one of the two, a free choice (the object has one code for the
slot). -/
def State.slotResult (s : State) (i : Fin 2) (r : Both (Code × Nat × Digest)) : State :=
  let free := if (Config.freeByte s.free).getLsbD 0 then r.indigo.1 else r.amber.1
  let v := if r.indigo.1 = r.amber.1 then r.indigo.1.num else free.num
  let s := if r.indigo.1 = r.amber.1 then s else s.drawn
  { s with boot := { s.boot with results := if i = 0 then (v, s.boot.results.2) else (s.boot.results.1, v) } }

/-- A candidate is rejected (R347): SLOT_REJECT, and the next one; none left, RECOVER. -/
def State.rejectCandidate (s : State) (c : Candidate) (rest : List Candidate) (r : Both (Code × Nat × Digest)) : State :=
  let g := if r.indigo.2.1 ≠ 0 then r.indigo.2.1 else r.amber.2.1
  let s := s.logRec .slotReject noEvent 0 .sill [(1, c.slot.val), (1, r.indigo.1.num), (1, r.amber.1.num), (1, g)]
  let s := s.slotResult c.slot r
  let s := { s with boot := { s.boot with candidates := rest, rejudged := false, rejected := s.boot.rejected ++ [c] } }
  if rest.isEmpty then s.enterRecover else s

/-- TRIAL_BOOT of a trial that Sill is to boot (R237, R348): appended, or Sill waits on the gate with the boot timer stopped. -/
def State.trialBoot (s : State) (c : Candidate) : State :=
  match c.commit.bind fun q => s.upd.journal.find? fun r => r.seq == q with
  | some r =>
    if ! c.trial then s
    else
      let q : JRec := { JRec.of .trialBoot r.target with refSeq := r.seq, svn := r.svn, root := r.root, slot := r.slot }
      if s.mayStart (.journal q) then s.appendRec q
      else
        let left := s.boot.timer.map fun t => t - s.time
        let s := s.queueStep (.journal q)
        { s with boot := { s.boot with timer := none, timerLeft := left } }
  | none => s

/-- A candidate is accepted (R347). -/
def State.acceptCandidate (s : State) (c : Candidate) (root : Digest) (r : Both (Code × Nat × Digest)) : State :=
  let s := s.slotResult c.slot r
  let s := { s with boot := { s.boot with phase := .accepted, accepted := some (c, root), rejudged := false } }
  s.trialBoot c

/-- The first candidate has been judged (R347). -/
def State.candidateJudged (s : State) (j : Judgement) : State :=
  match s.boot.candidates with
  | [] => s
  | c :: rest =>
    let commit := c.commit.bind fun q => s.upd.journal.find? fun r => r.seq == q
    let r := s.bothJudge (s.slotContainer c.slot) commit j
    if agreed r then
      if r.indigo.1 = .ok then s.acceptCandidate c r.indigo.2.2 r else s.rejectCandidate c rest r
    else if ! s.boot.rejudged then { s with boot := { s.boot with rejudged := true } }
    else s.judgeDiffers.rejectCandidate c rest r

/-! ## RECOVER's installs (R357-R359) -/

/-- The slot that a recovered container goes to (R358): the one that failed its judgement, slot A when both failed or none was
judged. -/
def State.installSlot (s : State) : Fin 2 :=
  let failed (i : Fin 2) : Bool := s.boot.rejected.any fun c => c.slot == i
  if failed 1 && ! failed 0 then 1 else 0

/-- The upload staged in RECOVER fails: its update ends with the code, and another may begin (R209, R218, R357). -/
def State.uploadFails (s : State) (code : Code) : State :=
  let s := if s.boot.installing then s else s.pldmTell .mission 0x17 code.verifyResult
  let s := s.updTarget .mission fun u => { u.freed with state := 0, status := code }
  if s.upd.pldmComp = some .mission then { s with upd := { s.upd with pldm := .readyXfer, pldmComp := none, pldmReq := none } } else s

/-- A container fails its judgement in RECOVER (R358): an upload is answered with the code; Sill tries its next copy, or waits. -/
def State.recoverFails (s : State) (src : Nat) (code : Code) : State :=
  let s := if src = 4 then s.uploadFails code else s
  let s := { s with boot := { s.boot with installing := false, rejudged := false } }
  s.nextRecoverCopy

/-- The container staged in RECOVER has been judged (R357, R358): an accepted one is written to its slot. -/
def State.recoverJudged (s : State) (j : Judgement) : State :=
  match s.boot.recoverImage with
  | none => s
  | some (src, b) =>
    if s.boot.installing then s
    else
      let r := s.bothJudge b none j
      if agreed r then
        if r.indigo.1 = .ok then
          let s := if src = 4 then s.pldmTell .mission 0x17 0 else s
          let s := s.rewriteFlash (slotBase s.installSlot) slotSize b
          { s with boot := { s.boot with installing := true, rejudged := false } }
        else s.recoverFails src r.indigo.1
      else if ! s.boot.rejudged then { s with boot := { s.boot with rejudged := true } }
      else s.judgeDiffers.recoverFails src (if r.indigo.1 = .ok then r.amber.1 else r.indigo.1)

/-- MISSION_CANDIDATE_JUDGED (R347, R357). -/
def execMissionCandidateJudged (j : Judgement) (s : State) : Host.Outcome State Fault Refusal :=
  .next (match s.boot.phase with
    | .judging => s.quiet.candidateJudged j
    | .recover => s.quiet.recoverJudged j
    | _ => s)

/-- The slot has been read back and judged again (R358): COMMIT with flag bit 1, whose RECOVERY record and reset follow it. -/
def State.recoverInstalled (s : State) (j : Judgement) : State :=
  match s.boot.recoverImage with
  | none => s
  | some (src, _) =>
    if ! s.boot.installing ∨ s.recWaits .mission .commit ∨ s.recWaits .mission .recovery then s
    else
      let i := s.installSlot
      let b := s.slotContainer i
      let r := s.bothJudge b none j
      if agreed r ∧ r.indigo.1 = .ok then
        s.journalStep { JRec.of .commit Target.mission.code with
          svn := imgSvn b, root := imgRoot b, manifestRef := s.handleFor .mission (imgRoot b), slot := i.val, flags := 2,
          imageSize := imgSize b }
      else s.recoverFails src (if r.indigo.1 = .ok then r.amber.1 else r.indigo.1)

/-- RECOVER_INSTALL (R358). -/
def execRecoverInstall (j : Judgement) (s : State) : Host.Outcome State Fault Refusal :=
  .next (if s.boot.phase = .recover then s.quiet.recoverInstalled j else s)

end Sys2Proof.Machine
end

