-- ==== Sys2Proof/Machine/Table.lean ====
section
/-!
DEFINITION. What mission firmware makes of the stored configuration: the Channel Table of a start (R88-R90, R487), its edits (R105,
R106), the pin lists (R143, R268), and the board's registers (R312, R327, R334).
-/
namespace Sys2Proof.Machine

/-- The value of a configuration object of a channel, `new` in place of the stored one for the sub-index it names (R487). -/
def State.cfg (s : State) (c : ChanId) (new : Option (Nat × List Byte)) (sub : Nat) (d : List Byte) : List Byte :=
  match new with
  | some (i, v) => if i = sub then v else s.pget (0x0300 + c.val) sub d
  | none => s.pget (0x0300 + c.val) sub d

/-- The 32-byte entries of a rules object. -/
def ruleEntries (v : List Byte) : List (List Byte) := (List.range (v.length / 32)).map fun i => (v.drop (32 * i)).take 32

/-- Inserts a rule by ascending start, after those of the same start (R93). -/
def insertRule (r : List Byte) : List (List Byte) → List (List Byte)
  | [] => [r]
  | x :: xs => if fieldAt r 0 4 < fieldAt x 0 4 then r :: x :: xs else x :: insertRule r xs

/-- The entries sorted by ascending start, as mission firmware lays them out (R93). -/
def sortRules (rs : List (List Byte)) : List (List Byte) := rs.foldl (fun acc r => insertRule r acc) []

/-- Do rules sorted by start keep apart and inside the image (R93). -/
def rulesApart (rs : List (List Byte)) (extent : Nat) : Bool :=
  let ends (r : List Byte) : Nat := fieldAt r 0 4 + fieldAt r 4 4
  ((rs.zip (rs.drop 1)).all fun x => decide (ends x.1 ≤ fieldAt x.2 0 4)) && rs.all fun r => decide (ends r ≤ extent)

/-- The rule array of a value goes to a free place, and the descriptor names it (R106); a stored rule that the image in force does not
reach is left out (R93; DEDUCED, log entry 146). -/
def State.placeRules (s : State) (c : ChanId) (v : List Byte) : State :=
  let extent := (descOf (s.descBytes c)).mirrorExtent
  let rs := (sortRules (ruleEntries v)).filter fun r => decide (fieldAt r 0 4 + fieldAt r 4 4 ≤ extent)
  match s.freePlace (32 * rs.length) 32 with
  | some base => (s.store base rs.flatten).putField c 0x18 (leBytes 4 base ++ leBytes 2 rs.length)
  | none => s

/-- The SFDP image of a value goes to a free page, and the descriptor names it; an empty one names none (R487). -/
def State.placeSfdp (s : State) (c : ChanId) (v : List Byte) : State :=
  if v.isEmpty then s.putField c 0x08 (leBytes 4 0)
  else match s.freePlace 4096 4096 with
    | some base => (s.store base (v ++ List.replicate (4096 - v.length) 0)).putField c 0x08 (leBytes 4 base)
    | none => s

/-- The fields of a descriptor that the configuration gives directly (R90, R487). -/
def State.configFields (s : State) (c : ChanId) (new : Option (Nat × List Byte)) : State :=
  let n (sub : Nat) (d : List Byte) : Nat := leNat (s.cfg c new sub d)
  let flags := n 1 [0] + 2 * b2n (! (s.cfg c new 7 []).isEmpty) + 4 * n 0xC [1] + 8 * n 0xA [1]
  let policy := n 2 [0] + 256 * n 5 [3] + 65536 * n 6 [4]
  let out := n 3 [0xFF]
  let dflt := n 9 [0]
  let hours := n 0xB [0, 0]
  ((((s.putField c 1 (leBytes 1 flags)).putField c 4 (leBytes 3 policy)).putField c 0xC (leBytes 1 out)).putField c 0x1E
    (leBytes 1 dflt)).putField c 0xA2 (leBytes 2 hours)

/-- The image and golden fields of a descriptor from the COMMIT in force (R90, R222, R255). -/
def State.imageFields (s : State) (c : ChanId) : State :=
  match s.commitInForce (.chan c) with
  | none => s
  | some r =>
    let s := s.putField c 0x10 (leBytes 4 r.mirrorPage ++ leBytes 4 r.imageSize)
    let s := s.putField c 0x20 (leBytes 4 r.manifestRef ++ leBytes 4 r.svn ++ leBytes 4 (r.imageSize / 4096) ++ leBytes 4 r.seq
      ++ digestBytes r.root)
    match (s.setsOf (.chan c)).find? fun g => g.root == r.root with
    | some g =>
      let peers := (g.shards.filter fun l => l.acked).foldl (fun n l => n ||| 2 ^ l.device) 0
      s.putField c 0x90 (leBytes 4 g.handle ++ leBytes 1 g.k ++ leBytes 1 g.m ++ leBytes 1 g.state ++ leBytes 1 0 ++ leBytes 4 peers)
    | none => s

/-- All 256 bytes of a descriptor, before its first generation (R90). -/
def State.freshDesc (s : State) (c : ChanId) (new : Option (Nat × List Byte)) : State :=
  let s := s.putField c 0 (List.replicate 256 0)
  let s := ((s.putField c 0 (leBytes 1 (s.chan c).state.num)).configFields c new).imageFields c
  let s := (s.placeSfdp c (s.cfg c new 7 [])).placeRules c (s.cfg c new 8 [])
  (s.buildPins c).placePins c

/-- An edit of a channel's descriptor for a new value of a configuration object (R105, R106, R487). -/
def State.editConfig (s : State) (c : ChanId) (sub : Nat) (v : List Byte) : State :=
  let new := some (sub, v)
  let s := if (descOf (s.descBytes c)).gen = 0 then s.freshDesc c new
    else
      let s := s.configFields c new
      let s := if sub = 7 then s.placeSfdp c v else s
      if sub = 8 then s.placeRules c v else s
  s.newGeneration c .config

/-- The Channel Table of a start: every channel that the stored configuration enables gets its descriptor, after DORMANT its retained
one, under a new generation; the invalidates wait for the mirror's training (R89, R90; DESIGN CHOICE, log entry 42). -/
def State.startTable (s : State) : State :=
  ((List.finRange 64).foldl (fun (s : State) c =>
    if leNat (s.cfg c none 1 [0]) = 0 then s
    else
      let s := if (descOf (s.descBytes c)).gen = 0 then s.freshDesc c none else s.imageFields c
      (s.putField c 2 (leBytes 2 (s.newGen c))).updTarget (.chan c) fun u => { u with invalDue := true }) s).repostDigest

/-! ## The board's registers -/

/-- RAIL_CFGi from its objects (R334). -/
def State.railWord (s : State) (i : Fin 16) : Word :=
  BitVec.ofNat 32 (s.pnat 0x0501 (i.val + 1) 0 * 65536 + s.pnat 0x0502 (i.val + 1) 0)

/-- BUS_CFGi from its objects (R334): the nominal in units of 10 mV. -/
def State.busWord (s : State) (i : Fin 2) : Word :=
  let low := if i = 1 ∧ s.pnat 0x0512 1 0 = 1 then s.pnat 0x0512 2 0 else s.pnat 0x0511 (i.val + 1) 0
  BitVec.ofNat 32 (s.pnat 0x0510 (i.val + 1) 0 / 10 % 65536 * 65536 + low)

/-- The stored measurement configuration goes into the registers that the objects name (R326, R327, R334). -/
def State.boardMeasure (s : State) : State :=
  { s with
    ms := { s.ms with
      busFreeze := s.pnat 0x0514 1 0 != 0, bus1Current := s.pnat 0x0512 1 0 == 1, huEnable := s.pnat 0x0520 1 1 == 1,
      railCfg := Vector.ofFn s.railWord, busCfg := Vector.ofFn s.busWord } }

/-- The stored configuration of the sense inputs goes into SENSE_INVERT and SENSE_FILTER (R312). -/
def State.boardSense (s : State) : State :=
  let s := s.setInvert (BitVec.ofNat 32 (s.pnat 0x0D05 1 0))
  { s with hg := { s.hg with senseFilter := BitVec.ofNat 8 (s.pnat 0x0D05 2 10) } }

/-- Mission firmware carries the stored board configuration into the registers at its start. -/
def State.boardConfig (s : State) : State := s.boardMeasure.boardSense

/-- The stored release plan is staged at a start that lost the Headgate's (R314, R315). -/
def State.startPlan (s : State) : State :=
  match s.pget 0x0D00 1 [] with
  | [] => s
  | v =>
    { s with hg := { s.hg with planStage := planOf v, planStageGen := s.hg.planStageGen + 1,
                               staging := some (s.time, s.hg.planActive) } }

end Sys2Proof.Machine
end

