-- ==== Sys2Proof/Machine/Handover.lean ====
section
/-!
DEFINITION. Handover to mission firmware and its start (R225, R267, R350-R354), the warm restart (R37, R355), DORMANT and the wake
(R356, R543-R545), and the lifecycle request (R48-R50).
-/
namespace Sys2Proof.Machine

/-! ## The handover block (R353) -/

/-- The handle of a slot as the handover block names it; 0 for a slot left empty. -/
def State.blockHandle (s : State) (i : Fin 128) : Nat :=
  if (s.kslot i).state = .empty then 0 else (handleOf i (s.kslot i).gen).toNat

/-- `fuse_alarm` with the override bit (R360, R422). -/
def State.fuseAlarms (s : State) : Word16 := putBit s.boot.alarm 5 (! s.fuse.overrides.isEmpty)

/-- The flags of the handover block. -/
def State.blockFlags (s : State) : Nat :=
  b2n s.boot.trial + 2 * b2n (! s.boot.rejected.isEmpty) + 4 * b2n s.boot.trialFailPending + 8 * b2n s.boot.secretBad
  + 16 * b2n (! s.fuse.overrides.isEmpty)

/-- The 256 bytes of the handover block (R353). -/
def State.handoverBlock (s : State) : List Byte :=
  let b := ascii "SILH" ++ leBytes 1 1 ++ leBytes 1 s.boot.entry.num ++ leBytes 1 s.boot.slot ++ leBytes 1 s.blockFlags
    ++ leBytes 4 s.boot.commitSeq ++ leBytes 4 s.boot.svn ++ leBytes 1 (s.floorVal .mission) ++ leBytes 1 s.lifecycle.num
    ++ leBytes 2 s.fuseAlarms.toNat ++ leBytes 4 s.boot.timeUs ++ digestBytes s.boot.sillMeas ++ digestBytes s.boot.missionMeas
    ++ digestBytes s.boot.root ++ ([2, 3, 4, 5, 6, 7] : List (Fin 128)).flatMap (fun i => leBytes 4 (s.blockHandle i)) ++ leBytes 56 0
  b ++ leBytes 8 (crc64 b).toNat

/-! ## Handover (R350-R354) -/

/-- The base of secure SRAM's bank n (R29). -/
def sramBank (n : Nat) : Nat := 0x10000000 + n * 0x400000

/-- The measurements and the other facts of the container booted (R350, R353). -/
def State.takeMeasurements (s : State) (c : Candidate) (root : Digest) : State :=
  let b := s.slotContainer c.slot
  { s with boot := { s.boot with
    slot := c.slot.val, commitSeq := c.commit.getD 0, trial := c.trial, svn := imgSvn b, root := root, sillMeas := s.sillDigest,
    missionMeas := sha384 (b.take 256), timeUs := (s.time - s.boot.startAt) / usNs } }

/-- SRAM at handover (R354, R355, R356): banks 0 and 1 hold the handover block alone, bank 5 is cleared at a power-on reset. -/
def State.handoverMemory (s : State) : State :=
  let s := s.erase (sramBank 0) 0x800000
  let s := if s.boot.entry = .powerOn then s.erase (sramBank 5) 0x400000 else s
  s.store (sramBank 0) s.handoverBlock

/-- The measurement log's first records (R352). -/
def State.handoverLog (s : State) : State :=
  let s := s.logMeas .sillMeas [(48, s.boot.sillMeas.toNat)]
  s.logMeas .missionMeas [(48, s.boot.missionMeas.toNat), (1, s.boot.slot), (48, s.boot.root.toNat), (4, s.boot.svn)]

/-- A protection region that grants a supervisor everything from `base` to the granule at `last` (R470, R476). -/
def supervisorRegion (base last : Nat) : Region := ⟨BitVec.ofNat 32 base, BitVec.ofNat 32 last, 0x107⟩

/-- The regions at handover (R354): the slot booted, the extension region, the rest of eFlash behind the Sill region and before the
slots, and everything from secure SRAM up (DESIGN CHOICE for the last two, log entry 41). -/
def handoverRegions (i : Fin 2) : Vector Region 16 :=
  let v := Vector.replicate 16 ⟨0, 0, 0⟩
  let v := v.set 0 (supervisorRegion (slotBase i) (slotBase i + slotSize - 32))
  let v := v.set 1 (supervisorRegion extensionBase (extensionBase + extensionSize - 32))
  let v := v.set 2 (supervisorRegion 0x40000 0xFFFE0)
  v.set 15 (supervisorRegion 0x10000000 0xFFFFFFE0)

/-- The payload base of a slot's container (R354). -/
def State.payloadBase (s : State) (i : Fin 2) : Word := BitVec.ofNat 32 (slotBase i + imgPayloadAt (s.slotContainer i))

/-- The cores at handover (R354): every core's regions narrowed; core 0 of each half jumps to the payload base. -/
def State.handoverCores (s : State) (i : Fin 2) : State :=
  let base := s.payloadBase i
  let at_ (k : CoreId) (c : Core) : Core :=
    let c := { c with regions := handoverRegions i }
    if k.val = 0 ∨ k.val = 4 then { c with pc := base, imageBase := base } else c
  { s with cores := Vector.ofFn fun k : Fin 12 => at_ k s.cores[k] }

/-! ## Mission firmware's start (R225, R237, R267) -/

/-- FILL_MAP at handover (R267). -/
def initialFillMap : Vector (Fin 8) 32 := Vector.ofFn fun p : Fin 32 => ⟨p.val % 8, Nat.mod_lt _ (by decide)⟩

/-- The trace area's slot of a new boot (R224): the oldest is erased for it. -/
def State.newTraceSlot (s : State) : State :=
  let s := { s with upd := { s.upd with traces := (s.upd.bootTraces :: s.upd.traces).take 3, traceBoot := s.upd.traceBoot + 1, bootTraces := [] } }
  if s.dev.freeze then s else s.erase (traceBase s.upd.traceBoot) 0xC000

/-- An open INTENT is abandoned at start-up (R225). -/
def State.abandonIntent (s : State) (r : JRec) : State :=
  s.journalStep { JRec.of .abandon r.target with
    refSeq := r.seq, svn := r.svn, root := r.root, flags := 4, aux := Code.frameAbort.num }

/-- A target's pending steps begin at `st` (R225). -/
def State.resumeAt (s : State) (t : Target) (w : JRec) (loser : Nat) (st : Nat) : State :=
  s.updTarget t fun u =>
    { u with state := st, commit := w.seq, supersedes := loser, atStart := true, recovered := w.flags.testBit 1 }

/-- What is left to do for a target's COMMIT in force (R225): SWITCHED, the losers' RETIRED, the floor. -/
def State.resumeCommit (s : State) (t : Target) (w : JRec) (switched : Bool) : State :=
  let losers := (s.liveCommits t).filter fun r => r.seq != w.seq
  let loser := (losers.head?.map fun r => r.seq).getD 0
  let done (ty : JType) : Bool := s.upd.journal.any fun q => q.names w.seq [ty]
  let s := if losers.any (fun r => decide (w.seq < r.seq)) then s.updTarget t fun u => { u with status := .rollback } else s
  if ! switched && ! done .switched then s.resumeAt t w loser 5
  else if ! losers.isEmpty then s.resumeAt t w loser 6
  else if done .floor then s
  else
    let s' := s.resumeAt t w 0 7
    if s'.floorSkipped t then s else s'

/-- Of the pending steps, RETIRED and FLOOR are carried out at once, each under the gate (R225); a SWITCHED that is missing waits for the
flash. -/
def State.runSteps (s : State) (t : Target) : State :=
  let s := if (s.target t).atStart then s.updRetire t else s
  if (s.target t).atStart then s.drawn.updFloor t s.freeBurn else s

/-- The pending steps of a target at a start-up in HOLD (R225); mission firmware's after a trial wait for its CONFIRM. -/
def State.pendingSteps (s : State) (t : Target) : State :=
  let s := (s.openIntents.filter fun r => r.target == t.code).foldl State.abandonIntent s
  match s.commitInForce t with
  | none => s
  | some w =>
    match t with
    | .mission => if w.seq = s.boot.commitSeq ∧ ! s.boot.trial then (s.resumeCommit t w true).runSteps t else s
    | _ => (s.resumeCommit t w false).runSteps t

/-- The on-request floor advances that an earlier run did not complete (R193). -/
def State.dueFloors (s : State) : State :=
  s.upd.floorDue.foldl (fun (s : State) t => (s.drawn.advanceFloor t s.freeBurn).settleFloor t) s

/-- The trial booted is the update of mission firmware under way (R235, R237). -/
def State.trialTarget (s : State) : State :=
  if s.boot.trial then
    let old := (((s.liveCommits .mission).filter fun r => r.seq != s.boot.commitSeq).foldl betterCommit none).map fun r => r.seq
    s.updTarget .mission fun u => { u with state := 4, commit := s.boot.commitSeq, supersedes := old.getD 0 }
  else s

/-- The confirm timer armed for its configured time (R237, R348). -/
def State.armConfirm (s : State) : State :=
  let n := s.pnat 0x0A31 1 120
  { s with hg := { s.hg with confirmCfg := BitVec.ofNat 16 n, confirm := some (s.time + n * secNs) } }

/-- TRIAL_FAIL records that Sill could not append wait for the gate, with flag bit 2 (R348). -/
def State.queueTrialFails (s : State) : State :=
  if s.boot.trialFailPending then s.failedTrials.foldl (fun (s : State) r => s.gatedAppend (trialFailRec r 4)) s else s

/-- The verdicts that a warm restart kept from a channel past its COMMIT (R37, R236). -/
def State.repostCommit (s : State) (c : ChanId) : State :=
  let u := s.target (.chan c)
  let ch := s.chan c
  if u.state = 5 ∧ ch.staged.isNone ∧ ch.desc.merkleRoot = imgRoot u.container ∧ ! s.verdictsRelease c then
    (s.commitVerdicts c).switchCheck (.chan c)
  else s

/-- A channel update past its COMMIT goes on over a warm restart; its remaining steps are those of a start-up (R225, R236). -/
def State.continueUpdate (s : State) (c : ChanId) : State :=
  let s := if 5 ≤ (s.target (.chan c)).state then s.updTarget (.chan c) fun u => { u with atStart := true } else s
  s.repostCommit c

/-- Mission firmware starts in HOLD (R34 cause 1, R225, R309). -/
def State.startInHold (s : State) : State :=
  let s := ((s.setMode .hold 1).enterHold).boardConfig
  let s := if s.boot.trial then s.armConfirm else s
  let s := (allTargets.foldl State.pendingSteps s.newTraceSlot).dueFloors
  let s := (if s.boot.extRuns then s.extensionSwitch else s).trialTarget
  (if s.hg.planActiveGen = 0 then s.startPlan else s).startTable

/-- Mission firmware starts after a warm restart (R37, R236-R238): the mode stays UPDATE under a trial; another slot than the trial's
ends the update. -/
def State.startWarm (s : State) : State :=
  let s := { s with hg := { s.hg with warm := false } }
  let s := (List.finRange 64).foldl State.continueUpdate s
  if s.boot.trial then s.trialTarget
  else ({ s with hg := { s.hg with confirm := none } }.updEnd .mission .verifyFail).updateModeEnds

/-- Mission firmware runs (R354): what it sets first. -/
def State.startMission (s : State) : State :=
  let s := { s with
    boot := { s.boot with phase := .running, timer := none, timerLeft := none, service := 0, candidates := [], accepted := none },
    hash := { s.hash with fillMap := Both.rep initialFillMap }, fuse := { s.fuse with reburnDue := true } }
  let s := s.queueTrialFails.extensionStart
  let s := if s.boot.entry = .warm then s.startWarm else s.startInHold
  s.restoreExtension.compactIfDue

/-- Handover (R350-R354). -/
def State.handOver (s : State) : State :=
  match s.boot.phase, s.boot.accepted with
  | .accepted, some (c, root) =>
    if s.trialBootWaits then s
    else
      let s := (s.takeMeasurements c root).missionIdentity
      (s.handoverMemory.handoverLog.handoverCores c.slot).startMission
  | _, _ => s

/-! ## The warm restart (R33, R37, R355) -/

/-- What the management cores and mission firmware lose (R33, R355): sessions, transfers, volatile objects, verifications. -/
def State.dropFirmware (s : State) : State :=
  let s := { s.endSessions.dropTransfers with spdm := { Spdm.reset with nextId := s.spdm.nextId } }
  { s with
    rill := { s.rill with volatile := [], cursors := [], outstanding := [], extObjs := [] },
    upd := { s.upd with vers := Both.rep [], pldm := .idle, pldmComp := none, pldmReq := none, pldmApplied := [] } }

/-- The hash and big-number jobs of both halves end, the watchdogs are disarmed (R33, R537). -/
def State.dropJobs (s : State) : State :=
  let s := (s.dropHash .indigo).dropHash .amber
  let s := pkeAbortAs .amber .frameAbort (pkeAbortAs .indigo .frameAbort s)
  ([0, 1, 2, 3] : List (Fin 4)).foldl State.disarmWdog s

/-- Start-up begins anew for a warm restart: what it has to decide is open again. -/
def State.warmBoot (s : State) : State :=
  { s with boot := { s.boot with
    entry := .warm, startAt := s.time, candidates := [], rejudged := false, rejected := [], accepted := none, trialFailPending := false,
    trialWaits := false, warmAsked := false, extRuns := false, phase := .judging } }

/-- Is a trial there that has not been booted (R237). -/
def State.trialDue (s : State) : Bool := (s.liveCommits .mission).any fun r => s.unconfirmed r && ! s.trialTried r

/-- Sill's self-check at a warm restart, and the choice after it (R342, R355). -/
def State.warmCheck (s : State) (c : CrcReads) : State :=
  let n := s.crcStop c
  if n ≠ 0 then s.bootStop n else (s.crcNote c).chooseMission

/-- A warm restart (R355): cores and SRAM banks 0 and 1 reset, slot 0 loaded again, the self-check, the choice. -/
def State.warmRestart (s : State) (c : CrcReads) : State :=
  if s.dev.mode ≠ .update ∨ ! s.boot.warmAsked ∨ s.boot.phase ≠ .running then s
  else
    let s := s.dropFirmware.dropJobs.warmBoot.releaseSill
    let s := (s.erase (sramBank 0) 0x800000).dropOverrides.kvWarm.loadSecret
    let s := { s with
      log := { s.log with meas := [] }, ms := { s.ms with valid := false, holdupMs := 0, huStep := none }, hg := { s.hg with warm := true } }
    let s := if s.trialDue then s.armConfirm else s
    s.warmCheck c

/-- WARM_RESTART (R355). -/
def execWarmRestart (crc : CrcReads) (s : State) : Host.Outcome State Fault Refusal := .next (s.quiet.warmRestart crc)

/-! ## DORMANT and the wake (R356, R543-R545) -/

/-- The links that are up (R290, R543). -/
def State.anySession (s : State) : Bool := s.pak.links.toList.any fun k => k.session

/-- A member sends LEAVE (R290). -/
def State.sendLeave (s : State) : State := if s.anySession then s.send 0x12 0xFF [] else s

/-- The wake configuration copied to PWRCLK (R543 step 3, R549). -/
def State.wakeConfig (s : State) : State :=
  let t := leNat (s.vget 0x0801 3 [])
  { s with pw := { s.pw with
    wakeSense := BitVec.ofNat 32 (s.pnat 0x0801 1 0), wakePin := s.pnat 0x0801 2 1 != 0, wakeTimerOn := t != 0,
    wakeTimer := BitVec.ofNat 24 t, wakeAt := if t = 0 then none else some (s.time + t * secNs) } }

/-- The domains that go off at DORMANT entry, in reverse order (R539, R543): all but AON and SRAM banks 4 and 5. -/
def dormantOff : List (Fin 39) :=
  [27, 26, 25, 22, 21, 20, 19, 18, 17, 16, 15, 14, 13, 12, 11, 24, 23, 32, 29, 10, 9, 8, 7, 5, 4, 31, 36, 35, 34, 33, 30, 6, 3, 2, 28]

/-- What is not in AON and SRAM banks 4 and 5 is lost (R33, R542, R543). -/
def State.dormantLoss (s : State) : State :=
  let s := s.kvOff true
  { s with
    cores := Vector.replicate 12 Core.reset, hash := { HashGrp.reset with engines := s.hash.engines.map Engine.kept }, ms := Measure.reset, spdm := Spdm.reset, spi := Spi.reset,
    rill := s.rill.kept, mbox := Vector.replicate 16 Mailbox.empty, upd := s.upd.kept, cis := s.cis.kept,
    pak := s.pakorLost.pak,
    boot := { Boot.reset with stopCode := s.boot.stopCode, lastStop := s.boot.lastStop },
    pw := { s.pw with rootLock := false, queue := [] }, dev := { s.dev with dormantSeq := false },
    log := { s.log with meas := [], noted := [] },
    mem := s.mem.filter fun x => decide (x.1 < sramBank 0) || (decide (sramBank 4 ≤ x.1) && decide (x.1 < sramBank 6)) }

/-- DORMANT entry (R34 cause 9, R543) from HOLD or GUARD, once the last output of the sequence has asserted. -/
def State.dormantEntry (s : State) : State :=
  if ! s.dev.dormantSeq ∨ s.hg.out ≠ 0 ∨ ! s.dev.mode.mayBecome .dormant then s
  else
    let s := ((s.setMode .dormant 9).puenLow.sendLeave).linksDown
    let s := s.storePut 0x0801 5 (leBytes 4 (satInc 32 (s.pnat 0x0801 5 0)))
    (s.endSessions.wakeConfig.switchAll dormantOff false).dormantLoss

/-- DORMANT_ENTRY (R543). -/
def execDormantEntry (s : State) : Host.Outcome State Fault Refusal := .next s.quiet.dormantEntry

/-- Is the wake source enabled (R545). -/
def State.wakeEnabled (s : State) : WakeSource → Bool
  | .pin => s.pw.wakePin
  | .sense i => s.pw.wakeSense.getLsbD i.val
  | .timer => s.pw.wakeAt.isSome

/-- A wake (R34 cause 10, R356, R534, R545): start-up from step 2, with EVENTS at reset. -/
def State.wake (s : State) (src : WakeSource) : State :=
  if s.dev.mode ≠ .dormant ∨ ! s.wakeEnabled src then s
  else
    let s := match src with
      | .timer => s.advanceTo (s.pw.wakeAt.getD s.time)
      | _ => s
    let s := { s with
      pw := { s.pw with wakeCause := src.num, wakeAt := none }, ev := Events.reset, fuse := s.fuse.kept,
      boot := { s.boot with phase := .pll, entry := .wake, startAt := s.time } }
    s.setMode .cold 10

/-- WAKE (R545). -/
def execWake (src : WakeSource) (s : State) : Host.Outcome State Fault Refusal := .next (s.quiet.wake src)

/-! ## The lifecycle request (R48-R50, R412) -/

/-- May the code be requested from the present lifecycle: the next one or SCRAP (R48). -/
def Lifecycle.mayRequest (l : Lifecycle) (code : Nat) : Bool := l != .scrap && (code == l.num + 1 || code == 5)

/-- The modes in which a code is taken (R48, R51, R345). -/
def State.lifecycleMode (s : State) (code : Nat) : Bool :=
  match s.dev.mode with
  | .hold | .guard => true
  | .service => (s.lifecycle == .test && code == 2) || code == 5
  | .recover => code == 5 && (s.boot.service == 1 || s.lifecycle == .rma)
  | _ => false

/-- A region's lock and content stand in the way of a request (R49, R343, R412). -/
def State.lifecycleIncomplete (s : State) (code : Nat) : Bool :=
  let factory := [0, 1, 2, 10].all s.regionLocked
  s.boot.otherBad
  || (code == 2 && ! factory)
  || (code == 3 && (! factory || ! s.regionLocked 7 || s.ownerSlotState 0 != 1 || s.boot.secretBad))

/-- The refusals of a lifecycle request, its class's apart. -/
def State.lifecycleRefusals (s : State) (code : Nat) : List Code :=
  (if s.lifecycleMode code then [] else [.refusedState])
  ++ (if s.lifecycle.mayRequest code then [] else [.badRange])
  ++ (if s.lifecycleIncomplete code then [.fuseIncomplete] else [])
  ++ (if s.fuseBusy || s.dev.freeze || ! s.tempOk then [.busy] else [])

/-- The steps of P0 that a code asks for and that are not set (R47, R50). -/
def State.lifecycleSteps (s : State) (code : Nat) : Word :=
  (BitVec.ofNat 32 (2 ^ code - 1)) &&& ~~~ (s.fuse.priv[privIx 0]).loose

/-- An accepted lifecycle request (R50): outputs asserted, LEAVE, the vault zeroised, the bits burned and read back, the device
reset; the answer says what the burn came to. -/
def State.lifecycleAdvance (s : State) (code : Nat) (b : BurnOutcome) : State × Code :=
  let s := { s with dev := { s.dev with lifecycleReq := code } }
  let s := s.puenLow.sendLeave.kvZeroise
  let steps := s.lifecycleSteps code
  let r := s.burnPriv 0 steps steps b
  let s := if r.2.ok && ! r.2.cold then r.1.stepEvents true 0 steps else r.1
  let e := s.burnEnd r.2 (20000 + 10000 * r.2.burned)
  let out := e.1.internalReset 0
  ({ out with pak := { out.pak with sent := e.1.pak.sent } }, e.2)

/-- A write of `lifecycle_request` (R50). -/
def State.lifecycleObj (s : State) (who : Requester) (code : Nat) (b : BurnOutcome) : State :=
  s.objWrite who .lifecycle .rwa false 0x0201 2 none (s.lifecycleRefusals code) fun s => s.lifecycleAdvance code b

/-- LIFECYCLE_REQUEST (R50). -/
def execLifecycleRequest (who : Requester) (code : Byte) (burn : BurnOutcome) (s : State) : Host.Outcome State Fault Refusal :=
  .next (s.quiet.lifecycleObj who code.toNat burn)

end Sys2Proof.Machine
end

