-- ==== Sys2Proof/Machine/Mbox.lean ====
section
/-!
DEFINITION. The sixteen mailboxes and their doorbells (chapter 18, R519-R523, R526, R528): the requester's side, which the SPI
management port and Rill share, and the home side, the MBOX registers.
-/
namespace Sys2Proof.Machine

/-- Base of MBOX (R528). -/
def mboxBase : Nat := 0x400B0000

/-- A mailbox's record. -/
def State.box (s : State) (m : Fin 16) : Mailbox := s.mbox[m]
/-- The state with a mailbox's record changed. -/
def State.updBox (s : State) (m : Fin 16) (f : Mailbox → Mailbox) : State := { s with mbox := vupd s.mbox m f }

/-- In COLD and RECOVER Sill serves every mailbox, whatever its home (R522). -/
def State.sillServes (s : State) : Bool := s.dev.mode == .cold || s.dev.mode == .recover

/-- The domain of a mailbox's home is on (R522); the home of no steward is not off. -/
def State.homeOn (s : State) (m : Fin 16) : Bool :=
  s.sillServes ||
  match (s.box m).home.toNat with
  | 0 => s.domOn 28
  | 1 => s.domOn 2
  | 2 => s.domOn 3
  | _ => match s.hg.steward with
    | some h => s.domOn h.cluster
    | none => true

/-- Is the core on a mailbox's home side (R522). -/
def State.homeCore (s : State) (m : Fin 16) (k : CoreId) : Bool :=
  if s.sillServes then s.sillCore k || isMgmtCore k else
  match (s.box m).home.toNat with
  | 0 => isMgmtCore k
  | 1 => coreHalf k == some .indigo
  | 2 => coreHalf k == some .amber
  | _ => s.stewardCore k

/-- MSTATUS as host and firmware read it (R519, table MSTATUS). -/
def Mailbox.status (b : Mailbox) (m : Fin 16) : Word :=
  BitVec.ofNat 32 (b2n b.inFull * 2 ^ 31 + b2n b.outFull * 2 ^ 30 + b2n (decide (m.val < 8)) * 2 ^ 29
    + b.home.toNat * 2 ^ 27 + b.outLen * 2 ^ 16 + b.inLen)

/-- An event of mailbox `m` by offset (R529). -/
def mboxEvent (m : Fin 16) (off : Nat) : Nat := 1328 + 4 * m.val + off

/-! ## What a request does -/

/-- A vector of bytes with a run of bytes put at an offset. -/
def putBytes {n : Nat} (v : Vector Byte n) (o : Nat) (bs : List Byte) : Vector Byte n :=
  Vector.ofFn fun i => if o ≤ i.val ∧ i.val < o + bs.length then bs.getD (i.val - o) 0 else v[i]

/-- Posts the inbound buffer with a length (R520). -/
def State.boxPost (s : State) (m : Fin 16) (len : Nat) : State :=
  (s.updBox m fun b => { b with inFull := true, inLen := len }).raise (mboxEvent m 0)

/-- Acknowledges the outbound message (R520); nothing where none is posted. -/
def State.boxAck (s : State) (m : Fin 16) : State :=
  if (s.box m).outFull then (s.updBox m fun b => { b with outFull := false }).raise (mboxEvent m 2) else s

/-- Acknowledges the message that the POST before it in the same cycle replaced: the new one stands (R523). -/
def State.boxAckEarlier (s : State) (m : Fin 16) : State :=
  if (s.box m).postFound then (s.updBox m fun b => { b with postFound := false }).raise (mboxEvent m 2) else s

/-- Sets IN bits; MBmm_RING where one of them is unmasked (R521). -/
def State.boxRing (s : State) (m : Fin 16) (mask : Word) : State :=
  (s.updBox m fun b => { b with inBits := b.inBits ||| mask }).raiseIf (mask &&& (s.box m).inMask != 0) (mboxEvent m 1)

/-- Clears OUT bits (R521). -/
def State.boxOutClear (s : State) (m : Fin 16) (mask : Word) : State :=
  s.updBox m fun b => { b with outBits := b.outBits &&& ~~~ mask }

/-! ## The requester's side -/

/-- A code with which a refused access raises MBmm_REFUSED (R529). -/
def mboxRefusal : Code → Bool
  | .full | .empty | .domainOff | .deniedAuth => true
  | _ => false

/-- MBmm_REFUSED where an access ended with such a code: one record per mailbox per second (R529). -/
def State.boxRefused (s : State) (m : Fin 16) (c : Code) : State :=
  if mboxRefusal c then s.raiseLog1 (mboxEvent m 3) 0 [(1, m.val), (1, c.num)] else s

/-- A firmware responder serves the SPI management port: Sill's or mission firmware's (R506). -/
def State.responder (s : State) : Bool :=
  match s.boot.phase with
  | .held | .pll | .fuses | .stopped => false
  | _ => s.domOn 28 && s.dev.mode != .dormant

/-- The SPI management port answers (R506). -/
def State.portAnswers (s : State) : Bool :=
  s.pw.rootLock && s.dev.mode != .dormant && ! s.transportOff spiEndpoint && s.boot.phase != .held && s.boot.phase != .pll

/-- The refusals of an access to a mailbox from outside that hold for every access: the home domain off (R522), and a secure mailbox
without authorisation, never given on the port (R518, R526). -/
def State.boxRefusals (s : State) (m : Fin 16) (authorised : Bool) : List Code :=
  (if s.homeOn m then [] else [.domainOff]) ++ (if m.val < 8 && ! authorised then [.deniedAuth] else [])

/-- An access of the SPI port to a mailbox: its first refusal, or the act; mailbox 15's inbound side needs no responder (R506,
R522). -/
def State.boxPort (s : State) (m : Fin 16) (hw : Bool) (own : List Code) (act : State → State) : State × Code :=
  match Code.first (s.boxRefusals m false ++ (if s.responder || hw then [] else [.refusedState]) ++ own) with
  | some c => (s.boxRefused m c, c)
  | none => (act s, .ok)

/-- The state with the port's last code (R511). -/
def State.portCode (r : State × Code) : State := { r.1 with spi := { r.1.spi with lastCode := r.2 } }

/-- A Rill write of a mailbox object (R526). -/
def State.boxRill (s : State) (who : Requester) (m : Fin 16) (index : Nat) (own : List Code) (act : State → State) : State :=
  let r := s.objWrite who .write .rw false index (m.val + 1) none (s.boxRefusals m (s.authorised who) ++ own) fun s => (act s, .ok)
  if s.answers who then r.boxRefused m r.rill.lastCode else r

/-- An access from outside by its source. -/
def State.boxAccess (s : State) (m : Fin 16) (src : MboxFrom) (index : Nat) (own : List Code) (act : State → State) : State :=
  match src with
  | .port => if s.portAnswers then State.portCode (s.boxPort m false own act) else s
  | .rill who => s.boxRill who m index own act

/-- in_full refuses a further write or post (R520). -/
def Mailbox.fullCode (b : Mailbox) : List Code := if b.inFull then [.full] else []

/-- The same for a post in the cycle of a TAKE that stands before it: judged against in_full before that TAKE (R523). -/
def Mailbox.postCode (b : Mailbox) (taken : Bool) : List Code := if b.inFull || taken && b.tookFull then [.full] else []

/-- in_len written through the port (R520, R506): 0 posts nothing; above 256 BAD_RANGE. -/
def State.boxPortPost (s : State) (m : Fin 16) (len : Nat) (taken : Bool) : State × Code :=
  let own := if len = 0 then [] else (if 256 < len then [Code.badRange] else []) ++ (s.box m).postCode taken
  s.boxPort m (m.val == 15) own fun s => if len = 0 then s else s.boxPost m len

/-- A write of `mbox_in`: the value is the message (R526). -/
def State.boxRillPost (s : State) (who : Requester) (m : Fin 16) (data : List Byte) (taken : Bool) : State :=
  let own := if data.length = 0 then [] else (if 256 < data.length then [Code.badType] else []) ++ (s.box m).postCode taken
  s.boxRill who m 0x0110 own fun s =>
    if data.length = 0 then s else (s.updBox m fun b => { b with inBuf := putBytes b.inBuf 0 data }).boxPost m data.length

/-- R520, R523: an inbound post, by the port or by a write of `mbox_in`. -/
def execMboxInboundPost (m : Fin 16) (p : MboxPost) (taken : Bool) (s : State) : Host.Outcome State Fault Refusal :=
  .next (match p with
    | .port len => if s.portAnswers then State.portCode (s.boxPortPost m len taken) else s
    | .rill who data => s.boxRillPost who m data taken)

/-- R520, R523: out_full written 1, or `mbox_out_ack` written true. -/
def execMboxOutAck (m : Fin 16) (src : MboxFrom) (posted : Bool) (s : State) : Host.Outcome State Fault Refusal :=
  .next (s.boxAccess m src 0x0112 [] fun s => if posted then s.boxAckEarlier m else s.boxAck m)

/-- R521: OUT bits cleared from outside; of a set and a clear of one bit in one cycle the set takes effect (R523). -/
def execMboxOutClear (m : Fin 16) (src : MboxFrom) (mask setting : Word) (s : State) : Host.Outcome State Fault Refusal :=
  .next (s.boxAccess m src 0x0114 [] fun s => s.boxOutClear m (mask &&& ~~~ setting))

/-- R521: IN bits set from outside. -/
def execMboxInRing (m : Fin 16) (src : MboxFrom) (mask : Word) (s : State) : Host.Outcome State Fault Refusal :=
  .next (s.boxAccess m src 0x0113 [] fun s => s.boxRing m mask)

/-! ## The home side -/

/-- A home-side access: DOMAIN_OFF where MBOX or the home is off, DENIED_ACCESS to any other initiator (R522). -/
def State.homeAccess (s : State) (k : CoreId) (m : Fin 16) (own : List Code) (act : State → State) : State × Code :=
  match Code.first ((if s.domOn 28 && s.homeOn m then [] else [.domainOff])
      ++ (if s.homeCore m k then [] else [.deniedAccess]) ++ own) with
  | some c => (s, c)
  | none => (act s, .ok)

/-- TAKEm (R520, R528). -/
def State.mboxTake (s : State) (k : CoreId) (m : Fin 16) (v : Word) : State × Code :=
  s.homeAccess k m [] fun s => if v.getLsbD 0 then s.updBox m fun b => { b with inFull := false, tookFull := b.inFull } else s

/-- POSTm (R520, R528); beside an acknowledgement in the same cycle the new post stands (R523). -/
def State.mboxPost (s : State) (k : CoreId) (m : Fin 16) (v : Word) (acked : Bool) : State × Code :=
  let n := v.toNat % 512
  s.homeAccess k m ((if n = 0 ∨ 256 < n then [.badRange] else []) ++ (if (s.box m).outFull && ! acked then [.full] else []))
    fun s => s.updBox m fun b => { b with outFull := true, outLen := n, postFound := b.outFull }

/-- INm: clears IN bits (R521, R528). -/
def State.mboxInClear (s : State) (k : CoreId) (m : Fin 16) (v : Word) : State × Code :=
  s.homeAccess k m [] fun s => s.updBox m fun b => { b with inBits := b.inBits &&& ~~~ v }

/-- OUTm: sets OUT bits (R521, R528). -/
def State.mboxOutSet (s : State) (k : CoreId) (m : Fin 16) (v : Word) : State × Code :=
  s.homeAccess k m [] fun s => s.updBox m fun b => { b with outBits := b.outBits ||| v }

/-- IN_MASKm (R521, R528). -/
def State.mboxInMask (s : State) (k : CoreId) (m : Fin 16) (v : Word) : State × Code :=
  s.homeAccess k m [] fun s => s.updBox m fun b => { b with inMask := v }

/-- CTLm: the steward alone sets the home (R522, R528). -/
def State.mboxCtl (s : State) (k : CoreId) (m : Fin 16) (v : Word) : State × Code :=
  match Code.first ((if s.domOn 28 && s.homeOn m then [] else [.domainOff])
      ++ (if s.stewardCore k || (s.sillServes && s.sillCore k) then [] else [.deniedAccess])) with
  | some c => (s, c)
  | none => (s.updBox m fun b => { b with home := v.setWidth 2 }, .ok)

/-- OUTBUFm: home-side bytes, FULL while out_full (R520, R528). -/
def State.mboxOutBuf (s : State) (k : CoreId) (m : Fin 16) (o : Nat) (bs : List Byte) : State × Code :=
  s.homeAccess k m (if (s.box m).outFull then [.full] else []) fun s =>
    s.updBox m fun b => { b with outBuf := putBytes b.outBuf o bs }

/-- Bus address of a register of mailbox `m` (R528). -/
def mboxReg (m : Fin 16) (off : Nat) : Nat := mboxBase + m.val * 0x40 + off

/-- R520: a write of TAKEm. -/
def execMboxTake (core : CoreId) (m : Fin 16) (value : Word) (s : State) : Host.Outcome State Fault Refusal :=
  .next (s.busEnd core (mboxReg m 0x18) (s.mboxTake core m value))

/-- R520: a write of POSTm. -/
def execMboxPost (core : CoreId) (m : Fin 16) (value : Word) (acked : Bool) (s : State) : Host.Outcome State Fault Refusal :=
  .next (s.busEnd core (mboxReg m 0x1C) (s.mboxPost core m value acked))

/-- R521: a write of INm; of a set and a clear of one bit in one cycle the set takes effect (R523). -/
def execMboxInClear (core : CoreId) (m : Fin 16) (mask ringing : Word) (s : State) : Host.Outcome State Fault Refusal :=
  .next (s.busEnd core (mboxReg m 0x08) (s.mboxInClear core m (mask &&& ~~~ ringing)))

/-- R521: a write of OUTm. -/
def execMboxOutSet (core : CoreId) (m : Fin 16) (mask : Word) (s : State) : Host.Outcome State Fault Refusal :=
  .next (s.busEnd core (mboxReg m 0x10) (s.mboxOutSet core m mask))

end Sys2Proof.Machine
end

