-- ==== Sys2Proof/Machine/Dict.lean ====
section
/-!
DEFINITION. The object dictionary (chapter 17): the objects of every chapter's table, what a read of each returns, and the refusals
of reads and writes.
-/
namespace Sys2Proof.Machine

/-! ## The objects -/

/-- A row of an object table. -/
def ob (lo hi subLo subHi : Nat) (type : ObjType) (access : Access) (persist : Persist) (dflt : List Byte) : ObjRow :=
  { lo := lo, hi := hi, subLo := subLo, subHi := subHi, type := type, access := access, persist := persist, dflt := dflt }

/-- A row of one index and one sub-index. -/
def ob1 (index sub : Nat) (type : ObjType) (access : Access) (persist : Persist) (dflt : List Byte) : ObjRow :=
  ob index index sub sub type access persist dflt

/-- A row of one index and a run of sub-indices from 1. -/
def obN (index n : Nat) (type : ObjType) (access : Access) (persist : Persist) (dflt : List Byte) : ObjRow :=
  ob index index 1 n type access persist dflt

/-- Types, identity and communication, mailboxes (R479, R486, R379, R526, R504). -/
def objIdentity : List ObjRow :=
  [ob 1 0xE 1 1 .u32 .const .f [], ob 1 0xE 2 2 (.str 16) .const .f [],
   ob1 0x0100 1 (.str 32) .const .f (ascii "Fjararis Microsystems"), ob1 0x0100 2 (.str 16) .const .f (ascii "GV4896-B1"),
   ob1 0x0100 3 .u64 .ro .v [], ob1 0x0100 4 .u32 .const .f [], ob1 0x0100 5 .u8 .const .f [1],
   ob1 0x0100 6 .u32 .const .f (leBytes 4 101182),
   ob1 0x0101 1 .u32 .ro .f [], ob 0x0101 0x0101 2 5 .u8 .ro .f [],
   ob1 0x0102 1 .u8 .ro .v [], ob 0x0102 0x0102 2 3 .u8 .rwp .p [0x3A], ob1 0x0102 4 .bool .rwa .p [1],
   ob 0x0102 0x0102 0x10 0x11 .u32 .ro .v [],
   obN 0x0110 16 (.oct 256) .rw .v [], obN 0x0111 16 (.oct 256) .ro .v [], obN 0x0112 16 .bool .rw .v [],
   ob 0x0113 0x0114 1 16 .u32 .rw .v []]

/-- Mode, lifecycle, stewardship, start-up (R58, R360). -/
def objMode : List ObjRow :=
  [ob 0x0200 0x0200 1 3 .enum8 .ro .v [], ob1 0x0201 1 .enum8 .ro .f [], ob1 0x0201 2 .enum8 .rwa .v [],
   ob1 0x0202 1 .enum8 .ro .v [], ob1 0x0202 2 .u32 .ro .v [], ob1 0x0202 3 .u8 .ro .v [], ob1 0x0202 4 .u32 .ro .p (leBytes 4 0),
   ob1 0x0203 1 .bool .rwa .v [],
   ob 0x0204 0x0204 1 2 .enum8 .ro .v [], ob 0x0204 0x0204 3 4 .u16 .ro .v [], ob1 0x0204 5 .enum8 .ro .v [], ob1 0x0204 6 .u32 .ro .v []]

/-- Channel configuration and statistics (R487, R488, R174). -/
def objChan : List ObjRow :=
  let c := ob 0x0300 0x033F
  let t := ob 0x0340 0x037F
  [c 1 1 .bool .rwh .p [0], c 2 2 .enum8 .rwh .p [0], c 3 3 .u8 .rwa .p [0xFF], c 4 4 .enum8 .rwh .v [], c 5 5 .enum8 .rwh .p [3],
   c 6 6 .enum8 .rwh .p [4], c 7 7 (.oct 4096) .rwh .p [], c 8 8 (.oct 131072) .rwa .p [], c 9 9 .enum8 .rwa .p [0],
   c 0xA 0xA .bool .rwa .p [1], c 0xB 0xB .u16 .rwa .p [0, 0], c 0xC 0xC .bool .rwa .p [1], c 0xD 0xD .u32 .ro .v [],
   c 0xE 0xE .u16 .ro .v [],
   t 1 2 .u64 .ro .v [], t 3 9 .u32 .ro .v [], t 0x20 0x27 .u32 .ro .v []]

/-- The Allotter and the Cistern (R269). -/
def objCistern : List ObjRow :=
  [ob1 0x0400 1 .enum8 .ro .v [], ob 0x0400 0x0400 2 3 .u64 .ro .v [], ob1 0x0400 4 .u32 .ro .p [], ob1 0x0400 5 .u8 .ro .v [],
   ob1 0x0401 1 (.oct 256) .rwp .p [], ob1 0x0401 2 .u8 .rwa .p [7], obN 0x0402 0x41 .enum8 .rwa .p [1], obN 0x0403 0x41 .u8 .rwa .p [1],
   ob1 0x0404 1 .u8 .rwa .p [6], ob1 0x0404 2 .u8 .rwa .p [2], ob1 0x0404 3 .u32 .rwa .p (leBytes 4 3600),
   ob1 0x0404 4 .u16 .rwa .p (leBytes 2 60), ob1 0x0404 5 .u16 .rwa .p (leBytes 2 168),
   obN 0x0405 0x41 .enum8 .ro .v [], obN 0x0406 0x41 .u8 .ro .v [], ob1 0x0407 1 .u64 .ro .v [],
   ob1 0x0407 2 .u64 .rwa .p (leBytes 8 17179869184), obN 0x0408 32 .enum8 .ro .v [], obN 0x0409 32 .u32 .ro .v [],
   ob1 0x040A 1 .enum8 .ro .v [], ob1 0x040A 2 .u64 .ro .v [], obN 0x0420 0x41 .u16 .rwa .p (leBytes 2 64),
   obN 0x0421 0x41 .u16 .ro .v [], ob1 0x0430 1 .bool .rwa .p [1]]

/-- Measurement and supply (R332). -/
def objMeasure : List ObjRow :=
  [obN 0x0501 16 .u16 .rwp .p [0, 0], obN 0x0502 16 .q15 .rwp .p [0, 0], obN 0x0503 16 .u16 .ro .v [],
   obN 0x0510 2 .u32 .rwp .p (leBytes 4 0), obN 0x0511 2 .q15 .rwp .p [0, 0], ob1 0x0512 1 .enum8 .rwp .p [0],
   ob1 0x0512 2 .u16 .rwp .p [0, 0], ob 0x0513 0x0513 1 2 .u32 .rwp .p (leBytes 4 0), ob1 0x0514 1 .bool .rwp .p [0],
   ob1 0x0520 1 .enum8 .rwa .p [1], ob1 0x0520 2 .u16 .rwa .p (leBytes 2 600), ob1 0x0520 3 .u32 .ro .v [], ob1 0x0520 4 .u16 .ro .v [],
   ob1 0x0530 1 .u8 .rwp .p [0], ob1 0x0530 2 .u16 .rwa .p (leBytes 2 250), ob1 0x0530 3 .bool .rwp .p [1],
   obN 0x0531 4 .u8 .rwp .p [0], ob 0x0532 0x0533 1 4 .u16 .ro .v [], obN 0x0534 4 .bool .wo .v []]

/-- Attestation, keys (R399, R195). -/
def objKeys : List ObjRow :=
  [ob1 0x0601 1 (.oct 832) .rwa .p (List.replicate 832 0), ob1 0x0602 1 .u8 .ro .v [], ob1 0x0602 2 .u16 .rwa .p (leBytes 2 900),
   ob1 0x0603 1 .digest48 .ro .v [], obN 0x0610 5 (.oct 12288) .ro .p [], ob1 0x0610 0x10 (.oct 24576) .ro .p [],
   ob1 0x0611 1 (.oct 12288) .ro .v [], ob1 0x0620 1 .u16 .ro .v [], ob1 0x0620 2 .time64 .ro .v [], ob1 0x0620 3 .u32 .ro .p (leBytes 4 0),
   ob1 0x0620 4 .u16 .ro .v [],
   ob 0x0B01 0x0B01 1 4 .enum8 .ro .f [], ob 0x0B01 0x0B01 0x11 0x14 .digest48 .ro .f [], ob 0x0B01 0x0B01 0x21 0x24 .u8 .ro .v [0],
   ob1 0x0B02 1 .u8 .rwa .v [0xFF], ob1 0x0B10 1 (.oct 97) .ro .v [], ob1 0x0B10 2 (.oct 2592) .ro .v [], ob1 0x0B10 3 (.oct 97) .ro .v [],
   ob1 0x0B10 4 (.oct 2592) .ro .v [], ob1 0x0B11 1 .u8 .ro .v []]

/-- Events and log, power and clocks, cascade (R489, R549, R303). -/
def objEvents : List ObjRow :=
  [ob 0x0700 0x0700 1 2 .u32 .ro .v [], ob1 0x0701 1 .u32 .rw .v [], ob1 0x0702 1 (.oct 4096) .ro .v [],
   obN 0x0703 0x16 (.str 16) .const .f [], ob 0x0710 0x071B 1 0x80 .u8 .ro .v [],
   ob1 0x0800 1 .u64 .ro .v [], ob1 0x0800 2 .u32 .ro .v [], ob1 0x0801 1 .u32 .rwa .p (leBytes 4 0), ob1 0x0801 2 .bool .rwa .p [1],
   ob1 0x0801 3 .u32 .rwa .v (leBytes 4 0), ob1 0x0801 4 .enum8 .ro .v [], ob1 0x0801 5 .u32 .ro .p (leBytes 4 0), ob1 0x0802 1 .u8 .ro .v [],
   ob1 0x0802 2 .u16 .ro .v [], ob1 0x0803 1 .time64 .ro .v [],
   ob 0x0900 0x0900 1 4 .u8 .ro .v [], ob1 0x0900 5 .u32 .ro .v [], ob1 0x0900 6 .u8 .ro .v [], ob1 0x0900 7 .u32 .ro .v [],
   ob1 0x0900 8 .bool .ro .v [], ob1 0x0900 9 .u32 .ro .v [], ob1 0x0901 1 .enum8 .rwa .p [0],
   ob1 0x0901 2 (.oct 832) .rwa .p (List.replicate 832 0), ob1 0x0901 3 .bool .rwa .p [1],
   ob 0x0902 0x0902 1 2 .u16 .rwa .p (leBytes 2 4700), ob 0x0902 0x0902 0x11 0x12 .u32 .rwa .p (leBytes 4 0),
   obN 0x0903 2 .u16 .ro .v [], obN 0x0904 2 .enum8 .ro .v [], ob1 0x0906 1 .u16 .rwa .p (leBytes 2 2000)]

/-- Update, recovery, anti-rollback (R240, R191). -/
def objUpdate : List ObjRow :=
  [obN 0x0A01 0x42 .enum8 .ro .v [], obN 0x0A02 0x42 .u8 .ro .v [], obN 0x0A03 0x42 .enum8 .ro .v [], obN 0x0A04 0x42 .u32 .ro .p [],
   obN 0x0A05 0x42 .u32 .ro .v [], obN 0x0A10 0x41 .enum8 .rwa .p [1], ob1 0x0A11 1 .u8 .rwa .v [0], obN 0x0A12 0x41 .u8 .ro .f [],
   obN 0x0A13 0x41 .bool .ro .f [], obN 0x0A20 0x42 .bool .rwa .p [0], obN 0x0A21 0x42 .enum8 .rwa .v [],
   obN 0x0A22 0x42 (.oct 4194304) .rwa .v [], obN 0x0A23 0x42 .u16 .rwa .p (leBytes 2 600), obN 0x0A24 0x42 .bool .rwa .p [1],
   ob1 0x0A30 1 .u16 .rwp .p [0, 0], ob1 0x0A30 2 .u32 .ro .v [], ob1 0x0A31 1 .u16 .rwa .p (leBytes 2 120),
   ob 0x0A40 0x0A41 1 0x42 .enum8 .ro .v [], obN 0x0A42 0x42 (.oct 272629760) .rwa .v [], ob1 0x0A43 1 .u16 .rwa .p (leBytes 2 60),
   ob1 0x0A50 1 .u16 .ro .v [], ob1 0x0A50 2 .u32 .ro .p []]

/-- Fuse views, Headgate (R423, R331). -/
def objFuse : List ObjRow :=
  [ob 0x0C00 0x0C00 1 1 .u16 .ro .f [], ob 0x0C00 0x0C00 2 3 .u16 .ro .v [], ob1 0x0C00 4 .u8 .ro .f [], ob1 0x0C00 5 .bool .ro .v [],
   obN 0x0C01 4 .digest48 .rwa .f [], obN 0x0C02 4 .bool .rwa .v [0], obN 0x0C03 0xDF .u32 .rwa .f [], ob1 0x0C04 1 .bool .rwa .v [0],
   ob1 0x0C05 1 .u32 .rwp .f [], ob1 0x0C05 2 .bool .rwp .v [0], ob 0x0C10 0x0C13 1 0x80 .u32 .ro .f [], obN 0x0C20 64 .u32 .ro .f [],
   ob1 0x0D00 1 (.oct 2048) .rwa .p (List.replicate 2048 0), ob1 0x0D00 2 .u16 .ro .v [], ob 0x0D01 0x0D03 1 64 .enum8 .ro .v [],
   obN 0x0D04 32 .bool .ro .v [], ob1 0x0D05 1 .u32 .rwa .p (leBytes 4 0), ob1 0x0D05 2 .u8 .rwa .p [10], obN 0x0D06 64 .bool .rwa .v []]

/-- Every object of the dictionary but those of extension firmware, in ascending order of index within each list. -/
def objRows : List ObjRow :=
  objIdentity ++ objMode ++ objChan ++ objCistern ++ objMeasure ++ objKeys ++ objEvents ++ objUpdate ++ objFuse

/-- Does a row hold an index. -/
def ObjRow.at_ (r : ObjRow) (index : Nat) : Bool := decide (r.lo ≤ index) && decide (index ≤ r.hi)

/-- The row of an extension object (R490). -/
def ExtObj.row (x : ExtObj) : ObjRow := ob1 x.index x.sub x.type x.access x.persist []

/-- The rows of the dictionary with those of extension firmware. -/
def State.rows (s : State) : List ObjRow := objRows ++ s.rill.extObjs.map ExtObj.row

/-- The row of an object, sub-index 0x00 of an implemented index among them (R478). -/
def State.row (s : State) (index sub : Nat) : Option ObjRow :=
  match s.rows.filter fun r => r.at_ index with
  | [] => none
  | rs =>
    if sub = 0 then some (ob1 index 0 .u8 .const .f [BitVec.ofNat 8 (rs.foldl (fun m r => max m r.subHi) 0)])
    else rs.find? fun r => decide (r.subLo ≤ sub) && decide (sub ≤ r.subHi)

/-- The refusal of an address (R478). -/
def State.addressCode (s : State) (index sub : Nat) : List Code :=
  if (s.rows.any fun r => r.at_ index) then (if (s.row index sub).isSome then [] else [.badSubindex]) else [.badIndex]

/-- The channel that an RWH write of an object asks after (R481). -/
def objChannel (index : Nat) : Option ChanId :=
  if 0x0300 ≤ index ∧ index < 0x0340 then finOf 64 (index - 0x0300)
  else if 0x0340 ≤ index ∧ index < 0x0380 then finOf 64 (index - 0x0340) else none

/-! ## Values -/

/-- A byte of a number, a Bool. -/
def u8 (n : Nat) : List Byte := leBytes 1 n
/-- A Bool as an object's value. -/
def boolVal (b : Bool) : List Byte := leBytes 1 (b2n b)

/-- The names of the types (R479). -/
def typeName : Nat → String
  | 1 => "U8" | 2 => "U16" | 3 => "U32" | 4 => "U64" | 5 => "I16" | 6 => "I32" | 7 => "Q15" | 8 => "Q31" | 9 => "BOOL" | 10 => "ENUM8"
  | 11 => "STR(n)" | 12 => "OCT(n)" | 13 => "DIGEST48" | _ => "TIME64"

/-- The sizes of the types (R479): of STR and OCT the n that the object does not give here is free. -/
def typeSize : Nat → Nat
  | 1 | 9 | 10 => 1
  | 2 | 5 | 7 => 2
  | 3 | 6 | 8 => 4
  | 4 | 14 => 8
  | 13 => 48
  | n => Config.typeSize n

/-- The names of the log record kinds (R575). -/
def kindName : Nat → String
  | 1 => "EVENT" | 2 => "MODE_CHANGE" | 3 => "CHAN_STATE" | 4 => "OP_REFUSED" | 5 => "VERDICT" | 6 => "REPAIR" | 7 => "MUTABLE"
  | 8 => "FREEZE" | 9 => "GATE_WAIT" | 10 => "SVN_EXHAUSTED" | 11 => "GOLDEN" | 12 => "DISTURB" | 13 => "PSU" | 14 => "FUSE_ALARM"
  | 15 => "BOOT_STOP" | 16 => "BOOT" | 17 => "SLOT_REJECT" | 18 => "SERVICE" | 19 => "TAMPER" | 20 => "SILL_MEAS" | 21 => "MISSION_MEAS"
  | _ => "MEASUREMENT"

/-- `mission_version`: the version field of the container in the slot booted (R486, R176); 0 with none. -/
def State.missionVersion (s : State) : Nat :=
  match finOf 2 s.boot.slot with
  | some i => s.load (slotBase i + 0x10) 8
  | none => 0

/-- The bytes of a log record (R489); digests in byte order, numbers little-endian. -/
def LogRec.bytes (r : LogRec) : List Byte :=
  leBytes 2 r.size ++ leBytes 2 r.kind ++ leBytes 4 r.seq ++ leBytes 8 r.time ++ leBytes 2 r.event ++ leBytes 1 r.code ++ leBytes 1 r.origin
    ++ r.body.flatMap fun f => if f.1 = 48 then beBytes 48 f.2 else leBytes f.1 f.2

/-- `log_oldest_seq`. -/
def State.oldestSeq (s : State) : Nat := (s.log.ring.head?.map fun r => r.seq).getD s.log.nextSeq

/-- `log_cursor` of a requester (R489). -/
def State.cursor (s : State) (e : Nat) : Nat := lookupD s.rill.cursors e 0

/-- The records from a list that fit in `room` bytes, whole. -/
def fitRecords : Nat → List LogRec → List LogRec
  | _, [] => []
  | room, r :: rs => if r.size ≤ room then r :: fitRecords (room - r.size) rs else []

/-- The records that `log_window` shows a requester (R489): from its cursor, or the oldest held. -/
def State.windowRecords (s : State) (e : Nat) : List LogRec :=
  fitRecords 4096 (s.log.ring.filter fun r => decide (s.cursor e ≤ r.seq))

/-- The event of an `event_state` object. -/
def eventOf (index sub : Nat) : EventId := ⟨((index - 0x0710) * 128 + sub - 1) % 1536, Nat.mod_lt _ (by decide)⟩

/-- `event_state` (R489). -/
def State.eventState (s : State) (e : EventId) : Nat :=
  b2n (s.isPending e.val) + 2 * b2n (s.ev.mask.getLsbD e.val) + 4 * (s.evCfg e).priority.toNat

/-- Identity and communication (R486, R379, R526). -/
def State.valIdentity (s : State) (index sub : Nat) : List Byte :=
  let box : Mailbox := s.mbox[(⟨(sub - 1) % 16, Nat.mod_lt _ (by decide)⟩ : Fin 16)]
  match index with
  | 0x0100 => if sub = 3 then leBytes 8 s.missionVersion else leBytes 4 Config.sillVersion
  | 0x0101 =>
    if sub = 1 then leBytes 4 (s.fuseWord 0).toNat
    else u8 (bitsOf (s.fuseWord 1).toNat (8 * (5 - sub)) 8)
  | 0x0102 => if sub = 1 then [s.rill.eid] else leBytes 4 (if sub = 0x10 then s.rill.refused else s.spi.notifyDropped)
  | 0x0110 => if box.inFull then box.inBuf.toList.take box.inLen else []
  | 0x0111 => box.outBuf.toList.take box.outLen
  | 0x0112 => boolVal box.outFull
  | 0x0113 => leBytes 4 box.inBits.toNat
  | 0x0114 => leBytes 4 box.outBits.toNat
  | _ => if sub = 1 then leBytes 4 (typeSize index) else ascii (typeName index)

/-- Mode, lifecycle, stewardship and start-up (R58, R360). -/
def State.valMode (s : State) (index sub : Nat) : List Byte :=
  match index with
  | 0x0200 => u8 (if sub = 1 then s.dev.mode.num else if sub = 2 then s.dev.cause else s.dev.form.num)
  | 0x0201 => u8 (if sub = 1 then s.lifecycle.num else s.dev.lifecycleReq)
  | 0x0202 =>
    if sub = 1 then u8 ((s.hg.steward.map Half.num).getD 0xFF)
    else if sub = 2 then leBytes 4 s.hg.epoch.toNat else u8 s.recentDisagree.length
  | 0x0203 => boolVal s.dev.dormantSeq
  | _ =>
    if sub = 1 then u8 s.boot.lastStop else if sub = 2 then u8 s.boot.slot
    else if sub = 3 then leBytes 2 s.boot.alarm.toNat else if sub = 4 then leBytes 2 (s.boot.results.1 + 256 * s.boot.results.2)
    else if sub = 5 then u8 s.boot.service else leBytes 4 s.boot.timeUs

/-- A channel's derived configuration and its statistics (R487, R488, R174). -/
def State.valChan (s : State) (c : ChanId) (stats : Bool) (sub : Nat) : List Byte :=
  let ch := s.chan c
  let st := ch.stats
  if ! stats then
    (if sub = 4 then u8 ch.state.num else if sub = 0xD then leBytes 4 ch.desc.manifestRef else leBytes 2 ch.gen)
  else if sub = 1 then leBytes 8 st.hostReadBytes else if sub = 2 then leBytes 8 st.pinHitBytes
  else leBytes 4 (match sub with
    | 3 => st.pinMisses | 4 => st.underruns | 5 => st.extends_ | 6 => st.mirrorFaults | 7 => st.refills | 8 => st.repairs
    | 9 => st.scrubPasses | 0x20 => st.appliedJournaled | 0x21 => st.denied | 0x22 => st.loggedDenied | 0x23 => st.chipEraseDenied
    | 0x24 => st.appliedShadowed | 0x25 => st.flashFail | 0x26 => st.flashTimeout | _ => st.denySuppressed)

/-! ## Telemetry by level (R22) -/

/-- The sum of the counters of a level's units, each none where its unit is absent, with the number of units that contribute (R22). -/
def levelSum (xs : List (Option Nat)) : Nat × Nat := (xs.reduceOption.sum, xs.reduceOption.length)

/-- A unit's counter, none where no unit below it contributes. -/
def contributed (x : Nat × Nat) : Option Nat := if x.2 = 0 then none else some x.1

/-- A channel's counter (R22): none where the channel is ABSENT; one whose bank is powered down keeps its last value (log entry 120). -/
def State.chanTelemetry (s : State) (f : ChanStats → Nat) (c : ChanId) : Option Nat :=
  if (s.chan c).state = .absent ∧ s.domOn (11 + c.val / 16) then none else some (f (s.chan c).stats)

/-- A port's counter: its two channels'. -/
def State.portTelemetry (s : State) (f : ChanStats → Nat) (p : PortId) : Nat × Nat :=
  levelSum [s.chanTelemetry f (chanOf p 0), s.chanTelemetry f (chanOf p 1)]

/-- A bank's counter: its eight ports'. -/
def State.bankTelemetry (s : State) (f : ChanStats → Nat) (b : Nat) : Nat × Nat :=
  levelSum ((portsOfBank b).map fun p => contributed (s.portTelemetry f p))

/-- A half's counter: its two banks'. -/
def State.halfTelemetry (s : State) (f : ChanStats → Nat) (h : Half) : Nat × Nat :=
  levelSum [contributed (s.bankTelemetry f (2 * h.num)), contributed (s.bankTelemetry f (2 * h.num + 1))]

/-- The device's counter: its two halves'. -/
def State.deviceTelemetry (s : State) (f : ChanStats → Nat) : Nat × Nat :=
  levelSum [contributed (s.halfTelemetry f .indigo), contributed (s.halfTelemetry f .amber)]

/-- A segment's counter: its devices', by position; this device's own, and what the other members that are present report. -/
def State.segmentTelemetry (s : State) (f : ChanStats → Nat) (reports : List (Nat × Nat)) (seg : Nat) : Nat × Nat :=
  levelSum ((List.range 8).map fun i =>
    let d := 8 * seg + i
    if d = s.devNumber then contributed (s.deviceTelemetry f)
    else if s.isPresent d then (reports.find? fun r => r.1 == d).map fun r => r.2 else none)

/-- The cascade's counter: its four segments'. -/
def State.cascadeTelemetry (s : State) (f : ChanStats → Nat) (reports : List (Nat × Nat)) : Nat × Nat :=
  levelSum ((List.range 4).map fun g => contributed (s.segmentTelemetry f reports g))

/-- The golden set in force of a target. -/
def State.setInForce (s : State) (t : Target) : Option GoldenSet := (s.setsOf t).find? fun g => g.root == s.rootInForce t

/-- `reserve_left`, in per cent (R269); 100 with no target. -/
def State.reserveLeft (s : State) : Nat :=
  let ts := s.cis.targets.toList.filter fun t => t.present
  let all := (ts.map fun t => t.reserve).sum
  if all = 0 then 100 else (ts.map fun t => t.reserveLeft).sum * 100 / all

/-- `peer_state` (R269). -/
def State.peerState (s : State) (d : Nat) : Nat :=
  if (s.peer d).absentSince.isSome then 3
  else if d ≠ s.devNumber ∧ s.isPresent d then (if (s.peer d).laggard then 2 else 1) else 0

/-- The Allotter and the Cistern (R269). -/
def State.valCistern (s : State) (index sub : Nat) : List Byte :=
  let t := (Target.ofCode (sub - 1)).getD .mission
  match index with
  | 0x0400 =>
    if sub = 1 then u8 s.cis.state else if sub = 2 then leBytes 8 s.pslcCapacity else if sub = 3 then leBytes 8 s.cisFree
    else if sub = 4 then leBytes 4 s.cis.badBlocks.length else u8 s.reserveLeft
  | 0x0405 => u8 (((s.setInForce t).map fun g => g.state).getD 0)
  | 0x0406 => u8 (((s.setInForce t).map s.shardsLive).getD 0)
  | 0x0407 => leBytes 8 s.holdingBytes
  | 0x0408 => u8 (s.peerState (sub - 1))
  | 0x0409 => leBytes 4 (s.peer (sub - 1)).medianNs
  | 0x040A => if sub = 1 then u8 s.cis.rebuild else leBytes 8 s.cis.rebuildLeft
  | _ => leBytes 2 (match t with
    | .chan c => (s.chan c).pins.length
    | _ => 0)

/-- Measurement and supply (R332). -/
def State.valMeasure (s : State) (index sub : Nat) : List Byte :=
  let psu : Psu := s.ms.psus[(⟨(sub - 1) % 4, Nat.mod_lt _ (by decide)⟩ : Fin 4)]
  match index with
  | 0x0503 => leBytes 2 (s.ms.railMv[(⟨(sub - 1) % 16, Nat.mod_lt _ (by decide)⟩ : Fin 16)]).toNat
  | 0x0520 => if sub = 3 then leBytes 4 s.ms.cap.toNat else leBytes 2 (if s.ms.valid then s.ms.holdupMs.toNat else 0)
  | 0x0532 => leBytes 2 psu.statusWord.toNat
  | _ => leBytes 2 psu.watts.toNat

/-- Events and log, power and clocks (R489, R549); `log_window` as requester `e` sees it. -/
def State.valEvents (s : State) (e index sub : Nat) : List Byte :=
  match index with
  | 0x0700 => leBytes 4 (if sub = 1 then s.log.nextSeq else s.oldestSeq)
  | 0x0701 => leBytes 4 (s.cursor e)
  | 0x0702 => (s.windowRecords e).flatMap LogRec.bytes
  | 0x0703 => ascii (kindName sub)
  | 0x0800 => if sub = 1 then leBytes 8 (s.pw.domOn.toNat / 2) else leBytes 4 s.pw.refusals
  | 0x0801 => u8 s.pw.wakeCause
  | 0x0802 => if sub = 1 then u8 s.pw.clkStatus.toNat else leBytes 2 s.lev.refclkKhz.toNat
  | 0x0803 => leBytes 8 s.time
  | _ => u8 (s.eventState (eventOf index sub))

/-- The link of a port that reports for it: the port's own, or its trunk where that alone is up (R303). -/
def State.portLink (s : State) (p : Nat) : LinkId :=
  let own : LinkId := if p = 1 then 0 else 1
  let trunk : LinkId := if p = 1 then 2 else 3
  if (s.link own).state = .down ∧ (s.link trunk).state ≠ .down then trunk else own

/-- The cascade (R303). -/
def State.valCascade (s : State) (index sub : Nat) : List Byte :=
  match index with
  | 0x0900 =>
    (match sub with
    | 1 => u8 s.pak.seg.val | 2 => u8 s.pak.pos.val | 3 => u8 s.devNumber | 4 => u8 s.pak.segMaster | 5 => leBytes 4 s.pak.segEpoch
    | 6 => u8 s.pak.casMaster | 7 => leBytes 4 s.pak.casEpoch | 8 => boolVal s.pak.island | _ => leBytes 4 s.pak.members.toNat)
  | 0x0903 =>
    let l := s.portLink sub
    let k := s.link l
    leBytes 2 (if k.state = .down ∨ k.state = .training then 0xFFFF else min 0xFFFE (s.cableCm l k.rtt))
  | _ => u8 (s.link (s.portLink sub)).state.num

/-- Update, recovery, anti-rollback (R240, R191). -/
def State.valUpdate (s : State) (index sub : Nat) : List Byte :=
  let t := (Target.ofCode (sub - 1)).getD .mission
  let u := s.target t
  match index with
  | 0x0A01 => u8 u.state
  | 0x0A02 => u8 u.status.num
  | 0x0A03 => u8 u.layout
  | 0x0A04 => leBytes 4 (((s.commitInForce t).map fun r => r.seq).getD 0)
  | 0x0A05 => leBytes 4 u.switchUnits.length
  | 0x0A12 => u8 (s.floorVal t)
  | 0x0A13 => boolVal (s.floorFull t)
  | 0x0A21 => u8 u.stream
  | 0x0A30 => leBytes 4 s.upd.gateWaits
  | 0x0A40 => u8 u.recState
  | 0x0A41 => u8 u.recSource
  | 0x0A42 => u.container
  | _ => if sub = 1 then leBytes 2 (256 - s.upd.journal.length) else leBytes 4 s.upd.bankEpoch

/-- Levee and public keys (R399), owner slots (R195). -/
def State.valKeys (s : State) (index sub : Nat) : List Byte :=
  match index with
  | 0x0602 => u8 (s.spdm.sessions.filter Session.counts).length
  | 0x0611 => s.spdm.aliasCert
  | 0x0620 => if sub = 1 then leBytes 2 s.lev.cause.toNat else if sub = 2 then leBytes 8 s.lev.causeTime else leBytes 2 s.lev.mask.toNat
  | 0x0B01 =>
    let i : Fin 4 := ⟨(sub - 1) % 16 % 4, Nat.mod_lt _ (by decide)⟩
    if sub < 0x10 then u8 (s.ownerSlotState i.val)
    else if s.ownerFused i.val then digestBytes (s.ownerDigest i) else List.replicate 48 0
  | 0x0B10 => s.publicKey sub
  | _ => u8 ((List.finRange 128).filter fun i => decide (8 ≤ i.val) && (s.kslot i).state == .empty).length

/-- Fuse views (R423): words of SECRET read 0. -/
def State.valFuse (s : State) (index sub : Nat) : List Byte :=
  let main (w : Nat) : List Byte := leBytes 4 (if regionOf w = 1 then 0 else (s.fuseWord (mainIx w)).toNat)
  match index with
  | 0x0C00 =>
    (match sub with
    | 1 => leBytes 2 ((s.privWord 1).toNat % 2048) | 2 => leBytes 2 s.fuse.regionOk.toNat | 3 => leBytes 2 s.fuse.weakCnt
    | 4 => u8 (s.redirectEntries.filter fun e => e != 0).length | _ => boolVal (! s.fuse.overrides.isEmpty))
  | 0x0C01 => digestBytes (s.ownerDigest ⟨(sub - 1) % 4, Nat.mod_lt _ (by decide)⟩)
  | 0x0C03 => main (159 + sub)
  | 0x0C05 => main 84
  | 0x0C20 => leBytes 4 (s.privWord ⟨(sub - 1) % 64, Nat.mod_lt _ (by decide)⟩).toNat
  | _ => main ((index - 0x0C10) * 128 + sub - 1)

/-- Headgate (R331). -/
def State.valGate (s : State) (index sub : Nat) : List Byte :=
  let h : OutId := ⟨(sub - 1) % 64, Nat.mod_lt _ (by decide)⟩
  match index with
  | 0x0D00 => leBytes 2 s.hg.planActiveGen.toNat
  | 0x0D01 => u8 (s.hg.loadClass[h]).num
  | 0x0D02 => boolVal (s.outReleased h)
  | 0x0D03 => u8 (if s.outReleased h then 0 else s.holdCause h)
  | 0x0D04 => boolVal (s.senseReading ⟨(sub - 1) % 32, Nat.mod_lt _ (by decide)⟩)
  | _ => boolVal (match s.hg.steward with
    | some st => (s.hg.holds.get st).getLsbD h.val
    | none => false)

/-- Which V objects the dictionary itself keeps, as a requester or the steward wrote them (R482). -/
def keptVolatile (index sub : Nat) : Bool :=
  (index == 0x0801 && sub == 3) || index == 0x0A11 || index == 0x0A22 || (index == 0x0B01 && decide (0x20 < sub)) || index == 0x0B02
  || index == 0x0C02 || index == 0x0C04 || (index == 0x0C05 && sub == 2)

/-- The value of an object that no store holds. -/
def State.derived (s : State) (e index sub : Nat) : List Byte :=
  if index < 0x0200 then s.valIdentity index sub
  else if index < 0x0300 then s.valMode index sub
  else if index < 0x0380 then
    (match objChannel index with
    | some c => s.valChan c (decide (0x0340 ≤ index)) sub
    | none => [])
  else if index < 0x0500 then s.valCistern index sub
  else if index < 0x0600 then s.valMeasure index sub
  else if index < 0x0700 then s.valKeys index sub
  else if index < 0x0900 then s.valEvents e index sub
  else if index < 0x0A00 then s.valCascade index sub
  else if index < 0x0B00 then s.valUpdate index sub
  else if index < 0x0C00 then s.valKeys index sub
  else if index < 0x0D00 then s.valFuse index sub
  else s.valGate index sub

/-- Is a P object derived from what it reports on. -/
def derivedP (index sub : Nat) : Bool := (index == 0x0400 && sub == 4) || index == 0x0A04 || index == 0x0A50

/-- The configuration digest covers an object (R390). -/
def ObjRow.configured (r : ObjRow) : Bool := r.persist == .p && (r.access == .rw || r.access == .rwa || r.access == .rwp)

/-- The sub-indices of a row. -/
def ObjRow.subs (r : ObjRow) : List Nat := (List.range (r.subHi + 1 - r.subLo)).map fun i => r.subLo + i

/-- The numbers from `a` to `b`. -/
def upTo (a b : Nat) : List Nat := (List.range (b + 1 - a)).map fun i => a + i

/-- The addresses of a list of rows in ascending order: index, sub-index and row. -/
def addresses (rs : List ObjRow) : List (Nat × Nat × ObjRow) :=
  let indices := sortNat (rs.flatMap fun r => upTo r.lo r.hi).eraseDups
  indices.flatMap fun i =>
    let here := rs.filter fun r => r.at_ i
    (sortNat (here.flatMap ObjRow.subs)).filterMap fun sub =>
      (here.find? fun r => decide (r.subLo ≤ sub) && decide (sub ≤ r.subHi)).map fun r => (i, sub, r)

/-- The value of a stored extension object. -/
def State.extValue (s : State) (index sub : Nat) : Option (List Byte) :=
  (s.rill.extObjs.find? fun x => x.index == index && x.sub == sub).map fun x => x.value

/-- The configuration digest (R390). -/
def State.configDigest (s : State) : Digest :=
  sha384 ((addresses (objRows.filter ObjRow.configured)).flatMap fun a =>
    let v := s.pget a.1 a.2.1 a.2.2.dflt
    leBytes 2 a.1 ++ leBytes 1 a.2.1 ++ leBytes 4 v.length ++ v)

/-- The value of an object that its row describes, as a requester's endpoint sees it. -/
def State.objValue (s : State) (e index sub : Nat) (r : ObjRow) : List Byte :=
  if index = 0x0603 ∧ sub = 1 then digestBytes s.configDigest
  else if sub = 0 ∨ (r.access = .const ∧ ! r.dflt.isEmpty) then r.dflt
  else match s.extValue index sub with
    | some v => v
    | none =>
      if r.persist = .p ∧ ! derivedP index sub then s.pget index sub r.dflt
      else if keptVolatile index sub then s.vget index sub r.dflt
      else s.derived e index sub

/-! ## Reads -/

/-- May the mode read an object of the index (R51, R503). -/
def State.readMode (s : State) (index : Nat) : Bool :=
  if 0x0100 ≤ index ∧ index < 0x0300 then ModeOp.readLow.permitted s.dev.mode
  else ModeOp.readOther.permitted s.dev.mode || (s.dev.mode == .recover && (index / 0x100 == 0x07 || index / 0x100 == 0x0A))

/-- Does the object belong to a mailbox, and to which (R526). -/
def objBox (index sub : Nat) : Option (Fin 16) := if 0x0110 ≤ index ∧ index ≤ 0x0114 ∧ 1 ≤ sub then finOf 16 (sub - 1) else none

/-- The refusals of a read (R478, R481, R51, R526). -/
def State.readRefusals (s : State) (who : Requester) (index sub : Nat) : List Code :=
  s.addressCode index sub
  ++ (match s.row index sub with
    | some r => if r.access = .wo then [.deniedAccess] else []
    | none => [])
  ++ (if s.readMode index then [] else [.refusedState])
  ++ (match objBox index sub with
    | some m => s.boxRefusals m (s.authorised who) ++ (if index = 0x0111 ∧ ! (s.box m).outFull then [.empty] else [])
    | none => [])

/-- The operation that a read of an index is, in R51's table. -/
def readOp (index : Nat) : ModeOp := if 0x0100 ≤ index ∧ index < 0x0300 then .readLow else .readOther

/-- What a read of `log_window` that carries `room` bytes leaves: the requester's cursor past the whole records read (R489). -/
def State.afterRead (s : State) (e index room : Nat) : State :=
  if index = 0x0702 then
    match (fitRecords room (s.windowRecords e)).getLast? with
    | some r => { s with rill := { s.rill with cursors := setKey s.rill.cursors e (r.seq + 1) } }
    | none => s
  else s

end Sys2Proof.Machine
end

