-- ==== Sys2Proof/Machine/RegRead.lean ====
section
/-!
DEFINITION. The register maps as a core reads them (R86, R108, R146, R147, R270, R304, R333, R334, R400, R401, R424, R447, R476,
R528, R550, R551): the value of each listed register; an offset not listed is a hole.
-/
namespace Sys2Proof.Machine

/-- The entry of a register list at an offset. -/
def regAt {α : Type} (l : List (Nat × α)) (o : Nat) : Option α := (l.find? fun p => p.1 == o).map fun p => p.2

/-- The low (0) or high (1) word of a 64-bit register pair. -/
def halfWord (d : Nat) (i : Nat) : Nat := bitsOf d (32 * i) 32

/-- The word at byte `o` of a run of bytes, 0 past its end. -/
def wordAt (bs : List Byte) (o : Nat) : Nat := leNat ((bs.drop o).take 4)

/-- Byte values as words: the word that holds bytes `4 i` to `4 i + 3` of `f`. -/
def packBytes (f : Nat → Nat) (i : Nat) : Nat :=
  f (4 * i) % 256 + f (4 * i + 1) % 256 * 2 ^ 8 + f (4 * i + 2) % 256 * 2 ^ 16 + f (4 * i + 3) % 256 * 2 ^ 24

/-- A number below 64 as an output or channel number. -/
def ix64 (n : Nat) : Fin 64 := ⟨n % 64, Nat.mod_lt _ (by decide)⟩

/-! ## HEADGATE (R333) -/

/-- HEADGATE.STATUS. -/
def State.hgStatus (s : State) : Nat :=
  b2n (s.hg.senseLoss != 0) * 32 + b2n s.hg.warm * 16 + b2n s.hg.puenSettled * 8 + b2n s.hg.puen * 4 + b2n s.hg.loadSensing * 2
    + b2n s.hg.loadSensed

/-- The seconds left of an armed confirm timer, whole ones (R333 CONFIRM_STATUS). -/
def State.confirmStatus (s : State) : Nat :=
  match s.hg.confirm with
  | some t => 2 ^ 16 + (t - s.time) / secNs % 2 ^ 16
  | none => 0

/-- The registers of HEADGATE below 0x0200. -/
def State.hgLow (s : State) : List (Nat × Nat) :=
  [(0x00, b2n s.hg.planRun), (0x04, s.hgStatus), (0x08, s.hg.puenSettleMs.toNat), (0x10, halfWord s.hg.out.toNat 0),
   (0x14, halfWord s.hg.out.toNat 1), (0x18, (s.hg.senseLevel ^^^ s.hg.senseInvert).toNat), (0x1C, s.hg.senseInvert.toNat),
   (0x20, s.hg.senseFilter.toNat), (0x30, halfWord s.hg.holds.indigo.toNat 0), (0x34, halfWord s.hg.holds.indigo.toNat 1),
   (0x38, halfWord s.hg.holds.amber.toNat 0), (0x3C, halfWord s.hg.holds.amber.toNat 1),
   (0x40, halfWord s.hg.grants.indigo.toNat 0), (0x44, halfWord s.hg.grants.indigo.toNat 1),
   (0x48, halfWord s.hg.grants.amber.toNat 0), (0x4C, halfWord s.hg.grants.amber.toNat 1),
   (0x50, (s.hg.steward.map Half.num).getD 3), (0x54, s.hg.epoch.toNat), (0x58, s.hg.claims.indigo.num),
   (0x5C, s.hg.claimEpochs.indigo.toNat), (0x60, s.hg.claims.amber.num), (0x64, s.hg.claimEpochs.amber.toNat), (0x68, 0),
   (0x6C, s.recentDisagree.length % 256), (0x70, s.hg.confirmCfg.toNat), (0x74, s.confirmStatus), (0x78, 0),
   (0x80, s.hg.planGen.indigo.toNat), (0x84, s.hg.planGen.amber.toNat), (0x88, s.hg.planActiveGen.toNat),
   (0x8C, s.hg.planStageGen.toNat), (0x130, 0), (0x134, s.hg.vpostStatus.indigo.toNat), (0x170, 0),
   (0x174, s.hg.vpostStatus.amber.toNat)]

/-- A word of a plan as the plan registers hold it. -/
def planWord (p : Vector PlanEntry 64) (i : Nat) : Nat := wordAt (planEntryBytes p[ix64 (i / 8)]) (4 * (i % 8))

/-- HEADGATE as a core of a half reads it; the management cores read it as Indigo's side does, before its posts (R321). -/
def State.hgRead (s : State) (h : Option Half) (o : Nat) : Option Nat :=
  if 0x100 ≤ o ∧ o < 0x130 ∨ 0x140 ≤ o ∧ o < 0x170 then some 0
  else if 0x200 ≤ o ∧ o < 0x240 then some (packBytes (fun i => (s.hg.loadClass[ix64 i]).num) ((o - 0x200) / 4))
  else if 0x240 ≤ o ∧ o < 0x280 then some (packBytes (fun i => s.holdCause (ix64 i)) ((o - 0x240) / 4))
  else if 0x300 ≤ o ∧ o < 0x400 then some (match h with
    | some h => s.verdictView h (ix64 ((o - 0x300) / 4))
    | none => s.verdictView .indigo (ix64 ((o - 0x300) / 4)) &&& 0xC0000000)
  else if 0x1000 ≤ o ∧ o < 0x1800 then some (planWord s.hg.planStage ((o - 0x1000) / 4))
  else if 0x1800 ≤ o ∧ o < 0x2000 then some (planWord s.hg.planActive ((o - 0x1800) / 4))
  else regAt s.hgLow o

/-- The read-only registers of HEADGATE: its status, which the management cores read (R19, R31). -/
def hgStatusReg (o : Nat) : Bool :=
  [0x04, 0x10, 0x14, 0x18, 0x50, 0x54, 0x6C, 0x74, 0x88, 0x134, 0x174].contains o || (decide (0x200 ≤ o) && decide (o < 0x400))
  || (decide (0x1800 ≤ o) && decide (o < 0x2000))

/-! ## FUSECTL (R424) -/

/-- The registers of FUSECTL below the shadows. -/
def State.fuseLow (s : State) : List (Nat × Nat) :=
  [(0x00, 0), (0x04, 0),
   (0x08, b2n s.fuseBusy * 2 ^ 31 + b2n s.fuse.status.weak * 2 ^ 30 + s.fuse.status.code.num * 2 ^ 16
     + s.fuse.status.burned % 256 * 2 ^ 8 + s.fuse.status.failed % 256),
   (0x0C, b2n (s.fuseAlarms != 0) * 32 + b2n s.dev.freeze * 16 + b2n s.tempOk * 8 + b2n (! s.fuse.overrides.isEmpty) * 4
     + b2n s.fuse.allLoaded * 2 + b2n s.fuse.bootLoaded),
   (0x10, s.fuse.readTight.toNat), (0x14, s.fuse.readLoose.toNat), (0x18, s.fuse.readWeak.toNat),
   (0x20, bitsOf (s.privWord 1).toNat 0 11), (0x24, s.fuse.regionOk.toNat), (0x28, s.fuseAlarms.toNat),
   (0x2C, s.redirectEntries.length * 256 + s.redirectEntries.length), (0x30, s.fuse.weakCnt % 2 ^ 16), (0x40, 0), (0x44, 0)]

/-- What a core reads of a main word's shadow (R413, R414): SECRET reads 0, an overridden word its override (R422); a read before the
background load is held until the word is loaded and answers what that load brings (DEDUCED, log entry 166). -/
def State.fuseShadowRead (s : State) (w : Fin 512) : Nat :=
  if regionOf w.val = 1 then 0
  else if 96 ≤ w.val ∧ ! s.fuse.allLoaded ∧ (s.fuse.overrides.find? fun o => o.1 == w).isNone then (s.mainCells w).loose.toNat
  else (s.fuseWord w).toNat

/-- FUSECTL as a core reads it. -/
def State.fuseRegRead (s : State) (o : Nat) : Option Nat :=
  if 0x1000 ≤ o ∧ o < 0x1800 then some (s.fuseShadowRead (mainIx ((o - 0x1000) / 4)))
  else if 0x1800 ≤ o ∧ o < 0x1900 then some (s.fuse.shadowPriv[privIx ((o - 0x1800) / 4)]).toNat
  else regAt s.fuseLow o

/-! ## KEYVAULT (R400) -/

/-- Slots from 8 upward that a new key may take. -/
def State.kvFree (s : State) : Nat :=
  ((List.finRange 128).filter fun i => decide (8 ≤ i.val) && ((s.kslot i).state == .empty || (s.kslot i).state == .orphaned)).length

/-- Slots IN_USE or LOCKED. -/
def State.kvInUse (s : State) : Nat :=
  ((List.finRange 128).filter fun i => (s.kslot i).state == .inUse || (s.kslot i).state == .locked).length

/-- The 16 bytes of SLOT_INFO of a slot; outside the view they read 0. -/
def State.slotInfo (s : State) (h : Half) (i : Fin 128) : List Byte :=
  let v := s.kslot i
  if ! v.inView h then []
  else
    leBytes 1 v.state.num ++ leBytes 1 (if v.owner = .common then 0 else 1) ++ leBytes 2 v.bits ++ leBytes 1 v.dest.toNat
    ++ leBytes 1 v.usage.toNat ++ leBytes 1 (b2n v.bound + 2 * b2n (s.isLoaded i))
    ++ leBytes 1 ((v.parent.map fun p => p.1.val).getD 0xFF) ++ leBytes 2 ((v.parent.map fun p => p.2).getD 0)
    ++ leBytes 2 v.gen ++ leBytes 1 v.depth

/-- The registers of the vault as a half's view has them. -/
def State.kvLow (s : State) (h : Half) : List (Nat × Nat) :=
  [(0x00, s.kv.lcOverride.toNat * 32 + b2n s.kv.testSecret * 2 + b2n s.kv.rootLock),
   (0x04, s.kvInUse % 256 * 2 ^ 24 + s.kvFree * 2 ^ 16 + b2n s.kv.testSecret * 4 + b2n s.kv.rootLock * 2 + b2n (s.kv.busy.get h)),
   (0x10, 0),
   (0x14, b2n (s.kv.busy.get h) * 2 ^ 31 + (s.kv.cmdStatus.get h).1 % 256 * 2 ^ 8 + (s.kv.cmdStatus.get h).2.num),
   (0x18, (s.kv.cmdResult.get h).toNat), (0x20, s.kv.orphanCnt)]

/-- KEYVAULT as a half reads it. -/
def State.kvRead (s : State) (h : Half) (o : Nat) : Option Nat :=
  if 0x800 ≤ o ∧ o < 0x1000 then some (wordAt (s.slotInfo h ⟨(o - 0x800) / 16 % 128, Nat.mod_lt _ (by decide)⟩) (o % 16))
  else regAt (s.kvLow h) o

/-! ## PKE (R447) -/

/-- PKE.STATUS. -/
def State.pkeStatus (s : State) (h : Half) : Nat :=
  let e := s.eng h
  let wiping := decide (s.time < e.wipeUntil)
  b2n e.poisoned * 32 + b2n wiping * 16 + b2n ((e.job.map fun j => j.overrun).getD false) * 8 + b2n (s.pkeWindow h) * 4
    + b2n (e.outLive != 0) * 2 + b2n (e.enable && ! wiping)

/-- The registers of an engine below the slot registers. -/
def State.pkeLow (s : State) (h : Half) : List (Nat × Nat) :=
  let e := s.eng h
  [(0x00, b2n e.enable), (0x04, s.pkeStatus h), (0x08, 0), (0x0C, 0), (0x10, e.queue.length),
   (0x14, e.code.num * 2 ^ 24 + e.lastCls.val * 2 ^ 20 + b2n e.overrun * 2 ^ 19 + e.jobs.toNat), (0x18, 0),
   (0x1C, e.vbound.toNat), (0x20, e.cycles.toNat)]

/-- An engine's registers, EXT apart. -/
def State.pkeRead (s : State) (h : Half) (o : Nat) : Option Nat :=
  let e := s.eng h
  if 0x40 ≤ o ∧ o < 0x60 then some (bitsOf e.outMask.toNat (8 * (o - 0x40)) 32)
  else if 0x60 ≤ o ∧ o < 0x80 then some (bitsOf e.keyed.toNat (8 * (o - 0x60)) 32)
  else if 0x400 ≤ o ∧ o < 0x800 then some (e.slotCfg[(⟨(o - 0x400) / 4 % 256, Nat.mod_lt _ (by decide)⟩ : Fin 256)]).toNat
  else if 0x800 ≤ o ∧ o < 0x1000 then some 0
  else regAt (s.pkeLow h) o

/-! ## HASHGRP (R147) -/

/-- HASHGRP.ENG_STATUSe. -/
def Engine.status (g : Engine) : Nat :=
  min g.jobs 0xFFFF * 2 ^ 16 + g.cls % 8 * 32 + b2n g.fenced * 16 + b2n g.fill.isSome * 8
    + ((g.job.map fun j => j.alg).getD 0) % 4 * 2 + b2n (g.job.isSome || g.fill.isSome || g.kat)

/-- Word `r` of a half's fill map: ports 8 r to 8 r + 7. -/
def State.fillMapWord (s : State) (h : Half) (r : Nat) : Nat :=
  ((List.range 8).map fun k => (s.fillEngine h ⟨(8 * r + k) % 32, Nat.mod_lt _ (by decide)⟩).val * 2 ^ (4 * k)).sum

/-- QSTAT of a half. -/
def State.hashQstat (s : State) (h : Half) : Nat := (s.hash.done.get h).length % 256 * 2 ^ 16 + (s.hash.queue.get h).length % 256

/-- HASHGRP, QPOP apart. -/
def State.hashRead (s : State) (o : Nat) : Option Nat :=
  if 0x20 ≤ o ∧ o < 0x30 then some (s.fillMapWord .indigo ((o - 0x20) / 4))
  else if 0x30 ≤ o ∧ o < 0x40 then some (s.fillMapWord .amber ((o - 0x30) / 4))
  else if 0x40 ≤ o ∧ o < 0x80 then some (s.hash.engines[(⟨(o - 0x40) / 4 % 16, Nat.mod_lt _ (by decide)⟩ : Fin 16)]).status
  else
    regAt [(0x00, b2n s.hash.enable),
      (0x04, ((List.finRange 16).map fun e => b2n (s.hash.engines[e]).fenced * 2 ^ e.val).sum),
      (0x10, s.hash.median.indigo % 2 ^ 32), (0x14, s.hash.median.amber % 2 ^ 32), (0x100, 0), (0x104, s.hashQstat .indigo),
      (0x108, 0), (0x140, 0), (0x144, s.hashQstat .amber), (0x148, 0)] o

/-! ## MIRCTL (R108, R146) -/

/-- STATUS.capacity: 0 for 4 GiB, 1 for 8, 2 for 16, 3 for 32; 0 before a training has found any. -/
def Mirror.capacity (m : Mirror) : Nat := if m.chanOk = 0 then 0 else Nat.log2 (m.usableGib / 4)

/-- MIRCTL.STATUS. -/
def Mirror.status (m : Mirror) : Nat :=
  m.capacity * 64 + m.chanOk.toNat * 16 + b2n (m.reseal.isSome && m.keyNext == 0) * 8 + b2n m.reseal.isSome * 4
    + b2n m.trainFail * 2 + b2n m.ready

/-- CHT_INVAL_STATUS. -/
def State.invalStatus (s : State) : Nat :=
  s.mir.invalCode.num * 2 ^ 24 + s.mir.invalCause.toNat * 2 ^ 21
    + b2n (! s.mir.invals.isEmpty || (List.finRange 64).any fun c => (s.chan c).staged.isSome) * 2 ^ 20 + s.mir.invalChan.val * 2 ^ 12
    + s.mir.invals.length * 2 ^ 8 + b2n s.mir.invalErr

/-- A channel is drained (R104): no host command is in flight under another generation than the one in GEN_CSk; a command of the
generation in force that keeps a reload out leaves the bit 1, as R104's sentence says it, though its Caution and the worked example
would have it 0 (DESIGN CHOICE, log entry 139). -/
def State.drained (s : State) (c : ChanId) : Bool :=
  match (s.port c.port).held with
  | some r => ! (r.op.tx.chan == c && r.gen != (s.chan c).gen)
  | none => true

/-- A word of CHT_DRAINED. -/
def State.drainedWord (s : State) (i : Nat) : Nat := ((List.range 32).map fun b => b2n (s.drained (ix64 (32 * i + b))) * 2 ^ b).sum

/-- FILL_LEAF of a channel: leaves filled or scrubbed in the current pass. -/
def Chan.fillLeaf (ch : Chan) : Nat := if ch.state = .filling then ch.fillCount else (ch.scrub.map fun x => x.next).getD 0

/-- MIRCTL. -/
def State.mirRead (s : State) (o : Nat) : Option Nat :=
  let m := s.mir
  if 0x200 ≤ o ∧ o < 0x240 then some (packBytes (fun i => (s.chan (ix64 i)).state.num) ((o - 0x200) / 4))
  else if 0x300 ≤ o ∧ o < 0x400 then some ((s.chan (ix64 ((o - 0x300) / 4))).fillLeaf % 2 ^ 32)
  else
    regAt [(0x00, b2n m.scrubRun * 4 + b2n m.keysValid * 2), (0x04, m.status), (0x08, m.aperture.toNat), (0x10, m.keyProt.toNat),
      (0x14, m.keyStage.toNat), (0x18, m.keyNext.toNat), (0x1C, b2n m.reseal.isSome * 2 ^ 31 + m.reseal.getD 0 % 2 ^ 16), (0x20, 0),
      (0x24, m.cmdStatus.1.num * 2 ^ 24 + m.cmdStatus.2.val * 2 ^ 16), (0x28, 0), (0x2C, 0), (0x30, m.faultInfo.toNat),
      (0x34, m.faultCnt), (0x38, m.faultLimit.toNat), (0x40, m.scrubHours.toNat),
      (0x44, m.scrubChan.val * 2 ^ 16 + min m.scrubLate 0xFFFF), (0x100, m.chtBase.toNat), (0x104, 0), (0x108, s.invalStatus),
      (0x110, s.drainedWord 0), (0x114, s.drainedWord 1)] o

/-! ## CISTERN (R270) -/

/-- CISTERN.STATUS. -/
def State.cisStatus (s : State) : Nat :=
  ((List.finRange 8).map fun t => b2n (s.cis.targets[t]).present * 2 ^ t.val).sum * 256 + b2n (s.cis.state == 3) * 16
    + b2n (((s.cis.queue.head?.map fun c => c.op == 4 || c.op == 5)).getD false) * 8 + b2n s.cis.trainFail * 4 + b2n s.dev.freeze * 2
    + b2n s.cis.ready

/-- CISTERN.TARGET_STATUSt. -/
def State.targetStatus (s : State) (t : Fin 8) : Nat :=
  let x := s.cis.targets[t]
  min x.bad 0xFFFF * 2 ^ 16 + (if x.reserve = 0 then 0 else x.reserveLeft * 100 / x.reserve) % 256 * 2 ^ 8
    + b2n (((s.cis.queue.head?.map fun c => decide (c.op ≤ 3) && c.target == t.val)).getD false) * 2 + b2n x.present

/-- CISTERN, ECC_MAX and QPOP apart. -/
def State.cisRegRead (s : State) (o : Nat) : Option Nat :=
  if 0x20 ≤ o ∧ o < 0x40 then some (s.targetStatus ⟨(o - 0x20) / 4 % 8, Nat.mod_lt _ (by decide)⟩)
  else
    regAt [(0x00, b2n s.cis.patrolOn * 8 + b2n s.cis.pslc * 4 + b2n s.cis.keyValid * 2), (0x04, s.cisStatus), (0x08, s.cis.key.toNat),
      (0x0C, s.cis.eraseSeq % 2 ^ 32), (0x10, s.cis.eccMax.toNat), (0x14, s.cis.eccUncorr), (0x18, s.cis.tagFails), (0x100, 0),
      (0x104, s.cis.done.length % 256 * 2 ^ 16 + s.cis.queue.length % 256), (0x108, 0)] o

/-! ## PAKOR (R304) -/

/-- A link is up as STATUS says: up on two lanes or one. -/
def Link.isUp (k : Link) : Bool := k.state == .up || k.state == .upOneLane

/-- PAKOR.STATUS. -/
def State.pakStatus (s : State) : Nat :=
  b2n s.pak.island * 128 + b2n s.pak.isCas * 64 + b2n s.pak.isSeg * 32 + b2n s.dev.freeze * 16 + b2n s.pak.posConflict * 8
    + b2n s.pak.stale * 4 + b2n (s.link 1).isUp * 2 + b2n (s.link 0).isUp

/-- The registers of a link. -/
def State.linkRead (s : State) (l : LinkId) (o : Nat) : Option Nat :=
  let k := s.link l
  let recent := (k.retrains.filter fun t => decide (s.time ≤ t + 60 * secNs)).length
  regAt [(0x00, k.peer % 256 * 2 ^ 16 + recent % 256 * 2 ^ 8 + k.state.num * 32 + b2n k.trunk * 16 + b2n k.lane1 * 2 + b2n k.lane0),
    (0x04, k.rtt % 2 ^ 24), (0x08, k.keyTx.toNat), (0x0C, k.keyRx.toNat), (0x10, k.crcCnt), (0x14, k.tagCnt), (0x18, k.dropCnt)] o

/-- PAKOR, QPOP and RXPOP apart. -/
def State.pakRead (s : State) (o : Nat) : Option Nat :=
  if 0x100 ≤ o ∧ o < 0x200 then s.linkRead ⟨(o - 0x100) / 0x40 % 4, Nat.mod_lt _ (by decide)⟩ (o % 0x40)
  else
    regAt [(0x00, b2n s.pak.beaconRun * 4 + b2n s.pak.enableB * 2 + b2n s.pak.enableA), (0x04, s.pakStatus),
      (0x08, s.devNumber * 256 + s.pak.seg.val * 16 + s.pak.pos.val), (0x10, s.pak.flags.toNat), (0x14, s.pak.members.toNat),
      (0x18, s.pak.segEpoch % 2 ^ 32), (0x1C, s.pak.casMaster % 256 * 256 + s.pak.segMaster % 256), (0x20, s.pak.casEpoch % 2 ^ 32),
      (0x24, 0), (0x200, 0), (0x204, s.pak.done.length % 256 * 2 ^ 16 + s.pak.queue.length % 256), (0x208, 0),
      (0x210, s.pak.rx.length % 256), (0x214, 0)] o

/-! ## MEASURE (R334) -/

/-- MEASURE.STATUS. -/
def Measure.status (m : Measure) (freeze : Bool) : Nat :=
  b2n m.pwrok * 64 + b2n m.acfail * 32 + b2n freeze * 16 + b2n m.valid * 8 + b2n m.stale * 4 + b2n m.calFail * 2
    + b2n (m.pace[(0 : Fin 2)] && m.pace[(1 : Fin 2)])

/-- MEASURE. -/
def State.measRead (s : State) (o : Nat) : Option Nat :=
  let m := s.ms
  if 0x40 ≤ o ∧ o < 0x80 then some (m.railMv[(⟨(o - 0x40) / 4 % 16, Nat.mod_lt _ (by decide)⟩ : Fin 16)]).toNat
  else if 0x100 ≤ o ∧ o < 0x140 then some (m.railCfg[(⟨(o - 0x100) / 4 % 16, Nat.mod_lt _ (by decide)⟩ : Fin 16)]).toNat
  else
    regAt [(0x00, b2n m.huEnable * 8 + b2n m.bus1Current * 4 + b2n m.busFreeze * 2 + b2n m.run), (0x04, m.status s.dev.freeze),
      (0x10, (m.busWin[(0 : Fin 2)]).toNat), (0x14, (m.busWin[(1 : Fin 2)]).toNat), (0x18, m.busWinFilt.toNat), (0x1C, m.busZoom.toNat),
      (0x20, 0), (0x24, m.cap.toNat), (0x28, b2n m.valid * 2 ^ 31 + b2n m.stale * 2 ^ 30 + m.holdupMs.toNat), (0x2C, m.peakW.toNat),
      (0x80, (m.busMv[(0 : Fin 2)]).toNat), (0x84, (m.busMv[(1 : Fin 2)]).toNat), (0x140, (m.busCfg[(0 : Fin 2)]).toNat),
      (0x144, (m.busCfg[(1 : Fin 2)]).toNat)] o

/-! ## MBOX (R528) -/

/-- A mailbox's registers. -/
def State.boxReg (s : State) (m : Fin 16) (o : Nat) : Option Nat :=
  let b := s.box m
  regAt [(0x00, b.home.toNat), (0x04, (b.status m).toNat), (0x08, b.inBits.toNat), (0x0C, b.inMask.toNat), (0x10, b.outBits.toNat),
    (0x14, b.outMask.toNat), (0x18, 0), (0x1C, 0)] o

/-- The mailbox that an offset of MBOX lies in. -/
def mboxOf (o : Nat) : Fin 16 := if o < 0x1000 then ⟨o / 0x40 % 16, Nat.mod_lt _ (by decide)⟩ else ⟨(o - 0x1000) / 0x200 % 16, Nat.mod_lt _ (by decide)⟩

/-- MBOX. -/
def State.mboxRead (s : State) (o : Nat) : Option Nat :=
  let b := s.box (mboxOf o)
  if o < 0x400 then s.boxReg (mboxOf o) (o % 0x40)
  else if 0x1000 ≤ o ∧ o < 0x3000 then
    some (if o % 0x200 < 0x100 then wordAt b.inBuf.toList (o % 0x100) else wordAt b.outBuf.toList (o % 0x100))
  else none

/-! ## EVENTS (R550) -/

/-- EVENTS.CLAIMk (R533). -/
def State.claimWord (s : State) (k : CoreId) : Nat :=
  match s.claimOf k with
  | some e => (s.evCfg e).priority.toNat * 2 ^ 24 + e.val
  | none => 0x7FF

/-- EVENTS.CFGe. -/
def EventCfg.word (c : EventCfg) : Nat := c.priority.toNat * 256 + c.group.toNat * 16 + c.core.toNat

/-- EVENTS. -/
def State.eventsRead (s : State) (o : Nat) : Option Nat :=
  if 0x10 ≤ o ∧ o < 0x40 then some (s.claimWord ⟨(o - 0x10) / 4 % 12, Nat.mod_lt _ (by decide)⟩)
  else if 0x1000 ≤ o ∧ o < 0x10C0 then some (bitsOf s.ev.pending.toNat (8 * (o - 0x1000)) 32)
  else if 0x1100 ≤ o ∧ o < 0x11C0 then some (bitsOf s.ev.mask.toNat (8 * (o - 0x1100)) 32)
  else if 0x4000 ≤ o ∧ o < 0x5800 then some (s.evCfg ⟨(o - 0x4000) / 4 % 1536, Nat.mod_lt _ (by decide)⟩).word
  else regAt [(0x00, b2n s.ev.enabled), (0x40, 0)] o

/-! ## PWRCLK (R551) -/

/-- A watchdog's registers: its configuration, the kick register, the ms left of an armed one. -/
def State.wdogRead (s : State) (g : Fin 4) (o : Nat) : Option Nat :=
  let w := s.pw.wdogs[g]
  regAt [(0x0, b2n w.armed * 2 ^ 31 + w.periodMs.toNat), (0x4, 0), (0x8, if w.armed then (w.deadline - s.time) / msNs % 2 ^ 16 else 0)] o

/-- A timer's registers: its configuration, and the µs elapsed of a running one. -/
def State.timerRead (s : State) (t : Fin 8) (o : Nat) : Option Nat :=
  let x := s.pw.timers[t]
  regAt [(0x0, b2n x.enable * 2 ^ 31 + b2n x.periodic * 2 ^ 30 + x.periodUs.toNat),
    (0x4, if x.enable then (s.time - x.start) / usNs % 2 ^ 24 else 0)] o

/-- PWRCLK; a read of TIME_LO also latches TIME_HI. -/
def State.pwrRead (s : State) (o : Nat) : Option Nat :=
  let p := s.pw
  if 0x100 ≤ o ∧ o < 0x140 then s.wdogRead ⟨(o - 0x100) / 0x10 % 4, Nat.mod_lt _ (by decide)⟩ (o % 0x10)
  else if 0x200 ≤ o ∧ o < 0x240 then s.timerRead ⟨(o - 0x200) / 8 % 8, Nat.mod_lt _ (by decide)⟩ (o % 8)
  else
    regAt [(0x10, 0), (0x14, p.reqCode.num * 2 ^ 24 + p.reqDom.val * 2 ^ 16 + b2n (! p.queue.isEmpty) * 2 ^ 8 + p.queue.length),
      (0x18, bitsOf p.domOn.toNat 1 32), (0x1C, bitsOf p.domOn.toNat 33 6), (0x20, b2n p.wakePin * 2 ^ 31 + b2n p.wakeTimerOn * 2 ^ 30),
      (0x24, p.wakeSense.toNat), (0x28, p.wakeTimer.toNat), (0x2C, p.wakeCause % 4), (0x30, s.time % 2 ^ 32), (0x34, p.timeHi.toNat),
      (0x40, p.clkStatus.toNat)] o

/-! ## LEVEE (R401) -/

/-- LEVEE. -/
def State.leveeRead (s : State) (o : Nat) : Option Nat :=
  let l := s.lev
  regAt [(0x00, 0), (0x04, b2n l.latched * 2 ^ 31 + b2n l.selftest.isSome * 2 ^ 30 + l.now.toNat),
    (0x08, l.first % 32 * 2 ^ 16 + l.cause.toNat), (0x10, halfWord l.causeTime 0), (0x14, halfWord l.causeTime 1), (0x18, l.mask.toNat),
    (0x1C, l.result.toNat), (0x20, l.temp.toNat), (0x24, l.refclkKhz.toNat)] o

/-! ## PORTnn (R86) -/

/-- ID_CSk. -/
def Chan.idWord (ch : Chan) (i : Nat) : Nat :=
  wordAt ((ch.idBytes.take 6 ++ List.replicate (6 - ch.idBytes.length) 0) ++ leBytes 2 ch.idBytes.length) (4 * i)

/-- CAL_CSk. -/
def CalInfo.word (c : CalInfo) : Nat :=
  c.window % 256 * 2 ^ 24 + c.flight % 256 * 2 ^ 16 + c.delay % 256 * 2 ^ 8 + c.attempts % 4 * 64 + c.cause % 8 * 8 + b2n c.valid

/-- EMU_CSk. `wait` is the effective wait of the 1-1-1 fast read whatever the protocol: R86 names no command for it
    (DESIGN CHOICE, log entry 141). -/
def Chan.emuWord (ch : Chan) : Nat :=
  (if ch.info.isSome then ch.effWait .fast111 % 64 else 0) * 2 ^ 10 + b2n ch.native * 512 + b2n ch.dpd * 256 + b2n ch.suspended * 128 + b2n ch.addr4 * 64
    + b2n ch.wel * 32 + b2n ch.wip * 16 + ch.protocol.num

/-- PORTnn.STATUS. -/
def State.portStatus (s : State) (p : PortId) : Nat :=
  let c0 := s.chan (chanOf p 0)
  let c1 := s.chan (chanOf p 1)
  let q := s.port p
  c1.state.num * 2 ^ 21 + c0.state.num * 2 ^ 18 + q.band.toNat * 2 ^ 16 + b2n (q.flashIo == .v33) * 512 + b2n (q.hostIo == .v33) * 256
    + (q.sticky &&& 0xFE).toNat + b2n (c0.staged.isSome || c1.staged.isSome)

/-- The port registers below the SFDP windows. -/
def State.portLow (s : State) (p : PortId) : List (Nat × Nat) :=
  let c0 := s.chan (chanOf p 0)
  let c1 := s.chan (chanOf p 1)
  let q := s.port p
  [(0x00, q.holdLimit.toNat * 256 + b2n c1.state.served * 8 + b2n c0.state.served * 4 + b2n q.strobeExtend * 2),
   (0x04, s.portStatus p), (0x08, q.hsck.toNat), (0x10, q.partialCnt), (0x14, q.underrunCnt), (0x18, q.extendCnt), (0x1C, q.unkCnt),
   (0x20, c0.idWord 0), (0x24, c0.idWord 1), (0x28, c1.idWord 0), (0x2C, c1.idWord 1), (0x30, c0.cal.word), (0x34, c1.cal.word),
   (0x38, c0.trim.toNat), (0x3C, c1.trim.toNat), (0x40, c0.clk.num * 16 + c0.mode.num), (0x44, c1.clk.num * 16 + c1.mode.num),
   (0x48, c0.emuWord), (0x4C, c1.emuWord), (0x50, c0.gen % 2 ^ 16), (0x54, c1.gen % 2 ^ 16)]

/-- PORTnn. -/
def State.portRegRead (s : State) (p : PortId) (o : Nat) : Option Nat :=
  let c0 := s.chan (chanOf p 0)
  let c1 := s.chan (chanOf p 1)
  match o / 0x1000 with
  | 0 => regAt (s.portLow p) o
  | 1 => some (wordAt c0.rawSfdp (o % 0x1000))
  | 2 => some (wordAt c1.rawSfdp (o % 0x1000))
  | 3 => some (wordAt c0.persSfdp (o % 0x1000))
  | 4 => some (wordAt c1.persSfdp (o % 0x1000))
  | _ => none

/-! ## Core-local registers (R476) -/

/-- STACK_CTL. -/
def Core.stackCtl (q : Core) : Nat := q.rlimit % 64 * 2 ^ 24 + q.rdepth % 64 * 2 ^ 16 + q.dlimit % 128 * 2 ^ 8 + q.depth % 128

/-- CORE cycles since the core's release, at 800 MHz (R451). -/
def Core.cycles (q : Core) (now : Nat) : Nat := if q.released then (now - q.releasedAt) * 4 / 5 else 0

/-- CORE_ID. -/
def coreIdWord (k : CoreId) : Nat := (if k.val < 4 then 0 else if k.val < 8 then 1 else if k.val < 10 then 2 else 3) * 16 + k.val

/-- A word of a protection region's registers. -/
def Region.word (r : Region) (o : Nat) : Option Nat := regAt [(0x0, r.base.toNat), (0x4, r.limit.toNat), (0x8, r.attr.toNat)] o

/-- A core's own registers. -/
def State.localRead (s : State) (k : CoreId) (o : Nat) : Option Nat :=
  let q := s.core k
  if o < 0x100 then some (if o / 4 < q.depth then (q.dstack[ix64 (o / 4)]).toNat else 0)
  else if o < 0x180 then some (q.rstack[(⟨(o - 0x100) / 4 % 32, Nat.mod_lt _ (by decide)⟩ : Fin 32)]).toNat
  else if 0x300 ≤ o ∧ o < 0x400 then (q.regions[(⟨(o - 0x300) / 16 % 16, Nat.mod_lt _ (by decide)⟩ : Fin 16)]).word (o % 16)
  else
    regAt [(0x200, q.stackCtl), (0x204, b2n q.sat * 256 + q.round.toNat), (0x208, q.imageBase.toNat), (0x210, q.trapInfo.toNat),
      (0x214, q.trapPc.toNat), (0x218, q.trapNext.toNat), (0x21C, q.trapOp.toNat), (0x220, q.trapAddr.toNat), (0x230, q.busErr.toNat),
      (0x234, q.busErrAddr.toNat), (0x240, halfWord (q.cycles s.time) 0), (0x244, halfWord (q.cycles s.time) 1), (0x250, 0),
      (0x254, b2n q.irqEnable * 8 + q.irqLevel.toNat), (0x258, coreIdWord k)] o

end Sys2Proof.Machine
end

