-- ==== Sys2Proof/Machine/RegWrite.lean ====
section
/-!
DEFINITION. Writes of the registers (the maps of RegRead.lean) by a core whose reach has been judged (Bus.lean): what each writable
register takes, who may write it (R19, R532, R551), and the syndrome where the write is refused. A write of a read-only register
or of an RSV bit is ignored (R6).
-/
namespace Sys2Proof.Machine

/-- The state a command comes to, the state itself where it stops. -/
def afterExec (o : Host.Outcome State Fault Refusal) (s : State) : State :=
  match o with
  | .next t => t
  | _ => s

/-- A write for those who may: else DENIED_ACCESS, and nothing changes (R19, R30). -/
def State.ifMay (s : State) (may : Bool) (t : State) : State × Code := if may then (t, .ok) else (s, .deniedAccess)

/-- A 64-bit value with one of its words replaced. -/
def withHalf (d : DWord) (i : Nat) (v : Word) : DWord :=
  BitVec.ofNat 64 (if i = 0 then halfWord d.toNat 1 * 2 ^ 32 + v.toNat else v.toNat * 2 ^ 32 + halfWord d.toNat 0)

/-- Bytes with four of them replaced from `o` on, zeros filling a gap before. -/
def putWord (bs : List Byte) (o : Nat) (v : Word) : List Byte :=
  bs.take o ++ List.replicate (o - bs.length) 0 ++ leBytes 4 v.toNat ++ bs.drop (o + 4)

/-! ## HEADGATE -/

/-- A write of a word of a half's hold bits (R317): each bit that changes is set or cleared; refused in RECOVER and SERVICE (R51). -/
def State.holdWord (s : State) (h : Half) (i : Nat) (v : Word) : State :=
  if s.dev.mode = .recover ∨ s.dev.mode = .service then s.opRefused .hold
  else
    let new := withHalf (s.hg.holds.get h) i v
    (List.finRange 64).foldl (fun (s : State) x =>
      if (s.hg.holds.get h).getLsbD x.val = new.getLsbD x.val then s else s.holdWrite h x (new.getLsbD x.val)) s

/-- A write of a word of a half's grant bits (R578): a bit sets where the conditions hold, and clears where written 0. -/
def State.grantWord (s : State) (h : Half) (i : Nat) (v : Word) : State :=
  let new := withHalf (s.hg.grants.get h) i v
  let kept := (finBits new).foldl (fun m x => if (s.hg.grants.get h).getLsbD x.val || s.mayGrant h x then putBit m x.val true else m) (0 : DWord)
  { s with hg := { s.hg with grants := s.hg.grants.set h kept } }

/-- The claim that a CLAIM register's code names. -/
def claimOfCode (n : Nat) : Claim :=
  match n % 4 with
  | 0 => .none
  | 1 => .steward
  | 2 => .shadow
  | _ => .restarting

/-- A word of the staged plan is written (R314). -/
def State.planStageWord (s : State) (i : Nat) (v : Word) : State :=
  let h := ix64 (i / 8)
  let e := planEntryOf (putWord (planEntryBytes s.hg.planStage[h]) (4 * (i % 8)) v)
  { s with hg := { s.hg with planStage := vset s.hg.planStage h e } }

/-- A word of a half's VROOT. -/
def State.vrootWord (s : State) (h : Half) (i : Nat) (v : Word) : State :=
  let d := digestOfBytes (putWord (digestBytes (s.hg.vroot.get h)) (4 * i) v)
  { s with hg := { s.hg with vroot := s.hg.vroot.set h d } }

/-- HEADGATE written by a core of half `h` (R19, R333). -/
def State.hgWrite (s : State) (h : Half) (o : Nat) (v : Word) : State × Code :=
  let st := s.isSteward h
  let ind := decide (h = .indigo)
  let amb := decide (h = .amber)
  if 0x100 ≤ o ∧ o < 0x130 then s.ifMay ind (s.vrootWord .indigo ((o - 0x100) / 4) v)
  else if 0x140 ≤ o ∧ o < 0x170 then s.ifMay amb (s.vrootWord .amber ((o - 0x140) / 4) v)
  else if 0x1000 ≤ o ∧ o < 0x1800 then s.ifMay st (s.planStageWord ((o - 0x1000) / 4) v)
  else
    (regAt [(0x00, s.ifMay st { s with hg := { s.hg with planRun := v.getLsbD 0 } }),
      (0x08, s.ifMay st { s with hg := { s.hg with puenSettleMs := v.setWidth 8 } }),
      (0x1C, s.ifMay st (s.setInvert v)),
      (0x20, s.ifMay st { s with hg := { s.hg with senseFilter := v.setWidth 8 } }),
      (0x30, s.ifMay ind (s.holdWord .indigo 0 v)), (0x34, s.ifMay ind (s.holdWord .indigo 1 v)),
      (0x38, s.ifMay amb (s.holdWord .amber 0 v)), (0x3C, s.ifMay amb (s.holdWord .amber 1 v)),
      (0x40, s.ifMay ind (s.grantWord .indigo 0 v)), (0x44, s.ifMay ind (s.grantWord .indigo 1 v)),
      (0x48, s.ifMay amb (s.grantWord .amber 0 v)), (0x4C, s.ifMay amb (s.grantWord .amber 1 v)),
      (0x58, s.ifMay ind (s.claim .indigo (claimOfCode v.toNat) s.hg.claimEpochs.indigo)),
      (0x5C, s.ifMay ind { s with hg := { s.hg with claimEpochs := s.hg.claimEpochs.set .indigo v } }),
      (0x60, s.ifMay amb (s.claim .amber (claimOfCode v.toNat) s.hg.claimEpochs.amber)),
      (0x64, s.ifMay amb { s with hg := { s.hg with claimEpochs := s.hg.claimEpochs.set .amber v } }),
      (0x68, s.ifMay st (if v.getLsbD 0 then s.yieldTo h else s)),
      (0x70, s.ifMay st { s with hg := { s.hg with confirmCfg := v.setWidth 16 } }),
      (0x78, s.ifMay st (s.confirmWrite h v)),
      (0x80, s.ifMay ind (s.planGenWrite .indigo (v.setWidth 16))), (0x84, s.ifMay amb (s.planGenWrite .amber (v.setWidth 16))),
      (0x8C, s.ifMay st (afterExec (execPlanStageGenWrite h (v.setWidth 16) s) s)),
      (0x130, s.ifMay ind (s.vpost .indigo v)), (0x170, s.ifMay amb (s.vpost .amber v))] o).getD (s, .ok)

/-! ## FUSECTL -/

/-- A write of FUSECTL.CMD by the steward (R416, R424): the command that the op names, its burn a free value. -/
def State.fuseCmd (s : State) (h : Half) (v : Word) : State :=
  let priv := v.getLsbD 27
  let w := BitVec.ofNat 9 (bitsOf v.toNat 16 9)
  let b := s.freeBurn
  let run (o : Host.Outcome State Fault Refusal) : State := afterExec o s
  match bitsOf v.toNat 28 4 with
  | 1 => run (execFuseRead h priv w s)
  | 2 => run (execFuseMargin h priv w s)
  | 3 => run (execFuseProgram h priv w b s.drawn)
  | 4 => run (execFuseReburn h priv w b s.drawn)
  | 5 => run (execFuseLock h w b s.drawn)
  | 6 => run (execFuseRedirect h w b s.drawn)
  | 7 => run (execGenSecret h b s.drawn)
  | 8 => run (execFuseReload h priv w s)
  | _ => s.fuseRefuse .badRange

/-- FUSECTL (R424). -/
def State.fuseRegWrite (s : State) (h : Half) (o : Nat) (v : Word) : State × Code :=
  let st := s.isSteward h
  (regAt [(0x00, s.ifMay st (s.fuseCmd h v)), (0x04, s.ifMay st { s with fuse := { s.fuse with cmdData := v } }),
    (0x40, s.ifMay st (s.overrideAddr v)), (0x44, s.ifMay st (s.overrideWrite v))] o).getD (s, .ok)

/-! ## KEYVAULT -/

/-- A command block from its 64 bytes (R372). -/
def kvCmdOf (b : List Byte) : KvCmd :=
  let f (o n : Nat) : Nat := leNat ((b.drop o).take n)
  { owner := f 1 1, length := f 2 2, parent := BitVec.ofNat 32 (f 4 4), dest := BitVec.ofNat 8 (f 8 1), usage := BitVec.ofNat 8 (f 9 1),
    target := BitVec.ofNat 32 (f 0xC 4), src := f 0x10 4, srcLen := f 0x14 4, dst := f 0x18 4, dstLen := f 0x1C 4,
    rsvZero := f 0xA 2 == 0 && f 0x20 32 == 0 }

/-- A write of CMD_ADDR (R372): the block at the address starts; an op not listed, or a block outside secure SRAM, is BAD_RANGE. -/
def State.kvStart (s : State) (h : Half) (a : Nat) : State :=
  let b := s.bytes a 64
  let c := kvCmdOf b
  let op := leNat (b.take 1)
  let run (o : Host.Outcome State Fault Refusal) : State := afterExec o s
  if ! inSram a 64 then s.kvRun h op c fun s => (s, .badRange, 0)
  else match op with
    | 1 => run (execGenerate h c s)
    | 2 => run (execDerive h c s)
    | 3 => run (execExtract h c s)
    | 4 => run (execExpand h c s)
    | 5 => run (execInvalidate h c s)
    | 6 => run (execLoadPke h c s)
    | 7 => run (execStorePke h c s)
    | 8 => run (execHmac h c s)
    | 9 => run (execWrap h c s)
    | 10 => run (execUnwrap h c s)
    | _ => s.kvRun h op c fun s => (s, .badRange, 0)

/-- A write of KEYVAULT.CTL (R378, R382, R400): lc_override before PROVISION, the two W1S bits. -/
def State.kvCtl (s : State) (v : Word) : State :=
  let s := if s.lifecycle.num < 2 then { s with kv := { s.kv with lcOverride := BitVec.ofNat 3 (bitsOf v.toNat 5 3) } } else s
  let s := if v.getLsbD 1 then s.setTestSecret else s
  if v.getLsbD 0 then s.setRootLock else s

/-- KEYVAULT in a half's view (R400). -/
def State.kvWrite (s : State) (h : Half) (o : Nat) (v : Word) : State × Code :=
  (regAt [(0x00, (s.kvCtl v, Code.ok)), (0x10, (s.kvStart h v.toNat, Code.ok))] o).getD (s, .ok)

/-! ## PKE -/

/-- A write of PKE.CTL (R443): clearing enable aborts; setting it lets the queue run. -/
def State.pkeCtl (s : State) (h : Half) (v : Word) : State :=
  if v.getLsbD 0 then pkeRun h 65 (s.updEng h fun e => { e with enable := true })
  else if (s.eng h).enable then (pkeAbortAs h .frameAbort s).updEng h fun e => { e with enable := false }
  else s

/-- An engine's registers, written by its half (R447). -/
def State.pkeWrite (s : State) (h : Half) (o : Nat) (v : Word) : State × Code :=
  if 0x40 ≤ o ∧ o < 0x60 then
    let i := 8 * (o - 0x40)
    let m := BitVec.ofNat 256 ((s.eng h).outMask.toNat - bitsOf (s.eng h).outMask.toNat i 32 * 2 ^ i + v.toNat * 2 ^ i)
    (s.updEng h fun e => { e with outMask := m }, .ok)
  else if 0x400 ≤ o ∧ o < 0x800 then s.slotCfgWrite h ⟨(o - 0x400) / 4 % 256, Nat.mod_lt _ (by decide)⟩ v
  else
    (regAt [(0x00, (s.pkeCtl h v, Code.ok)), (0x08, (s.updEng h fun e => { e with cmdLo := v }, Code.ok)),
      (0x0C, (pkePush h v (s.eng h).cmdLo s, Code.ok)), (0x18, (if v.getLsbD 0 then pkeAbortAs h .frameAbort s else s, Code.ok)),
      (0x1C, (s.updEng h fun e => { e with vbound := v }, Code.ok))] o).getD (s, .ok)

/-! ## HASHGRP -/

/-- A word of a fill map (R267): ports 8 r to 8 r + 7. -/
def State.fillMapWrite (s : State) (h : Half) (r : Nat) (v : Word) : State :=
  let m := Vector.ofFn fun p : Fin 32 =>
    if p.val / 8 = r then (⟨bitsOf v.toNat (4 * (p.val % 8)) 3 % 8, Nat.mod_lt _ (by decide)⟩ : Fin 8) else (s.hash.fillMap.get h)[p]
  { s with hash := { s.hash with fillMap := s.hash.fillMap.set h m } }

/-- HASHGRP (R147): each half its own queue, the steward the fill maps. -/
def State.hashWrite (s : State) (h : Half) (o : Nat) (v : Word) : State × Code :=
  if 0x20 ≤ o ∧ o < 0x30 then s.ifMay (s.isSteward h) (s.fillMapWrite .indigo ((o - 0x20) / 4) v)
  else if 0x30 ≤ o ∧ o < 0x40 then s.ifMay (s.isSteward h) (s.fillMapWrite .amber ((o - 0x30) / 4) v)
  else
    (regAt [(0x00, ({ s with hash := { s.hash with enable := v.getLsbD 0 } }, Code.ok)),
      (0x100, s.ifMay (decide (h = .indigo)) (s.hashPush .indigo v.toNat)),
      (0x140, s.ifMay (decide (h = .amber)) (s.hashPush .amber v.toNat))] o).getD (s, .ok)

/-! ## MIRCTL -/

/-- What a mirror key register asks of a slot (R361, R364): MIRROR_AES, and sealing or opening. -/
def needMirror : KvNeed := ⟨0x08, 0x18⟩

/-- A write of a consumer register (R364): the handle, or the syndrome of the check. -/
def State.keyWrite (s : State) (hd : Word) (n : KvNeed) (put : State → State) : State × Code :=
  let r := s.consumerCheck hd n
  if r.2 = .ok then (put r.1, .ok) else r

/-- A write of MIRCTL.CTL (R109, R146): training starts; the rising edge of keys_valid seals the counter lines. -/
def State.mirCtl (s : State) (v : Word) : State :=
  let s := { s with mir := { s.mir with scrubRun := v.getLsbD 2 } }
  let s := if v.getLsbD 0 then s.train else s
  let rise := v.getLsbD 1 && ! s.mir.keysValid
  let s := { s with mir := { s.mir with keysValid := v.getLsbD 1 } }
  if rise then s.sealLines else s

/-- The unit that a repair commanded by CHAN_CMD restores (DESIGN CHOICE, log entry 46): the one of the lowest leaf recorded as lost
or faulted, else the first. -/
def Chan.commandedUnit (ch : Chan) : Nat × Nat := ch.repairUnit (((ch.lost ++ ch.faulted).foldl (fun b l => some (min l (b.getD l))) none).getD 0)

/-- A write of CHAN_CMD (R146): the command of its low bits, BAD_RANGE for other values. -/
def State.chanCmdWrite (s : State) (v : Word) : State :=
  let c := ix64 (bitsOf v.toNat 16 6)
  let u := (s.chan c).commandedUnit
  match bitsOf v.toNat 0 4 with
  | 1 => s.cmdFill c
  | 2 => s.cmdUpdating c
  | 3 => s.cmdUpdateEnded c
  | 4 => s.cmdQuarantined c
  | 5 => s.cmdScrub c
  | 6 => s.cmdRepair c u.1 u.2
  | _ => s.chanCmdEnd c .badRange

/-- MIRCTL, the steward's to write (R19, R108, R146). APERTURE takes any value of its five bits; a page beyond the fitted DRAM, which no
rule speaks of, maps offsets that do not exist, and reads through it end in HOLE (DESIGN CHOICE, log entry 138). -/
def State.mirWrite (s : State) (h : Half) (o : Nat) (v : Word) : State × Code :=
  let st := s.isSteward h
  let key (put : State → State) : State × Code := if st then s.keyWrite v needMirror put else (s, .deniedAccess)
  (regAt [(0x00, s.ifMay st (s.mirCtl v)), (0x08, s.ifMay st { s with mir := { s.mir with aperture := v.setWidth 5 } }),
    (0x10, key fun s => { s with mir := { s.mir with keyProt := v } }), (0x14, key fun s => { s with mir := { s.mir with keyStage := v } }),
    (0x18, key fun s => { s with mir := { s.mir with keyNext := v } }), (0x20, s.ifMay st (s.chanCmdWrite v)),
    (0x28, s.ifMay st (s.pinLoadWrite v)), (0x2C, s.ifMay st { s with mir := { s.mir with pinHi := v.getLsbD 0 } }),
    (0x38, s.ifMay st { s with mir := { s.mir with faultLimit := v.setWidth 8 } }),
    (0x40, s.ifMay st { s with mir := { s.mir with scrubHours := v.setWidth 16 } }), (0x100, s.ifMay st (s.chtBaseWrite v)),
    (0x104, s.ifMay st (s.chtInvalWrite v)),
    (0x108, s.ifMay st (if v.getLsbD 0 then { s with mir := { s.mir with invalErr := false } } else s))] o).getD (s, .ok)

/-! ## CISTERN and PAKOR -/

/-- A Cistern command from its 32 bytes (R270). -/
def cisCmdOf (b : List Byte) : CisCmd :=
  let f (o n : Nat) : Nat := leNat ((b.drop o).take n)
  { op := f 0 1, cls := f 1 1, tag := f 2 2, target := f 4 1, flags := f 5 1, pages := f 6 2, row := f 8 4, dram := f 0xC 4,
    length := f 0x10 4, k := f 0x14 1, m := f 0x15 1, missing := f 0x16 2, shardBase := f 0x18 4, stride := f 0x1C 4 }

/-- A write of CISTERN.CTL (R270). -/
def State.cisCtl (s : State) (v : Word) : State :=
  let s := { s with cis := { s.cis with patrolOn := v.getLsbD 3, pslc := v.getLsbD 2, keyValid := v.getLsbD 1 } }
  if v.getLsbD 0 then s.cisternInit else s

/-- CISTERN, the steward's to write (R270). -/
def State.cisRegWrite (s : State) (h : Half) (o : Nat) (v : Word) : State × Code :=
  let st := s.isSteward h
  (regAt [(0x00, s.ifMay st (s.cisCtl v)),
    (0x08, if st then s.keyWrite v ⟨0x10, 0x18⟩ fun s => { s with cis := { s.cis with key := v } } else (s, .deniedAccess)),
    (0x100, s.ifMay st (s.cisternPush (cisCmdOf (s.bytes v.toNat 32))))] o).getD (s, .ok)

/-- A Pakor send command from its 32 bytes (R304). -/
def sendCmdOf (b : List Byte) : SendCmd :=
  let f (o n : Nat) : Nat := leNat ((b.drop o).take n)
  { type := f 0 1, cls := f 1 1, tag := f 2 2, dst := f 4 1, flags := f 5 1, src := f 8 4, length := f 0xC 4 }

/-- A write of PAKOR.CTL (R277, R304): a port that is disabled takes its links down. -/
def State.pakCtl (s : State) (v : Word) : State :=
  let wasA := s.pak.enableA
  let wasB := s.pak.enableB
  let s := { s with pak := { s.pak with beaconRun := v.getLsbD 2, enableB := v.getLsbD 1, enableA := v.getLsbD 0 } }
  let s := if wasA && ! s.pak.enableA then (s.linkDown 0).linkDown 2 else s
  if wasB && ! s.pak.enableB then (s.linkDown 1).linkDown 3 else s

/-- A link's key registers. -/
def State.linkKeyWrite (s : State) (l : LinkId) (o : Nat) (v : Word) : State × Code :=
  match o with
  | 0x08 => s.keyWrite v ⟨0x20, 0x08⟩ fun s => s.updLink l fun k => { k with keyTx := v }
  | 0x0C => s.keyWrite v ⟨0x20, 0x10⟩ fun s => s.updLink l fun k => { k with keyRx := v }
  | _ => (s, .ok)

/-- PAKOR, the steward's to write (R304). -/
def State.pakWrite (s : State) (h : Half) (o : Nat) (v : Word) : State × Code :=
  let st := s.isSteward h
  let put (f : Pakor → Pakor) : State × Code := s.ifMay st { s with pak := f s.pak }
  if 0x100 ≤ o ∧ o < 0x200 then
    if st then s.linkKeyWrite ⟨(o - 0x100) / 0x40 % 4, Nat.mod_lt _ (by decide)⟩ (o % 0x40) v
    else if o % 0x40 = 0x08 ∨ o % 0x40 = 0x0C then (s, .deniedAccess) else (s, .ok)
  else
    (regAt [(0x00, s.ifMay st (s.pakCtl v)), (0x10, put fun p => { p with flags := v.setWidth 8 }),
      (0x14, put fun p => { p with members := v }), (0x18, put fun p => { p with segEpoch := v.toNat }),
      (0x1C, put fun p => { p with segMaster := v.toNat % 256, casMaster := bitsOf v.toNat 8 8 }),
      (0x20, put fun p => { p with casEpoch := v.toNat }), (0x24, s.ifMay st s.beaconRefresh),
      (0x200, s.ifMay st (s.pakorPush (sendCmdOf (s.bytes v.toNat 32))))] o).getD (s, .ok)

/-! ## MEASURE -/

/-- MEASURE (R19, R334): measurement cores write the results, the steward the configuration. -/
def State.measWrite (s : State) (k : CoreId) (o : Nat) (v : Word) : State × Code :=
  let st := s.stewardCore k
  let me := isMeasCore k
  let put (may : Bool) (f : Measure → Measure) : State × Code := s.ifMay may { s with ms := f s.ms }
  if 0x40 ≤ o ∧ o < 0x80 then
    put me fun m => { m with railMv := vset m.railMv ⟨(o - 0x40) / 4 % 16, Nat.mod_lt _ (by decide)⟩ (v.setWidth 16) }
  else if 0x100 ≤ o ∧ o < 0x140 then
    put st fun m => { m with railCfg := vset m.railCfg ⟨(o - 0x100) / 4 % 16, Nat.mod_lt _ (by decide)⟩ v }
  else
    (regAt [(0x00, s.ifMay st (s.measCtl v)),
      (0x10, put st fun m => { m with busWin := vset m.busWin 0 (v &&& 0x3FFF3FFF) }),
      (0x14, put st fun m => { m with busWin := vset m.busWin 1 (v &&& 0x3FFF3FFF) }),
      (0x18, put st fun m => { m with busWinFilt := v.setWidth 8 }), (0x1C, put st fun m => { m with busZoom := v &&& 0x00013FFF }),
      (0x20, s.huCtlWrite k v), (0x24, put me fun m => { m with cap := v }),
      (0x28, put me fun m => { m with valid := v.getLsbD 31, stale := v.getLsbD 30, holdupMs := v.setWidth 16 }),
      (0x2C, put me fun m => { m with peakW := v.setWidth 16 }), (0x80, put me fun m => { m with busMv := vset m.busMv 0 v }),
      (0x84, put me fun m => { m with busMv := vset m.busMv 1 v }), (0x140, put st fun m => { m with busCfg := vset m.busCfg 0 v }),
      (0x144, put st fun m => { m with busCfg := vset m.busCfg 1 v })] o).getD (s, .ok)

/-! ## MBOX -/

/-- MBOX (R522, R528). -/
def State.mboxRegWrite (s : State) (k : CoreId) (o : Nat) (v : Word) : State × Code :=
  let m := mboxOf o
  if o < 0x400 then
    (regAt [(0x00, s.mboxCtl k m v), (0x08, s.mboxInClear k m v), (0x0C, s.mboxInMask k m v), (0x10, s.mboxOutSet k m v),
      (0x18, s.mboxTake k m v), (0x1C, s.mboxPost k m v false)] (o % 0x40)).getD (s, .ok)
  else if o % 0x200 < 0x100 then (s, .ok)
  else s.mboxOutBuf k m (o % 0x100) (leBytes 4 v.toNat)

/-! ## EVENTS and PWRCLK -/

/-- The events of a word of PENDING or MASK whose bits are set. -/
def wordEvents (i : Nat) (v : Word) : List EventId := (setBits v).map fun b => ⟨(32 * i + b) % 1536, Nat.mod_lt _ (by decide)⟩

/-- A write of a word of PENDING (R531, R532): 1 clears; one event that the core may not clear refuses the whole write. -/
def State.pendingWord (s : State) (k : CoreId) (i : Nat) (v : Word) : State × Code :=
  let es := wordEvents i v
  s.ifMay (es.all fun e => s.eventToucher k e) (es.foldl (fun (s : State) e => (s.pendingClear k e).1) s)

/-- A write of a word of MASK (R532): the bits that change must be ones the core may set. -/
def State.maskWord (s : State) (k : CoreId) (i : Nat) (v : Word) : State × Code :=
  let old := BitVec.ofNat 32 (bitsOf s.ev.mask.toNat (32 * i) 32)
  let es := wordEvents i (old ^^^ v)
  s.ifMay (es.all fun e => s.eventToucher k e)
    (es.foldl (fun (s : State) e => { s with ev := { s.ev with mask := putBit s.ev.mask e.val (! s.ev.mask.getLsbD e.val) } }) s)

/-- EVENTS (R532, R550). -/
def State.eventsWrite (s : State) (k : CoreId) (o : Nat) (v : Word) : State × Code :=
  if 0x1000 ≤ o ∧ o < 0x10C0 then s.pendingWord k ((o - 0x1000) / 4) v
  else if 0x1100 ≤ o ∧ o < 0x11C0 then s.maskWord k ((o - 0x1100) / 4) v
  else if 0x4000 ≤ o ∧ o < 0x5800 then s.cfgWrite k ⟨(o - 0x4000) / 4 % 1536, Nat.mod_lt _ (by decide)⟩ v
  else if o = 0x00 then s.ifMay (s.stewardCore k) { s with ev := { s.ev with enabled := v.getLsbD 0 } }
  else if o = 0x40 then s.swtrig k v
  else (s, .ok)

/-- A write of TIMER_CFGt (R537, R551): the timer starts its period when enabled. -/
def State.timerWrite (s : State) (t : Fin 8) (v : Word) : State :=
  let x : GenTimer := ⟨v.getLsbD 31, v.getLsbD 30, v.setWidth 24, s.time⟩
  { s with pw := { s.pw with timers := vset s.pw.timers t x } }

/-- PWRCLK (R538, R551): each watchdog group its own watchdog, the steward the wake, timer and general registers. -/
def State.pwrWrite (s : State) (k : CoreId) (o : Nat) (v : Word) : State × Code :=
  let st := s.stewardCore k
  if 0x100 ≤ o ∧ o < 0x140 then
    let g : Fin 4 := ⟨(o - 0x100) / 0x10 % 4, Nat.mod_lt _ (by decide)⟩
    (regAt [(0x0, s.wdogArm k g v), (0x4, s.wdogKick k g)] (o % 0x10)).getD (s, .ok)
  else if 0x200 ≤ o ∧ o < 0x240 then
    if o % 8 = 0 then s.ifMay st (s.timerWrite ⟨(o - 0x200) / 8 % 8, Nat.mod_lt _ (by decide)⟩ v) else (s, .ok)
  else
    (regAt [(0x10, s.domReqWrite k v false),
      (0x20, s.ifMay st { s with pw := { s.pw with wakePin := v.getLsbD 31, wakeTimerOn := v.getLsbD 30 } }),
      (0x24, s.ifMay st { s with pw := { s.pw with wakeSense := v } }),
      (0x28, s.ifMay st { s with pw := { s.pw with wakeTimer := v.setWidth 24 } }),
      (0x40, s.ifMay st { s with pw := { s.pw with clkStatus := s.pw.clkStatus &&& ~~~ (v.setWidth 6) } })] o).getD (s, .ok)

/-! ## LEVEE -/

/-- LEVEE (R398, R401): MASK until the lifecycle reaches PROVISION. -/
def State.leveeWrite (s : State) (k : CoreId) (o : Nat) (v : Word) : State × Code :=
  if o = 0x00 then s.leveeCtl k v
  else if o = 0x18 ∧ s.lifecycle.num < 2 then ({ s with lev := { s.lev with mask := v.setWidth 14 } }, .ok)
  else (s, .ok)

/-! ## PORTnn -/

/-- A write of PORTnn.CTL (R86). -/
def Port.ctl (q : Port) (v : Word) : Port :=
  let q := { q with holdLimit := BitVec.ofNat 8 (bitsOf v.toNat 8 8), strobeExtend := v.getLsbD 1 }
  if v.getLsbD 0 then { q with partialCnt := 0, underrunCnt := 0, extendCnt := 0, unkCnt := 0 } else q

/-- A word of a constructed SFDP (R69, R86): ignored while its channel is served. -/
def State.persWrite (s : State) (c : ChanId) (o : Nat) (v : Word) : State :=
  if (s.chan c).state.served then s else s.updChan c fun ch => { ch with persSfdp := putWord ch.persSfdp o v }

/-- PORTnn (R19, R86): the steward the configuration, the home half the sticky flags. -/
def State.portRegWrite (s : State) (h : Half) (p : PortId) (o : Nat) (v : Word) : State × Code :=
  let st := s.isSteward h
  match o / 0x1000 with
  | 0 =>
    if o = 0x00 then s.ifMay st (s.updPort p fun q => q.ctl v)
    else if o = 0x04 then s.ifMay (decide (p.home = h)) (s.updPort p fun q => { q with sticky := q.sticky &&& ~~~ (v.setWidth 8 &&& 0xFE) })
    else (s, .ok)
  | 3 => s.ifMay st (s.persWrite (chanOf p 0) (o % 0x1000) v)
  | 4 => s.ifMay st (s.persWrite (chanOf p 1) (o % 0x1000) v)
  | _ => (s, .ok)

/-! ## Core-local registers -/

/-- A field of STACK_CTL: a value out of its range leaves the field (DESIGN CHOICE, log entry 47). -/
def inField (lo hi v old : Nat) : Nat := if lo ≤ v ∧ v ≤ hi then v else old

/-- A write of STACK_CTL (R476): the depths written replace those that the storing instruction leaves. -/
def Core.setStackCtl (q : Core) (v : Word) : Core :=
  { q with rlimit := inField 1 32 (bitsOf v.toNat 24 6) q.rlimit, rdepth := inField 0 32 (bitsOf v.toNat 16 6) q.rdepth,
           dlimit := inField 1 64 (bitsOf v.toNat 8 7) q.dlimit, depth := inField 0 64 (bitsOf v.toNat 0 7) q.depth }

/-- A write of a protection region's register (R470): ignored once locked. -/
def Region.write (r : Region) (o : Nat) (v : Word) : Region :=
  if r.attr.getLsbD 31 then r
  else match o with
    | 0x0 => { r with base := v &&& 0xFFFFFFE0 }
    | 0x4 => { r with limit := v &&& 0xFFFFFFE0 }
    | 0x8 => { r with attr := v &&& 0x8000013F }
    | _ => r

/-- A core's own registers, written by the core (R476). -/
def Core.localWrite (q : Core) (o : Nat) (v : Word) : Core :=
  if o < 0x100 then if o / 4 < q.depth then { q with dstack := vset q.dstack (ix64 (o / 4)) v } else q
  else if o < 0x180 then { q with rstack := vset q.rstack ⟨(o - 0x100) / 4 % 32, Nat.mod_lt _ (by decide)⟩ v }
  else if 0x300 ≤ o ∧ o < 0x400 then
    { q with regions := vupd q.regions ⟨(o - 0x300) / 16 % 16, Nat.mod_lt _ (by decide)⟩ fun r => r.write (o % 16) v }
  else
    (regAt [(0x200, q.setStackCtl v), (0x204, { q with round := v.setWidth 2, sat := q.sat && ! v.getLsbD 8 }),
      (0x208, { q with imageBase := v &&& 0xFFFFF000 }),
      (0x210, { q with trapInfo := (v &&& 0xE0000000) ||| (q.trapInfo &&& 0x1FFFFFFF) }), (0x214, { q with trapPc := v }),
      (0x218, { q with trapNext := v }), (0x230, { q with busErr := if v.getLsbD 31 then q.busErr &&& 0x7FFFFFFF else q.busErr }),
      (0x254, { q with irqEnable := v.getLsbD 3, irqLevel := v.setWidth 3 })] o).getD q

/-- The core-local area written. -/
def State.localRegWrite (s : State) (k : CoreId) (o : Nat) (v : Word) : State × Code :=
  if o = 0x250 then (s.alertWrite k v, .ok) else (s.updCore k fun q => q.localWrite o v, .ok)

end Sys2Proof.Machine
end

