-- ==== Sys2Proof/Machine/Bus.lean ====
section
/-!
DEFINITION. The internal bus as a core meets it (R29-R32): which part of the address map an address lies in, whether that part is
powered, who may reach it, and what a read or a write of 1, 2 or 4 bytes there does. Where several refusals apply R11 orders them.
-/
namespace Sys2Proof.Machine

/-! ## The address map -/

/-- The parts of the internal address map (R29). -/
inductive Area where
  | eflash
  | sram (bank : Nat)
  | block (n : Nat)
  | port (p : PortId)
  | aperture
  | operand (h : Half)
  | own
  deriving DecidableEq, Repr

/-- The part of the map that an address lies in, none in a hole (R29, R30). -/
def areaOf (a : Nat) : Option Area :=
  if a < 0xA00000 then some .eflash
  else if 0x10000000 ≤ a ∧ a < 0x11800000 then some (.sram ((a - 0x10000000) / 0x400000))
  else if 0x40000000 ≤ a ∧ a < 0x40100000 then some (.block ((a - 0x40000000) / 0x10000))
  else if 0x40100000 ≤ a ∧ a < 0x40300000 then some (.port ⟨(a - 0x40100000) / 0x10000 % 32, Nat.mod_lt _ (by decide)⟩)
  else if 0x80000000 ≤ a ∧ a < 0xC0000000 then some .aperture
  else if 0xC0000000 ≤ a ∧ a < 0xC0010000 then some (.operand .indigo)
  else if 0xC0010000 ≤ a ∧ a < 0xC0020000 then some (.operand .amber)
  else if 0xE0000000 ≤ a ∧ a < 0xE0010000 then some .own
  else none

/-- Does a peripheral block answer (R29, R30, R538): FUSECTL's shadows lie in AON, its controller in domain 30. -/
def State.blockOn (s : State) (n o : Nat) : Bool :=
  match n with
  | 1 => decide (0x1000 ≤ o) || s.domOn 30
  | 2 => s.domOn 6
  | 3 => s.domOn 4
  | 4 => s.domOn 5
  | 5 => s.hashOn .indigo || s.hashOn .amber
  | 6 => s.domOn 23
  | 7 => s.domOn 25
  | 8 => s.domOn 26 || s.domOn 27
  | 9 => s.domOn 29
  | 10 => s.domOn 28
  | 11 => s.domOn 28 && (decide (0x400 ≤ o ∧ o < 0x1000) || s.homeOn (mboxOf o))
  | 15 => s.domOn 31
  | _ => true

/-- Is an area powered (R30, R538). -/
def State.areaOn (s : State) (a : Nat) : Area → Bool
  | .eflash => s.domOn 2 || s.domOn 3
  | .sram b => s.domOn (33 + b)
  | .block n => s.blockOn n (a % 0x10000)
  | .port p => s.domOn (11 + p.bank.val)
  | .aperture => s.domOn 23 && s.domOn 24
  | .operand h => s.domOn h.pkeDomain
  | .own => true

/-- The device log ring (R489). -/
def inRing (a : Nat) : Bool := decide (0x112C0000 ≤ a) && decide (a < 0x11300000)

/-- The eFlash that holds code of the management and measurement cores: Sill and the mission slots (DEDUCED, log entry 48). -/
def ownCode (a : Nat) : Bool := decide (a < 0x40000) || (decide (0x100000 ≤ a) && decide (a < 0x900000))

/-- The offset names the core's own half of PWRCLK's watchdogs (R551). -/
def ownWdog (k : CoreId) (o : Nat) : Bool := decide (0x100 ≤ o) && decide (o < 0x140) && (o - 0x100) / 0x10 == (coreGroup k).val

/-- The top 1 MiB of SRAM bank 4, the mirror controller's own (R118). -/
def inReserved (a : Nat) : Bool := decide (0x11300000 ≤ a) && decide (a < 0x11400000)

/-- What a control core reaches as supervisor (R31, R118). -/
def controlReach (k : CoreId) (write : Bool) (a : Nat) : Area → Bool
  | .eflash => ! write
  | .sram _ => ! inReserved a && ! (write && inRing a)
  | .block _ | .port _ => true
  | .aperture => ! write
  | .operand h => coreHalf k == some h
  | .own => true

/-- What a management core reaches (R14, R31). -/
def mgmtReach (k : CoreId) (write : Bool) (a : Nat) : Area → Bool
  | .eflash => ! write && ownCode a
  | .sram b => decide (b ≤ 1) || (inRing a && ! write)
  | .block n =>
    let o := a % 0x10000
    n == 10 || n == 11 || n == 12 || (n == 0 && ! write && hgStatusReg o) || (n == 9 && ! write) || (n == 13 && (! write || ownWdog k o))
  | .own => true
  | _ => false

/-- What a measurement core reaches (R31). -/
def measReach (k : CoreId) (write : Bool) (a : Nat) : Area → Bool
  | .eflash => ! write && ownCode a
  | .sram b => decide (b ≤ 1)
  | .block n => n == 9 || n == 12 || (n == 13 && (! write || ownWdog k (a % 0x10000)))
  | .own => true
  | _ => false

/-- The core-local offsets that extension privilege may not touch (R468). -/
def supervisorOffset (o : Nat) : Bool :=
  decide (0x200 ≤ o) && decide (o < 0x400) && ! [0x204, 0x240, 0x244].contains (o / 4 * 4)

/-- What extension privilege reaches (R31): the extension region, SRAM as the regions grant it, its own stacks. -/
def extensionReach (write : Bool) (a : Nat) : Area → Bool
  | .eflash => ! write && decide (0x900000 ≤ a)
  | .sram _ => ! inReserved a
  | .own => ! supervisorOffset (a % 0x10000)
  | _ => false

/-- May the core reach the area (R31): its kind's reach, and extension privilege's where it runs in that. -/
def State.reach (s : State) (k : CoreId) (write : Bool) (a : Nat) (x : Area) : Bool :=
  (if (coreHalf k).isSome then controlReach k write a x else if isMeasCore k then measReach k write a x else mgmtReach k write a x)
  && (! (s.core k).ext || extensionReach write a x)

/-! ## Register values -/

/-- The half of a control core, Indigo for another core. -/
def halfOf (k : CoreId) : Half := (coreHalf k).getD .indigo

/-- The value of a block's register for a core, none at a hole. -/
def State.blockRead (s : State) (k : CoreId) (n o : Nat) : Option Nat :=
  match n with
  | 0 => s.hgRead (coreHalf k) o
  | 1 => s.fuseRegRead o
  | 2 => s.kvRead (halfOf k) o
  | 3 => s.pkeRead .indigo o
  | 4 => s.pkeRead .amber o
  | 5 => s.hashRead o
  | 6 => s.mirRead o
  | 7 => s.cisRegRead o
  | 8 => s.pakRead o
  | 9 => s.measRead o
  | 11 => s.mboxRead o
  | 12 => s.eventsRead o
  | 13 => s.pwrRead o
  | 14 => s.leveeRead o
  | _ => some 0

/-- A register's value as it stands, without what a read of it does; none at a hole. -/
def State.regPeek (s : State) (k : CoreId) (a : Nat) : Area → Option Nat
  | .block n => s.blockRead k n (a % 0x10000 / 4 * 4)
  | .port p => s.portRegRead p (a % 0x10000 / 4 * 4)
  | .own => s.localRead k (a % 0x10000 / 4 * 4)
  | _ => some 0

/-- May a core touch the register's half of a block that the halves share by halves: an engine's block (R447), HASHGRP's queues (R147). -/
def halfMay (k : CoreId) (n o : Nat) : Bool :=
  match n with
  | 3 => coreHalf k == some .indigo
  | 4 => coreHalf k == some .amber
  | 5 => (o != 0x108 || coreHalf k == some .indigo) && (o != 0x148 || coreHalf k == some .amber)
  | _ => true

/-- Does a block belong to those whose registers the spec does not give: MGMT and DRBG. -/
def undescribed : Area → Bool
  | .block n => n == 10 || n == 15
  | _ => false

/-! ## Refusals -/

/-- What stands against a core's access (R30, R31), most urgent first by R11. -/
def State.busRefusal (s : State) (k : CoreId) (write : Bool) (a : Nat) : Option Code :=
  match areaOf a with
  | none => some .hole
  | some x =>
    Code.first ((if s.areaOn a x then [] else [.domainOff])
      ++ (if (s.regPeek k a x).isSome then [] else [.hole])
      ++ (if s.reach k write a x && (match x with
          | .block n => halfMay k n (a % 0x10000 / 4 * 4)
          | _ => true) then [] else [.deniedAccess]))

/-! ## The mirror aperture (R32, R114) -/

/-- The DRAM offset that an aperture address maps to. -/
def State.apertureOffset (s : State) (a : Nat) : Nat := s.mir.aperture.toNat * 2 ^ 30 + (a - 0x80000000)

/-- The mirror fault that an offset of the protected space belongs to (R129, R133): its channel's leaf, or its channel's digest-area slot;
none where no channel has it. -/
def State.faultAt (s : State) (o : Nat) : Option (ChanId × MirrorFault) :=
  if s.mir.imageBytes ≤ o then
    let i := o - s.mir.imageBytes
    some (⟨i / (3 * mib) % 64, Nat.mod_lt _ (by decide)⟩, ⟨.digestArea, i % (3 * mib) / 48⟩)
  else (s.chanAtOffset o).map fun c => (c, ⟨.sector, o / 4096 - (s.chan c).desc.mirrorPage⟩)

/-- A sector that fails its checks in an aperture read (R32): MIRROR_APERTURE_FAULT, and a mirror fault of what it belongs to; a leaf that
waits for its refill already is no new fault. -/
def State.apertureFault (s : State) (o : Nat) : State :=
  let s := s.raiseLog 1030 [(5, o)]
  match s.faultAt o with
  | some (c, f) =>
    let ch := s.chan c
    let known := if f.kind = .digestArea then ch.digestFault else ch.faulted.contains f.leaf || ch.lost.contains f.leaf
    if known then s else s.mirrorFault c f
  | none => s

/-- Does the sector of an offset pass its checks: tag and version in the protected space, the tag alone in staging (R32, R114). -/
def State.sectorGood (s : State) (o : Nat) : Bool :=
  if s.mir.protectedMib * mib ≤ o then s.stageGood (o / 512)
  else s.pageGood (o / 4096) && (match s.faultAt o with
    | some (c, f) => f.kind == .digestArea || ! ((s.chan c).faulted.contains f.leaf || (s.chan c).lost.contains f.leaf)
    | none => true)

/-- An aperture read (R32, R114): HOLE outside the data area; VERIFY_FAIL, and a mirror fault, where the sector does not check. -/
def State.apertureRead (s : State) (a n : Nat) : Nat × State × Code :=
  let o := s.apertureOffset a
  if s.mir.stagingEndMib * mib ≤ o then (0, s, .hole)
  else if s.sectorGood o then (s.load (dramBase + o) n, s, .ok)
  else (0, s.apertureFault o, .verifyFail)

/-! ## Reads -/

/-- A read of a register whose reading acts: the queues' pops, ECC_MAX, RXPOP, TIME_LO, EXT; none for any other. -/
def State.actingRead (s : State) (k : CoreId) (a : Nat) : Option (Nat × State) :=
  let h := halfOf k
  let popped (t : State) (v : State → Word) : Option (Nat × State) := some ((v t).toNat, t)
  if a = 0x40050108 ∨ a = 0x40050148 then popped (s.hashPop h) fun t => t.hash.popped.get h
  else if a = 0x40070010 then popped (afterExec (execCisternEccMaxRead h s) s) fun t => t.cis.popped
  else if a = 0x40070108 then popped s.cisternPop fun t => t.cis.popped
  else if a = 0x40080208 then popped s.pakorPop fun t => t.pak.popped
  else if a = 0x40080214 then popped (afterExec (execPakorRxpop h s) s) fun t => t.pak.popped
  else if a = 0x400D0030 then some (s.time % 2 ^ 32, afterExec (execTimeLoRead k s) s)
  else if 0x40030800 ≤ a ∧ a < 0x40031000 then some (s.opRead .indigo a)
  else if 0x40040800 ≤ a ∧ a < 0x40041000 then some (s.opRead .amber a)
  else none

/-- A read of a register's word. -/
def State.wordRead (s : State) (k : CoreId) (a : Nat) (x : Area) : Nat × State :=
  match s.actingRead k a with
  | some r => r
  | none => ((s.regPeek k a x).getD 0, s)

/-- The bytes of a read within a word. -/
def partOf (w a n : Nat) : Nat := bitsOf w (8 * (a % 4)) (8 * n)

/-- A read of 1, 2 or 4 aligned bytes that the bus admits: the value, the state after, the syndrome. Bytes of the log ring are free
values (log entry 49). -/
def State.areaRead (s : State) (k : CoreId) (a n : Nat) (x : Area) : Nat × State × Code :=
  match x with
  | .eflash => (s.load a n, s, .ok)
  | .sram _ =>
    if inRing a then (bitsOf (Config.freeWord s.free).toNat 0 (8 * n), s.drawn, .ok) else (s.load a n, s, .ok)
  | .aperture => s.apertureRead a n
  | .operand h =>
    let r := s.opRead h (a / 4 * 4)
    (partOf r.1 a n, r.2, .ok)
  | x =>
    let r := s.wordRead k (a / 4 * 4) x
    (partOf r.1 a n, r.2, .ok)

/-- A core's read on the bus (R30): 0 and BUSERR where it is refused. -/
def State.busRead (s : State) (k : CoreId) (a n : Nat) : Nat × State :=
  match s.busRefusal k false a, areaOf a with
  | none, some x =>
    let r := s.areaRead k a n x
    if r.2.2 = .ok then (r.1, r.2.1) else (0, r.2.1.busError k a r.2.2)
  | some c, _ => (0, s.busError k a c)
  | none, none => (0, s)

/-! ## Writes -/

/-- The registers whose bits clear when written 1: a write of part of such a word writes 0 to the rest of it. -/
def clearsOnOne (a : Nat) : Area → Bool
  | .block n =>
    let o := a % 0x10000 / 4 * 4
    (n == 6 && o == 0x108) || (n == 11 && decide (o < 0x400) && o % 0x40 == 0x08) || (n == 12 && decide (0x1000 ≤ o) && decide (o < 0x10C0))
    || (n == 13 && o == 0x40)
  | .port _ => a % 0x10000 / 4 * 4 == 0x04
  | .own => a % 0x10000 / 4 * 4 == 0x230 || a % 0x10000 / 4 * 4 == 0x204
  | _ => false

/-- The word that a write of part of a register writes: the other bytes keep what the register holds, those of a register cleared by
1 are written 0 (DESIGN CHOICE, log entry 50). -/
def State.mergeWord (s : State) (k : CoreId) (a n v : Nat) (x : Area) : Word :=
  if n = 4 then BitVec.ofNat 32 v
  else
    let old := if clearsOnOne a x then 0 else (s.regPeek k a x).getD 0
    BitVec.ofNat 32 (leNat (putBytesAt (leBytes 4 old) (a % 4) (leBytes n v)))
where
  /-- Bytes with a run of them replaced. -/
  putBytesAt (bs : List Byte) (o : Nat) (w : List Byte) : List Byte := bs.take o ++ w ++ bs.drop (o + w.length)

/-- A write of a block's word. -/
def State.blockWrite (s : State) (k : CoreId) (n o : Nat) (v : Word) : State × Code :=
  let h := halfOf k
  match n with
  | 0 => s.hgWrite h o v
  | 1 => s.fuseRegWrite h o v
  | 2 => s.kvWrite h o v
  | 3 => s.pkeWrite .indigo o v
  | 4 => s.pkeWrite .amber o v
  | 5 => s.hashWrite h o v
  | 6 => s.mirWrite h o v
  | 7 => s.cisRegWrite h o v
  | 8 => s.pakWrite h o v
  | 9 => s.measWrite k o v
  | 11 => s.mboxRegWrite k o v
  | 12 => s.eventsWrite k o v
  | 13 => s.pwrWrite k o v
  | 14 => s.leveeWrite k o v
  | _ => (s, .ok)

/-- A write of 1, 2 or 4 aligned bytes that the bus admits; operand memory takes none inside a job window (R429). -/
def State.areaWrite (s : State) (k : CoreId) (a n v : Nat) (x : Area) : State × Code :=
  let o := a % 0x10000 / 4 * 4
  match x with
  | .block b => s.blockWrite k b o (s.mergeWord k a n v x)
  | .port p => s.portRegWrite (halfOf k) p o (s.mergeWord k a n v x)
  | .own => s.localRegWrite k o (s.mergeWord k a n v x)
  | .operand h => if s.pkeWindow h then (s, .refusedState) else (s.store a (leBytes n v), .ok)
  | _ => (s.closeLoads.store a (leBytes n v), .ok)

/-- A core's write on the bus (R30): BUSERR where it is refused, and nothing else. -/
def State.busWrite (s : State) (k : CoreId) (a n v : Nat) : State :=
  match s.busRefusal k true a, areaOf a with
  | none, some x => s.busEnd k a (s.areaWrite k a n v x)
  | some c, _ => s.busError k a c
  | none, none => s

/-- Is the access one to a block whose registers the spec does not give, in the core's reach: it stops the run. -/
def State.meetsUndescribed (s : State) (k : CoreId) (write : Bool) (a : Nat) : Bool :=
  ((areaOf a).map undescribed).getD false && (s.busRefusal k write a).isNone

/-- REGISTER_WRITE (R30): a 32-bit write on the internal bus, its address aligned (log entry 51). -/
def execRegisterWrite (core : CoreId) (addr value : Word) (s : State) : Host.Outcome State Fault Refusal :=
  let a := addr.toNat / 4 * 4
  let s := s.quiet
  if s.meetsUndescribed core true a then .fault (.undescribedBlock a) else .next (s.busWrite core a 4 value.toNat)

end Sys2Proof.Machine
end

