-- ==== Sys2Proof/Machine/Brixxel.lean ====
section
/-!
DEFINITION. The Brixxel core (chapter 16): stacks, encodings, protection, traps and event interrupts, the issue of an instruction
with its delay slot and pending results. The meanings of the instructions stand in BrixxelOps.lean.
-/
namespace Sys2Proof.Machine

/-! ## Stacks (R449, R450) -/

/-- The cell at a position. -/
def Core.cell (q : Core) (p : Nat) : Word := if h : p < 64 then q.dstack[p]'h else 0
/-- A cell replaced. -/
def Core.setCell (q : Core) (p : Nat) (v : Word) : Core := if h : p < 64 then { q with dstack := q.dstack.set p v h } else q
/-- S_i: the cell at position depth - 1 - i. -/
def Core.S (q : Core) (i : Nat) : Word := q.cell (q.depth - 1 - i)
/-- A cell pushed. -/
def Core.push (q : Core) (v : Word) : Core := { q.setCell q.depth v with depth := q.depth + 1 }
/-- Cells dropped. -/
def Core.drop (q : Core) (n : Nat) : Core := { q with depth := q.depth - n }
/-- The entry on top of the return stack. -/
def Core.R (q : Core) : Word := if h : q.rdepth - 1 < 32 then q.rstack[q.rdepth - 1]'h else 0
/-- A return entry pushed. -/
def Core.rpush (q : Core) (v : Word) : Core :=
  { q with rstack := if h : q.rdepth < 32 then q.rstack.set q.rdepth v h else q.rstack, rdepth := q.rdepth + 1 }
/-- A return entry popped. -/
def Core.rdrop (q : Core) : Core := { q with rdepth := q.rdepth - 1 }
/-- TRAPINFO.active. -/
def Core.active (q : Core) : Bool := q.trapInfo.getLsbD 31
/-- The data-stack limit in force (R452). -/
def Core.dmax (q : Core) : Nat := if q.active then 64 else q.dlimit
/-- The return-stack limit in force (R452). -/
def Core.rmax (q : Core) : Nat := if q.active then 32 else q.rlimit

/-! ## Pending results (R462-R465) -/

/-- A result lands: in its cell, unless that lies at or above the depth, or in its accumulator. -/
def Core.landOne (q : Core) (p : Pend) : Core :=
  match p.dest with
  | .cell i => if i < q.depth then q.setCell i (p.value.setWidth 32) else q
  | .acc a => { q with acc := vset q.acc a p.value }

/-- The results due at this boundary land, in issue order. -/
def Core.landDue (q : Core) : Core :=
  let t := (q.pend.filter fun p => p.left == 0).foldl Core.landOne q
  { t with pend := q.pend.filter fun p => p.left != 0 }

/-- Every pending result lands, in the order in which they would (R472). -/
def Core.landAll (q : Core) : Core :=
  let upTo := (List.range 4).flatMap fun i => q.pend.filter fun p => p.left == i
  { upTo.foldl Core.landOne q with pend := [] }

/-- A result that lands `d` instructions on. -/
def Core.later (q : Core) (d : Nat) (dest : Dest) (v : BitVec 72) : Core := { q with pend := q.pend ++ [⟨d, dest, v⟩] }

/-! ## Protection (R469) -/

/-- The region covers an address and is enabled. -/
def Region.covers (r : Region) (a : Nat) : Bool :=
  r.attr.getLsbD 8 && decide (r.base.toNat / 32 ≤ a / 32) && decide (a / 32 ≤ r.limit.toNat / 32)

/-- The right that an attribute word gives: 0 read, 1 write, 2 execute, for the present privilege. -/
def Core.right (q : Core) (a b : Nat) : Bool :=
  match q.regions.toList.find? fun r => r.covers a with
  | some r => r.attr.getLsbD (b + if q.ext then 3 else 0)
  | none => ! q.ext && ! (decide (a < 0xA00000) || (decide (0x10000000 ≤ a) && decide (a < 0x11800000)))

/-- May the core read (0) or write (1) the data address (R468, R469). -/
def Core.dataOk (q : Core) (a b : Nat) : Bool :=
  q.right a b && ! (q.ext && areaOf a == some .own && supervisorOffset (a % 0x10000))

/-! ## Encodings (R453) -/

/-- An instruction as it issues: its opcode and operand field, and what it takes of the stacks. -/
structure BOp where
  code : Nat
  isLong : Bool := false
  operand : Nat := 0
  need : Nat := 0
  pops : Nat := 0
  pushes : Nat := 0
  rneed : Nat := 0
  rpushes : Nat := 0
  control : Bool := false
  sup : Bool := false

/-- Bytes of the encoding. -/
def BOp.len (o : BOp) : Nat := if o.isLong then 4 else 2

/-- The parcels of an instruction (R453). -/
def BOp.parcels (o : BOp) : Parcels :=
  if o.isLong then
    ⟨BitVec.ofNat 16 (bitsOf o.operand 16 4 * 2 ^ 12 + o.code * 2 + 1), some (BitVec.ofNat 16 (o.operand % 2 ^ 16))⟩
  else ⟨BitVec.ofNat 16 (o.operand % 256 * 256 + o.code * 2), none⟩

/-- TRAPOP of parcels: the first, the second above it, 0 for a short form (R476). -/
def Parcels.word (p : Parcels) : Nat := p.first.toNat + (p.second.map fun x => x.toNat).getD 0 * 2 ^ 16

/-- The opcode in parcels: 7 bits of a short form, 11 of a long one (R453). -/
def Parcels.opcode (p : Parcels) : Nat := if p.first.getLsbD 0 then bitsOf p.first.toNat 1 11 else bitsOf p.first.toNat 1 7

/-- The short opcodes listed, each with the field bits that the table gives as 0 (R454). -/
def shortOpcodes : List (Nat × Nat) :=
  [(0x00, 0xFF), (0x01, 0xFF), (0x02, 0xFF), (0x03, 0xFF), (0x04, 0xFF), (0x05, 0xFF), (0x06, 0), (0x07, 0xFF), (0x08, 0xFF),
   (0x09, 0xFF), (0x0A, 0xFF), (0x0B, 0), (0x1D, 0), (0x10, 0xFF), (0x11, 0xFF), (0x12, 0xFF), (0x13, 0xFF), (0x14, 0xFF),
   (0x15, 0xFF), (0x16, 0xFF), (0x17, 0xFF), (0x18, 0xFF), (0x19, 0xFF), (0x1A, 0xE0), (0x1B, 0xE0), (0x1C, 0xE0), (0x20, 0xFF),
   (0x21, 0xFF), (0x22, 0xFF), (0x23, 0xFF), (0x24, 0xFF), (0x25, 0xFF), (0x26, 0xFF), (0x28, 0xFF), (0x29, 0xFF), (0x2A, 0xFF),
   (0x30, 0xE0), (0x31, 0xE0), (0x32, 0xE0), (0x33, 0xE0), (0x34, 0xE0), (0x35, 0xE0), (0x36, 0xE0), (0x37, 0xE0), (0x38, 0xE0),
   (0x39, 0xE0), (0x3A, 0xFF), (0x40, 0), (0x41, 0), (0x42, 0), (0x43, 0), (0x44, 0xFF), (0x45, 0xFF), (0x46, 0xFF), (0x47, 0xFF),
   (0x48, 0), (0x49, 0), (0x4A, 0xFF), (0x50, 0xFC), (0x51, 0xFC), (0x52, 0), (0x53, 0), (0x54, 0), (0x55, 0), (0x56, 0), (0x57, 0)]

/-- The long opcodes listed. -/
def longOpcodes : List Nat :=
  [0x001, 0x002, 0x003, 0x004, 0x030, 0x031, 0x032, 0x033, 0x034, 0x035, 0x036, 0x037, 0x038, 0x039, 0x040, 0x041, 0x042, 0x043]

/-- The parcels are a reserved encoding (R454): an opcode not listed, or a field bit that the table gives as 0. -/
def Parcels.reserved (p : Parcels) : Bool :=
  if p.first.getLsbD 0 then ! longOpcodes.contains p.opcode && p.second.isSome
  else p.second.isNone && (match shortOpcodes.find? fun x => x.1 == p.opcode with
    | some x => p.first.toNat / 256 &&& x.2 != 0
    | none => true)

/-! ## Traps (R471-R474) -/

/-- What a trap records: the cause, TRAPPC, the parcels where the core has them, the info field and the data address where the cause
gives them, the length of a trapping slot instruction. -/
structure TrapCase where
  cause : Cause
  pc : Word
  parcels : Option Parcels := none
  info : Option Nat := none
  addr : Option Word := none
  len : Nat := 2

/-- TRAPINFO at entry (R476). -/
def trapInfoWord (inSlot prevX isLong : Bool) (cause opcode info landed : Nat) : Word :=
  BitVec.ofNat 32 (2 ^ 31 + b2n inSlot * 2 ^ 30 + b2n prevX * 2 ^ 29 + b2n isLong * 2 ^ 28 + cause * 2 ^ 24 + opcode % 2048 * 2 ^ 13
    + info % 256 * 32 + landed % 8 * 4)

/-- TRAPNEXT at entry: where the branch goes on after its slot; a free value outside a slot (log entry 52). -/
def Core.trapNextAt (q : Core) (t : TrapCase) (x : Word) : Word :=
  match q.slot with
  | some d => d.dest.getD (q.pc + BitVec.ofNat 32 t.len)
  | none => x

/-- Trap entry of a core (R472): fields that the cause does not give are free values `f0`, `f1` (log entry 52). -/
def Core.trapEntry (q : Core) (t : TrapCase) (f0 f1 : DWord) : Core :=
  let opcode := (t.parcels.map Parcels.opcode).getD (bitsOf f1.toNat 0 11)
  let isLong := (t.parcels.map fun p => p.second.isSome).getD (f1.getLsbD 11)
  let op := (t.parcels.map Parcels.word).getD (bitsOf f1.toNat 32 32)
  let info := t.info.getD (bitsOf f1.toNat 12 8)
  { q.landAll with
    resv := none, trapInfo := trapInfoWord q.slot.isSome q.ext isLong t.cause.num opcode info q.pend.length,
    trapPc := t.pc, trapNext := q.trapNextAt t (BitVec.ofNat 32 (bitsOf f0.toNat 0 32)), trapOp := BitVec.ofNat 32 op,
    trapAddr := t.addr.getD (BitVec.ofNat 32 (bitsOf f0.toNat 32 32)), ext := false, slot := none,
    pc := q.imageBase + BitVec.ofNat 32 t.cause.vector }

/-- A trap (R471-R474): entry, or the halt of a double trap with COREkk_ALERT. -/
def State.trap (s : State) (k : CoreId) (t : TrapCase) : State :=
  let q := s.core k
  if q.active ∧ t.cause ≠ .event then
    (s.updCore k fun q => { q with halted := true }).raiseLog (1486 + 2 * k.val) [(1, k.val), (1, t.cause.num)]
  else
    { s.updCore k fun q => q.trapEntry t (Config.freeWord s.free) (Config.freeWord (s.free + 1)) with free := s.free + 2 }

/-! ## Event interrupts (R475) -/

/-- The event that would interrupt the core: delivery enabled, interrupts enabled, no handler active, a priority above the level. -/
def State.takeable (s : State) (k : CoreId) : Bool :=
  let q := s.core k
  s.ev.enabled && q.irqEnable && ! q.active
  && (match s.claimOf k with
    | some e => decide (q.irqLevel.toNat < (s.evCfg e).priority.toNat)
    | none => false)

/-- The core takes its event. -/
def State.takeEvent (s : State) (k : CoreId) : State :=
  (s.updCore k fun q => { q with blocked := 0 }).trap k { cause := .event, pc := (s.core k).pc }

/-- A boundary at which the core looks for an event (R475). -/
def State.eventLook (s : State) (k : CoreId) : State :=
  let s := s.updCore k Core.landDue
  let q := s.core k
  if ! s.takeable k then s.updCore k fun q => { q with blocked := 0 }
  else if q.slot.isSome then s.updCore k fun q => { q with blocked := if 64 ≤ q.blocked then q.blocked else 0 }
  else if q.pend.isEmpty ∨ 64 ≤ q.blocked then s.takeEvent k
  else s.updCore k fun q => { q with blocked := q.blocked + 1 }

/-- May the core act: released, not halted. -/
def Core.runs (q : Core) : Bool := q.released && ! q.halted

/-- EVENT_INTERRUPT (R475): a core stalled in WAIT goes on once an event routed to it is pending. -/
def execEventInterrupt (k : CoreId) (s : State) : Host.Outcome State Fault Refusal :=
  .next (if ! (s.core k).runs then s
    else if (s.core k).waiting then
      if (s.claimOf k).isSome then (s.updCore k fun q => { q with waiting := false }).eventLook k else s
    else s.eventLook k)

/-! ## Issue -/

/-- What makes the instruction trap, the first cause by R471. `align`: it meets a misaligned address; `data`: a denied one. -/
def BOp.cause (o : BOp) (q : Core) (align data : Bool) : Option Cause :=
  if ! (q.right q.pc.toNat 2 && (! o.isLong || q.right (q.pc + 2).toNat 2)) then some .fetch
  else if o.control && q.slot.isSome then some .slot
  else if o.sup && q.ext then some .privilege
  else if q.depth < o.need then some .dunder
  else if decide (o.pops < o.pushes) && decide (q.dmax < q.depth - o.pops + o.pushes) then some .dover
  else if q.rdepth < o.rneed then some .runder
  else if decide (0 < o.rpushes) && decide (q.rmax < q.rdepth + o.rpushes) then some .rover
  else if align then some .align
  else if data then some .data
  else none

/-- The return address that follows a delay slot is settled once the slot instruction's length shows (R460). -/
def Core.settleLink (q : Core) (isLong : Bool) : Core :=
  match q.slot with
  | some d => if d.link && isLong then (q.rdrop).rpush (q.R + 2) else q
  | none => q

/-- The core past an instruction: after a delay slot it goes on where the branch leads; the shadows shorten by one (R461, R462). -/
def Core.advance (q : Core) (o : BOp) : Core :=
  let next := match q.slot with
    | some d => d.dest.getD (q.pc + BitVec.ofNat 32 o.len)
    | none => q.pc + BitVec.ofNat 32 o.len
  { q with pc := next, slot := none, pend := q.pend.map fun p => { p with left := p.left - 1 } }

/-- The info field that a cause gives at a trap of an instruction (R476). -/
def Cause.info : Cause → Option Nat
  | .fetch | .data => some Code.deniedAccess.num
  | _ => none

/-- The trap of an instruction that traps instead of executing. -/
def trapOf (o : BOp) (c : Cause) (q : Core) (addr : Word) : TrapCase :=
  { cause := c, pc := q.pc, parcels := if c = .fetch then none else some o.parcels, info := c.info,
    addr := if c = .data ∨ c = .align then some addr else none, len := o.len }

/-- Does an instruction of a core in WAIT have to wait on: no event is pending for it, or the event is taken first. -/
def State.stalls (s : State) (k : CoreId) : Bool := (s.core k).waiting && ((s.claimOf k).isNone || s.takeable k)

/-- The core at an instruction's issue: results due have landed, the return address of a slot is settled. -/
def Core.atIssue (q : Core) (o : BOp) : Core := ({ q with waiting := false }.landDue).settleLink o.isLong

/-- An instruction of a core issues (R451, R461, R471): it traps, or its act runs on the core past it. A core that is not released,
or halted, or in WAIT executes nothing. `addr` is the data address or jump target it checks. -/
def State.issue (s : State) (k : CoreId) (o : BOp) (addr : Core → Word) (align data : Core → Bool)
    (act : Core → State → Host.Outcome State Fault Refusal) : Host.Outcome State Fault Refusal :=
  if ! (s.core k).runs || s.stalls k then .next s
  else
    let q := (s.core k).atIssue o
    match o.cause q (align q) (data q) with
    | some c => .next ((s.updCore k fun _ => q).trap k (trapOf o c q (addr q)))
    | none => act q (s.updCore k fun _ => q.advance o)

/-- An instruction that works on its core's registers alone. -/
def State.plain (s : State) (k : CoreId) (o : BOp) (f : Core → Core) : Host.Outcome State Fault Refusal :=
  s.issue k o (fun _ => 0) (fun _ => false) (fun _ => false) fun _ s => .next (s.updCore k f)

/-- EMULATE_TRAP (R454): a reserved encoding reaches issue; other parcels are no such thing, and change nothing. -/
def execEmulateTrap (k : CoreId) (p : Parcels) (s : State) : Host.Outcome State Fault Refusal :=
  if ! p.reserved || ! (s.core k).runs || s.stalls k then .next s
  else
    let o : BOp := { code := p.opcode, isLong := p.second.isSome, operand := 0 }
    let q := (s.core k).atIssue o
    let s := s.updCore k fun _ => q
    if o.cause q false false = some .fetch then .next (s.trap k (trapOf o .fetch q 0))
    else .next (s.trap k { cause := .emulate, pc := q.pc, parcels := some p, len := o.len })

end Sys2Proof.Machine
end

