-- ==== Sys2Proof/Machine/BrixxelOps.lean ====
section
/-!
DEFINITION. The instructions of the Brixxel core (R454-R467): what each takes of the stacks and computes.
-/
namespace Sys2Proof.Machine

/-! ## Operands -/

/-- A signed immediate: 8 bits in the short form, 20 in the long one. -/
def BImm.signed : BImm → Word
  | .short f => f.signExtend 32
  | .long i => i.signExtend 32

/-- The operand field of an immediate. -/
def BImm.field : BImm → Nat
  | .short f => f.toNat
  | .long i => i.toNat

/-- The long form. -/
def BImm.isLong : BImm → Bool
  | .short _ => false
  | .long _ => true

/-- The displacement in bytes of an access of `n` bytes (R455). -/
def Disp.bytes (n : Nat) : Disp → Word
  | .short f => BitVec.ofNat 32 (f.toNat * n)
  | .long i => i.signExtend 32

/-- The operand field of a displacement. -/
def Disp.field : Disp → Nat
  | .short f => f.toNat
  | .long i => i.toNat

/-- The long form. -/
def Disp.isLong : Disp → Bool
  | .short _ => false
  | .long _ => true

/-- A short-form instruction: opcode, field, cells needed, popped and pushed. -/
def shortOp (code field need pops pushes : Nat) : BOp :=
  { code := code, operand := field, need := need, pops := pops, pushes := pushes }

/-! ## Stack instructions -/

/-- One cell in, one out: x → f x. -/
def State.unary (s : State) (k : CoreId) (code field : Nat) (f : Word → Word) : Host.Outcome State Fault Refusal :=
  s.plain k (shortOp code field 1 1 1) fun q => (q.drop 1).push (f (q.S 0))

/-- Two cells in, one out: x y → f x y. -/
def State.binary (s : State) (k : CoreId) (code : Nat) (f : Word → Word → Word) : Host.Outcome State Fault Refusal :=
  s.plain k (shortOp code 0 2 2 1) fun q => (q.drop 2).push (f (q.S 1) (q.S 0))

/-- A compare pushes 1 or 0 (R460). -/
def State.compare (s : State) (k : CoreId) (code : Nat) (f : Word → Word → Bool) : Host.Outcome State Fault Refusal :=
  s.binary k code fun x y => BitVec.ofNat 32 (b2n (f x y))

/-- A shift amount: n[5:0]. -/
def shiftBy (n : Word) : Nat := n.toNat % 64

/-- NOP (R454). -/
def execNop (k : CoreId) (s : State) : Host.Outcome State Fault Refusal :=
  s.plain k (shortOp 0x00 0 0 0 0) id

/-- DUP (R454): x → x x. -/
def execDup (k : CoreId) (s : State) : Host.Outcome State Fault Refusal :=
  s.plain k (shortOp 0x01 0 1 1 2) fun q => q.push (q.S 0)

/-- DROP (R454): x →. -/
def execDrop (k : CoreId) (s : State) : Host.Outcome State Fault Refusal :=
  s.plain k (shortOp 0x02 0 1 1 0) fun q => q.drop 1

/-- SWAP (R454): x y → y x. -/
def execSwap (k : CoreId) (s : State) : Host.Outcome State Fault Refusal :=
  s.plain k (shortOp 0x03 0 2 2 2) fun q => ((q.drop 2).push (q.S 0)).push (q.S 1)

/-- OVER (R454): x y → x y x. -/
def execOver (k : CoreId) (s : State) : Host.Outcome State Fault Refusal :=
  s.plain k (shortOp 0x04 0 2 2 3) fun q => q.push (q.S 1)

/-- ROT (R454): x y z → y z x. -/
def execRot (k : CoreId) (s : State) : Host.Outcome State Fault Refusal :=
  s.plain k (shortOp 0x05 0 3 3 3) fun q => (((q.drop 3).push (q.S 1)).push (q.S 0)).push (q.S 2)

/-- PICK n (R454): → copy of S(n). -/
def execPick (k : CoreId) (n : Byte) (s : State) : Host.Outcome State Fault Refusal :=
  s.plain k (shortOp 0x06 n.toNat (n.toNat + 1) 0 1) fun q => q.push (q.S n.toNat)

/-- TOR (R454): x goes to the return stack. -/
def execTor (k : CoreId) (s : State) : Host.Outcome State Fault Refusal :=
  s.plain k { shortOp 0x07 0 1 1 0 with rpushes := 1 } fun q => (q.drop 1).rpush (q.S 0)

/-- FROMR (R454): the entry on top of the return stack, popped. -/
def execFromr (k : CoreId) (s : State) : Host.Outcome State Fault Refusal :=
  s.plain k { shortOp 0x08 0 0 0 1 with rneed := 1 } fun q => (q.push q.R).rdrop

/-- RCOPY (R454): the same, copied. -/
def execRcopy (k : CoreId) (s : State) : Host.Outcome State Fault Refusal :=
  s.plain k { shortOp 0x09 0 0 0 1 with rneed := 1 } fun q => q.push q.R

/-- DEPTH (R454): → the depth before the instruction. -/
def execDepth (k : CoreId) (s : State) : Host.Outcome State Fault Refusal :=
  s.plain k (shortOp 0x0A 0 0 0 1) fun q => q.push (BitVec.ofNat 32 q.depth)

/-! ## Literals and arithmetic -/

/-- LIT8 (R454): → sign-extended 8 bits. -/
def execLit8 (k : CoreId) (f : Byte) (s : State) : Host.Outcome State Fault Refusal :=
  s.plain k (shortOp 0x0B f.toNat 0 0 1) fun q => q.push (f.signExtend 32)

/-- LIT (R454): → sign-extended 20 bits. -/
def execLit (k : CoreId) (i : BitVec 20) (s : State) : Host.Outcome State Fault Refusal :=
  s.plain k { shortOp 0x001 i.toNat 0 0 1 with isLong := true } fun q => q.push (i.signExtend 32)

/-- LITU (R454): → imm × 4,096. -/
def execLitu (k : CoreId) (i : BitVec 20) (s : State) : Host.Outcome State Fault Refusal :=
  s.plain k { shortOp 0x002 i.toNat 0 0 1 with isLong := true } fun q => q.push (BitVec.ofNat 32 (i.toNat * 4096))

/-- ORI (R454): x → x OR the zero-extended immediate. -/
def execOri (k : CoreId) (i : BitVec 20) (s : State) : Host.Outcome State Fault Refusal :=
  s.plain k { shortOp 0x003 i.toNat 1 1 1 with isLong := true } fun q => (q.drop 1).push (q.S 0 ||| i.setWidth 32)

/-- ADDI (R454): x → x + imm. -/
def execAddi (k : CoreId) (i : BImm) (s : State) : Host.Outcome State Fault Refusal :=
  s.plain k { shortOp (if i.isLong then 0x004 else 0x1D) i.field 1 1 1 with isLong := i.isLong } fun q =>
    (q.drop 1).push (q.S 0 + i.signed)

/-- ADD (R454): x y → x op y. -/
def execAdd (k : CoreId) (s : State) : Host.Outcome State Fault Refusal :=
  s.binary k 0x10 fun x y => x + y

/-- SUB (R454): x y → x op y. -/
def execSub (k : CoreId) (s : State) : Host.Outcome State Fault Refusal :=
  s.binary k 0x11 fun x y => x - y

/-- AND (R454): x y → x op y. -/
def execAndI (k : CoreId) (s : State) : Host.Outcome State Fault Refusal :=
  s.binary k 0x12 fun x y => x &&& y

/-- OR (R454): x y → x op y. -/
def execOrI (k : CoreId) (s : State) : Host.Outcome State Fault Refusal :=
  s.binary k 0x13 fun x y => x ||| y

/-- XOR (R454): x y → x op y. -/
def execXorI (k : CoreId) (s : State) : Host.Outcome State Fault Refusal :=
  s.binary k 0x14 fun x y => x ^^^ y

/-- NOT (R454). -/
def execNotI (k : CoreId) (s : State) : Host.Outcome State Fault Refusal :=
  s.unary k 0x15 0 fun x => ~~~ x

/-- NEG (R454). -/
def execNegI (k : CoreId) (s : State) : Host.Outcome State Fault Refusal :=
  s.unary k 0x16 0 fun x => -x

/-- SHL (R454): by n[5:0]; 32 to 63 give 0. -/
def execShl (k : CoreId) (s : State) : Host.Outcome State Fault Refusal :=
  s.binary k 0x17 fun x n => x <<< shiftBy n

/-- SHR (R454). -/
def execShr (k : CoreId) (s : State) : Host.Outcome State Fault Refusal :=
  s.binary k 0x18 fun x n => x >>> shiftBy n

/-- SAR (R454): 32 to 63 give sign fill. -/
def execSar (k : CoreId) (s : State) : Host.Outcome State Fault Refusal :=
  s.binary k 0x19 fun x n => x.sshiftRight (shiftBy n)

/-- SHLI (R454). -/
def execShli (k : CoreId) (n : BitVec 5) (s : State) : Host.Outcome State Fault Refusal :=
  s.unary k 0x1A n.toNat fun x => x <<< n.toNat

/-- SHRI (R454). -/
def execShri (k : CoreId) (n : BitVec 5) (s : State) : Host.Outcome State Fault Refusal :=
  s.unary k 0x1B n.toNat fun x => x >>> n.toNat

/-- SARI (R454). -/
def execSari (k : CoreId) (n : BitVec 5) (s : State) : Host.Outcome State Fault Refusal :=
  s.unary k 0x1C n.toNat fun x => x.sshiftRight n.toNat

/-- EQ (R454, R460). -/
def execEqI (k : CoreId) (s : State) : Host.Outcome State Fault Refusal :=
  s.compare k 0x20 fun x y => x == y

/-- NE (R454, R460). -/
def execNeI (k : CoreId) (s : State) : Host.Outcome State Fault Refusal :=
  s.compare k 0x21 fun x y => x != y

/-- LT (R454, R460). -/
def execLtI (k : CoreId) (s : State) : Host.Outcome State Fault Refusal :=
  s.compare k 0x22 fun x y => x.slt y

/-- LTU (R454, R460). -/
def execLtuI (k : CoreId) (s : State) : Host.Outcome State Fault Refusal :=
  s.compare k 0x23 fun x y => x.ult y

/-- LE (R454, R460). -/
def execLeI (k : CoreId) (s : State) : Host.Outcome State Fault Refusal :=
  s.compare k 0x24 fun x y => x.sle y

/-- LEU (R454, R460). -/
def execLeuI (k : CoreId) (s : State) : Host.Outcome State Fault Refusal :=
  s.compare k 0x25 fun x y => x.ule y

/-- EQZ (R454, R460). -/
def execEqzI (k : CoreId) (s : State) : Host.Outcome State Fault Refusal :=
  s.unary k 0x26 0 fun x => BitVec.ofNat 32 (b2n (x == 0))

/-- A multiply (R462, R463): the result cell is that of x, which keeps x until the product lands two instructions on. -/
def State.multiply (s : State) (k : CoreId) (code : Nat) (f : Word → Word → Word) : Host.Outcome State Fault Refusal :=
  s.plain k (shortOp code 0 2 2 1) fun q =>
    (q.drop 1).later 2 (.cell (q.depth - 2)) ((f (q.S 1) (q.S 0)).setWidth 72)

/-- MUL (R454): the low 32 bits. -/
def execMul (k : CoreId) (s : State) : Host.Outcome State Fault Refusal :=
  s.multiply k 0x28 fun x y => x * y

/-- MULH (R454): the signed high 32 bits. -/
def execMulh (k : CoreId) (s : State) : Host.Outcome State Fault Refusal :=
  s.multiply k 0x29 fun x y => BitVec.ofInt 32 (x.toInt * y.toInt / 2 ^ 32)

/-- MULHU (R454): the unsigned high 32 bits. -/
def execMulhu (k : CoreId) (s : State) : Host.Outcome State Fault Refusal :=
  s.multiply k 0x2A fun x y => BitVec.ofNat 32 (x.toNat * y.toNat / 2 ^ 32)

/-! ## Memory (R455-R459) -/

/-- The address that a memory instruction reaches: the base in S0 plus the displacement. -/
def memAddr (n : Nat) (d : Disp) (q : Core) : Word := q.S 0 + d.bytes n

/-- Is the address off the access size. -/
def misaligned (n : Nat) (d : Disp) (q : Core) : Bool := (memAddr n d q).toNat % n != 0

/-- A value read of `n` bytes, sign- or zero-extended. -/
def extendLoad (n v : Nat) (signed : Bool) : Word :=
  if signed then (BitVec.ofNat (8 * n) v).signExtend 32 else BitVec.ofNat 32 v

/-- A load (R455, R456, R463): the base's cell keeps the base until the value lands; LDR also reserves (R458). -/
def State.loadOp (s : State) (k : CoreId) (code n : Nat) (signed reserve : Bool) (d : Disp) : Host.Outcome State Fault Refusal :=
  s.issue k { shortOp code d.field 1 1 1 with isLong := d.isLong } (memAddr n d) (misaligned n d)
    (fun q => ! q.dataOk (memAddr n d q).toNat 0) fun q s =>
    let a := (memAddr n d q).toNat
    if s.meetsUndescribed k false a then .fault (.undescribedBlock a)
    else
      let held := reserve && (s.busRefusal k false a).isNone && (match areaOf a with
        | some (.sram _) => true
        | _ => false)
      let r := s.busRead k a n
      .next (r.2.updCore k fun c =>
        { c.later 2 (.cell (q.depth - 1)) ((extendLoad n r.1 signed).setWidth 72) with
          resv := if held then some (a / 32) else c.resv })

/-- A store (R455-R457): v b →, the low bytes of v. -/
def State.storeOp (s : State) (k : CoreId) (code n : Nat) (d : Disp) : Host.Outcome State Fault Refusal :=
  s.issue k { shortOp code d.field 2 2 0 with isLong := d.isLong } (memAddr n d) (misaligned n d)
    (fun q => ! q.dataOk (memAddr n d q).toNat 1) fun q s =>
    let a := (memAddr n d q).toNat
    let s := (s.updCore k fun c => c.drop 2).quiet
    if s.meetsUndescribed k true a then .fault (.undescribedBlock a)
    else .next (s.busWrite k a n ((q.S 1).toNat % 2 ^ (8 * n)))

/-- LDW (R455). -/
def execLdw (k : CoreId) (d : Disp) (s : State) : Host.Outcome State Fault Refusal :=
  s.loadOp k 0x30 4 false false d

/-- LDH (R455). -/
def execLdh (k : CoreId) (d : Disp) (s : State) : Host.Outcome State Fault Refusal :=
  s.loadOp k 0x31 2 true false d

/-- LDHU (R455). -/
def execLdhu (k : CoreId) (d : Disp) (s : State) : Host.Outcome State Fault Refusal :=
  s.loadOp k 0x32 2 false false d

/-- LDB (R455). -/
def execLdb (k : CoreId) (d : Disp) (s : State) : Host.Outcome State Fault Refusal :=
  s.loadOp k 0x33 1 true false d

/-- LDBU (R455). -/
def execLdbu (k : CoreId) (d : Disp) (s : State) : Host.Outcome State Fault Refusal :=
  s.loadOp k 0x34 1 false false d

/-- STW (R455). -/
def execStw (k : CoreId) (d : Disp) (s : State) : Host.Outcome State Fault Refusal :=
  s.storeOp k 0x35 4 d

/-- STH (R455). -/
def execSth (k : CoreId) (d : Disp) (s : State) : Host.Outcome State Fault Refusal :=
  s.storeOp k 0x36 2 d

/-- STB (R455). -/
def execStb (k : CoreId) (d : Disp) (s : State) : Host.Outcome State Fault Refusal :=
  s.storeOp k 0x37 1 d

/-- LDR (R458). -/
def execLdr (k : CoreId) (d : Disp) (s : State) : Host.Outcome State Fault Refusal :=
  s.loadOp k 0x38 4 false true d

/-- Does the core hold the reservation that an STC to an address needs, in secure SRAM that takes the write (R458). -/
def State.stcHolds (s : State) (k : CoreId) (a : Nat) : Bool :=
  (s.core k).resv == some (a / 32) && (match areaOf a with
    | some (.sram _) => true
    | _ => false)

/-- A lower-numbered core among `rivals`, whose STC to the granule reaches secure SRAM in the same cycle, still holds its reservation:
its STC is the one that stores (R459). -/
def State.stcLoses (s : State) (k : CoreId) (rivals : BitVec 12) (a : Nat) : Bool :=
  (List.finRange 12).any fun r => decide (r.val < k.val) && rivals.getLsbD r.val && s.stcHolds r a

/-- STC (R458, R459): v b → flag; stores v where the reservation is held and no lower core's STC comes in the same cycle; the flag lands
two instructions on over v's cell. -/
def execStc (k : CoreId) (d : Disp) (rivals : BitVec 12) (s : State) : Host.Outcome State Fault Refusal :=
  s.issue k { shortOp 0x39 d.field 2 2 1 with isLong := d.isLong } (memAddr 4 d) (misaligned 4 d)
    (fun q => ! q.dataOk (memAddr 4 d q).toNat 1) fun q s =>
    let a := (memAddr 4 d q).toNat
    let held := s.stcHolds k a && ! s.stcLoses k rivals a
    let ok := held && (s.busRefusal k true a).isNone
    let s := s.updCore k fun c =>
      { (c.drop 1).later 2 (.cell (q.depth - 2)) (BitVec.ofNat 72 (b2n ok)) with resv := none }
    .next (if held then s.busWrite k a 4 (q.S 1).toNat else s)

/-- FENCE (R457): every access of this model has completed when the next instruction issues. -/
def execFence (k : CoreId) (s : State) : Host.Outcome State Fault Refusal :=
  s.plain k (shortOp 0x3A 0 0 0 0) id

/-! ## Branches (R460, R461) -/

/-- A branch taken to `t` or not: its slot comes next; `link` pushes the address that follows the slot. -/
def Core.branch (q : Core) (taken : Bool) (t : Word) (link : Bool) : Core :=
  let q := if link then q.rpush (q.pc + 2) else q
  { q with slot := some ⟨if taken then some t else none, link⟩ }

/-- A relative branch: the target is the branch's own address + 2 × offset. -/
def State.relative (s : State) (k : CoreId) (code : Nat) (o : BImm) (pops : Nat) (link : Bool) (taken : Core → Bool) :
    Host.Outcome State Fault Refusal :=
  let op : BOp := { code := code, isLong := o.isLong, operand := o.field, need := pops, pops := pops, control := true,
                    rpushes := b2n link }
  s.issue k op (fun _ => 0) (fun _ => false) (fun _ => false) fun q s =>
    .next (s.updCore k fun c => (c.drop pops).branch (taken q) (q.pc + o.signed + o.signed) link)

/-- BZ (R460). -/
def execBz (k : CoreId) (o : BImm) (s : State) : Host.Outcome State Fault Refusal :=
  s.relative k 0x40 o 1 false fun q => q.S 0 == 0

/-- BNZ (R460). -/
def execBnz (k : CoreId) (o : BImm) (s : State) : Host.Outcome State Fault Refusal :=
  s.relative k 0x41 o 1 false fun q => q.S 0 != 0

/-- BRA (R460). -/
def execBra (k : CoreId) (o : BImm) (s : State) : Host.Outcome State Fault Refusal :=
  s.relative k 0x42 o 0 false fun _ => true

/-- BSR (R460). -/
def execBsr (k : CoreId) (o : BImm) (s : State) : Host.Outcome State Fault Refusal :=
  s.relative k 0x43 o 0 true fun _ => true

/-- JMP and JSR (R460): an absolute target off a parcel traps. -/
def State.jump (s : State) (k : CoreId) (code : Nat) (link : Bool) : Host.Outcome State Fault Refusal :=
  s.issue k { shortOp code 0 1 1 0 with control := true, rpushes := b2n link } (fun q => q.S 0) (fun q => (q.S 0).getLsbD 0)
    (fun _ => false) fun q s => .next (s.updCore k fun c => (c.drop 1).branch true (q.S 0) link)

/-- An address on a parcel: bit 0 dropped (R449). -/
def onParcel (a : Word) : Word := a &&& 0xFFFFFFFE

/-- JMP (R460). -/
def execJmp (k : CoreId) (s : State) : Host.Outcome State Fault Refusal :=
  s.jump k 0x44 false

/-- JSR (R460). -/
def execJsr (k : CoreId) (s : State) : Host.Outcome State Fault Refusal :=
  s.jump k 0x45 true

/-- RET (R461): the target from the return stack. -/
def execRet (k : CoreId) (s : State) : Host.Outcome State Fault Refusal :=
  s.plain k { shortOp 0x46 0 0 0 0 with rneed := 1, control := true } fun q => (q.rdrop).branch true (onParcel q.R) false

/-! ## System (R468, R471-R475) -/

/-- The return from a trap (R473): privilege from prev_x, on at TRAPPC, a slot instruction alone there and then TRAPNEXT; the
reservation goes (R458). -/
def Core.trapReturn (q : Core) : Core :=
  { q with ext := q.trapInfo.getLsbD 29, resv := none, pc := onParcel q.trapPc,
           slot := if q.trapInfo.getLsbD 30 then some ⟨some (onParcel q.trapNext), false⟩ else none,
           trapInfo := q.trapInfo &&& 0x3FFFFFFF }

/-- TRET (R473). -/
def execTret (k : CoreId) (s : State) : Host.Outcome State Fault Refusal :=
  s.plain k { shortOp 0x47 0 0 0 0 with control := true, sup := true } Core.trapReturn

/-- SVC and BREAK (R471): the trap is the effect; TRAPPC is the next instruction. -/
def State.callTrap (s : State) (k : CoreId) (code : Nat) (n : Byte) (c : Cause) : Host.Outcome State Fault Refusal :=
  let o : BOp := { shortOp code n.toNat 0 0 0 with control := true }
  s.issue k o (fun _ => 0) (fun _ => false) (fun _ => false) fun q s =>
    .next ((s.updCore k fun _ => q).trap k { cause := c, pc := q.pc + 2, parcels := some o.parcels, info := some n.toNat })

/-- SVC n (R471). -/
def execSvc (k : CoreId) (n : Byte) (s : State) : Host.Outcome State Fault Refusal :=
  s.callTrap k 0x48 n .svc

/-- BREAK n (R471). -/
def execBreakI (k : CoreId) (n : Byte) (s : State) : Host.Outcome State Fault Refusal :=
  s.callTrap k 0x49 n .break_

/-- WAIT (R475): stalls until an event routed to the core is pending. -/
def execWaitI (k : CoreId) (s : State) : Host.Outcome State Fault Refusal :=
  s.plain k { shortOp 0x4A 0 0 0 0 with control := true, sup := true } fun q => { q with waiting := true }

/-! ## Fixed point (R465-R467) -/

/-- What a multiply-accumulate adds to: the latest pending result of its accumulator, else the accumulator (R465). -/
def Core.accNext (q : Core) (a : Fin 2) : BitVec 72 :=
  ((q.pend.filter fun p => p.dest == .acc a).getLast?.map fun p => p.value).getD q.acc[a]

/-- FMAC's product: 64 bits, signed (R466). -/
def fullProduct (x y : Word) : Int := x.toInt * y.toInt

/-- PMAC's sum of paired products, × 2^32 (R466). -/
def pairedProduct (x y : Word) : Int :=
  let hi (w : Word) : Int := (BitVec.ofNat 16 (w.toNat / 2 ^ 16)).toInt
  let lo (w : Word) : Int := (w.setWidth 16).toInt
  (hi x * hi y + lo x * lo y) * 2 ^ 32

/-- A multiply-accumulate (R466): wraps at 72 bits, lands three instructions on. -/
def State.mac (s : State) (k : CoreId) (code : Nat) (a : Fin 2) (sub : Bool) (f : Word → Word → Int) :
    Host.Outcome State Fault Refusal :=
  s.plain k (shortOp code (a.val + 2 * b2n sub) 2 2 0) fun q =>
    let p := BitVec.ofInt 72 (f (q.S 1) (q.S 0))
    (q.drop 2).later 3 (.acc a) (if sub then q.accNext a - p else q.accNext a + p)

/-- A ÷ 2^sh rounded by FXMODE.round (R467): 0 down, 1 nearest with ties up, 2 and 3 nearest with ties to even. -/
def roundShift (v : Int) (sh : Nat) (mode : BitVec 2) : Int :=
  let fl := v / 2 ^ sh
  let rem := v - fl * 2 ^ sh
  let half : Int := 2 ^ (sh - 1)
  if mode = 0 then fl
  else if rem < half then fl
  else if half < rem then fl + 1
  else if mode = 1 then fl + 1
  else if fl % 2 = 0 then fl else fl + 1

/-- A value within `n` signed bits, the nearer bound outside them. -/
def saturate (n : Nat) (v : Int) : Int := if v < -(2 ^ (n - 1)) then -(2 ^ (n - 1)) else if 2 ^ (n - 1) - 1 < v then 2 ^ (n - 1) - 1 else v

/-- A store-out (R467): rounds, saturates to `n` bits, sets FXMODE.sat where it did. -/
def State.storeOut (s : State) (k : CoreId) (code : Nat) (a : Fin 2) (sh n : Nat) : Host.Outcome State Fault Refusal :=
  s.plain k (shortOp code a.val 0 0 1) fun q =>
    let v := roundShift (q.acc[a]).toInt sh q.round
    { q.push (BitVec.ofInt 32 (saturate n v)) with sat := q.sat || saturate n v != v }

/-- FMAC (R466). -/
def execFmac (k : CoreId) (a : Fin 2) (sub : Bool) (s : State) : Host.Outcome State Fault Refusal :=
  s.mac k 0x50 a sub fullProduct

/-- PMAC (R466). -/
def execPmac (k : CoreId) (a : Fin 2) (sub : Bool) (s : State) : Host.Outcome State Fault Refusal :=
  s.mac k 0x51 a sub pairedProduct

/-- ACLR (R466): A ← 0. -/
def execAclr (k : CoreId) (a : Fin 2) (s : State) : Host.Outcome State Fault Refusal :=
  s.plain k (shortOp 0x52 a.val 0 0 0) fun q => { q with acc := vset q.acc a 0 }

/-- ALD (R466): A ← S0 × 2^31. -/
def execAld (k : CoreId) (a : Fin 2) (s : State) : Host.Outcome State Fault Refusal :=
  s.plain k (shortOp 0x53 a.val 1 1 0) fun q =>
    { q.drop 1 with acc := vset q.acc a (BitVec.ofInt 72 ((q.S 0).toInt * 2 ^ 31)) }

/-- FSTO (R467): Q1.31. -/
def execFsto (k : CoreId) (a : Fin 2) (s : State) : Host.Outcome State Fault Refusal :=
  s.storeOut k 0x54 a 31 32

/-- FSTOH (R467): Q1.15. -/
def execFstoh (k : CoreId) (a : Fin 2) (s : State) : Host.Outcome State Fault Refusal :=
  s.storeOut k 0x55 a 47 16

/-- The part of an accumulator that ARD reads; part 3 is not given, a free value `x` (log entry 53). -/
def accPart (v : BitVec 72) (part : BitVec 2) (x : Word) : Word :=
  match part.toNat with
  | 0 => v.extractLsb' 0 32
  | 1 => v.extractLsb' 32 32
  | 2 => (v.extractLsb' 64 8).signExtend 32
  | _ => x

/-- ARD (R454): a raw part. -/
def execArd (k : CoreId) (a : Fin 2) (part : BitVec 2) (s : State) : Host.Outcome State Fault Refusal :=
  s.issue k (shortOp 0x56 (a.val + 2 * part.toNat) 0 0 1) (fun _ => 0) (fun _ => false) (fun _ => false) fun _ t =>
    let u := if part = 3 then t.drawn else t
    .next (u.updCore k fun q => q.push (accPart q.acc[a] part (BitVec.ofNat 32 (Config.freeWord t.free).toNat)))

/-- AWR (R454): lo hi g → A, of g the low 8 bits. -/
def execAwr (k : CoreId) (a : Fin 2) (s : State) : Host.Outcome State Fault Refusal :=
  s.plain k (shortOp 0x57 a.val 3 3 0) fun q =>
    { q.drop 3 with acc := vset q.acc a ((q.S 0).setWidth 8 ++ q.S 1 ++ q.S 2) }

end Sys2Proof.Machine
end

