-- ==== Sys2Proof/Machine/Cert.lean ====
section
/-!
DEFINITION. Certificates (R379-R383): X.509 v3 in DER as far as the device builds and reads it, the alternative keys and signatures of
ITU-T X.509 (10/2019), the check of both signatures of a chain, and the trust lists' anchors and pins (R284, R392). The encodings are
those of the standards that R380 names.
-/
namespace Sys2Proof.Machine

/-! ## DER -/

/-- The bytes of a number, most significant first, no zero in front; one byte at least. -/
def beShort : Nat → Nat → List Byte
  | 0, _ => []
  | n + 1, v => if v < 256 then [BitVec.ofNat 8 v] else beShort n (v / 256) ++ [BitVec.ofNat 8 v]

/-- A length field. -/
def derLength (n : Nat) : List Byte :=
  if n < 128 then [BitVec.ofNat 8 n] else let b := beShort 8 n; BitVec.ofNat 8 (0x80 + b.length) :: b

/-- A value with its tag and length. -/
def der (tag : Byte) (content : List Byte) : List Byte := tag :: (derLength content.length ++ content)

/-- A SEQUENCE. -/
def derSeq (items : List (List Byte)) : List Byte := der 0x30 items.flatten

/-- A non-negative INTEGER. -/
def derInt (v : Nat) : List Byte :=
  let b := beShort 64 v
  der 0x02 (if 128 ≤ (b.headD 0).toNat then 0 :: b else b)

/-- A BIT STRING of whole bytes. -/
def derBits (b : List Byte) : List Byte := der 0x03 (0 :: b)

/-- An arc of an object identifier, in groups of seven bits. -/
def oidArc : Nat → Nat → List Byte
  | 0, _ => []
  | n + 1, v => if v < 128 then [BitVec.ofNat 8 v]
      else (oidArc n (v / 128)).map (fun b => b ||| 0x80) ++ [BitVec.ofNat 8 (v % 128)]

/-- An OBJECT IDENTIFIER whose first two arcs make the first byte. -/
def derOid (first : Nat) (arcs : List Nat) : List Byte := der 0x06 (oidArc 8 first ++ arcs.flatMap (oidArc 8))

/-- One value as it is read: its tag, its content, the whole of it. -/
abbrev DerItem := Byte × List Byte × List Byte

/-- The next value and what follows it. -/
def derNext (b : List Byte) : Option (DerItem × List Byte) :=
  match b with
  | tag :: len :: rest =>
    let k := if len.toNat < 128 then 0 else len.toNat - 128
    let n := if k = 0 then len.toNat else beNat (rest.take k)
    let body := rest.drop k
    if 4 < k ∨ rest.length < k ∨ body.length < n then none
    else some ((tag, body.take n, b.take (2 + k + n)), body.drop n)
  | _ => none

/-- The values in a row, none where they do not end with the bytes. -/
def derItems : Nat → List Byte → List DerItem
  | 0, _ => []
  | n + 1, b => match derNext b with
    | some (x, rest) => x :: derItems n rest
    | none => []

/-- The values of a content. -/
def derIn (b : List Byte) : List DerItem := derItems 64 b

/-- The content of the `i`th value of a content. -/
def derAt (b : List Byte) (i : Nat) : List Byte := (((derIn b)[i]?).map fun x => x.2.1).getD []

/-! ## Object identifiers -/

/-- ecdsa-with-SHA384. -/
def oidEcdsaSha384 : List Byte := derOid 42 [840, 10045, 4, 3, 3]
/-- ecPublicKey. -/
def oidEcKey : List Byte := derOid 42 [840, 10045, 2, 1]
/-- secp384r1. -/
def oidP384 : List Byte := derOid 43 [132, 0, 34]
/-- id-ml-dsa-87. -/
def oidMlDsa87 : List Byte := derOid 96 [840, 1, 101, 3, 4, 3, 19]
/-- subjectAltPublicKeyInfo, altSignatureAlgorithm and altSignatureValue (R380). -/
def oidAlt (n : Nat) : List Byte := derOid 85 [29, n]
/-- E.4.n, E being 1.3.6.1.4.1 and the enterprise number of `0x0100.06` (R379). -/
def oidGv (n : Nat) : List Byte := derOid 43 [6, 1, 4, 1, 101182, 4, n]

/-! ## Reading a certificate (R380) -/

/-- The content of a certificate: the signed part, the algorithm, the signature. -/
def certContent (c : List Byte) : List Byte := derAt c 0

/-- The signed part whole, and its content. -/
def certTbs (c : List Byte) : List Byte × List Byte := ((((derIn (certContent c))[0]?).map fun x => (x.2.2, x.2.1)).getD ([], []))

/-- The extensions of a certificate: identifier and value. -/
def certExts (c : List Byte) : List (List Byte × List Byte) :=
  let box := (((derIn (certTbs c).2).find? fun x => x.1 == 0xA3).map fun x => x.2.1).getD []
  (derIn (derAt box 0)).map fun x => ((((derIn x.2.1)[0]?).map fun y => y.2.2).getD [], (((derIn x.2.1).getLast?).map fun y => y.2.1).getD [])

/-- The value of an extension. -/
def certExt (c oid : List Byte) : List Byte := (((certExts c).find? fun x => x.1 == oid).map fun x => x.2).getD []

/-- The subject of a certificate, whole (R383). -/
def certSubject (c : List Byte) : List Byte := ((((derIn (certTbs c).2)[5]?).map fun x => x.2.2).getD [])

/-- The key of a SubjectPublicKeyInfo's content. -/
def spkiKey (b : List Byte) : List Byte := (derAt b 1).drop 1

/-- The ECDSA P-384 key of a certificate. -/
def certEcKey (c : List Byte) : List Byte := spkiKey (derAt (certTbs c).2 6)

/-- The ML-DSA-87 key of a certificate. -/
def certMlKey (c : List Byte) : List Byte := spkiKey (derAt (certExt c (oidAlt 72)) 0)

/-- The classical signature as r ‖ s. -/
def certEcSig (c : List Byte) : List Byte :=
  let b := derAt ((derAt (certContent c) 2).drop 1) 0
  beBytes 48 (beNat (derAt b 0)) ++ beBytes 48 (beNat (derAt b 1))

/-- The preTBSCertificate (ITU-T X.509): the signed part without its algorithm and without altSignatureValue. -/
def certPreTbs (c : List Byte) : List Byte :=
  let items := (derIn (certTbs c).2).zipIdx.filter fun x => x.2 != 2
  derSeq (items.map fun x =>
    if x.1.1 = 0xA3 then
      der 0xA3 (derSeq (((derIn (derAt x.1.2.1 0)).filter fun e => (((derIn e.2.1)[0]?).map fun y => y.2.2) != some (oidAlt 74)).map fun e => e.2.2))
    else x.1.2.2)

/-- Do both signatures of a certificate verify under its issuer's keys (R380): the alternative one in pure ML-DSA-87 with an empty
context. -/
def certSignedBy (issuer c : List Byte) : Bool :=
  ecdsaVerify (certEcKey issuer) (sha384 (certTbs c).1) (certEcSig c)
  && mlVerify (certMlKey issuer) [] (certPreTbs c) ((derAt (certExt c (oidAlt 74)) 0).drop 1)

/-- The certificates of a chain one after the other, root first. -/
def chainCerts (b : List Byte) : List (List Byte) := (derItems 16 b).map fun x => x.2.2

/-- A chain is valid when both signatures of every certificate verify (R380), each under the one before it. -/
def linkedOk : List (List Byte) → Bool
  | a :: b :: rest => certSignedBy a b && linkedOk (b :: rest)
  | _ => true

/-! ## Trust lists (R284, R392) -/

/-- The anchor digest of an issuing certificate: the form of R182 over its two keys. -/
def anchorOf (c : List Byte) : Digest := sha384 (certEcKey c ++ certMlKey c)

/-- Does a trust list hold an entry of a kind with a digest (R284). -/
def listHolds (list : List Byte) (kind : Nat) (d : Digest) : Bool :=
  (List.range 16).any fun i =>
    let e := (list.drop (52 * i)).take 52
    e.headD 0 == BitVec.ofNat 8 kind && digestOfBytes (e.drop 4) == d

/-- Do both chains of a leaf end at one anchor of a list (R284): an issuing certificate whose digest it holds, from which on every
certificate verifies. -/
def anchored (list : List Byte) : List (List Byte) → Bool
  | a :: b :: rest => (listHolds list 1 (anchorOf a) && linkedOk (a :: b :: rest)) || anchored list (b :: rest)
  | _ => false

/-- The leaf of a chain. -/
def chainLeaf (certs : List (List Byte)) : List Byte := certs.getLast?.getD []

/-- The DeviceID of a leaf: SHA-384 of its ECDSA key (R284). -/
def leafId (certs : List (List Byte)) : Digest := sha384 (certEcKey (chainLeaf certs))

/-! ## The Alias certificate (R379, R383) -/

/-- An AlgorithmIdentifier. -/
def derAlgorithm (oids : List (List Byte)) : List Byte := derSeq oids

/-- A SubjectPublicKeyInfo. -/
def derSpki (oids : List (List Byte)) (key : List Byte) : List Byte := derSeq [derAlgorithm oids, derBits key]

/-- A non-critical extension. -/
def derExt (oid value : List Byte) : List Byte := derSeq [oid, der 0x04 value]

/-- The identity fields as gv-identity carries them: big-endian, lot, wafer, die x, die y, stepping (R379). -/
def State.gvIdentity (s : State) : List Byte := (s.identityBytes.take 4).reverse ++ s.identityBytes.drop 4

/-- gv-tcb (R383): the mission measurement, the svn, the slot. -/
def State.gvTcb (s : State) : List Byte := digestBytes s.boot.missionMeas ++ beBytes 4 s.boot.svn ++ [BitVec.ofNat 8 s.boot.slot]

/-- The serial number (R383): the first 20 bytes of the SHA-384 of the Alias ECDSA key, the most significant bit cleared. -/
def State.aliasSerial (s : State) : Nat := (sha384 (s.ecKey 5)).toNat / 2 ^ 224 % 2 ^ 159

/-- The fields of the Alias certificate around the algorithm of its signature (R380, R383). -/
def State.aliasFields (s : State) (deviceId : List Byte) (exts : List (List Byte)) (alg : List (List Byte)) : List Byte :=
  derSeq ([der 0xA0 (derInt 2), derInt s.aliasSerial] ++ alg ++ [certSubject deviceId,
    derSeq [der 0x18 (ascii "20000101000000Z"), der 0x18 (ascii "99991231235959Z")], Config.aliasSubject,
    derSpki [oidEcKey, oidP384] (s.ecKey 5), der 0xA3 (derSeq exts)])

/-- The Alias certificate (R383), signed by the DeviceID's two keys (R380). The order of its extensions and its subject are the model's
(DESIGN CHOICE, log entry 161). -/
def State.makeAlias (s : State) (deviceId : List Byte) : List Byte :=
  let exts := [derExt (oidGv 1) s.gvIdentity, derExt (oidGv 2) s.gvTcb, derExt (oidAlt 72) (derSpki [oidMlDsa87] (s.mlKey 6)),
    derExt (oidAlt 73) (derAlgorithm [oidMlDsa87])]
  let alt := s.mlSignAs 3 [] (s.aliasFields deviceId exts [])
  let tbs := s.aliasFields deviceId (exts ++ [derExt (oidAlt 74) (derBits alt)]) [derAlgorithm [oidEcdsaSha384]]
  let sig := s.ecSign 2 tbs
  derSeq [tbs, derAlgorithm [oidEcdsaSha384], derBits (derSeq [derInt (beNat (sig.take 48)), derInt (beNat (sig.drop 48))])]

end Sys2Proof.Machine
end

