-- ==== Sys2Proof/Machine/Measured.lean ====
section
/-!
DEFINITION. The measurements (R389, R390): the indices, their values, the records of their changes; and the cycle that passes on an
empty queue.
-/
namespace Sys2Proof.Machine

/-- The indices of *Measurement indices* but 0xEF (R389). -/
def measIndices : List Nat := [1, 2, 3, 4, 5, 6] ++ upTo 0x10 0x4F ++ upTo 0x50 0x8F

/-- The hardware record (R390). -/
def State.hardwareRecord (s : State) : List Byte :=
  let owners := ((List.range 4).map fun i => s.ownerSlotState i * 4 ^ i).sum
  leBytes 1 s.lifecycle.num ++ leBytes 1 (b2n s.kv.debug) ++ leBytes 1 owners ++ leBytes 1 (s.floorVal .mission)
    ++ leBytes 2 s.fuseAlarms.toNat ++ leBytes 1 (b2n (! s.fuse.overrides.isEmpty) + 2 * b2n (s.lev.mask != 0)) ++ leBytes 1 0
    ++ s.identityBytes

/-- The record of the versions: svn in force, the device's floor, the channels' floors (R389). -/
def State.svnRecord (s : State) : List Byte :=
  leBytes 4 s.boot.svn ++ leBytes 1 (s.floorVal .mission) ++ leBytes 3 0
    ++ (List.finRange 64).map fun c => BitVec.ofNat 8 (s.floorVal (.chan c))

/-- The value of a measurement index (R389). -/
def State.measValue (s : State) (i : Nat) : List Byte :=
  match i with
  | 1 => digestBytes s.boot.sillMeas
  | 2 => digestBytes s.boot.missionMeas
  | 3 => digestBytes (if s.boot.extRuns then s.boot.extDigest else 0)
  | 4 => digestBytes s.configDigest
  | 5 => s.hardwareRecord
  | 6 => s.svnRecord
  | _ =>
    if i < 0x50 then
      digestBytes (match finOf 64 (i - 0x10) with
        | some c => (s.chan c).desc.merkleRoot
        | none => 0)
    else
      digestBytes (match finOf 64 (i - 0x50) with
        | some c => (s.chan c).desc.mutableDigest
        | none => 0)

/-- The indices whose changes are recorded as MEASUREMENT: SILL_MEAS, MISSION_MEAS and MUTABLE record the others (R575). -/
def notedIndices : List Nat := [3, 4, 5, 6] ++ upTo 0x10 0x4F

/-- The values as they stand are those last recorded. -/
def State.noteAll (s : State) : State :=
  { s with log := { s.log with noted := notedIndices.map fun i => (i, s.measValue i) } }

/-- A MEASUREMENT record: the index and the new value (R575). -/
def State.noteChange (s : State) (i : Nat) : State :=
  let v := s.measValue i
  if lookupD s.log.noted i [] = v then s
  else
    let s := s.logMeas .measurement ((1, i) :: v.map fun b => (1, b.toNat))
    { s with log := { s.log with noted := setKey s.log.noted i v } }

/-- One REFCLK cycle in ns (R546, R547). -/
def refclkNs : Nat := 40

/-- The steward rewrites a channel's digest-area slot after a fault in it, from the leaf level of the manifest in force, proven by
folding it to the signed root (R124, R133). -/
def State.mendDigests (s : State) (c : ChanId) : State :=
  let d := (s.chan c).desc
  if ! (s.chan c).digestFault ∨ s.hg.steward.isNone then s
  else match s.catContainer d.manifestRef with
    | none => s
    | some m =>
      if imgRoot m = d.merkleRoot ∧ s.leafLevelTrusted (.chan c) m ∧ imgLeaves m = d.leafCount then
        ((s.chargeBest .indigo (48 * imgLeaves m)).chargeBest .amber (48 * imgLeaves m)).rewriteDigests c m
      else s

/-- The weak bits of a word that read 1 are burned again where R420 permits it; the controller runs on from its last command. -/
def State.reburnWord (s : State) (priv : Bool) (w : Nat) : State :=
  let mask := if priv then (s.fuse.priv[privIx w]).weak &&& (s.fuse.priv[privIx w]).loose
    else (s.mainCells (mainIx w)).weak &&& (s.mainCells (mainIx w)).loose
  if mask = 0 ∨ (s.reburnCode priv w mask).isSome then s
  else
    let till := max s.fuse.busyUntil s.time
    let r := if priv then s.burnPriv w mask mask s.freeBurn else s.burnMain w mask mask s.freeBurn
    let s := (r.1.drawn.burnEnd r.2 (20000 + 10000 * r.2.burned)).1
    { s with fuse := { s.fuse with busyUntil := s.fuse.busyUntil + (till - s.time) } }

/-- The longest REBURN of one word: 64 cells at 25 µs (R417). -/
def reburnUs : Nat := 1620

/-- At each start-up in HOLD mission firmware re-burns every weak bit that R420 permits, once the energy gate is open and T_J lies in
the programming window (R415, R416). -/
def State.reburnWeak (s : State) : State :=
  if s.fuse.reburnDue ∧ s.fuse.allLoaded ∧ s.dev.mode = .hold ∧ s.hg.steward.isSome ∧ s.gateOpen reburnUs ∧ s.tempOk ∧ ! s.fuseBusy then
    let s := (List.range 64).foldl (fun s p => s.reburnWord true p) s
    let s := (List.range 512).foldl (fun s w => s.reburnWord false w) s
    { s with fuse := { s.fuse with reburnDue := false } }
  else s

/-- What mission firmware does of itself as time passes: it re-burns the weak fuse bits of this start-up (R415), rewrites faulted
digest-area slots (R133), writes the golden fields that waited for the end of an invalidate (R255), and records each measurement
value that has changed (R389). -/
def State.firmwareTick (s : State) : State :=
  let s := s.reburnWeak
  let s := (List.finRange 64).foldl State.mendDigests s
  let s := if s.hg.steward.isSome then (List.finRange 64).foldl State.goldenSync s else s
  notedIndices.foldl State.noteChange s

/-- The commands that waited for a wipe or for the engine's enable run on (R443). -/
def State.pkeResume (s : State) (h : Half) : State := if (s.eng h).queue.isEmpty then s else pkeRun h 65 s

/-- One REFCLK cycle passes: the time counter moves on (R547), the Levee measures anew (R401; DESIGN CHOICE, log entry 113), and while
mission firmware runs it does its own work. -/
def State.tick (s : State) : State :=
  let t := s.time + refclkNs
  let s := { s with time := t, lev := { s.lev with temp := Config.temperature t, refclkKhz := Config.refclkKhz t } }
  let s := s.pkeResume .indigo |>.pkeResume .amber
  if s.boot.phase = .running then s.firmwareTick else s

/-- HANDOVER (R354). -/
def execHandover (s : State) : Host.Outcome State Fault Refusal :=
  let t := s.quiet.handOver
  .next (if s.boot.phase ≠ .running ∧ t.boot.phase = .running then t.noteAll else t)

end Sys2Proof.Machine
end

