-- ==== Sys2Proof/Machine/Objects.lean ====
section
/-!
DEFINITION. Writes of dictionary objects (R480-R482, R485, R487): the refusals that each object's own chapter gives, what a write does,
and how the writes that end late come to their end.
-/
namespace Sys2Proof.Machine

/-! ## The value's form (R480) -/

/-- Is the index one of the channel configuration objects (R487). -/
def isConfigIndex (index : Nat) : Bool := decide (0x0300 ≤ index) && decide (index < 0x0340)

/-- Does the object's format admit a length (R480). -/
def ObjRow.lengthOk (r : ObjRow) (index sub n : Nat) : Bool :=
  if r.type.fixed then n == r.type.maxLen
  else decide (n ≤ r.type.maxLen) &&
    (if (index == 0x0901 && sub == 2) || (index == 0x0601 && sub == 1) then n == 832
     else if index == 0x0D00 then n == 2048
     else if isConfigIndex index && sub == 8 then n % 32 == 0
     else true)

/-- Is a number in a range. -/
def within (lo hi n : Nat) : Bool := decide (lo ≤ n) && decide (n ≤ hi)

/-- The range of a channel configuration object (R92, R487). -/
def configRange (sub n : Nat) : Bool :=
  match sub with
  | 2 => decide (n ≤ 2)
  | 3 => decide (n < 64) || n == 0xFF
  | 4 => n == 1 || n == 5 || n == 7
  | 5 => decide (n ≤ 3)
  | 6 => decide (n ≤ 4)
  | 9 => decide (n ≤ 3)
  | _ => true

/-- The range of a number that an object takes, as its table gives it. -/
def objRange (index sub n : Nat) : Bool :=
  if isConfigIndex index then configRange sub n
  else match index with
    | 0x0102 => sub == 4 || decide (n ≤ 0x7F)
    | 0x0401 => sub == 1 || within 1 90 n
    | 0x0402 => decide (n ≤ 2)
    | 0x0403 => decide (n ≤ 3)
    | 0x0404 =>
      (match sub with
      | 1 => within 2 12 n | 2 => within 1 4 n | 3 => within 0 604800 n | 4 => within 10 3600 n | _ => within 0 8760 n)
    | 0x0420 => decide (n ≤ 512)
    | 0x0512 => sub == 2 || decide (n ≤ 2)
    | 0x0520 => if sub = 1 then decide (n ≤ 1) else decide (60 ≤ n)
    | 0x0530 => if sub = 1 then decide (n ≤ 4) else sub != 2 || within 50 10000 n
    | 0x0531 => decide (n ≤ 0x7F)
    | 0x0602 => decide (60 ≤ n)
    | 0x0801 => sub != 3 || decide (n ≤ 16777215)
    | 0x0901 => sub != 1 || decide (n ≤ 1)
    | 0x0902 => decide (0x10 ≤ sub) || within 3000 6000 n
    | 0x0906 => within 100 10000 n
    | 0x0A10 => decide (n ≤ 2)
    | 0x0A21 => n == 2 || n == 3
    | 0x0A23 => decide (10 ≤ n)
    | 0x0A31 => within 10 3600 n
    | 0x0A43 => decide (n ≤ 3600)
    | _ => true

/-- `bool` holds 0 or 1 (R479). -/
def ObjType.holds (t : ObjType) (n : Nat) : Bool := t != .bool || decide (n ≤ 1)

/-! ## The objects' own refusals -/

/-- The sum of the pinning budgets of the enabled channels, `c`'s taken as `n` (R268). -/
def State.pinSum (s : State) (c n : Nat) : Nat :=
  (((List.finRange 64).filter fun k => (s.chan k).desc.enable).map fun k => if k.val = c then n else s.pnat 0x0420 (k.val + 1) 64).sum

/-- A plan has a cycle of predecessors: outputs are left when those whose predecessors have all gone are taken away 64 times. -/
def planResidue (p : Vector PlanEntry 64) : Nat → DWord → DWord
  | 0, left => left
  | n + 1, left =>
    let next := (finBits left).foldl (fun (m : DWord) h =>
      if (p[h]).predMask &&& left = 0 then m &&& ~~~ (BitVec.ofNat 64 (2 ^ h.val)) else m) left
    planResidue p n next

/-- R314's conditions on a plan's bytes. -/
def planOk (v : List Byte) : Bool :=
  let p := planOf v
  let outs := List.finRange 64
  let usedMask : DWord := outs.foldl (fun (m : DWord) h => if (p[h]).used then m ||| BitVec.ofNat 64 (2 ^ h.val) else m) 0
  let used := outs.filter fun h => (p[h]).used
  let chans := used.flatMap fun h => finBits (p[h]).chanMask
  outs.all (fun h => fieldAt v (32 * h.val + 1) 1 == 0)
  && used.all (fun h => (p[h]).predMask &&& ~~~ usedMask == 0 && ! (p[h]).predMask.getLsbD h.val)
  && planResidue p 64 usedMask == 0
  && chans.eraseDups.length == chans.length

/-- A REFUSED_STATE where a condition does not hold. -/
def stateUnless (b : Bool) : List Code := if b then [] else [.refusedState]

/-- R42 and R51 on a value of `chan_state`. -/
def State.chanStateRefusals (s : State) (c : ChanId) (n : Nat) : List Code :=
  let st := (s.chan c).state
  let u := s.target (.chan c)
  (if n = 1 then stateUnless (ModeOp.reprobe.permitted s.dev.mode) else [])
  ++ (if n = 5 then stateUnless (ModeOp.channelUpdate.permitted s.dev.mode && u.state == 0 && u.stream == 0) else [])
  ++ (if n = 5 ∨ n = 7 then stateUnless (st != .absent) else [])

/-- The states in which `hold_output` may change (R487). -/
def ChanState.bindable : ChanState → Bool
  | .absent | .held | .quarantined => true
  | _ => false

/-- What the chapters refuse of a write of a channel's configuration (R42, R92, R93, R106, R487); rules that R93 does not let mission
firmware write are BAD_RANGE (DEDUCED, log entry 146). -/
def State.configRefusals (s : State) (c : ChanId) (sub : Nat) (v : List Byte) : List Code :=
  match sub with
  | 3 => stateUnless (s.chan c).state.bindable
  | 4 => s.chanStateRefusals c (leNat v)
  | 8 => (if (ruleEntries v).all ruleBytesOk && rulesApart (sortRules (ruleEntries v)) (descOf (s.descBytes c)).mirrorExtent then []
      else [.badRange])
    ++ (if (s.freePlace (32 * (ruleEntries v).length) 32).isSome then [] else [.full])
  | 7 => if v.isEmpty ∨ (s.freePlace 4096 4096).isSome then [] else [.full]
  | _ => []

/-- The bytes of the values of persistent extension objects with one of them replaced (R490). -/
def State.extBytes (s : State) (index sub n : Nat) : Nat :=
  ((s.rill.extObjs.filter fun x => x.persist == .p).map fun x => if x.index = index ∧ x.sub = sub then n else x.value.length).sum

/-- What an object's own chapter refuses of a value. -/
def State.ownRefusals (s : State) (index sub : Nat) (v : List Byte) : List Code :=
  match objChannel index with
  | some c => s.configRefusals c sub v
  | none =>
    match index with
    | 0x0404 => if sub ≤ 3 then stateUnless s.pak.isSeg else []
    | 0x0420 => if 2048 < s.pinSum (sub - 1) (leNat v) ∧ s.pnat 0x0420 sub 64 < leNat v then [.badRange] else []
    | 0x0D00 => (if planOk v then [] else [.badRange]) ++ stateUnless (ModeOp.planEdit.permitted s.dev.mode)
    | 0x0D06 => stateUnless (ModeOp.hold.permitted s.dev.mode)
    | _ => if 0x2000 ≤ index ∧ 32768 < s.extBytes index sub v.length then [.full] else []

/-- The refusals of a value by its form and content (R479, R480). -/
def State.valueRefusals (s : State) (r : ObjRow) (index sub : Nat) (v : List Byte) : List Code :=
  if ! r.lengthOk index sub v.length then [.badType]
  else (if r.type.fixed && ! (r.type.holds (leNat v) && objRange index sub (leNat v)) then [.badRange] else [])
    ++ s.ownRefusals index sub v

/-- The operation of R51's table that a write is. -/
def writeOp (index sub : Nat) (v : List Byte) : ModeOp :=
  if isConfigIndex index ∧ sub = 4 then (if leNat v = 5 then .channelUpdate else if leNat v = 1 then .reprobe else .write)
  else match index with
    | 0x0D00 => .planEdit
    | 0x0D06 => .hold
    | _ => .write

/-! ## What a write does -/

/-- The trust list changed: every session of a link re-handshakes (R284). -/
def State.rekeyLinks (s : State) : State :=
  ((List.finRange 4).foldl (fun (s : State) l =>
    if (s.link l).session then
      ((s.endLinkSession l).updLink l fun k => { k with step := 4, state := .training, tagTimes := [] }).startHandshake l
    else s)
    s).syncHealth

/-- `pakor_enable` (R303): false keeps both port domains off. -/
def State.pakorEnable (s : State) (on : Bool) : State := (s.domRequest 26 on false).domRequest 27 on false

/-- `chan_state` written (R41, R42, R206): 1 starts a probe whatever the descriptor and the domains, but for a bank whose supply is sensed
in no window, whose channels stay ABSENT (R61). -/
def State.writeChanState (s : State) (c : ChanId) (n : Nat) : State :=
  let held := (s.chan c).state == .held
  if n = 7 then s.setChan c .quarantined
  else if n = 5 then
    (s.setChan c .updating).updTarget (.chan c) fun u =>
      { u with state := 1, status := .ok, route := some .upload, container := [], expect := 0, idleAt := some (s.time + s.streamIdle c) }
  else if held then
    let s := (s.clearVerdicts c).buildPins c
    let s := if (s.chan c).pinNext.isEmpty then s else s.edit c .pins
    s.startProbing c
  else if s.bankOutside c.port then s else s.startProbing c

/-- A new release plan is stored and staged (R314, R315). -/
def State.writePlan (s : State) (v : List Byte) : State :=
  let old := match s.hg.staging with
    | some p => p.2
    | none => s.hg.planActive
  let s := s.storePut 0x0D00 1 v
  { s with hg := { s.hg with planStage := planOf v, planStageGen := s.hg.planStageGen + 1, staging := some (s.time, old) } }

/-- The value of an extension object. -/
def State.writeExt (s : State) (index sub : Nat) (v : List Byte) : State :=
  let xs := s.rill.extObjs.map fun (x : ExtObj) => if x.index = index ∧ x.sub = sub then { x with value := v } else x
  let p := s.rill.extObjs.any fun x => x.index == index && x.sub == sub && x.persist == .p
  let s := { s with rill := { s.rill with extObjs := xs } }
  if p then s.storePut index sub v else s

/-- What follows from a stored value at once (R284, R303, R312, R334). -/
def State.storedEffect (s : State) (index sub : Nat) (v : List Byte) : State :=
  if index / 0x100 = 0x05 then s.boardMeasure
  else match index, sub with
    | 0x0D05, _ => s.boardSense
    | 0x0901, 2 => s.rekeyLinks
    | 0x0901, 3 => s.pakorEnable (leNat v != 0)
    | _, _ => s

/-- The steward's hold of an output (R317). -/
def State.writeHold (s : State) (h : OutId) (on : Bool) : State :=
  match s.hg.steward with
  | some half => s.holdWrite half h on
  | none => s

/-- A request that a value of true makes: done, it keeps its value until V objects reset (R482). -/
def State.lockObj (s : State) (index sub n : Nat) (on : Bool) : State × Code :=
  if ! on then (s, .ok)
  else
    let r := s.sealRegion n
    (if r.2 = .ok then r.1.vput index sub [1] else r.1, r.2)

/-- The act of an accepted write and its code. -/
def State.writeAct (s : State) (e index sub : Nat) (r : ObjRow) (v : List Byte) : State × Code :=
  match objChannel index with
  | some c => if sub = 4 then (s.writeChanState c (leNat v), .ok) else (s.editConfig c sub v, .ok)
  | none =>
    if index = 0x0D00 then (s.writePlan v, .ok)
    else if 0x2000 ≤ index then (s.writeExt index sub v, .ok)
    else if r.persist = .p then ((s.storePut index sub v).storedEffect index sub v, .ok)
    else match index, sub with
      | 0x0701, _ => ({ s with rill := { s.rill with cursors := setKey s.rill.cursors e (leNat v) } }, .ok)
      | 0x0801, _ | 0x0A22, _ => (s.vput index sub v, .ok)
      | 0x0C04, _ => s.lockObj index sub 9 (leNat v != 0)
      | 0x0C05, 2 => s.lockObj index sub 7 (leNat v != 0)
      | 0x0D06, _ => (s.writeHold ⟨(sub - 1) % 64, Nat.mod_lt _ (by decide)⟩ (leNat v != 0), .ok)
      | _, _ => (s, .ok)

/-- A write of a word of owner data or of W84 (R423): the burn, or its refusal in its place under R11. -/
def State.fuseDataObj (s : State) (who : Requester) (acc : Access) (index sub w : Nat) (v : Word) : State :=
  s.asked who fun s =>
    let own := (s.programMainCode w v).toList
    match Code.first (s.writeRefusals who acc false index sub none ++ own) with
    | some c => (if own.contains c then s.fuseRefuse c else s).refuse .write c
    | none =>
      let r := s.fuseProgram false false w v s.freeBurn
      r.1.drawn.answer r.2

/-- A write of an object that its row alone describes. -/
def State.plainWrite (s : State) (who : Requester) (index sub : Nat) (r : ObjRow) (v : List Byte) : State :=
  s.objWrite who (writeOp index sub v) r.access (r.persist == .p) index sub (objChannel index) (s.valueRefusals r index sub v)
    fun s => s.writeAct who.key index sub r v

/-- A write of an object of which a requesting command has a meaning of its own, its value's form being right; none for the others. -/
def State.specialWrite (s : State) (who : Requester) (index sub : Nat) (r : ObjRow) (v : List Byte) : Option State :=
  let n := leNat v
  let b := s.freeBurn
  match index with
  | 0x0201 => if sub = 2 then some (s.drawn.lifecycleObj who n b) else none
  | 0x0203 => if n = 1 then some (s.asked who fun s => s.dormantRequest who) else none
  | 0x0534 => if n = 1 then some (s.psuClearObj who (sub - 1)) else none
  | 0x0A11 => some (s.drawn.svnAdvanceObj who (BitVec.ofNat 8 n) b)
  | 0x0A21 =>
    (match finOf 64 (sub - 1) with
    | some c => some (if n = 2 then s.streamCommitObj who c else s.streamAbandonObj who c)
    | none => some (s.objWrite who .write .rwa false index sub none [.refusedState] fun s => (s, .ok)))
  | 0x0A42 => (Target.ofCode (sub - 1)).map fun t => s.uploadSegment who t 0 v.length true v
  | 0x0B02 => some (s.drawn.revokeObj who n b)
  | 0x0C01 => (finOf 4 (sub - 1)).map fun i => s.drawn.ownerDigestObj who i (digestOfBytes v) b
  | 0x0C02 => if n = 1 then (finOf 4 (sub - 1)).map fun i => s.drawn.ownerLockObj who i b else none
  | 0x0C03 => some (s.fuseDataObj who r.access index sub (159 + sub) (BitVec.ofNat 32 n))
  | 0x0C05 => if sub = 1 then some (s.fuseDataObj who r.access index sub 84 (BitVec.ofNat 32 n)) else none
  | _ => none

/-- A write of a mailbox's object (R526): `mbox_in`, `mbox_out_ack`, `mbox_ring`, `mbox_out_bits`. -/
def State.mailboxWrite (s : State) (who : Requester) (m : Fin 16) (index : Nat) (r : ObjRow) (v : List Byte) : State :=
  let bad := if ! r.lengthOk index (m.val + 1) v.length then [Code.badType]
    else if r.type = .bool ∧ 1 < leNat v then [.badRange] else []
  if index = 0x0110 then s.boxRillPost who m v false
  else if ! bad.isEmpty then s.boxRill who m index bad id
  else match index with
    | 0x0112 => s.boxRill who m index [] fun s => if leNat v = 1 then s.boxAck m else s
    | 0x0113 => s.boxRill who m index [] fun s => s.boxRing m (BitVec.ofNat 32 (leNat v))
    | _ => s.boxRill who m index [] fun s => s.boxOutClear m (BitVec.ofNat 32 (leNat v))

/-- A write of the object of an index and a sub-index: what comes of it, its code in `lastCode` (R478-R482). -/
def State.writeObject (s : State) (who : Requester) (index sub : Nat) (v : List Byte) : State :=
  match s.row index sub, objBox index sub with
  | none, _ => s.asked who fun s => s.refuse .write ((s.addressCode index sub).headD .badIndex)
  | some r, some m =>
    if index = 0x0111 then s.plainWrite who index sub r v else s.mailboxWrite who m index r v
  | some r, none =>
    if r.access = .ro ∨ r.access = .const then s.plainWrite who index sub r v
    else
      let form := r.lengthOk index sub v.length && (! r.type.fixed || (r.type.holds (leNat v) && objRange index sub (leNat v)))
      match if form then s.specialWrite who index sub r v else none with
      | some t => t
      | none => s.plainWrite who index sub r v

/-! ## Writes that end late (R495) -/

/-- Is the object extension firmware's. -/
def extIndex (index : Nat) : Bool := decide (0x2000 ≤ index)

/-- Is the write an edit of a descriptor, which ends with its invalidate (R487). -/
def isEdit (index sub : Nat) : Bool := isConfigIndex index && sub != 4

/-- Do writes of the object end late where they are accepted: an edit, a plan, a verification that they start, a call of extension
code (R206, R212, R315, R487, R490). -/
def endsLate (index sub : Nat) (v : List Byte) : Bool :=
  isEdit index sub || index == 0x0D00 || index == 0x0A42 || (index == 0x0A21 && leNat v == 2) || extIndex index

/-- A write must wait for an edit of its channel that is under way, or that waits before it. -/
def State.mustWait (s : State) (index sub : Nat) : Bool :=
  match objChannel index with
  | some c => isEdit index sub && (s.editBusy c || s.rill.outstanding.any fun o =>
      o.reply.isNone && ! o.forwarded && ! o.started && o.frame.index == index && isEdit o.frame.index o.frame.sub)
  | none => false

/-- The refusals of an edit that must wait are judged when it is asked for (R495). -/
def State.checkWrite (s : State) (who : Requester) (index sub : Nat) (v : List Byte) : State :=
  match s.row index sub with
  | some r => s.objWrite who (writeOp index sub v) r.access (r.persist == .p) index sub (objChannel index)
      (s.valueRefusals r index sub v) fun s => (s, .ok)
  | none => s

/-- An edit has come to its end: its code, and the state with the value stored where its invalidate was put in force; none while the
invalidate is pending, or the store may not be programmed (R105, R485, R487). -/
def State.editEnd (s : State) (c : ChanId) (sub : Nat) (v : List Byte) : Option (State × Code) :=
  match (s.target (.chan c)).editCode with
  | none => none
  | some code =>
    if s.dev.freeze then none
    else
      let t := s.updTarget (.chan c) fun u => { u with editCode := none }
      some (if code = .ok then t.storePut (0x0300 + c.val) sub v else t, code)

/-- A plan has come to its end (R315). -/
def State.planEnd (s : State) : Option Code :=
  if s.hg.staging.isSome then none
  else if s.hg.planActiveGen = s.hg.planStageGen then some .ok else some .internal

/-- A verification that a write started has come to its end (R206, R212, R213). -/
def State.updateEnd (s : State) (sub : Nat) : Option Code :=
  let u := s.target ((Target.ofCode (sub - 1)).getD .mission)
  if u.state = 0 then some u.status else if u.state ≤ 2 then none else some .ok

/-! ## The writes that commands name -/

/-- A write of an object as one frame of it (log entry 40). -/
def writeFrame (index sub : Nat) (v : List Byte) : RillReq :=
  { version := 1, op := 2, tag := 0, device := 0xFF, index := index, sub := sub, status := 0, flags := 1, rsv := 0, offset := 0,
    length := v.length, total := v.length, data := v }

/-- The final reply to a write: that to the last segment of a block write carries flag bit 0 (R491, R499). -/
def rillDone (f : RillReq) (c : Code) : RillReq := rillReply f c (if f.op % 0x80 = 4 ∧ c = .ok then 1 else 0) 0 []

/-- A write whose value is at hand: its reply now, or its place among the requests that end late (R495, R496). -/
def State.writeReply (s : State) (who : Requester) (f : RillReq) : State :=
  let late := endsLate f.index f.sub f.data
  let wait := s.mustWait f.index f.sub
  let s := if wait then s.checkWrite who f.index f.sub f.data else s.writeObject who f.index f.sub f.data
  if late ∧ s.rill.lastCode = .ok then s.enqueue who.key ⟨who.key, f, none, extIndex f.index, false, ! wait⟩
  else s.replyTo who f (rillDone f s.rill.lastCode)

/-- A write that a command names. -/
def State.namedWrite (s : State) (who : Requester) (index sub : Nat) (v : List Byte) : State :=
  s.asked who fun s => s.writeReply who (writeFrame index sub v)

/-- CHAN_STATE_WRITE (R42). -/
def execChanStateWrite (who : Requester) (c : ChanId) (value : Byte) (s : State) : Host.Outcome State Fault Refusal :=
  .next (s.quiet.namedWrite who (0x0300 + c.val) 4 [value])

/-- CHANNEL_CONFIG_WRITE (R487). -/
def execChannelConfigWrite (who : Requester) (c : ChanId) (sub : Byte) (value : List Byte) (s : State) :
    Host.Outcome State Fault Refusal :=
  .next (s.quiet.namedWrite who (0x0300 + c.val) sub.toNat value)

/-- RELEASE_PLAN_WRITE (R314). -/
def execReleasePlanWrite (who : Requester) (value : List Byte) (s : State) : Host.Outcome State Fault Refusal :=
  .next (s.quiet.namedWrite who 0x0D00 1 value)

/-- HOLD_REQUEST_WRITE (R317). -/
def execHoldRequestWrite (who : Requester) (h : OutId) (value : Byte) (s : State) : Host.Outcome State Fault Refusal :=
  .next (s.quiet.namedWrite who 0x0D06 (h.val + 1) [value])

/-- TRUST_LIST_WRITE (R284). -/
def execTrustListWrite (who : Requester) (value : List Byte) (s : State) : Host.Outcome State Fault Refusal :=
  .next (s.quiet.namedWrite who 0x0901 2 value)

end Sys2Proof.Machine
end

