-- ==== Sys2Proof/Machine/Rill.lean ====
section
/-!
DEFINITION. Rill (R491-R504): the checks of a frame, the operations, block transfers, subscriptions, late replies, and the forwarding of
requests through the cascade (R300, R301).
-/
namespace Sys2Proof.Machine

/-! ## Frames -/

/-- The number that `n` bytes from `o` on of a frame spell. -/
def frameField (bs : List Byte) (o n : Nat) : Nat := leNat ((bs.drop o).take n)

/-- A frame read from its bytes (R491); none where they hold no header. -/
def rillOf (bs : List Byte) : Option RillReq :=
  if bs.length < 24 then none
  else some
    { version := frameField bs 0 1, op := frameField bs 1 1, tag := bs.getD 2 0, device := bs.getD 3 0, index := frameField bs 4 2,
      sub := frameField bs 6 1, status := frameField bs 7 1, flags := bs.getD 8 0, rsv := frameField bs 9 3,
      offset := frameField bs 12 4, length := frameField bs 16 4, total := frameField bs 20 4, data := bs.drop 24 }

/-- Is the op one that a requester may send: 1 to 6; 7 is sent by the device only (R492). -/
def opListed (op : Nat) : Bool := within 1 6 op

/-- Do the frame's length field and its data agree (R492): a READ_BLOCK request carries none. -/
def RillReq.lengthOk (f : RillReq) : Bool :=
  decide (f.length ≤ 1024) && (if f.op = 3 then f.data.isEmpty else f.length == f.data.length)

/-- The conditions of R492 on a frame. -/
def RillReq.formOk (f : RillReq) : Bool :=
  f.version == 1 && opListed f.op && f.lengthOk && f.rsv == 0 && f.flags.toNat / 8 == 0
  && ! (f.op == 6 && f.data.getD 1 0 != 0)

/-- A frame that came from anywhere but Pakor loses flag bit 2 (R492). -/
def RillReq.cleared (f : RillReq) (e : Nat) : RillReq :=
  if endpointTransport e = 3 then f else { f with flags := f.flags &&& 0xFB }

/-- The bytes of a frame without its length or data: what the device's own numbers show. -/
def State.ownDevice (s : State) (d : Byte) : Bool := d == 0xFF || d.toNat == s.devNumber

/-! ## Refusals -/

/-- The refusals of a write before its value (R478, R481, R526). -/
def State.accessCodes (s : State) (who : Requester) (index sub : Nat) : List Code :=
  s.addressCode index sub
  ++ (match s.row index sub with
    | some r => s.writeRefusals who r.access (r.persist == .p) index sub (objChannel index)
    | none => [])
  ++ (match objBox index sub with
    | some m => s.boxRefusals m (s.authorised who)
    | none => [])

/-- The refusals of a write with its value. -/
def State.writeCodes (s : State) (who : Requester) (index sub : Nat) (v : List Byte) : List Code :=
  s.accessCodes who index sub ++ (match s.row index sub with
    | some r => s.valueRefusals r index sub v
    | none => [])

/-- A refused read: OP_REFUSED, the mailbox's event, the answer. -/
def State.refuseRead (s : State) (who : Requester) (f : RillReq) (c : Code) : State :=
  let s := s.refuse (readOp f.index) c
  let s := match objBox f.index f.sub with
    | some m => s.boxRefused m c
    | none => s
  s.replyTo who f (rillCode f c)

/-- A refused write. -/
def State.refuseWrite (s : State) (who : Requester) (f : RillReq) (c : Code) : State :=
  let s := s.refuse (writeOp f.index f.sub f.data) c
  let s := match objBox f.index f.sub with
    | some m => s.boxRefused m c
    | none => s
  s.replyTo who f (rillCode f c)

/-- Is a block write open on an object from another requester (R499). -/
def State.openElsewhere (s : State) (k index sub : Nat) : Bool :=
  s.rill.writes.any fun w => w.index == index && w.sub == sub && w.endpoint != k

/-- The transfers that a requester holds open (R499). -/
def State.transfersOf (s : State) (k : Nat) : Nat :=
  (s.rill.writes.filter fun w => w.endpoint == k).length + (s.rill.snaps.filter fun w => w.endpoint == k).length

/-- BUSY where a condition holds. -/
def busyIf (b : Bool) : List Code := if b then [.busy] else []

/-- The four requests of an endpoint are outstanding (R495). -/
def State.endpointFull (s : State) (who : Requester) : Bool := decide (4 ≤ (s.waitingOf who.endpoint).length)

/-! ## Single operations -/

/-- The value of an object to a requester. -/
def State.valueFor (s : State) (who : Requester) (index sub : Nat) : List Byte :=
  match s.row index sub with
  | some r => s.objValue who.key index sub r
  | none => []

/-- The largest value of an object. -/
def State.maxLenOf (s : State) (index sub : Nat) : Nat :=
  match s.row index sub with
  | some r => r.type.maxLen
  | none => 0

/-- A length of more than 65,536 bytes is not read back (R493). -/
def State.tooLong (s : State) (index sub : Nat) : Bool := decide (65536 < s.maxLenOf index sub)

/-- The reply to a READ with a value (R492, R493). -/
def State.readReply (s : State) (f : RillReq) (v : List Byte) : RillReq :=
  if s.tooLong f.index f.sub then rillReply f .ok 0 v.length []
  else rillReply f .ok (if v.length ≤ 1024 then 1 else 0) v.length (v.take 1024)

/-- READ (R491, R493); an object of extension firmware is read by a call of its code (R490). -/
def State.rillRead (s : State) (who : Requester) (f : RillReq) : State :=
  match Code.first (s.readRefusals who f.index f.sub ++ busyIf (s.endpointFull who)) with
  | some c => s.refuseRead who f c
  | none =>
    let s := s.answer .ok
    if extIndex f.index then s.enqueue who.key ⟨who.key, f, none, true, false, true⟩
    else
      let r := s.readReply f (s.valueFor who f.index f.sub)
      (s.afterRead who.key f.index 1024).replyTo who f r

/-- WRITE (R480, R499). -/
def State.rillWrite (s : State) (who : Requester) (f : RillReq) : State :=
  let busy := s.openElsewhere who.key f.index f.sub || s.endpointFull who
  if busy then
    match Code.first (s.writeCodes who f.index f.sub f.data ++ [.busy]) with
    | some c => s.refuseWrite who f c
    | none => s
  else s.writeReply who f

/-- An entry of a LIST reply (R494). -/
def listEntry (a : Nat × Nat × ObjRow) : List Byte :=
  leBytes 2 a.1 ++ leBytes 1 a.2.1 ++ leBytes 1 a.2.2.type.code ++ leBytes 1 a.2.2.access.num ++ leBytes 1 a.2.2.persist.num
    ++ leBytes 2 0 ++ leBytes 4 a.2.2.type.maxLen

/-- Sub-index 0x00 of an index among the rows. -/
def subZeroRow (r : ObjRow) : ObjRow := ob r.lo r.hi 0 0 .u8 .const .f []

/-- The objects from a start address onward that the mode permits to read, in ascending order (R494). -/
def State.listFrom (s : State) (index sub : Nat) : List (Nat × Nat × ObjRow) :=
  (addresses (s.rows ++ s.rows.map subZeroRow)).filter fun a =>
    s.readMode a.1 && (decide (index < a.1) || (a.1 == index && decide (sub ≤ a.2.1)))

/-- LIST (R494, R503). -/
def State.rillList (s : State) (who : Requester) (f : RillReq) : State :=
  let all := s.listFrom f.index f.sub
  if all.isEmpty ∧ ! s.readMode f.index then s.refuseRead who f .refusedState
  else if s.endpointFull who then s.refuseRead who f .busy
  else
    let data := (all.take 85).flatMap listEntry
    (s.answer .ok).replyTo who f (rillReply f .ok (if all.length ≤ 85 then 1 else 0) data.length data)

/-! ## Block transfers (R497-R499) -/

/-- An idle transfer's limit: 5 s (R498, R499). -/
def transferIdle : Nat := 5 * secNs

/-- A block write is abandoned (R498): its staged segments go as an abandoned update's or stream's do (R218). -/
def State.abandonWrite (s : State) (w : BlockWrite) : State :=
  let s := { s with rill := { s.rill with writes := s.rill.writes.erase w } }
  if w.index = 0x0A42 then
    (match Target.ofCode (w.sub - 1) with
    | some .mission =>
      if s.dev.mode = .recover then s.updTarget .mission fun u => { u.freed with state := 0, status := .frameAbort }
      else s.abandon .mission .frameAbort
    | some t => s.abandon t .frameAbort
    | none => s)
  else if w.index = 0x0A22 then s.vput w.index w.sub []
  else s

/-- A refused segment: FRAME_ABORT. -/
def State.abortReply (s : State) (who : Requester) (f : RillReq) : State := s.replyCode who f .frameAbort

/-- Is a segment taken into the staging region as it arrives (R497). -/
def staged (index : Nat) : Bool := index == 0x0A42 || index == 0x0A22

/-- A segment goes to its staging region: an upload's, or the manifest's. -/
def State.stageSegment (s : State) (who : Requester) (f : RillReq) (last : Bool) (all : List Byte) : State :=
  match f.index, Target.ofCode (f.sub - 1) with
  | 0x0A42, some t => s.uploadSegment who t f.offset f.total last f.data
  | _, _ => s.objWrite who .write .rwa false f.index f.sub none [] fun s => (s.vput f.index f.sub all, .ok)

/-- A segment that continues an open block write, or opens it. -/
def State.takeSegment (s : State) (who : Requester) (f : RillReq) (w : BlockWrite) : State :=
  let last := f.flags.getLsbD 0
  let all := w.data ++ f.data
  let n := all.length
  let rest := s.rill.writes.erase w
  let w2 : BlockWrite := { w with data := all, lastAt := s.time }
  if w.total < n ∨ (last ∧ n ≠ w.total) then (s.abandonWrite w).abortReply who f
  else if staged f.index then
    let s := s.stageSegment who f last all
    let c := s.rill.lastCode
    if c ≠ .ok ∨ last then
      let s := { s with rill := { s.rill with writes := rest } }
      if c = .ok ∧ f.index = 0x0A42 then s.enqueue who.key ⟨who.key, { f with data := [] }, none, false, false, true⟩
      else s.replyTo who f (rillDone f c)
    else ({ s with rill := { s.rill with writes := rest ++ [w2] } }).replyTo who f (rillCode f c)
  else if last then
    ({ s with rill := { s.rill with writes := rest } }).writeReply who { f with data := all }
  else (({ s with rill := { s.rill with writes := rest ++ [w2] } }).answer .ok).replyTo who f (rillCode f .ok)

/-- WRITE_BLOCK (R497-R499). -/
def State.writeSegment (s : State) (who : Requester) (f : RillReq) : State :=
  let mine := s.rill.writes.find? fun w => w.index == f.index && w.sub == f.sub && w.endpoint == who.key
  if f.offset = 0 then
    match mine with
    | some w => (s.abandonWrite w).abortReply who f
    | none =>
      match Code.first (s.accessCodes who f.index f.sub ++ (if s.maxLenOf f.index f.sub < f.total then [.badType] else [])
          ++ busyIf (s.openElsewhere who.key f.index f.sub || decide (4 ≤ s.transfersOf who.key) || s.endpointFull who)) with
      | some c => s.refuseWrite who f c
      | none => s.takeSegment who f ⟨who.key, f.index, f.sub, f.total, [], s.time⟩
  else match mine with
    | none => s.abortReply who f
    | some w =>
      if w.total ≠ f.total ∨ w.data.length ≠ f.offset ∨ w.lastAt + transferIdle < s.time then (s.abandonWrite w).abortReply who f
      else if s.endpointFull who then s.refuseWrite who f .busy
      else s.takeSegment who f w

/-- The reply with a segment of a value (R492). -/
def segmentReply (f : RillReq) (v : List Byte) : RillReq :=
  let seg := (v.drop f.offset).take f.length
  rillReply f .ok (if v.length ≤ f.offset + seg.length then 1 else 0) v.length seg

/-- A snapshot is read (R497, R499): kept until its last segment has gone. -/
def State.readSnapshot (s : State) (who : Requester) (f : RillReq) (v : List Byte) : State :=
  let r := segmentReply f v
  let others := s.rill.snaps.filter fun x => ! (x.endpoint == who.key && x.tag == f.tag)
  let snaps := if r.flags.getLsbD 0 then others else others ++ [⟨who.key, f.tag, f.index, f.sub, v, s.time⟩]
  (({ s with rill := { s.rill with snaps := snaps } }).answer .ok).replyTo who f r

/-- READ_BLOCK (R497, R499). -/
def State.readSegment (s : State) (who : Requester) (f : RillReq) : State :=
  let snap := s.rill.snaps.find? fun x => x.endpoint == who.key && x.tag == f.tag && x.index == f.index && x.sub == f.sub
    && decide (s.time ≤ x.lastAt + transferIdle)
  match if f.offset = 0 then none else snap with
  | some x => if s.endpointFull who then s.refuseRead who f .busy else s.readSnapshot who f x.data
  | none =>
    match Code.first (s.readRefusals who f.index f.sub ++ (if s.tooLong f.index f.sub then [.deniedAccess] else [])
        ++ busyIf (s.endpointFull who || (f.offset == 0 && snap.isNone && decide (4 ≤ s.transfersOf who.key)))) with
    | some c => s.refuseRead who f c
    | none =>
      let v := s.valueFor who f.index f.sub
      if f.offset = 0 then (s.afterRead who.key f.index 4096).readSnapshot who f v
      else (s.answer .ok).replyTo who f (segmentReply f v)

/-! ## Subscriptions (R500) -/

/-- May an object be subscribed. -/
def ObjRow.subscribable (r : ObjRow) : Bool :=
  (r.access == .ro || r.access == .rw) && r.persist == .v && decide (r.type.maxLen ≤ 64)

/-- The refusals of a SUBSCRIBE, which counts as a read (R500, R503, R527). -/
def State.subscribeCodes (s : State) (who : Requester) (f : RillReq) : List Code :=
  s.readRefusals who f.index f.sub
  ++ (if who.endpoint = spiEndpoint then [.deniedAccess] else [])
  ++ (match s.row f.index f.sub with
    | some r => if r.subscribable then [] else [.deniedAccess]
    | none => [])
  ++ (if f.data.length ≠ 4 then [.badType] else if 1 < (f.data.getD 0 0).toNat then [.badRange] else [])
  ++ busyIf (s.endpointFull who)

/-- A requester's subscriptions. -/
def State.subsOf (s : State) (k : Nat) : List Subscription := s.rill.subs.filter fun x => x.endpoint == k

/-- SUBSCRIBE (R500): mode 1 adds, mode 0 removes. -/
def State.rillSubscribe (s : State) (who : Requester) (f : RillReq) : State :=
  let k := who.key
  let same (x : Subscription) : Bool := x.endpoint == k && x.index == f.index && x.sub == f.sub
  let others := s.rill.subs.filter fun x => ! same x
  let add := f.data.getD 0 0 == 1
  let full := add && decide (32 ≤ ((s.subsOf k).filter fun x => ! same x).length)
  match Code.first (s.subscribeCodes who f ++ if full then [.full] else []) with
  | some c => s.refuseRead who f c
  | none =>
    let new : List Subscription :=
      if add then [⟨k, f.index, f.sub, frameField f.data 2 2, none, s.valueFor who f.index f.sub⟩] else []
    (({ s with rill := { s.rill with subs := others ++ new } }).answer .ok).replyTo who f (rillCode f .ok)

/-- A NOTIFY frame (R491, R500). -/
def notifyFrame (tag device : Byte) (index sub : Nat) (v : List Byte) : RillReq :=
  { version := 1, op := 7, tag := tag, device := device, index := index, sub := sub, status := 0, flags := 1, rsv := 0, offset := 0,
    length := v.length, total := v.length, data := v }

/-- The earliest instant of a subscription's next NOTIFY (R500): its interval after the previous one. -/
def Subscription.dueAt (x : Subscription) : Nat := (x.sentAt.map fun n => n + x.minMs * msNs).getD 0

/-- The NOTIFY of a subscription whose value has changed, when its interval is over and no reply to the endpoint is outstanding; one
that finds SECURE_FRAME's messages full is dropped and counted (R500, R524). -/
def State.notifyOne (s : State) (x : Subscription) : State :=
  let e := endpointOf x.endpoint
  let v := s.valueFor ⟨e, decide (0x10000 ≤ x.endpoint)⟩ x.index x.sub
  if v = x.last ∨ ! (s.waitingOf e).isEmpty ∨ ! s.answers ⟨e, false⟩ then s
  else
    let s : State := s.advanceTo x.dueAt
    let subs := s.rill.subs.map fun (y : Subscription) => if y = x then { y with last := v, sentAt := some s.time } else y
    let frame := notifyFrame s.rill.notifyTag (BitVec.ofNat 8 s.devNumber) x.index x.sub v
    let s : State := { s with rill := { s.rill with subs := subs, notifyTag := s.rill.notifyTag + 1 } }
    if e = secureEndpoint ∧ 8 ≤ s.spi.waiting.length then
      { s with spi := { s.spi with notifyDropped := satInc 32 s.spi.notifyDropped } }
    else s.emit e frame

/-- NOTIFY (R500). -/
def execNotify (endpoint index sub : Nat) (s : State) : Host.Outcome State Fault Refusal :=
  let s := s.quiet
  .next ((s.rill.subs.filter fun x => endpointOf x.endpoint == endpoint && x.index == index && x.sub == sub).foldl State.notifyOne s)

/-! ## Forwarding (R300, R301) -/

/-- Does this device see the target as a member of any segment (R301). -/
def State.seesMember (s : State) (d : Nat) : Bool :=
  match finOf 32 d with
  | some i => (s.pak.seen[i]).present
  | none => false

/-- The device that a forwarded request goes to next: the cascade master, or from it the target; none where it cannot (R300, R301). -/
def State.forwardTo (s : State) (d : Nat) : Option Nat :=
  if s.pak.casMaster = 0xFF then none
  else if s.pak.casMaster = s.devNumber then (if s.seesMember d then some d else none)
  else some s.pak.casMaster

/-- `forward_timeout_ms` (R301). -/
def State.forwardTimeout (s : State) : Nat := s.pnat 0x0906 1 2000 * msNs

/-- A request for another device (R300, R301). -/
def State.rillForward (s : State) (who : Requester) (f : RillReq) : State :=
  let d := f.device.toNat
  let codes := (if f.op = 6 then [Code.deniedAccess] else [])
    ++ (if (s.forwardTo d).isNone then [.frameAbort] else [])
    ++ busyIf (decide (8 ≤ s.pak.forwards.length) || s.endpointFull who)
  match Code.first codes, s.forwardTo d with
  | none, some next =>
    let auth : Byte := if s.authorised who then 4 else 0
    let sent : RillReq := { f with flags := (f.flags &&& 0xFB) ||| auth }
    let s := (s.send 0x30 next (rillBytes sent)).answer .ok
    let fw : Forwarded := ⟨who.key, f, s.time + s.forwardTimeout⟩
    let s := { s with pak := { s.pak with forwards := s.pak.forwards ++ [fw] } }
    s.enqueue who.key ⟨who.key, f, none, false, true, true⟩
  | some c, _ => s.replyCode who f c
  | none, none => s

/-- FORWARD_TIMEOUT (R301). -/
def execForwardTimeout (endpoint tag : Nat) (s : State) : Host.Outcome State Fault Refusal :=
  let s := s.quiet
  .next (match s.pak.forwards.find? fun x => endpointOf x.endpoint == endpoint && x.frame.tag.toNat == tag with
    | some fw => ((s.advanceTo fw.deadline).settleForward fw fun f => rillCode f .frameAbort).raiseLog 1114 [(1, fw.frame.device.toNat), (1, tag)]
    | none => s)

/-! ## A request -/

/-- A request to this device by its op (R492). -/
def State.rillLocal (s : State) (who : Requester) (f : RillReq) : State :=
  match f.op with
  | 1 => s.rillRead who f
  | 2 => s.rillWrite who f
  | 3 => s.readSegment who f
  | 4 => s.writeSegment who f
  | 5 => s.rillList who f
  | _ => s.rillSubscribe who f

/-- Does a request arrive in a session that carries nothing else until its co-signature block verifies (R388). -/
def State.cosigWaits (s : State) (who : Requester) : Bool :=
  let xs := s.spdm.sessions.filter fun x => x.endpoint == who.endpoint
  who.authorised && endpointTransport who.endpoint != 3 && ! xs.isEmpty
  && xs.all fun x => x.mutualAuth && x.finished && ! x.cosigDone

/-- A request as a transport delivers it (R492, R495, R300); dropped in a session that R388 holds closed. -/
def State.rillRequest (s : State) (who : Requester) (f : RillReq) : State :=
  if s.cosigWaits who then s else
  s.asked who fun s =>
    let f := f.cleared who.endpoint
    if ! f.formOk then s.replyCode who f .frameAbort
    else if s.ownDevice f.device then s.rillLocal who f
    else s.rillForward who f

/-- A request that a command names by its op. -/
def State.rillOp (s : State) (who : Requester) (op : Nat) (f : RillReq) : State := s.quiet.rillRequest who { f with op := op }

/-- READ (R491). -/
def execRillRead (who : Requester) (f : RillReq) (s : State) : Host.Outcome State Fault Refusal := .next (s.rillOp who 1 f)
/-- WRITE (R480). -/
def execRillWrite (who : Requester) (f : RillReq) (s : State) : Host.Outcome State Fault Refusal := .next (s.rillOp who 2 f)
/-- READ_BLOCK (R497). -/
def execReadBlock (who : Requester) (f : RillReq) (s : State) : Host.Outcome State Fault Refusal := .next (s.rillOp who 3 f)
/-- WRITE_BLOCK (R497). -/
def execWriteBlock (who : Requester) (f : RillReq) (s : State) : Host.Outcome State Fault Refusal := .next (s.rillOp who 4 f)
/-- LIST (R494). -/
def execList (who : Requester) (f : RillReq) (s : State) : Host.Outcome State Fault Refusal := .next (s.rillOp who 5 f)
/-- SUBSCRIBE (R500). -/
def execSubscribe (who : Requester) (f : RillReq) (s : State) : Host.Outcome State Fault Refusal := .next (s.rillOp who 6 f)

/-! ## Late replies (R495) -/

/-- The end of a request, with its reply. -/
def State.endRequest (s : State) (o : Outstanding) (r : RillReq) : State :=
  (s.answer (if r.status = 0 then .ok else .internal)).settle (endpointOf o.endpoint) (fun x => x == o) fun _ => r

/-- The end of a request with a code. -/
def State.endWith (s : State) (o : Outstanding) (c : Code) : State :=
  (s.answer c).settle (endpointOf o.endpoint) (fun x => x == o) fun f => rillDone f c

/-- Extension code has answered (R490): a read gives the value, a write takes it. -/
def State.extEnd (s : State) (o : Outstanding) (c : Code) : State :=
  let f := o.frame
  let who : Requester := ⟨endpointOf o.endpoint, decide (0x10000 ≤ o.endpoint)⟩
  if c ≠ .ok then s.endWith o c
  else if f.op = 1 then s.endRequest o (s.readReply f (s.valueFor who f.index f.sub))
  else (s.writeExt f.index f.sub f.data).endWith o .ok

/-- A waiting edit begins, once the one before it has ended. -/
def State.beginEdit (s : State) (o : Outstanding) (c : ChanId) : State :=
  if s.editBusy c then s
  else
    let os := updFirst (fun x => x == o) (fun (x : Outstanding) => { x with started := true }) s.rill.outstanding
    ({ s with rill := { s.rill with outstanding := os } }).editConfig c o.frame.sub o.frame.data

/-- The endpoint's oldest action ends, where it has come to its end (R495); `code` is what extension code answers. -/
def State.finalReply (s : State) (endpoint : Nat) (code : Code) : State :=
  match (s.waitingOf endpoint).find? fun o => o.reply.isNone && ! o.forwarded with
  | none => s
  | some o =>
    let f := o.frame
    if extIndex f.index then s.extEnd o code
    else if f.index = 0x0D00 then
      (match s.planEnd with
      | some c => s.endWith o c
      | none => s)
    else match objChannel f.index with
      | some c =>
        if ! o.started then s.beginEdit o c
        else (match s.editEnd c f.sub f.data with
          | some r => r.1.endWith o r.2
          | none => s)
      | none =>
        (match s.updateEnd f.sub with
        | some c => s.endWith o c
        | none => s)

/-- RILL_FINAL_REPLY (R495). -/
def execRillFinalReply (endpoint : Nat) (code : Code) (s : State) : Host.Outcome State Fault Refusal :=
  .next (s.quiet.finalReply endpoint code)

/-- EXTENSION_CALL_TIMEOUT (R490): INTERNAL, and a record names the index. -/
def execExtensionCallTimeout (endpoint : Nat) (tag : Byte) (index sub : Nat) (s : State) : Host.Outcome State Fault Refusal :=
  let s := s.quiet
  .next (match (s.waitingOf endpoint).find? fun o =>
      o.reply.isNone && extIndex index && o.frame.tag == tag && o.frame.index == index && o.frame.sub == sub with
    | some o => (s.endWith o .internal).logIt .event noEvent Code.internal.num [(2, index), (1, sub)]
    | none => s)

/-- BLOCK_TRANSFER_STALL (R498): the open block writes of the endpoint on the object are abandoned. -/
def execBlockTransferStall (endpoint index sub : Nat) (s : State) : Host.Outcome State Fault Refusal :=
  let s := s.quiet
  .next ((s.rill.writes.filter fun w => endpointOf w.endpoint == endpoint && w.index == index && w.sub == sub).foldl
    (fun (s : State) w => (s.advanceTo (w.lastAt + transferIdle)).abandonWrite w) s)

/-- SNAPSHOT_EXPIRED (R499). -/
def execSnapshotExpired (endpoint : Nat) (tag : Byte) (s : State) : Host.Outcome State Fault Refusal :=
  .next ((s.rill.snaps.filter fun x => endpointOf x.endpoint == endpoint && x.tag == tag).foldl
    (fun (s : State) x =>
      let s := s.advanceTo (x.lastAt + transferIdle)
      { s with rill := { s.rill with snaps := s.rill.snaps.erase x } }) s)

/-- A session or an endpoint that a requester used is gone (R498, R500, R502). -/
def State.loseRequester (s : State) (k : Nat) : State :=
  ((s.rill.writes.filter fun w => w.endpoint == k).foldl State.abandonWrite s).dropRequester k

/-- WATCHDOG_EXPIRED (R537): a restart of the management cores abandons the block writes that were open. -/
def execWatchdogExpired (g : Fin 4) (s : State) : Host.Outcome State Fault Refusal :=
  let t := s.wdogExpired g
  .next (if g = 2 ∧ t.rill.writes.isEmpty then s.rill.writes.foldl State.abandonWrite t else t)

/-! ## Pakor's frames (R300) -/

/-- A RILL frame for this device, or to be sent on by it as the cascade master (R300, R301). -/
def State.rillArrives (s : State) (src : Nat) (r : RillReq) : State :=
  let who : Requester := ⟨pakorEndpoint src, r.flags.getLsbD 2⟩
  if r.formOk ∧ ! s.ownDevice r.device then
    let d := r.device.toNat
    if s.pak.casMaster = s.devNumber ∧ s.seesMember d then s.send 0x30 d (rillBytes r)
    else s.asked who fun s => s.replyCode who r .frameAbort
  else if s.pnat 0x0102 4 1 = 0 then s.asked who fun s => s.replyCode who r (if r.formOk then .deniedAccess else .frameAbort)
  else s.rillRequest who r

/-- RILL_FRAME (R300). -/
def execRillFrame (f : FrameIn) (r : RillReq) (s : State) : Host.Outcome State Fault Refusal :=
  .next (s.frame f 0x30 (rillBytes r) none fun s => s.rillArrives f.src r)

/-- The reply of another device: an interim one passes on, a final one ends the request (R300, R495). -/
def State.replyArrives (s : State) (fw : Forwarded) (r : RillReq) : State :=
  let e := endpointOf fw.endpoint
  if r.flags.getLsbD 1 then
    let mine (o : Outstanding) : Bool := endpointOf o.endpoint == e && o.forwarded && ! o.told && o.frame.tag == fw.frame.tag
    let fws := s.pak.forwards.map fun (x : Forwarded) => if x = fw then { x with deadline := s.time + s.forwardTimeout } else x
    let s := { s with pak := { s.pak with forwards := fws } }
    if (s.waitingOf e).head?.any mine then
      ({ s with rill := { s.rill with
        outstanding := updFirst mine (fun (o : Outstanding) => { o with told := true }) s.rill.outstanding } }).emit e r
    else s
  else s.settleForward fw fun _ => r

/-- RILL_REPLY_FRAME (R300). -/
def execRillReplyFrame (f : FrameIn) (tag : Nat) (reply : List Byte) (s : State) : Host.Outcome State Fault Refusal :=
  .next (s.frame f 0x31 reply none fun s =>
    match s.pak.forwards.find? fun x => x.frame.tag.toNat == tag, rillOf reply with
    | some fw, some r => s.replyArrives fw r
    | _, _ => s)

/-! ## MCTP control (R501, R529) -/

/-- The state with a control response. -/
def State.mctpReply (s : State) (bs : List Byte) : State := { s with rill := { s.rill with mctpOut := bs } }

/-- Do I3C and SMBus answer: the management plane is powered, and a transport of the two is enabled (R501, R503). -/
def State.mctpAnswers (s : State) : Bool := s.answers ⟨0, false⟩ || s.answers ⟨0x100, false⟩

/-- SET_ENDPOINT_ID (R486, R501, R529): 0x00 and 0xFF are no endpoint ID. -/
def execSetEndpointId (eid : Byte) (s : State) : Host.Outcome State Fault Refusal :=
  .next (if ! s.mctpAnswers then s
    else if eid = 0 ∨ eid = 0xFF then s.mctpReply [0x01, 0x02]
    else (({ s with rill := { s.rill with eid := eid } }).mctpReply [0x01, 0x00, 0x00, eid, 0x00]).raiseLog 1416 [(1, eid.toNat)])

/-- GET_ENDPOINT_ID (R501): the ID, a simple endpoint with a dynamic ID. -/
def execGetEndpointId (s : State) : Host.Outcome State Fault Refusal :=
  .next (if s.mctpAnswers then s.mctpReply [0x02, 0x00, s.rill.eid, 0x00, 0x00] else s)

/-- GET_MCTP_VERSION_SUPPORT (R501): one entry, the base specification's version. -/
def execGetMctpVersionSupport (s : State) : Host.Outcome State Fault Refusal :=
  .next (if s.mctpAnswers then { s.mctpReply ([0x04, 0x00, 0x01] ++ (List.range 4).map fun i => Config.freeByte (s.free + i)) with free := s.free + 4 } else s)

/-- GET_MESSAGE_TYPE_SUPPORT (R501). -/
def execGetMessageTypeSupport (s : State) : Host.Outcome State Fault Refusal :=
  .next (if s.mctpAnswers then s.mctpReply [0x05, 0x00, 0x05, 0x00, 0x01, 0x05, 0x06, 0x7E] else s)

/-- I3C_DYNAMIC_ADDRESS_ASSIGNMENT (R529). -/
def execI3cDynamicAddressAssignment (addr : BitVec 7) (s : State) : Host.Outcome State Fault Refusal :=
  .next (s.asked ⟨0, false⟩ fun s => ({ s with rill := { s.rill with i3cAddr := some addr } }).raiseLog 1400 [(1, addr.toNat)])

/-- SMBUS_CLOCK_LOW_TIMEOUT (R529, R568): the message under way is lost. -/
def execSmbusClockLowTimeout (s : State) : Host.Outcome State Fault Refusal :=
  .next (s.asked ⟨0x100, false⟩ fun s =>
    s.raiseLog 1409 [])

/-- MCTP_ASSEMBLY_FAIL (R529): the message is dropped. -/
def execMctpAssemblyFail (endpoint : Nat) (s : State) : Host.Outcome State Fault Refusal :=
  .next (s.asked ⟨endpoint, false⟩ fun s =>
    s.raiseLog 1417 [(2, endpoint)])

end Sys2Proof.Machine
end

