-- ==== Sys2Proof/Machine/Spdm.lean ====
section
/-!
DEFINITION. The SPDM responder (R381-R393, R525): messages as bytes, the connection with each requester, certificates, signatures and
co-signatures, measurements, chunks, sessions and secured records. The layouts are those of DSP0274 1.3, which R385 names (log entry 44).
-/
namespace Sys2Proof.Machine

/-! ## Messages -/

/-- A message: version, code, two parameters, what follows. -/
def spdmMsg (code p1 p2 : Nat) (body : List Byte) : List Byte :=
  0x13 :: BitVec.ofNat 8 code :: BitVec.ofNat 8 p1 :: BitVec.ofNat 8 p2 :: body

/-- A little-endian field of a message. -/
def spdmField (m : List Byte) (o n : Nat) : Nat := leNat ((m.drop o).take n)

/-- Bytes of a message. -/
def spdmBytes (m : List Byte) (o n : Nat) : List Byte := (m.drop o).take n

/-- The number of an error. -/
def SpdmError.num : SpdmError → Nat
  | .invalidRequest => 0x01 | .busy => 0x03 | .unexpectedRequest => 0x04 | .unspecified => 0x05 | .unsupportedRequest => 0x07
  | .sessionLimitExceeded => 0x0A | .largeResponse => 0x0F | .versionMismatch => 0x41 | .responseNotReady => 0x42

/-- An ERROR response; `data` is the request's code in UnsupportedRequest. Of ResponseNotReady it is followed by the delay as an
exponent, the request's code, a token and a factor, of LargeResponse by a handle (DESIGN CHOICE for delay, token and handle, log entry
162). -/
def errorMsg (e : SpdmError) (data : Nat) : List Byte :=
  match e with
  | .responseNotReady => spdmMsg 0x7F e.num 0 [14, BitVec.ofNat 8 data, 0, 1]
  | .largeResponse => spdmMsg 0x7F e.num 0 [0]
  | _ => spdmMsg 0x7F e.num data []

/-- DataTransferSize (R385). -/
def dataTransfer : Nat := 4096
/-- MaxSPDMmsgSize (R385). -/
def maxSpdmMsg : Nat := 65536

/-- The capabilities of R385 as flags: CERT, CHAL, MEAS signed, ENCRYPT, MAC, MUT_AUTH, KEY_EX, CHUNK. -/
def ownFlags : Nat := 0x203D6

/-- The body of GET_CAPABILITIES and of CAPABILITIES (R385): CTExponent 14, the flags, the two sizes. -/
def capabilitiesBody : List Byte := [0, 14, 0, 0] ++ leBytes 4 ownFlags ++ leBytes 4 dataTransfer ++ leBytes 4 maxSpdmMsg

/-- VERSION (R385): 1.3 and no other. -/
def versionMsg : List Byte := [0x10, 0x04, 0, 0, 0, 1, 0x00, 0x13]

/-- The algorithm structures (R385): secp384r1, AES-256-GCM, ECDSA P-384 of the requester, the SPDM key schedule. -/
def algorithmTables : List Byte := [2, 0x20, 0x10, 0, 3, 0x20, 2, 0, 4, 0x20, 0x80, 0, 5, 0x20, 1, 0]

/-- ALGORITHMS (R385): DMTF measurements, SHA-384 throughout, ECDSA P-384. -/
def algorithmsMsg : List Byte :=
  spdmMsg 0x63 4 0 (leBytes 2 52 ++ [1, 0] ++ leBytes 4 4 ++ leBytes 4 0x80 ++ leBytes 4 2 ++ List.replicate 16 0 ++ algorithmTables)

/-- Does an algorithm structure of a NEGOTIATE_ALGORITHMS offer a bit of a type. -/
def offersTable (m : List Byte) (type mask : Nat) : Bool :=
  (List.range (spdmField m 2 1)).any fun i => spdmField m (32 + 4 * i) 1 == type && spdmField m (34 + 4 * i) 2 &&& mask != 0

/-- Does a NEGOTIATE_ALGORITHMS offer every algorithm of R385. -/
def offersAll (m : List Byte) : Bool :=
  spdmField m 6 1 &&& 1 != 0 && spdmField m 8 4 &&& 0x80 != 0 && spdmField m 12 4 &&& 2 != 0
  && offersTable m 2 0x10 && offersTable m 3 2 && offersTable m 4 0x80 && offersTable m 5 1

/-! ## Connections and answers -/

/-- A connection before its first message. -/
def SpdmConn.fresh (e : Nat) : SpdmConn :=
  { endpoint := e, negotiated := 0, peerFlags := 0, peerSize := dataTransfer, vca := [], certMsgs := [], measMsgs := [], deferred := 0,
    ready := none, cosigKind := none, cosig := [], chunks := [], chunkDone := 0, chunkSeq := 0, inChunks := [], inSeq := 0, ack := none }

/-- The connection with an endpoint. -/
def State.conn (s : State) (e : Nat) : SpdmConn := (s.spdm.conns.find? fun x => x.endpoint == e).getD (SpdmConn.fresh e)

/-- Changes it. -/
def State.updConn (s : State) (e : Nat) (f : SpdmConn → SpdmConn) : State :=
  { s with spdm := { s.spdm with conns := f (s.conn e) :: s.spdm.conns.filter fun x => x.endpoint != e } }

/-- The session in which a requester asks, where it asks in one (log entry 6). -/
def State.sessionOf (s : State) (who : Requester) : Option Session :=
  if who.authorised then s.spdm.sessions.find? fun x => x.endpoint == who.endpoint else none

/-- A message goes out over the endpoint's carrier: SECURE_FRAME, plain or in the session's record (R524), or a HANDSHAKE frame (R388). -/
def State.carry (s : State) (who : Requester) (m : List Byte) : State :=
  let e := who.endpoint
  if e = secureEndpoint then
    match s.sessionOf who with
    | some x => s.secureOut x (0x05 :: m)
    | none => { s with spi := { s.spi with waiting := s.spi.waiting ++ [0x05 :: m] } }
  else if 0x400 ≤ e then s.sendSetup ⟨e % 4, Nat.mod_lt _ (by decide)⟩ m
  else s

/-- A response goes out; that to a request which came in chunks within the acknowledgement of the last one. -/
def State.spdmSend (s : State) (who : Requester) (m : List Byte) : State :=
  let e := who.endpoint
  match (s.conn e).ack with
  | some (h, q) =>
    let w := spdmMsg 0x05 0 h.toNat (leBytes 2 q ++ m)
    let s := s.updConn e fun c => { c with ack := none }
    ({ s with spdm := { s.spdm with out := w } }).carry who w
  | none => ({ s with spdm := { s.spdm with out := m } }).carry who m

/-- An ERROR response. -/
def State.spdmError (s : State) (who : Requester) (e : SpdmError) : State := s.spdmSend who (errorMsg e 0)

/-- A response of any length: one beyond DataTransferSize is collected with CHUNK_GET (R385, R390). -/
def State.spdmLong (s : State) (who : Requester) (m : List Byte) : State :=
  if m.length ≤ min dataTransfer (s.conn who.endpoint).peerSize then s.spdmSend who m
  else (s.updConn who.endpoint fun c => { c with chunks := m, chunkDone := 0, chunkSeq := 0 }).spdmError who .largeResponse

/-- A message of an endpoint is taken in: the message that SECURE_FRAME delivered is free again (R524), GET_COSIG's turn passes (R388), and
so does the transcript of measurements but for another GET_MEASUREMENTS. -/
def State.spdmTaken (s : State) (e : Nat) (meas : Bool) : State :=
  let s := { s.quiet with spdm := { s.spdm with out := [] } }
  let s := if e = secureEndpoint then { s with spi := { s.spi with sent := none } } else s
  s.updConn e fun c => { c with cosigKind := none, measMsgs := if meas then c.measMsgs else [] }

/-- A request: the responder's answer where it answers, in its version, after the negotiation that the request needs (R385). -/
def State.spdmRequest (s : State) (who : Requester) (needs : Nat) (m : List Byte) (f : State → State) : State :=
  if ! s.answers who then s
  else
    let n := (s.conn who.endpoint).negotiated
    let s := s.spdmTaken who.endpoint (spdmField m 1 1 == 0xE0)
    if m.headD 0 ≠ 0x13 then s.spdmError who .versionMismatch
    else if n < needs then s.spdmError who .unexpectedRequest
    else f s

/-! ## Negotiation (R385) -/

/-- GET_VERSION begins the connection anew. -/
def State.onGetVersion (s : State) (who : Requester) (m : List Byte) : State :=
  let e := who.endpoint
  if ! s.answers who then s
  else
    let s := s.spdmTaken e false
    if m.headD 0 ≠ 0x10 then s.spdmError who .versionMismatch
    else
      let s := { s with spdm := { s.spdm with waiting := s.spdm.waiting.filter fun w => w.1.endpoint != e } }
      (s.updConn e fun _ => { SpdmConn.fresh e with negotiated := 1, vca := m ++ versionMsg }).spdmSend who versionMsg

/-- GET_VERSION (R385). -/
def execGetVersion (who : Requester) (msg : List Byte) (s : State) : Host.Outcome State Fault Refusal := .next (s.onGetVersion who msg)

/-- GET_CAPABILITIES: the requester's flags and DataTransferSize are kept; a repetition is answered alike. -/
def State.onGetCapabilities (s : State) (who : Requester) (m : List Byte) : State :=
  s.spdmRequest who 1 m fun s =>
    let r := spdmMsg 0x61 0 0 capabilitiesBody
    if m.length < 20 then s.spdmError who .invalidRequest
    else
      let s := if (s.conn who.endpoint).negotiated = 1 then
          s.updConn who.endpoint fun c =>
            { c with negotiated := 2, peerFlags := spdmField m 8 4, peerSize := spdmField m 12 4, vca := c.vca ++ m ++ r }
        else s
      s.spdmSend who r

/-- GET_CAPABILITIES (R385). -/
def execGetCapabilities (who : Requester) (msg : List Byte) (s : State) : Host.Outcome State Fault Refusal :=
  .next (s.onGetCapabilities who msg)

/-- NEGOTIATE_ALGORITHMS. -/
def State.onNegotiate (s : State) (who : Requester) (m : List Byte) : State :=
  s.spdmRequest who 2 m fun s =>
    if ! offersAll m then s.spdmError who .invalidRequest
    else
      let s := if (s.conn who.endpoint).negotiated = 2 then
          s.updConn who.endpoint fun c => { c with negotiated := 3, vca := c.vca ++ m ++ algorithmsMsg }
        else s
      s.spdmSend who algorithmsMsg

/-- NEGOTIATE_ALGORITHMS (R385). -/
def execNegotiateAlgorithms (who : Requester) (msg : List Byte) (s : State) : Host.Outcome State Fault Refusal :=
  .next (s.onNegotiate who msg)

/-- The codes of the requests that the responder answers (R385). -/
def spdmCodes : List Nat := [0x81, 0x82, 0x83, 0x84, 0x85, 0x86, 0xE0, 0xE1, 0xE3, 0xE4, 0xE5, 0xEC, 0xFE, 0xFF]

/-- A request that the responder does not answer. -/
def State.onUnsupported (s : State) (who : Requester) (m : List Byte) : State :=
  s.spdmRequest who 0 m fun s => s.spdmSend who (errorMsg .unsupportedRequest (spdmField m 1 1))

/-- SPDM_UNSUPPORTED_REQUEST (R385). -/
def execSpdmUnsupportedRequest (who : Requester) (msg : List Byte) (s : State) : Host.Outcome State Fault Refusal :=
  .next (if spdmCodes.contains (spdmField msg 1 1) then s else s.onUnsupported who msg)

/-! ## Certificates (R381-R383) -/

/-- The certificate slots served (R381-R383, R393): none in tamper form or on a mismatch; Sill serves slot 0 alone. -/
def State.certSlots (s : State) : List Nat :=
  if s.dev.form = .tamper ∨ s.spdm.mismatch then []
  else (if s.keyThere 2 && s.keyThere 3 then [0] else [])
    ++ (if s.boot.phase = .running ∧ s.keyThere 5 && s.keyThere 6 then [1] else [])

/-- The certificates of slot 0 up to the DeviceID's (R381, R382): that of the present lifecycle; in SERVICE the chain that Sill carries. -/
def State.deviceChain (s : State) : List Byte :=
  if s.dev.mode = .service then Config.testChain else s.pget 0x0610 0x10 [] ++ s.pget 0x0610 s.lifecycle.num []

/-- The DeviceID certificate served (R382). -/
def State.deviceCert (s : State) : List Byte := chainLeaf (chainCerts s.deviceChain)

/-- Do its keys equal the expanded ones (R382). -/
def State.keysMatch (s : State) : Bool := certEcKey s.deviceCert == s.ecKey 2 && certMlKey s.deviceCert == s.mlKey 3

/-- The identity is compared on its first use (R382). -/
def State.checkIdentity (s : State) : State :=
  if s.spdm.checked ∨ s.certSlots.isEmpty then s
  else
    let s := { s with spdm := { s.spdm with checked := true, mismatch := ! s.keysMatch } }
    if s.spdm.mismatch then (s.raise 1318).logIt .event 1318 Code.internal.num [] else s

/-- Mission firmware issues the Alias certificate before the first answer that needs slot 1 (R383). -/
def State.issueAlias (s : State) (slot : Nat) : State :=
  if slot ≠ 1 ∨ ! s.certSlots.contains 1 ∨ ! s.spdm.aliasCert.isEmpty then s
  else ({ s with spdm := { s.spdm with aliasCert := s.makeAlias s.deviceCert } }).signed

/-- The chain of a slot in DSP0274's form (R381): its length, the root's hash, the certificates from the root on. -/
def State.chain (s : State) (slot : Nat) : List Byte :=
  let certs := s.deviceChain ++ if slot = 0 then [] else s.spdm.aliasCert
  leBytes 2 (52 + certs.length) ++ [0, 0] ++ digestBytes (sha384 ((chainCerts certs).headD [])) ++ certs

/-- The hash of a slot's chain. -/
def State.chainHash (s : State) (slot : Nat) : List Byte := digestBytes (sha384 (s.chain slot))

/-- The mask of some slots. -/
def slotMask (l : List Nat) : Nat := (l.map fun i => 2 ^ i).sum

/-- DIGESTS: both slots are supported; the hashes of those that are served. -/
def State.digestsMsg (s : State) : List Byte := spdmMsg 0x01 3 (slotMask s.certSlots) (s.certSlots.flatMap s.chainHash)

/-- A message and its answer join the transcript of certificates. -/
def State.noteCert (s : State) (e : Nat) (m r : List Byte) : State := s.updConn e fun c => { c with certMsgs := c.certMsgs ++ m ++ r }

/-- GET_DIGESTS. -/
def State.onGetDigests (s : State) (who : Requester) (m : List Byte) : State :=
  s.spdmRequest who 3 m fun s =>
    let s := s.checkIdentity.issueAlias 1
    (s.noteCert who.endpoint m s.digestsMsg).spdmSend who s.digestsMsg

/-- GET_DIGESTS (R393). -/
def execGetDigests (who : Requester) (msg : List Byte) (s : State) : Host.Outcome State Fault Refusal := .next (s.onGetDigests who msg)

/-- CERTIFICATE: a portion of a slot's chain and how much is left after it. -/
def State.certificateMsg (s : State) (slot offset length : Nat) : List Byte :=
  let c := s.chain slot
  let part := (c.drop offset).take length
  spdmMsg 0x02 slot 0 (leBytes 2 part.length ++ leBytes 2 (c.length - offset - part.length) ++ part)

/-- GET_CERTIFICATE. -/
def State.onGetCertificate (s : State) (who : Requester) (m : List Byte) : State :=
  s.spdmRequest who 3 m fun s =>
    let slot := spdmField m 2 1 % 16
    let s := s.checkIdentity.issueAlias slot
    if m.length < 8 ∨ ! s.certSlots.contains slot ∨ (s.chain slot).length < spdmField m 4 2 then s.spdmError who .invalidRequest
    else
      let r := s.certificateMsg slot (spdmField m 4 2) (spdmField m 6 2)
      (s.noteCert who.endpoint m r).spdmLong who r

/-- GET_CERTIFICATE (R381, R382). -/
def execGetCertificate (who : Requester) (msg : List Byte) (s : State) : Host.Outcome State Fault Refusal :=
  .next (s.onGetCertificate who msg)

/-! ## Signatures and co-signatures (R386, R387, R393) -/

/-- The prefix of what is signed (R387: DSP0274's combined prefix): 100 bytes. -/
def combinedPrefix (context : String) : List Byte :=
  let c := ascii context
  (List.replicate 4 (ascii "dmtf-spdm-v1.3.*")).flatten ++ List.replicate (36 - c.length) 0 ++ c

/-- What a signature of a kind covers (R387): prefix and message hash. -/
def signedText (kind : Nat) (hash : List Byte) : List Byte :=
  combinedPrefix (match kind with
    | 1 => "responder-challenge_auth signing"
    | 2 => "responder-key_exchange_rsp signing"
    | 3 => "requester-finish signing"
    | _ => "responder-measurements signing") ++ hash

/-- What the co-signature of a kind covers (R387): the text of the ECDSA signature, for measurements the hash alone (DEDUCED, log entry
163). -/
def cosignedText (kind : Nat) (hash : List Byte) : List Byte := if kind = 4 then hash else signedText kind hash

/-- A co-signature block (R387). -/
def cosigBlock (key kind : Nat) (hash sig : List Byte) : List Byte :=
  ascii "GVCS" ++ [1, BitVec.ofNat 8 key, BitVec.ofNat 8 kind, 0] ++ hash ++ sig

/-- The block that the device makes with a certificate slot's ML-DSA-87 key (R387). -/
def State.makeCosig (s : State) (slot key kind : Nat) (hash : List Byte) : List Byte :=
  cosigBlock key kind hash (s.mlSignAs (certSeeds slot).2 (ascii "GV-COSIG") (cosignedText kind hash))

/-- The steward's engine serves verification for release (R386). -/
def State.verifyingForRelease (s : State) : Bool :=
  match s.hg.steward with
  | some h => (s.upd.vers.get h).any fun v => v.result.isNone && v.release
  | none => false

/-- The code of the request that a waiting response answers. -/
def SignWait.code (w : SignWait) : Nat := spdmField w.req 1 1

/-- A response goes to the steward for its signature: ResponseNotReady where its engine is taken (R386). -/
def State.sign (s : State) (who : Requester) (w : SignWait) : State :=
  let s := { s with spdm := { s.spdm with waiting := s.spdm.waiting ++ [(who, w)] } }
  if s.verifyingForRelease then
    (s.updConn who.endpoint fun c => { c with deferred := w.code }).spdmSend who (errorMsg .responseNotReady w.code)
  else s

/-- Attestation that the mode refuses (R51, R393). -/
def State.attestRefused (s : State) (who : Requester) : State := (s.opRefused .attest).spdmError who .unspecified

/-- What stands in the way of a signed answer: the tamper form, an unserved slot, a response already waiting for its signature. -/
def State.signError (s : State) (who : Requester) (slot : Nat) : Option SpdmError :=
  if s.dev.form = .tamper then some .unspecified
  else if ! s.certSlots.contains slot then some .invalidRequest
  else if s.spdm.waiting.any fun x => x.1.endpoint == who.endpoint then some .busy
  else none

/-! ## Measurements (R389) -/

/-- The DMTF value type of an index (R389), bit 7 for a raw value. -/
def measType (i : Nat) : Nat :=
  match i with
  | 1 => 0x00
  | 2 | 3 => 0x01
  | 4 => 0x03
  | 5 => 0x82
  | 6 => 0x87
  | _ => if i < 0x50 then 0x01 else if i < 0x90 then 0x03 else 0x84

/-- A measurement block (R390): its header, the DMTF header, the value. -/
def measBlock (b : Nat × List Byte) : List Byte :=
  leBytes 1 b.1 ++ leBytes 1 1 ++ leBytes 2 (b.2.length + 3) ++ leBytes 1 (measType b.1) ++ leBytes 2 b.2.length ++ b.2

/-- The length of block 0xEF (R387, R390). -/
def efLength : Nat := 4690

/-- The indices asked for and whether block 0xEF is (R389); none where the index is not listed. -/
def measAsked (signed : Bool) (index : Nat) : Option (List Nat × Bool) :=
  if index = 0 then some ([], false)
  else if index = 0xFF then some (measIndices, signed)
  else if index = 0xEF then (if signed then some ([], true) else none)
  else if measIndices.contains index then some ([index], false) else none

/-- The blocks of some indices. -/
def State.measRecord (s : State) (l : List Nat) : List Byte := l.flatMap fun i => measBlock (i, s.measValue i)

/-- The first bytes of MEASUREMENTS, up to the end of the blocks before 0xEF; index 0 asks for the number of indices. -/
def State.measHead (s : State) (signed : Bool) (slot index : Nat) (asked : List Nat × Bool) : List Byte :=
  let r := s.measRecord asked.1
  let count := if index = 0 then measIndices.length + b2n signed else 0
  spdmMsg 0x60 count (if signed then slot else 0)
    (leBytes 1 (asked.1.length + b2n asked.2) ++ leBytes 3 (r.length + if asked.2 then efLength else 0) ++ r)

/-- Random bytes for a nonce, from the DRBG: 32 of them. -/
def State.random32 (s : State) (n : Nat) : List Byte := beBytes 32 ((Config.drbg (s.free + n)).toNat / 2 ^ 128)

/-- The last bytes of MEASUREMENTS before a signature: nonce, no opaque data, the requester's context. -/
def State.measTail (s : State) (m : List Byte) (signed : Bool) : List Byte :=
  s.random32 0 ++ [0, 0] ++ spdmBytes m (if signed then 37 else 4) 8

/-- The summary of the measurements that CHALLENGE and KEY_EXCHANGE ask for: of all (0xFF), of the trusted base (1; indices 1 to 3, DESIGN
CHOICE, log entry 162), of none. -/
def State.measSummary (s : State) (type : Nat) : List Byte :=
  if type = 0xFF then digestBytes (sha384 (s.measRecord measIndices))
  else if type = 1 then digestBytes (sha384 (s.measRecord [1, 2, 3]))
  else []

/-- The types of a summary. -/
def summaryOk (type : Nat) : Bool := type == 0 || type == 1 || type == 0xFF

/-- GET_MEASUREMENTS. -/
def State.onGetMeasurements (s : State) (who : Requester) (m : List Byte) : State :=
  let e := who.endpoint
  let signed := (spdmField m 2 1).testBit 0
  let slot := spdmField m 36 1 % 16
  s.spdmRequest who 3 m fun s =>
    if ! ModeOp.attest.permitted s.dev.mode then s.attestRefused who
    else
      let s := s.updConn e fun c => { c with certMsgs := [] }
      let s := if signed then s.checkIdentity.issueAlias slot else s
      match measAsked signed (spdmField m 3 1), (if signed then s.signError who slot else none) with
      | _, some c => s.spdmError who c
      | none, none => s.spdmError who .invalidRequest
      | some a, none =>
        let head := s.measHead signed slot (spdmField m 3 1) a
        let tail := s.measTail m signed
        let c := s.conn e
        if m.length < (if signed then 45 else 12) then s.spdmError who .invalidRequest
        else if signed then s.drawn.sign who ⟨4, slot, c.vca ++ c.measMsgs, m, head, a.2, tail, 0⟩
        else (s.drawn.updConn e fun c => { c with measMsgs := c.measMsgs ++ m ++ head ++ tail }).spdmLong who (head ++ tail)

/-- GET_MEASUREMENTS (R389, R393). -/
def execGetMeasurements (who : Requester) (msg : List Byte) (s : State) : Host.Outcome State Fault Refusal :=
  .next (s.onGetMeasurements who msg)

/-! ## CHALLENGE (R386, R393) -/

/-- CHALLENGE_AUTH up to its signature: chain hash, nonce, summary, no opaque data, the requester's context. -/
def State.challengeAuth (s : State) (m : List Byte) (slot type : Nat) : List Byte :=
  spdmMsg 0x03 slot (slotMask s.certSlots) (s.chainHash slot ++ s.random32 0 ++ s.measSummary type ++ [0, 0] ++ spdmBytes m 36 8)

/-- CHALLENGE. -/
def State.onChallenge (s : State) (who : Requester) (m : List Byte) : State :=
  let slot := spdmField m 2 1
  s.spdmRequest who 3 m fun s =>
    if ! ModeOp.attest.permitted s.dev.mode then s.attestRefused who
    else
      let s := s.checkIdentity.issueAlias slot
      match s.signError who slot with
      | some c => s.spdmError who c
      | none =>
        let c := s.conn who.endpoint
        if m.length < 44 ∨ ! summaryOk (spdmField m 3 1) then s.spdmError who .invalidRequest
        else s.drawn.sign who ⟨1, slot, c.vca ++ c.certMsgs, m, s.challengeAuth m slot (spdmField m 3 1), false, [], 0⟩

/-- CHALLENGE (R386, R393). -/
def execChallenge (who : Requester) (msg : List Byte) (s : State) : Host.Outcome State Fault Refusal := .next (s.onChallenge who msg)

/-! ## The steward's signature (R386) -/

/-- A response up to its signature; block 0xEF covers the request and the response before it (R387). -/
def State.signedBody (s : State) (w : SignWait) : List Byte :=
  let h := digestBytes (sha384 (w.req ++ w.body))
  w.body ++ (if w.block then measBlock (0xEF, s.makeCosig w.slot w.slot 4 h) else []) ++ w.tail

/-- The message hash that a response's signature covers. -/
def State.signedHash (s : State) (w : SignWait) : List Byte := digestBytes (sha384 (w.base ++ w.req ++ s.signedBody w))

/-- A response with its ECDSA signature. -/
def State.signedMsg (s : State) (w : SignWait) : List Byte :=
  s.signedBody w ++ s.ecSign (certSeeds w.slot).1 (signedText w.kind (s.signedHash w))

/-- KEY_EXCHANGE_RSP is signed: the handshake keys come from the transcript up to it; the responder's verify data ends it (R377). -/
def State.exchangeSigned (s : State) (w : SignWait) : State × List Byte :=
  let m := s.signedMsg w
  let th := digestBytes (sha384 (w.base ++ w.req ++ m))
  let block := s.makeCosig w.slot w.slot 2 (s.signedHash w)
  let s := s.signed.handshakeKeys w.session true th
  let all := m ++ hmac384 (((s.session w.session).map fun x => s.sessionBytes x 5).getD []) th
  (s.updSession w.session fun x => { x with transcript := w.base ++ w.req ++ all, cosig := block }, all)

/-- What a signature leaves in the connection: GET_COSIG's block of kind 1, the transcripts that end with it. -/
def State.afterSign (s : State) (e : Nat) (w : SignWait) (block : List Byte) : State :=
  s.updConn e fun c =>
    { c with cosig := if w.kind = 1 then block else c.cosig, certMsgs := if w.kind = 1 then [] else c.certMsgs,
             measMsgs := if w.kind = 4 then [] else c.measMsgs }

/-- The steward signs a response (R386). -/
def State.signNow (s : State) (who : Requester) (w : SignWait) : State × List Byte :=
  if w.kind = 2 then s.exchangeSigned w
  else
    let block := if w.kind = 1 then s.makeCosig w.slot w.slot 1 (s.signedHash w) else []
    ((s.afterSign who.endpoint w block).signed, s.signedMsg w)

/-- A signed response goes out; GET_COSIG may follow a CHALLENGE_AUTH (R388). -/
def State.signedOut (s : State) (who : Requester) (m : List Byte) : State :=
  let s := s.spdmLong who m
  if spdmField m 1 1 = 0x03 then s.updConn who.endpoint fun c => { c with cosigKind := some 1 } else s

/-- The oldest response is signed; one answered ResponseNotReady waits to be collected. -/
def State.signOldest (s : State) : State :=
  match s.spdm.waiting with
  | [] => s
  | (who, w) :: rest =>
    let r := ({ s with spdm := { s.spdm with waiting := rest } }).signNow who w
    if (s.conn who.endpoint).deferred ≠ 0 then r.1.updConn who.endpoint fun c => { c with ready := some r.2 }
    else r.1.signedOut who r.2

/-- SPDM_SIGNATURE_READY (R386). -/
def execSpdmSignatureReady (s : State) : Host.Outcome State Fault Refusal :=
  .next { s.quiet with spdm := { s.spdm with out := [] } }.signOldest

/-- RESPOND_IF_READY. -/
def State.onRespondIfReady (s : State) (who : Requester) (m : List Byte) : State :=
  let e := who.endpoint
  s.spdmRequest who 3 m fun s =>
    let c := s.conn e
    if c.deferred = 0 then s.spdmError who .unexpectedRequest
    else if spdmField m 2 1 ≠ c.deferred ∨ spdmField m 3 1 ≠ 0 then s.spdmError who .invalidRequest
    else match c.ready with
      | some r => (s.updConn e fun c => { c with ready := none, deferred := 0 }).signedOut who r
      | none => s.spdmSend who (errorMsg .responseNotReady c.deferred)

/-- RESPOND_IF_READY (R386). -/
def execRespondIfReady (who : Requester) (msg : List Byte) (s : State) : Host.Outcome State Fault Refusal :=
  .next (s.onRespondIfReady who msg)

/-! ## Sessions (R377, R391, R392) -/

/-- A management session and all that arrived in it end (R391, R498, R500, R502). -/
def State.closeSession (s : State) (id : Nat) : State :=
  match s.session id with
  | some x => (s.loseRequester (x.endpoint + 0x10000)).endSession id
  | none => s

/-- A point as ExchangeData carries it: X and Y, 48 bytes each. -/
def pointData (a : CurvePoint) : List Byte := a.encode.drop 1

/-- The shared secret of an ephemeral private key and the other side's ExchangeData: the X coordinate (R377); none where the data is no
point of the curve. -/
def sharedSecret (scalar : Nat) (data : List Byte) : Option (List Byte) :=
  match CurvePoint.times 384 scalar (decodePoint (4 :: data)) with
  | some (x, _) => some (beBytes 48 x)
  | none => none

/-- A session begins, with the shared and the handshake secret in the vault. -/
def State.openSession (s : State) (x : Session) (shared : List Byte) : State :=
  ({ s with spdm := { s.spdm with sessions := s.spdm.sessions ++ [x], nextId := s.spdm.nextId + 1 } }).exchangeKeys x.id shared

/-- A session's number: the requester's half and the responder's. -/
def State.newSessionId (s : State) (req : Nat) : Nat := req % 65536 + 65536 * (s.spdm.nextId % 65536)

/-- KEY_EXCHANGE_RSP up to its signature: no heartbeat; the session's half; mutual authentication where the requester offers it (DEDUCED,
log entry 162); random bytes, the exchange's point, the summary, no opaque data. -/
def State.exchangeRsp (s : State) (mutualAuth : Bool) (type : Nat) : List Byte :=
  spdmMsg 0x64 0 0 (leBytes 2 (s.spdm.nextId % 65536) ++ [BitVec.ofNat 8 (b2n mutualAuth), 0] ++ s.random32 1
    ++ pointData (CurvePoint.times 384 (s.drbgNonce 0) curveG) ++ s.measSummary type ++ [0, 0])

/-- What stands in the way of a session (R343, R381, R391). -/
def State.sessionError (s : State) (who : Requester) (m : List Byte) : Option SpdmError :=
  if s.dev.form = .tamper ∨ s.boot.secretBad then some .unspecified
  else if ! s.certSlots.contains (spdmField m 3 1) then some .invalidRequest
  else if who.endpoint < 0x400 ∧ 4 ≤ (s.spdm.sessions.filter Session.counts).length then some .sessionLimitExceeded
  else if s.spdm.waiting.any fun x => x.1.endpoint == who.endpoint then some .busy
  else if m.length < 138 ∨ ! summaryOk (spdmField m 2 1) then some .invalidRequest
  else none

/-- KEY_EXCHANGE: refused without an identity with INTERNAL (R343), beyond four sessions (R391), with no room in the vault (R369). -/
def State.onKeyExchange (s : State) (who : Requester) (m : List Byte) : State :=
  let e := who.endpoint
  s.spdmRequest who 3 m fun s =>
    let slot := spdmField m 3 1
    let s := s.checkIdentity.issueAlias slot
    let s := if s.boot.secretBad ∧ s.dev.form ≠ .tamper then s.logIt .event noEvent Code.internal.num [] else s
    match s.sessionError who m, sharedSecret (s.drbgNonce 0) (spdmBytes m 40 96) with
    | some c, _ => s.spdmError who c
    | none, none => s.spdmError who .invalidRequest
    | none, some z =>
      if ! s.roomForSession then (s.raise 1314).spdmError who .unspecified
      else
        let mutualAuth := (s.conn e).peerFlags.testBit 8
        let id := s.newSessionId (spdmField m 4 2)
        let x : Session :=
          { id := id, endpoint := e, mutualAuth := mutualAuth, finished := false, trusted := false, cosigDone := false, lastMsg := s.time,
            txSeq := 0, rxSeq := 0, slots := [], transcript := [], peer := [], finHash := [], cosig := [] }
        let w : SignWait := ⟨2, slot, (s.conn e).vca ++ s.chainHash slot, m, s.exchangeRsp mutualAuth (spdmField m 2 1), false, [], id⟩
        let s := (s.openSession x z).updConn e fun c => { c with certMsgs := [] }
        ({ s with free := s.free + 2 }).sign who w

/-- KEY_EXCHANGE (R377, R391). -/
def execKeyExchange (who : Requester) (msg : List Byte) (s : State) : Host.Outcome State Fault Refusal := .next (s.onKeyExchange who msg)

/-- A request that names a session of its endpoint; its answer goes out in the session. -/
def State.inSession (s : State) (who : Requester) (id : Nat) (p : Session → Bool) (f : Session → State) : State :=
  match s.session id with
  | some x => if x.endpoint = who.endpoint ∧ p x then f x else s.spdmError who .unexpectedRequest
  | none => s.spdmError who .unexpectedRequest

/-- What the requester's FINISH is checked against: the transcript, its chain's hash where it authenticates itself, the message up to its
signature or its verify data. -/
def finishText (x : Session) (chain m : List Byte) (len : Nat) : List Byte :=
  x.transcript ++ (if x.mutualAuth then digestBytes (sha384 chain) else []) ++ m.take len

/-- Does a FINISH stand: signed where mutual authentication was asked for, its verify data right (R377, R385). -/
def State.finishOk (s : State) (x : Session) (chain m : List Byte) : Bool :=
  let signed := (spdmField m 2 1).testBit 0
  let n := if signed then 100 else 4
  let leaf := chainLeaf (chainCerts (chain.drop 52))
  m.length == n + 48 && signed == x.mutualAuth
  && (! signed || ecdsaVerify (certEcKey leaf) (sha384 (signedText 3 (digestBytes (sha384 (finishText x chain m 4))))) (spdmBytes m 4 96))
  && hmac384 (s.sessionBytes x 4) (digestBytes (sha384 (finishText x chain m n))) == m.drop n

/-- Do both of a requester's chains end at an anchor of `mgmt_trust_list`, or is its DeviceID pinned there (R392). -/
def State.mgmtTrusts (s : State) (certs : List (List Byte)) : Bool :=
  let list := s.pget 0x0601 1 []
  anchored list certs || listHolds list 2 (leafId certs)

/-- FINISH: a failed one ends the session. The requester's chain is an operand: the spec names no request by which it comes (log entry
164). -/
def State.onFinish (s : State) (who : Requester) (id : Nat) (m chain : List Byte) : State :=
  let e := who.endpoint
  let w : Requester := { who with authorised := true }
  s.spdmRequest w 3 m fun s => s.inSession w id (fun x => ! x.finished && decide (8 ≤ x.slots.length)) fun x =>
    if s.finishOk x chain m then
      let r := spdmMsg 0x65 0 0 []
      let certs := chainCerts (chain.drop 52)
      let t := finishText x chain m m.length ++ r
      let s := (s.spdmSend w r).appKeys id true (digestBytes (sha384 t))
      let s := s.updSession id fun x =>
        { x with finished := true, lastMsg := s.time, peer := certs, trusted := s.mgmtTrusts certs, transcript := t,
                 finHash := digestBytes (sha384 (finishText x chain m 4)) }
      s.updConn e fun c => { c with cosigKind := some 2, cosig := x.cosig }
    else (s.closeSession id).spdmError who .invalidRequest

/-- FINISH (R385). -/
def execFinish (who : Requester) (session : Nat) (msg chain : List Byte) (s : State) : Host.Outcome State Fault Refusal :=
  .next (s.onFinish who session msg chain)

/-- Does a session carry messages: after a mutually authenticated FINISH nothing until the requester's block verifies (R388). -/
def Session.carries (x : Session) : Bool := x.finished && (! x.mutualAuth || x.cosigDone)

/-- END_SESSION. -/
def State.onEndSession (s : State) (who : Requester) (id : Nat) (m : List Byte) : State :=
  let w : Requester := { who with authorised := true }
  s.spdmRequest w 3 m fun s => s.inSession w id Session.carries fun _ => (s.spdmSend w (spdmMsg 0x6C 0 0 [])).closeSession id

/-- END_SESSION (R391). -/
def execEndSession (who : Requester) (session : Nat) (msg : List Byte) (s : State) : Host.Outcome State Fault Refusal :=
  .next (s.onEndSession who session msg)

/-! ## GET_COSIG and PUSH_COSIG (R388) -/

/-- Is a message one of R388's: VENDOR_DEFINED_REQUEST under the IANA StandardID and the enterprise number, whose payload begins with an
operation. -/
def cosigForm (m : List Byte) (op : Nat) : Bool :=
  spdmField m 1 1 == 0xFE && spdmField m 4 2 == 4 && spdmField m 6 1 == 4 && spdmField m 7 4 == 101182
  && m.length == 13 + spdmField m 11 2 && spdmField m 13 1 == op

/-- A VENDOR_DEFINED message with a payload. -/
def vendorMsg (code : Nat) (payload : List Byte) : List Byte :=
  spdmMsg code 0 0 (leBytes 2 4 ++ [4] ++ leBytes 4 101182 ++ leBytes 2 payload.length ++ payload)

/-- GET_COSIG: in its turn only. -/
def State.onGetCosig (s : State) (who : Requester) (m : List Byte) : State :=
  let turn := (s.conn who.endpoint).cosigKind
  let kind := spdmField m 14 1
  s.spdmRequest who 3 m fun s =>
    if s.dev.form = .tamper then s.spdmError who .unspecified
    else if ! cosigForm m 1 then s.spdmError who .invalidRequest
    else if (kind = 1 ∨ kind = 2) ∧ turn = some kind then
      s.spdmLong who (vendorMsg 0x7E ([0x81, BitVec.ofNat 8 kind] ++ (s.conn who.endpoint).cosig))
    else s.spdmError who .unexpectedRequest

/-- GET_COSIG (R388). -/
def execGetCosig (who : Requester) (msg : List Byte) (s : State) : Host.Outcome State Fault Refusal := .next (s.onGetCosig who msg)

/-- Does the other side's block of a kind verify under its certificate's key over a message hash (R387, R388). -/
def cosigOk (certs : List (List Byte)) (key kind : Nat) (hash b : List Byte) : Bool :=
  b.length == 4683 && b.take 56 == cosigBlock key kind hash []
  && mlVerify (certMlKey (chainLeaf certs)) (ascii "GV-COSIG") (cosignedText kind hash) (b.drop 56)

/-- PUSH_COSIG: the requester's block in a mutually authenticated session; a failure ends the session. The turn of kind 2 stands past it
(DESIGN CHOICE, log entry 45). -/
def State.onPushCosig (s : State) (who : Requester) (id : Nat) (m : List Byte) : State :=
  let e := who.endpoint
  let turn := (s.conn e).cosigKind
  let w : Requester := { who with authorised := true }
  s.spdmRequest w 3 m fun s => s.inSession w id (fun x => x.finished && x.mutualAuth && ! x.cosigDone) fun x =>
    if cosigForm m 2 && spdmField m 14 1 == 3 && cosigOk x.peer 2 3 x.finHash (m.drop 15) then
      let s := s.updSession id fun x => { x with cosigDone := true, lastMsg := s.time }
      (s.updConn e fun c => { c with cosigKind := turn }).spdmSend w (vendorMsg 0x7E [0x82, 3])
    else (s.closeSession id).spdmError who .unspecified

/-- PUSH_COSIG (R388, R392). -/
def execPushCosig (who : Requester) (session : Nat) (msg : List Byte) (s : State) : Host.Outcome State Fault Refusal :=
  .next (s.onPushCosig who session msg)

/-! ## Chunks (R385) -/

/-- A whole request that came in chunks: the answer to the command it spells. -/
def State.onLargeRequest (s : State) (who : Requester) (m : List Byte) : State :=
  let id := ((s.spdm.sessions.find? fun x => x.endpoint == who.endpoint).map fun x => x.id).getD 0
  match spdmField m 1 1 with
  | 0x81 => s.onGetDigests who m
  | 0x82 => s.onGetCertificate who m
  | 0x83 => s.onChallenge who m
  | 0xE0 => s.onGetMeasurements who m
  | 0xE3 => s.onNegotiate who m
  | 0xE4 => s.onKeyExchange who m
  | 0xEC => s.onEndSession who id m
  | 0xFE => if cosigForm m 2 then s.onPushCosig who id m else s.onGetCosig who m
  | _ => s.onUnsupported who m

/-- The chunk that a CHUNK_SEND carries; none where its number, its size or the whole's length does not fit. -/
def chunkOf (c : SpdmConn) (m : List Byte) : Option (List Byte) :=
  let q := spdmField m 4 2
  let head := if q = 0 then 16 else 12
  let data := m.drop head
  let all := (if q = 0 then [] else c.inChunks) ++ data
  if dataTransfer < m.length ∨ m.length < head ∨ spdmField m 8 4 ≠ data.length ∨ (q ≠ 0 ∧ q ≠ c.inSeq) ∨ maxSpdmMsg < all.length then none
  else some all

/-- CHUNK_SEND: the answer to the whole request goes out in the acknowledgement of its last chunk. -/
def State.onChunkSend (s : State) (who : Requester) (m : List Byte) : State :=
  let e := who.endpoint
  let turn := (s.conn e).cosigKind
  let q := spdmField m 4 2
  let h := spdmField m 3 1
  s.spdmRequest who 2 m fun s =>
    match chunkOf (s.conn e) m with
    | none => (s.updConn e fun c => { c with inChunks := [], inSeq := 0 }).spdmError who .invalidRequest
    | some all =>
      if (spdmField m 2 1).testBit 0 then
        (s.updConn e fun c => { c with inChunks := [], inSeq := 0, ack := some (BitVec.ofNat 8 h, q), cosigKind := turn }).onLargeRequest who all
      else
        (s.updConn e fun c => { c with inChunks := all, inSeq := q + 1, cosigKind := turn }).spdmSend who (spdmMsg 0x05 0 h (leBytes 2 q))

/-- CHUNK_SEND (R385). -/
def execChunkSend (who : Requester) (msg : List Byte) (s : State) : Host.Outcome State Fault Refusal := .next (s.onChunkSend who msg)

/-- CHUNK_RESPONSE: the next chunk of a long response; the first tells its whole length. -/
def chunkResponse (c : SpdmConn) (h : Nat) : List Byte :=
  let first := if c.chunkSeq = 0 then leBytes 4 c.chunks.length else []
  let data := (c.chunks.drop c.chunkDone).take (min dataTransfer c.peerSize - 12 - first.length)
  let last := c.chunks.length ≤ c.chunkDone + data.length
  spdmMsg 0x06 (if last then 1 else 0) h (leBytes 2 c.chunkSeq ++ [0, 0] ++ leBytes 4 data.length ++ first ++ data)

/-- A chunk of a long response has gone. -/
def SpdmConn.chunkGone (c : SpdmConn) : SpdmConn :=
  let n := c.chunkDone + (min dataTransfer c.peerSize - 12 - if c.chunkSeq = 0 then 4 else 0)
  if c.chunks.length ≤ n then { c with chunks := [], chunkDone := 0, chunkSeq := 0 }
  else { c with chunkDone := n, chunkSeq := c.chunkSeq + 1 }

/-- CHUNK_GET. -/
def State.onChunkGet (s : State) (who : Requester) (m : List Byte) : State :=
  let e := who.endpoint
  s.spdmRequest who 2 m fun s =>
    let c := s.conn e
    if c.chunks.isEmpty then s.spdmError who .unexpectedRequest
    else if spdmField m 3 1 ≠ 0 ∨ spdmField m 4 2 ≠ c.chunkSeq then s.spdmError who .invalidRequest
    else (s.updConn e SpdmConn.chunkGone).spdmSend who (chunkResponse c 0)

/-- CHUNK_GET (R385). -/
def execChunkGet (who : Requester) (msg : List Byte) (s : State) : Host.Outcome State Fault Refusal := .next (s.onChunkGet who msg)

/-! ## Secured records (R525) and idle sessions -/

/-- A session ends for a record that does not stand or for its idle time; on the port with SPI_SESSION_END (R525, R529). -/
def State.sessionFails (s : State) (x : Session) (c : Code) : State :=
  let s := s.closeSession x.id
  if x.endpoint = secureEndpoint then s.raiseLog1 1399 0 [(4, x.id), (1, c.num)] else s

/-- The record that arrives: on the port the message that SECURE_FRAME holds (R524). -/
def State.recordArrived (s : State) (e : Nat) (record : List Byte) : List Byte :=
  if e = secureEndpoint then
    match s.spi.sent with
    | some (b :: m) => if b = 0x06 then m else []
    | _ => []
  else record

/-- A record of an endpoint (R525): one whose tag and number stand counts, and its message, of type 0x05 or 0x7E, follows as the command
that it spells (log entry 44); another type is dropped with BAD_RANGE; a record that does not stand is dropped with VERIFY_FAIL and its
session ends. -/
def State.securedRecord (s : State) (e : Nat) (r : List Byte) : State :=
  match s.session (leNat (r.take 4)) with
  | none => s
  | some x =>
    if x.endpoint ≠ e then s
    else match (if leNat ((r.drop 4).take 8) = x.rxSeq then s.recordIn x r else none) with
      | none => (s.answer .verifyFail).sessionFails x .verifyFail
      | some m =>
        let s := s.updSession x.id fun x => { x with rxSeq := x.rxSeq + 1, lastMsg := s.time }
        if m.headD 0 = 0x05 ∨ m.headD 0 = 0x7E then s else s.answer .badRange

/-- SECURED_RECORD (R525). -/
def execSecuredRecord (endpoint : Nat) (record : List Byte) (s : State) : Host.Outcome State Fault Refusal :=
  let r := s.recordArrived endpoint record
  let s := if endpoint = secureEndpoint then { s with spi := { s.spi with sent := none } } else s
  .next (s.securedRecord endpoint r)

/-- SESSION_IDLE_EXPIRED (R391): `session_idle_s` without a message. -/
def execSessionIdleExpired (session : Nat) (s : State) : Host.Outcome State Fault Refusal :=
  .next (match s.session session with
    | none => s
    | some x => (s.advanceTo (x.lastMsg + s.pnat 0x0602 2 900 * secNs)).sessionFails x .ok)

end Sys2Proof.Machine
end

