-- ==== Sys2Proof/Machine/Handshake.lean ====
section
/-!
DEFINITION. The handshake of a Pakor link and the renewal of its session (R284-R286, R387, R388): the responder of the link answers as
the SPDM responder does, the requester runs R285's requests to the end of both co-signatures. The layouts are those of DSP0274 1.3 (log
entry 44).
-/
namespace Sys2Proof.Machine

/-! ## Trust and outcome (R284, R285) -/

/-- Is a peer trusted (R284): its chains end at an anchor of `trust_list`, and with trust_mode 1 it is also pinned there. -/
def State.linkTrusts (s : State) (certs : List (List Byte)) : Bool :=
  let list := s.pget 0x0901 2 []
  anchored list certs && (s.pnat 0x0901 1 0 == 0 || listHolds list 2 (leafId certs))

/-- A handshake fails (R285): the link stays untrusted and is tried again. -/
def State.handshakeFails (s : State) (l : LinkId) : State :=
  (s.linkFailed l .untrusted).raiseLog 1097 [(1, l.val), (1, (s.link l).peer)]

/-- A handle of a session's `i`th slot. -/
def State.sessionHandle (s : State) (x : Session) (i : Nat) : Word := ((x.slots[i]?).map fun k => handleOf k (s.kslot k).gen).getD 0

/-- A link has its session (R285, R286): both directions take the new keys, the slots of the session before go; `own` where this device is
the responder. A renewal raises PAKOR_REKEY. -/
def State.linkSecured (s : State) (l : LinkId) (x : Session) (own : Bool) : State :=
  let k := s.link l
  let s := { s with spdm := { s.spdm with sessions := s.spdm.sessions.filter fun y => y.id != x.id } }
  let req := s.sessionHandle x 12
  let rsp := s.sessionHandle x 13
  let s := s.updLink l fun k =>
    { k with keyTx := if own then rsp else req, keyRx := if own then req else rsp, slots := x.slots, session := true, sessionAt := s.time,
             txCounter := 0, rxCounter := 0, hsStep := 0, step := if k.session then k.step else 5 }
  let s := k.slots.foldl (fun s i => s.destroySlot i .empty) s
  if k.session then (s.raiseLog 1099 [(1, l.val)]).drainSend else (s.raiseLog 1098 [(1, l.val), (1, k.peer)]).syncHealth

/-! ## The responder -/

/-- A request of the link's handshake, by its code (R385); `chain` is the requester's chain. -/
def State.handshakeAnswer (s : State) (l : LinkId) (m chain : List Byte) : State :=
  let who : Requester := ⟨linkEndpoint l, false⟩
  match spdmField m 1 1 with
  | 0x84 => s.onGetVersion who m
  | 0xE1 => s.onGetCapabilities who m
  | 0xE5 =>
    let id := ((s.spdm.sessions.find? fun x => x.endpoint == linkEndpoint l).map fun x => x.id).getD 0
    s.onFinish who id m chain
  | 0x85 => s.onChunkSend who m
  | 0x86 => s.onChunkGet who m
  | 0xFF => s.onRespondIfReady who m
  | _ => s.onLargeRequest who m

/-- Does a message refuse: an ERROR other than those by which an answer comes later. -/
def refuses (m : List Byte) : Bool := spdmField m 1 1 == 0x7F && spdmField m 2 1 != 0x42 && spdmField m 2 1 != 0x0F

/-- After an answer: a refusal fails the handshake; the requester's co-signature ends it, where its chains are trusted. -/
def State.handshakeAnswered (s : State) (l : LinkId) : State :=
  if refuses s.spdm.out then s.handshakeFails l
  else match s.spdm.sessions.find? fun x => x.endpoint == linkEndpoint l && x.cosigDone with
    | some x => if s.linkTrusts x.peer then s.linkSecured l x true else s.handshakeFails l
    | none => s

/-! ## The requester -/

/-- A message of more than DataTransferSize goes in CHUNK_SENDs (R385). -/
def chunkMsgs (m : List Byte) : List (List Byte) :=
  let first := m.take 4080
  let rest := framePieces 4084 (m.drop 4080)
  spdmMsg 0x85 0 0 (leBytes 2 0 ++ [0, 0] ++ leBytes 4 first.length ++ leBytes 4 m.length ++ first)
    :: rest.zipIdx.map fun x =>
      spdmMsg 0x85 (b2n (x.2 + 1 == rest.length)) 0 (leBytes 2 (x.2 + 1) ++ [0, 0] ++ leBytes 4 x.1.length ++ x.1)

/-- A request goes out on a link. -/
def State.request (s : State) (l : LinkId) (m : List Byte) : State :=
  let cs := if m.length ≤ dataTransfer then [m] else chunkMsgs m
  (s.updLink l fun k => { k with hsSent := m, hsLeft := cs.drop 1, hsPart := [] }).sendSetup l (cs.headD [])

/-- The step of the handshake after the one that ends, with its request. -/
def State.nextRequest (s : State) (l : LinkId) (m : List Byte) : State := (s.updLink l fun k => { k with hsStep := k.hsStep + 1 }).request l m

/-- NEGOTIATE_ALGORITHMS with every algorithm of R385. -/
def negotiateMsg : List Byte :=
  spdmMsg 0xE3 4 0 (leBytes 2 48 ++ [1, 0] ++ leBytes 4 0x80 ++ leBytes 4 2 ++ List.replicate 12 0 ++ [0, 0, 0, 0] ++ algorithmTables)

/-- GET_CERTIFICATE of slot 0 from an offset, as much as one message holds. -/
def getCertificateMsg (offset : Nat) : List Byte := spdmMsg 0x82 0 0 (leBytes 2 offset ++ leBytes 2 4088)

/-- KEY_EXCHANGE for slot 0 under a fresh ephemeral key (R285): no summary, no opaque data. -/
def State.exchangeMsg (s : State) : List Byte :=
  spdmMsg 0xE4 0 0 (leBytes 2 (s.spdm.nextId % 65536) ++ [0, 0] ++ s.random32 1 ++ pointData (CurvePoint.times 384 (s.drbgNonce 0) curveG) ++ [0, 0])

/-- KEY_EXCHANGE goes out; its ephemeral private key stands in operand memory (R376). -/
def State.startExchange (s : State) (l : LinkId) : State :=
  let m := s.exchangeMsg
  let d := s.drbgNonce 0
  let s := s.updLink l fun k => { k with hsStep := 5, hsScalar := d }
  ({ s with free := s.free + 2 }).request l m

/-- The peer's certificates. -/
def Link.certs (k : Link) : List (List Byte) := chainCerts (k.peerChain.drop 52)

/-- CERTIFICATE: the portion joins the chain; the rest is asked for, then the chain is judged and the exchange begins. -/
def State.takeCertificate (s : State) (l : LinkId) (m : List Byte) : State :=
  let s := s.updLink l fun k => { k with peerChain := k.peerChain ++ spdmBytes m 8 (spdmField m 4 2) }
  if spdmField m 6 2 ≠ 0 ∧ spdmField m 4 2 ≠ 0 then s.request l (getCertificateMsg (s.link l).peerChain.length)
  else if s.linkTrusts (s.link l).certs then s.startExchange l
  else s.handshakeFails l

/-- FINISH, signed by the DeviceID over the transcript with its own chain's hash, with its verify data (R285, R377). -/
def State.finishMsg (s : State) (x : Session) : List Byte :=
  let head := spdmMsg 0xE5 1 0 []
  let own := s.chain 0
  let h := digestBytes (sha384 (finishText x own head 4))
  let signed := head ++ s.ecSign 2 (signedText 3 h)
  signed ++ hmac384 (s.sessionBytes x 4) (digestBytes (sha384 (finishText x own signed signed.length)))

/-- KEY_EXCHANGE_RSP: its signature and its verify data are checked, the session's keys derived, FINISH goes out (R285, R377). -/
def State.takeExchange (s : State) (l : LinkId) (m : List Byte) : State :=
  let k := s.link l
  let e := linkEndpoint l
  let base := (s.conn e).vca ++ digestBytes (sha384 k.peerChain) ++ k.hsSent
  let hash := digestBytes (sha384 (base ++ m.take 138))
  let id := spdmField k.hsSent 4 2 + 65536 * spdmField m 4 2
  if m.length ≠ 282 ∨ ! ecdsaVerify (certEcKey (chainLeaf k.certs)) (sha384 (signedText 2 hash)) (spdmBytes m 138 96) ∨ ! s.roomForSession then
    s.handshakeFails l
  else match sharedSecret k.hsScalar (spdmBytes m 40 96) with
    | none => s.handshakeFails l
    | some z =>
      let x : Session :=
        { id := id, endpoint := e, mutualAuth := true, finished := false, trusted := true, cosigDone := false, lastMsg := s.time,
          txSeq := 0, rxSeq := 0, slots := [], transcript := base ++ m, peer := k.certs, finHash := [], cosig := [] }
      let th := digestBytes (sha384 (base ++ m.take 234))
      let s := (s.openSession x z).handshakeKeys id false th
      match s.session id with
      | none => s
      | some x =>
        if hmac384 (s.sessionBytes x 5) th ≠ m.drop 234 then s.handshakeFails l
        else
          let f := s.finishMsg x
          let own := s.chain 0
          let s := s.updSession id fun x =>
            { x with transcript := finishText x own f f.length, finHash := digestBytes (sha384 (finishText x own f 4)) }
          ((s.updConn e fun c => { c with cosig := hash }).signed).nextRequest l f

/-- FINISH_RSP: the application keys are derived, and this device's own co-signature goes out (R388). -/
def State.takeFinish (s : State) (l : LinkId) (m : List Byte) : State :=
  match s.spdm.sessions.find? fun x => x.endpoint == linkEndpoint l with
  | none => s.handshakeFails l
  | some x =>
    let s := s.appKeys x.id false (digestBytes (sha384 (x.transcript ++ m)))
    let s := s.updSession x.id fun x => { x with finished := true }
    s.signed.nextRequest l (vendorMsg 0xFE ([2, 3] ++ s.makeCosig 0 2 3 x.finHash))

/-- The reply to GET_COSIG: the responder's block ends the handshake (R285, R388). -/
def State.takeCosig (s : State) (l : LinkId) (m : List Byte) : State :=
  match s.spdm.sessions.find? fun x => x.endpoint == linkEndpoint l with
  | none => s.handshakeFails l
  | some x =>
    if cosigOk x.peer 0 2 (s.conn (linkEndpoint l)).cosig (m.drop 15) then s.linkSecured l x false else s.handshakeFails l

/-- The negotiation's transcript takes a request and its response. -/
def State.noteVca (s : State) (l : LinkId) (m : List Byte) : State :=
  let sent := (s.link l).hsSent
  s.updConn (linkEndpoint l) fun c => { c with vca := c.vca ++ sent ++ m }

/-- A whole response, at the requester's step (R285). -/
def State.handshakeReply (s : State) (l : LinkId) (m : List Byte) : State :=
  match (s.link l).hsStep, spdmField m 1 1 with
  | 0, 0x04 =>
    let s := s.updConn (linkEndpoint l) fun _ => { SpdmConn.fresh (linkEndpoint l) with negotiated := 1 }
    (s.noteVca l m).nextRequest l (spdmMsg 0xE1 0 0 capabilitiesBody)
  | 1, 0x61 => (s.noteVca l m).nextRequest l negotiateMsg
  | 2, 0x63 => if m = algorithmsMsg then (s.noteVca l m).nextRequest l (spdmMsg 0x81 0 0 []) else s.handshakeFails l
  | 3, 0x01 => if (spdmField m 3 1).testBit 0 then s.nextRequest l (getCertificateMsg 0) else s.handshakeFails l
  | 4, 0x02 => s.takeCertificate l m
  | 5, 0x64 => s.takeExchange l m
  | 6, 0x65 => s.takeFinish l m
  | 7, 0x7E => s.nextRequest l (vendorMsg 0xFE [1, 2])
  | 8, 0x7E => s.takeCosig l m
  | _, _ => s.handshakeFails l

/-- A message from the responder (R385): the chunks of a long request and of a long response, a response that comes later, or a whole
response. -/
def State.handshakeMsg (s : State) (l : LinkId) (m : List Byte) : State :=
  let k := s.link l
  match spdmField m 1 1 with
  | 0x05 =>
    match k.hsLeft with
    | c :: cs => (s.updLink l fun k => { k with hsLeft := cs }).sendSetup l c
    | [] => s.handshakeReply l (m.drop 6)
  | 0x06 =>
    let part := k.hsPart ++ m.drop (if spdmField m 4 2 = 0 then 16 else 12)
    if (spdmField m 2 1).testBit 0 then s.handshakeReply l part
    else (s.updLink l fun k => { k with hsPart := part }).sendSetup l (spdmMsg 0x86 0 (spdmField m 3 1) (leBytes 2 (spdmField m 4 2 + 1)))
  | 0x7F =>
    if spdmField m 2 1 = 0x0F then (s.updLink l fun k => { k with hsPart := [] }).sendSetup l (spdmMsg 0x86 0 (spdmField m 4 1) (leBytes 2 0))
    else if spdmField m 2 1 = 0x42 then s.sendSetup l (spdmMsg 0xFF (spdmField m 5 1) (spdmField m 6 1) [])
    else s.handshakeFails l
  | _ => s.handshakeReply l m

/-! ## Frames and renewal -/

/-- One message of a link's handshake, to the side that this device is. -/
def State.handshakeStep (s : State) (l : LinkId) (m chain : List Byte) : State :=
  if s.requests l then s.handshakeMsg l m else (s.handshakeAnswer l m chain).handshakeAnswered l

/-- A HANDSHAKE frame (R285, R288): only on a link at this step, in a mode that admits, of a peer whose mode does. A device without an
identity refuses with INTERNAL (R343). -/
def State.handshake (s : State) (l : LinkId) (m chain : List Byte) : State :=
  let k := s.link l
  let live := k.step = 4 ∨ ((k.step = 5 ∨ k.step = 6) ∧ ! s.requests l)
  if ! live ∨ ! s.admitted ∨ ! modeAdmits k.peerMode ∨ s.pak.posConflict then s
  else if s.boot.secretBad then (s.handshakeFails l).logIt .event noEvent Code.internal.num []
  else s.handshakeStep l m chain

/-- HANDSHAKE (R285). -/
def execHandshake (f : FrameIn) (msg chain : List Byte) (s : State) : Host.Outcome State Fault Refusal :=
  .next (s.setupFrame f fun s => s.handshake f.link msg chain)

/-- The steward signs what waits on a link (R386). -/
def State.signLink (s : State) (l : LinkId) : State :=
  match s.spdm.waiting.find? fun x => x.1.endpoint == linkEndpoint l with
  | some (who, w) =>
    let r := ({ s with spdm := { s.spdm with waiting := s.spdm.waiting.erase (who, w) } }).signNow who w
    r.1.signedOut who r.2
  | none => s

/-- A session is renewed inside the running one (R286): the peer's messages of the new exchange in turn, up to the co-signatures; the new
session takes both directions where they stand. -/
def State.rekey (s : State) (l : LinkId) (msgs : List (List Byte)) (chain : List Byte) : State :=
  if ! (s.link l).session then s
  else
    let s := if s.requests l then s.startExchange l else s
    msgs.foldl (fun s m => (s.handshakeStep l m chain).signLink l) s

/-- PAKOR_REKEY (R286). -/
def execPakorRekey (l : LinkId) (msgs : SpdmMsgs) (chain : List Byte) (s : State) : Host.Outcome State Fault Refusal :=
  .next (s.quiet.rekey l msgs chain)

end Sys2Proof.Machine
end

