-- ==== Sys2Proof/Machine/Probe.lean ====
section
/-!
DEFINITION. Probing (R61, R63-R67): the steps of an attempt, what follows it, the selection of the flash-side mode, the re-check of
a calibration, and the sensing of the IO supplies.
-/
namespace Sys2Proof.Machine

/-! ## The flash-side mode (R65) -/

/-- The highest clock of a mode on the flash side (R62). -/
def FlashMode.tableClk : FlashMode → FlashClk
  | .m8D => .c200
  | _ => .c133

/-- Does R62's table permit a mode at the sensed flash-side supply. -/
def FlashMode.permitted (m : FlashMode) (io : IoSupply) : Bool := m != .m8D || io == .v18

/-- The lower of two clocks. -/
def FlashClk.least (a b : FlashClk) : FlashClk := if a.num ≤ b.num then a else b

/-- The data rate of a mode at a clock, in units of a sixth of a Mbit per second (R65). -/
def FlashMode.rate (m : FlashMode) (c : FlashClk) : Nat := m.dataLanes * c.mhz6 * (if m = .m8D then 2 else 1)

/-- The rank of a mode at a clock: data rate, then lanes of command and address, then the later row (R65). -/
def FlashMode.rank (m : FlashMode) (c : FlashClk) : Nat := (m.rate c * 64 + m.headLanes) * 8 + m.num

/-- The candidate modes, each at its highest allowed clock (R65). -/
def flashCandidates (ms : List ModeEntry) (limit : FlashClk) (io : IoSupply) : List ModeEntry :=
  (ms.filter fun e => e.mode.permitted io).map fun e => ⟨e.mode, (e.mode.tableClk.least limit).least e.clk⟩

/-- The higher ranked of two candidates. -/
def betterMode (best : ModeEntry) (e : ModeEntry) : ModeEntry := if best.mode.rank best.clk < e.mode.rank e.clk then e else best

/-- The mode selected for the first attempt (R65): 1-1-1 at 25 MHz where no candidate is left. -/
def selectMode (ms : List ModeEntry) (limit : FlashClk) (io : IoSupply) : ModeEntry :=
  match flashCandidates ms limit io with
  | [] => ⟨.m111, .c25⟩
  | e :: es => es.foldl betterMode e

/-- The slowest mode that the SFDP lists (R64), ranked at one clock. -/
def slowestMode (ms : List ModeEntry) : FlashMode :=
  match ms with
  | [] => .m111
  | e :: es => es.foldl (fun b x => if x.mode.rank .c25 < b.rank .c25 then x.mode else b) e.mode

/-- The mode and clock of an attempt (R64, R65); the third attempt's slowest mode is of those that the supply permits (R62). -/
def attemptMode (ms : List ModeEntry) (limit : FlashClk) (io : IoSupply) (attempt : Nat) : ModeEntry :=
  let first := selectMode ms limit io
  match attempt with
  | 1 => first
  | 2 => ⟨first.mode, first.clk.lower⟩
  | _ => ⟨slowestMode (ms.filter fun e => e.mode.permitted io), FlashClk.least .c66 limit⟩

/-! ## Steps -/

/-- The channel whose probe goes on now: chip select 0's before chip select 1's (R63), one under way outside PROBING at once; none while
a fill of the other chip select is under way, which began first (R140). -/
def State.probeTurn (s : State) (c : ChanId) : Bool :=
  (c.val % 2 == 0 || (s.chan c).state != .probing || (s.chan c.sibling).state != .probing) && ! (s.chan c.sibling).fillRuns

/-- Puts a probe at a step. -/
def Chan.atStep (ch : Chan) (n : Nat) : Chan := { ch with probe := ch.probe.map fun p => { p with step := n } }

/-- The step at which an attempt waits for its result to be acted on. -/
def probeEnd : Nat := 8

/-- An attempt ends with a cause (R64). -/
def Chan.attemptEnds (ch : Chan) (cause : Nat) : Chan :=
  let n := (ch.probe.map fun p => p.attempt).getD 1
  { ch.atStep probeEnd with cal := { ch.cal with cause := cause, attempts := n } }

/-- Step 3 (R63, R64): ID bytes that differ end the attempt, an ID of all 0x00 or all 0xFF the probe. -/
def Chan.stepId (ch : Chan) (a b : List Byte) : Chan :=
  let ch := { ch with idBytes := a.take 6 }
  if a ≠ b then ch.attemptEnds 1
  else if (a.all fun x => x == 0) ∨ (a.all fun x => x == 0xFF) then ch.attemptEnds 4
  else if ch.info.isNone then ch.atStep 4 else ch.atStep 5

/-- Step 4 (R64): the SFDP captured; no signature and no override end the attempt. -/
def Chan.stepSfdp (ch : Chan) (signature : Bool) (raw : List Byte) (info : SfdpInfo) : Chan :=
  let ch := { ch with rawSfdp := raw.take 4096 }
  if ! signature ∧ ! ch.desc.sfdpOverride then ch.attemptEnds 2
  else ({ ch with info := some info }).atStep 5

/-- Step 6 (R65): the flash-side mode of the attempt. -/
def Chan.stepMode (ch : Chan) (io : IoSupply) : Chan :=
  let ms := (ch.info.map fun i => i.modes).getD []
  let n := (ch.probe.map fun p => p.attempt).getD 1
  let e := attemptMode ms (FlashClk.ofCode ch.desc.flashSckMax) io n
  ({ ch with mode := e.mode, clk := e.clk, probe := ch.probe.map fun (p : Probe) => { p with mode := e.mode, clk := e.clk } }).atStep 7

/-- A run of codes: where it begins and how many it has. -/
structure CodeRun where
  first : Nat
  length : Nat
  deriving DecidableEq, Repr

/-- The longest run of passing codes among the first `n` (R66), the earliest of equals: the run that ends here and the longest so far. -/
def longestRun (p : Nat → Bool) : Nat → CodeRun × CodeRun
  | 0 => (⟨0, 0⟩, ⟨0, 0⟩)
  | n + 1 =>
    let r := longestRun p n
    let here : CodeRun := if p n then (if r.1.length = 0 then ⟨n, 1⟩ else ⟨r.1.first, r.1.length + 1⟩) else ⟨0, 0⟩
    (here, if r.2.length < here.length then here else r.2)

/-- The longest run of a sweep's 256 codes (R66). -/
def sweepRun (v : BitVec 256) : CodeRun := (longestRun (fun i => v.getLsbD i) 256).2

/-- The centre of a run (R66), of an even run the lower of its two middle codes (DESIGN CHOICE, log entry 132). -/
def CodeRun.centre (r : CodeRun) : Nat := r.first + (r.length - 1) / 2

/-- The trim of a lane (R66): towards the centre of the lane's own window, by at most 4 codes, as a signed field of 4 bits (R86). -/
def laneTrim (delay : Nat) (lane : BitVec 256) : Nat :=
  let r := sweepRun lane
  if r.length = 0 then 0
  else if delay ≤ r.centre then min 4 (r.centre - delay) else (16 - min 4 (delay - r.centre)) % 16

/-- TRIM_CSk: lane k in bits [4k+3:4k] (R86). -/
def trimWord (delay : Nat) (lanes : List (BitVec 256)) : Word :=
  BitVec.ofNat 32 ((lanes.take 8).zipIdx.foldl (fun n x => n + laneTrim delay x.1 * 16 ^ x.2) 0)

/-- The result of a sweep in the registers (R66, R86): the window, the flight time, the delay at the window's centre, the lane trims. -/
def Chan.calibrated (ch : Chan) (passing : BitVec 256) (lanes : List (BitVec 256)) (flight : Nat) : Chan :=
  let r := sweepRun passing
  { ch with cal := { ch.cal with window := r.length, flight := flight, delay := r.centre }, trim := trimWord r.centre lanes }

/-- Step 7 (R66): the calibration sweep; a window below the minimum ends the attempt with cause 3. -/
def Chan.stepCal (ch : Chan) (passing : BitVec 256) (lanes : List (BitVec 256)) (flight : Nat) : Chan :=
  (ch.calibrated passing lanes flight).attemptEnds (if ch.clk.minWindow ≤ (sweepRun passing).length then 0 else 3)

/-- A re-calibration after a re-check (R67), outside PROBING: below the minimum the sweep runs again at the next lower clock. -/
def Chan.recal (ch : Chan) (passing : BitVec 256) (lanes : List (BitVec 256)) (flight : Nat) : Chan :=
  let ok := decide (ch.clk.minWindow ≤ (sweepRun passing).length)
  let ch := ch.calibrated passing lanes flight
  let ch := { ch with cal := { ch.cal with valid := ok } }
  if ok ∨ ch.clk = .c25 then { ch with probe := none } else { ch with clk := ch.clk.lower }

/-- What a completed step leaves of the channel; a result that is not the step's own changes nothing. -/
def Chan.probeStep (ch : Chan) (step : Nat) (io : IoSupply) (r : ProbeResult) : Chan :=
  match step, r with
  | 1, .reset => ch.atStep 2
  | 2, .softReset => ch.atStep 3
  | 3, .readId a b => ch.stepId a b
  | 4, .readSfdp sig raw info => ch.stepSfdp sig raw info
  | 5, .readStatus regs => ({ ch with regs := regs }).atStep 6
  | 6, .switchMode => ch.stepMode io
  | 7, .calibrate p l f => if ch.state = .probing then ch.stepCal p l f else ch.recal p l f
  | _, _ => ch

/-- A probe step completes (R63), once it is the channel's turn and nothing of higher rank holds the port's flash side (R140); step 1
serves both chip selects. -/
def State.probeStepDone (s : State) (c : ChanId) (r : ProbeResult) : State :=
  match (s.chan c).probe with
  | none => s
  | some p =>
    if ! s.probeTurn c ∨ s.higherWaits c.port 3 ∨ (s.chan c).gaveUp then s
    else
      let io := (s.port c.port).flashIo
      let s := s.updChan c fun ch => ch.probeStep p.step io r
      if p.step = 1 ∧ r = .reset then
        s.updChan c.sibling fun o => if o.state = .probing ∧ (o.probe.map fun q => q.step) = some 1 then o.atStep 2 else o
      else s

/-- PROBE_STEP_DONE (R63). -/
def execProbeStepDone (c : ChanId) (r : ProbeResult) (s : State) : Host.Outcome State Fault Refusal := .next (s.probeStepDone c r)

/-- The end of a probe that found no part or failed three times (R64). -/
def State.probeFailed (s : State) (c : ChanId) : State :=
  (s.toAbsent c).raiseLog (portEvent c.port (2 + c.cs.val)) [(1, c.val), (1, (s.chan c).cal.cause)]

/-- A probe passes (R41): FILLING where the descriptor names a manifest, else HELD. -/
def State.probePassed (s : State) (c : ChanId) : State :=
  let s := s.updChan c fun ch => { ch with cal := { ch.cal with valid := true }, probe := none }
  let s := s.raiseLog (portEvent c.port c.cs.val) [(1, c.val)]
  if (s.chan c).desc.manifestRef ≠ 0 then s.startFill c else s.setChan c .held

/-- The result of an attempt is acted on (R64). -/
def State.probeAttemptDone (s : State) (c : ChanId) : State :=
  match (s.chan c).probe with
  | none => s
  | some p =>
    if p.step ≠ probeEnd then s
    else match (s.chan c).cal.cause with
      | 0 => s.probePassed c
      | 4 => s.probeFailed c
      | _ =>
        if 3 ≤ p.attempt then s.probeFailed c
        else s.updChan c fun ch => { ch with probe := some { p with attempt := p.attempt + 1, step := 2 } }

/-- PROBE_ATTEMPT_DONE (R64). -/
def execProbeAttemptDone (c : ChanId) (s : State) : Host.Outcome State Fault Refusal := .next (s.probeAttemptDone c)

/-! ## The re-check (R67) -/

/-- The distance of two codes. -/
def codeDiff (a b : Nat) : Nat := if a ≤ b then b - a else a - b

/-- Is the flash side of the channel's port idle for its lowest priority (R140). -/
def State.flashIdle (s : State) (c : ChanId) : Bool :=
  let busy (ch : Chan) : Bool := ch.probe.isSome || ch.fillRuns || ch.op.isSome || ch.inner.isSome || ch.repair.isSome || ch.gaveUp
  ! busy (s.chan c) && ! busy (s.chan c.sibling) && ! s.higherWaits c.port 6

/-- The run of the re-check (R67): bit i of the result is the code that lies i above 8 below the present delay. -/
def recheckRun (passing : BitVec 17) : CodeRun := (longestRun (fun i => passing.getLsbD i) 17).2

/-- The re-check's result (R67). The window of CAL_CSk takes the run that the 17 codes show, and a run below the minimum at 25 MHz, where
no lower clock is left, is recalibrated at 25 MHz, with CAL_DRIFT as at any clock (DESIGN CHOICE, log entry 133). -/
def State.calRecheck (s : State) (c : ChanId) (passing : BitVec 17) : State :=
  let ch := s.chan c
  let r := recheckRun passing
  let centre := ch.cal.delay + r.centre - 8
  let drift (s : State) : State := s.raiseLog (portEvent c.port (4 + c.cs.val)) [(1, c.val), (1, centre)]
  if ! (s.dev.mode == .guard || s.dev.mode == .update) ∨ ! ch.cal.valid ∨ ! s.flashIdle c then s
  else if r.length < ch.clk.minWindow then
    drift (s.updChan c fun ch =>
      { ch with cal := { ch.cal with valid := false }, clk := ch.clk.lower,
                probe := some ⟨ch.cal.attempts, 7, ch.mode, ch.clk.lower⟩ })
  else
    let s := s.updChan c fun ch => { ch with cal := { ch.cal with window := r.length, delay := centre } }
    if 4 ≤ codeDiff ch.cal.delay centre then drift s else s

/-- CALIBRATION_RECHECK (R67). -/
def execCalibrationRecheck (c : ChanId) (passing : BitVec 17) (s : State) : Host.Outcome State Fault Refusal :=
  .next (s.calRecheck c passing)

/-! ## IO supplies (R61) -/

/-- The ports of a bank. -/
def bankPorts (b : Fin 4) : List PortId := (List.finRange 32).filter fun p => p.bank == b

/-- The channels of a bank. -/
def bankChans (b : Fin 4) : List ChanId := (List.finRange 64).filter fun c => c.port.bank == b

/-- One port takes the sensed level; outside both windows its sticky flag sets and PORTnn_IO_SUPPLY is raised. R87 has the record name the
chip select concerned: a supply concerns both, and here it names 2 for the flash side and 3 for the host side (DESIGN CHOICE, log
entry 131). -/
def State.portSupply (s : State) (hostSide : Bool) (l : IoSupply) (p : PortId) : State :=
  let s := s.updPort p fun q => if hostSide then { q with hostIo := l } else { q with flashIo := l }
  if l = .outside then
    (s.updPort p fun q => { q with sticky := putBit q.sticky 7 true }).raiseLog (portEvent p 27) [(1, 2 + b2n hostSide)]
  else s

/-- A bank's supply is sensed (R61): channels may probe once both sides are in a window, and are ABSENT outside it. -/
def State.ioSupply (s : State) (b : Fin 4) (hostSide : Bool) (l : IoSupply) : State :=
  if ! s.domOn ((if hostSide then 15 else 16) + 2 * b.val) then s
  else
    let s := (bankPorts b).foldl (State.portSupply · hostSide l) s
    (bankChans b).foldl (fun s c => if l.inWindow then s.probeIfReady c else if l = .outside then s.toAbsent c else s) s

/-- IO_SUPPLY_SENSED (R61). -/
def execIoSupplySensed (bank : Fin 4) (hostSide : Bool) (level : IoSupply) (s : State) : Host.Outcome State Fault Refusal :=
  .next (s.ioSupply bank hostSide level)

end Sys2Proof.Machine
end

