-- ==== Sys2Proof/Machine/Spi.lean ====
section
/-!
DEFINITION. The SPI management port (chapter 18, R505-R518, R524, R527): its transactions, its address blocks, the secure frames and the
Rill window.
-/
namespace Sys2Proof.Machine

/-! ## STATUS and the identity block -/

/-- An unmasked OUT bit is set in mailboxes 8 to 15 (R515, R521). -/
def State.outRing (s : State) : Bool :=
  (List.finRange 16).any fun m => decide (8 ≤ m.val) && (s.box m).outBits &&& (s.box m).outMask != 0

/-- The four STATUS bytes (R515). -/
def State.spiStatusBytes (s : State) : List Byte :=
  let b0 := s.dev.mode.num + 8 * b2n (s.spi.flags != 0) + 16 * b2n s.spi.replyReady + 32 * b2n (! s.spi.waiting.isEmpty)
    + 64 * b2n s.outRing + 128 * b2n s.responder
  leBytes 1 b0 ++ leBytes 1 s.spi.lastCode.num ++ [s.spi.flags] ++ leBytes 1 (s.spi.surplusCnt * 16 + s.spi.missingCnt)

/-- The identity and status block (R516), up to its holes. -/
def State.identityBlock (s : State) : List Byte :=
  let id := s.identityBytes
  ascii "GHMP" ++ leBytes 1 1 ++ (id.drop 7).take 1 ++ leBytes 1 s.dev.mode.num ++ leBytes 1 s.boot.stopCode
    ++ leBytes 1 s.lifecycle.num ++ leBytes 1 ((s.hg.steward.map Half.num).getD 0xFF) ++ leBytes 1 s.devNumber ++ leBytes 1 0
    ++ s.spiStatusBytes ++ leBytes 8 s.time ++ id.take 7 ++ leBytes 1 0
    ++ leBytes 4 s.spi.crcFails ++ leBytes 4 s.spi.partials ++ leBytes 4 s.spi.timeouts ++ leBytes 4 s.spi.surplusEdges
    ++ leBytes 4 s.spi.missingEdges ++ leBytes 4 s.spi.unknownCmds ++ leBytes 8 0 ++ ascii "GV4896-B1" ++ List.replicate 7 0

/-! ## The ends of a transaction (R510-R514) -/

/-- Sets sticky flags. -/
def State.spiFlag (s : State) (f : Byte) : State := { s with spi := { s.spi with flags := s.spi.flags ||| f } }

/-- An event of the port: one record per second (R529). -/
def State.spiEvent (s : State) (e : Nat) : State := s.raiseLog1 e 0 []

/-- A flag with its event. -/
def State.spiMark (s : State) (f : Byte) (e : Nat) : State := (s.spiFlag f).spiEvent e

/-- The bits of a transaction after its command byte. -/
def SpiTx.edges (t : SpiTx) : Nat := 8 * t.bytes.length + t.bits.val

/-- The edges missing of a form of `n` bytes, those of a partial byte among them (R512, R513). -/
def SpiTx.missing (t : SpiTx) (n : Nat) : Nat :=
  if t.edges < 8 * n then 8 * n - t.edges else if t.bits.val = 0 then 0 else 8 - t.bits.val

/-- The surplus edges over a form of `n` bytes (R513). -/
def SpiTx.surplus (t : SpiTx) (n : Nat) : Nat := t.edges - 8 * n

/-- Did the transaction end with its form whole, on a byte boundary (R510, R512). -/
def SpiTx.ended (t : SpiTx) (n : Nat) : Bool := t.bits.val == 0 && decide (n ≤ t.bytes.length)

/-- Edges and a partial byte are counted and flagged (R512, R513). -/
def State.spiEdges (s : State) (t : SpiTx) (n : Nat) : State :=
  let m := t.missing n
  let x := t.surplus n
  let s := { s with spi := { s.spi with
    missingEdges := min (2 ^ 32 - 1) (s.spi.missingEdges + m), surplusEdges := min (2 ^ 32 - 1) (s.spi.surplusEdges + x),
    missingCnt := if m = 0 then s.spi.missingCnt else min 15 (s.spi.missingCnt + 1),
    surplusCnt := if x = 0 then s.spi.surplusCnt else min 15 (s.spi.surplusCnt + 1),
    partials := if t.bits.val = 0 then s.spi.partials else satInc 32 s.spi.partials } }
  let s := if t.bits.val = 0 then s else s.spiMark 0x40 1393
  if m = 0 ∧ x = 0 then s else s.spiMark 0x04 1397

/-- The flags and events of the codes a transaction met (R510, R517). -/
def State.spiCodes (s : State) (cs : List Code) : State :=
  let s := if cs.contains .crcFail then
      ({ s with spi := { s.spi with crcFails := satInc 32 s.spi.crcFails } }).spiMark 0x80 1392
    else s
  let s := if cs.contains .overrun then s.spiMark 0x10 1395 else s
  if cs.contains .hole then s.spiMark 0x08 1396 else s

/-- What the device drove: STATUS byte 0, then `out`, then 0xFF, as many bytes as were clocked (R507). -/
def State.spiDrive (s : State) (t : SpiTx) (b0 : Byte) (out : List Byte) : State :=
  let n := t.bytes.length
  { s with spi := { s.spi with miso := b0 :: (out.take n ++ List.replicate (n - out.length) 0xFF) } }

/-- A transaction of a port that answers: what it drives comes first, then its end. Without an answer nothing happens (R506). -/
def State.spiTransaction (s : State) (t : SpiTx) (out : List Byte) (f : State → State) : State :=
  let s := s.quiet
  if s.portAnswers then f (s.spiDrive t (s.spiStatusBytes.getD 0 0) out) else { s with spi := { s.spi with miso := [] } }

/-- The end of a transaction with form `n`: its edges, its codes and their first (R511), and where there is none, its effect. -/
def State.spiEnd (s : State) (t : SpiTx) (n : Nat) (codes : List Code) (act : State → State) : State :=
  let all := (if t.ended n then [] else [Code.frameAbort]) ++ codes
  let s := (if all.isEmpty then act s else s).spiEdges t n
  { s.spiCodes codes with spi := { (s.spiCodes codes).spi with lastCode := (Code.first all).getD .ok } }

/-- The number that `n` bytes from `o` on of the host's bytes spell, most significant first (R507). -/
def SpiTx.field (t : SpiTx) (o n : Nat) : Nat := beNat ((t.bytes.drop o).take n)

/-- The CRC over the command and the first `n` bytes against the two that follow (R508); it fails only where all of them came. -/
def SpiTx.crcCodes (t : SpiTx) (cmd : Byte) (n : Nat) : List Code :=
  if t.ended (n + 2) ∧ (crc16 (cmd :: t.bytes.take n)).toNat ≠ t.field n 2 then [.crcFail] else []

/-! ## The address blocks (R516) -/

/-- The last address of the block that an address lies in. -/
def blockEnd (a : Nat) : Option Nat :=
  if a < 0x100 then some 0xFF
  else if 0x1000 ≤ a ∧ a < 0x3000 then some 0x2FFF
  else if 0x4000 ≤ a ∧ a < 0x4200 then some 0x41FF
  else if 0x8000 ≤ a ∧ a < 0x9000 then some 0x8FFF
  else none

/-- The mailbox that an address belongs to. -/
def boxAt (a : Nat) : Option (Fin 16) :=
  if 0x1000 ≤ a ∧ a < 0x3000 then finOf 16 ((a - 0x1000) / 0x200)
  else if 0x4000 ≤ a ∧ a < 0x4200 then finOf 16 ((a - 0x4000) / 0x20)
  else none

/-- Is the address one of a doorbell entry. -/
def isDoorbell (a : Nat) : Bool := decide (0x4000 ≤ a) && decide (a < 0x4200)

/-- Does an offset of the Rill window hold nothing (R527). -/
def windowHole (o : Nat) : Bool :=
  ! (decide (o < 0x418) || (decide (0x800 ≤ o) && decide (o < 0xC18)) || (decide (0xFF0 ≤ o) && decide (o < 0xFF8)))

/-- Is an address a hole (R516, R517). -/
def portHole (a : Nat) : Bool :=
  if a < 0x100 then decide (0x50 ≤ a)
  else if 0x1000 ≤ a ∧ a < 0x3000 then false
  else if 0x4000 ≤ a ∧ a < 0x4200 then decide (0x14 ≤ (a - 0x4000) % 0x20)
  else if 0x8000 ≤ a ∧ a < 0x9000 then windowHole (a - 0x8000)
  else true

/-- May the host not write a byte (R516, R517, R527). -/
def portReadOnly (a : Nat) : Bool :=
  if a < 0x100 then true
  else if 0x1000 ≤ a ∧ a < 0x3000 then decide (0x100 ≤ (a - 0x1000) % 0x200)
  else if 0x4000 ≤ a ∧ a < 0x4200 then (a - 0x4000) % 0x20 / 4 == 1
  else if 0x8000 ≤ a ∧ a < 0x9000 then decide (0x800 ≤ a - 0x8000) && decide (a - 0x8000 < 0xC18)
  else false

/-- Is a byte one of a register, which takes whole, aligned 4-byte writes (R517). -/
def isPortReg (a : Nat) : Bool := decide (0x4000 ≤ a)

/-- Do port hardware's own parts serve an address without a responder (R506): a read of the identity block, mailbox 15's inbound
buffer and its post. -/
def portHardware (a : Nat) : Bool :=
  decide (a < 0x100) || (decide (0x2E00 ≤ a) && decide (a < 0x2F00)) || (decide (0x41F0 ≤ a) && decide (a < 0x41F4))

/-- The refusals of touching an address, reading or writing (R506, R518, R522). -/
def State.touchCodes (s : State) (a : Nat) : List Code :=
  (if portHole a then [.hole] else if s.responder || portHardware a then [] else [.refusedState])
  ++ (match boxAt a with
    | some m => s.boxRefusals m false
    | none => [])

/-- The registers of a doorbell entry (R523). -/
def State.doorbellWord (s : State) (m : Fin 16) (i : Nat) : Word :=
  let b := s.box m
  match i with
  | 0 => b.inBits
  | 1 => b.inMask
  | 2 => b.outBits
  | 3 => b.outMask
  | _ => b.status m

/-- WSTATUS (R527). -/
def State.windowStatus (s : State) : Nat := b2n s.spi.pending * 2 ^ 31 + b2n s.spi.replyReady * 2 ^ 30 + s.spi.reply.length % 2 ^ 16

/-- The byte that a mailbox buffer shows: 0x00 outbound while nothing is posted (R520). -/
def State.boxByte (s : State) (m : Fin 16) (o : Nat) : Byte :=
  let b := s.box m
  if o < 0x100 then b.inBuf.toList.getD o 0 else if b.outFull then b.outBuf.toList.getD (o - 0x100) 0 else 0

/-- A byte of the port's address space; 0x00 in a hole, in a secure mailbox and of a write-only register. -/
def State.portByte (s : State) (a : Nat) : Byte :=
  if portHole a then 0
  else match boxAt a with
    | some m =>
      if m.val < 8 then 0
      else if isDoorbell a then
        (leBytes 4 (s.doorbellWord m ((a - 0x4000) % 0x20 / 4)).toNat).getD (a % 4) 0
      else s.boxByte m ((a - 0x1000) % 0x200)
    | none =>
      if a < 0x100 then s.identityBlock.getD a 0
      else
        let o := a - 0x8000
        if o < 0x418 then s.spi.req.toList.getD o 0
        else if o < 0xC18 then s.spi.reply.getD (o - 0x800) 0
        else if o < 0xFF4 then 0
        else (leBytes 4 s.windowStatus).getD (o - 0xFF4) 0

/-! ## Reads (R509, R517, R518) -/

/-- The codes of reading an address: those of touching it, EMPTY (R520), and REFUSED_STATE of mailbox 15's MSTATUS, of which port
hardware takes the post alone (R506, R522). -/
def State.readCodesAt (s : State) (a : Nat) : List Code :=
  s.touchCodes a ++ (if s.responder || ! (decide (0x41F0 ≤ a) && decide (a < 0x41F4)) then [] else [.refusedState]) ++ (match boxAt a with
    | some m => if ! isDoorbell a ∧ 0x100 ≤ (a - 0x1000) % 0x200 ∧ ! (s.box m).outFull then [.empty] else []
    | none => [])

/-- The bytes of a read and the codes met: past its block's end 0x00 and OVERRUN. -/
def State.portRead (s : State) (a n : Nat) : List (Byte × List Code) :=
  (List.range n).map fun i =>
    let x := (a + i) % 2 ^ 24
    if (match blockEnd a with
      | some e => decide (e < a + i)
      | none => false) then (0, [.overrun])
    else (s.portByte x, s.readCodesAt x)

/-- The refusals that keep a read from its data phase: the whole access is refused. -/
def readStops (cs : List Code) : Bool := cs.contains .domainOff || cs.contains .refusedState || cs.contains .badRange

/-- MBmm_REFUSED for each mailbox that an access touched (R529). -/
def State.boxesRefused (s : State) (a n : Nat) (codes : Nat → List Code) : State :=
  let boxes := ((List.range n).filterMap fun i => boxAt (a + i)).eraseDups
  boxes.foldl (fun (s : State) m =>
    let mine := ((List.range n).filter fun i => boxAt (a + i) == some m).flatMap fun i => codes (a + i)
    match Code.first mine with
    | some c => s.boxRefused m c
    | none => s) s

/-- Busy bytes of a read: port-hardware blocks take exactly one, others at least one (R509). -/
def SpiTx.busyBytes (t : SpiTx) (hardware : Bool) : Nat := if hardware then 1 else max 1 t.busy

/-- What is driven in a read after the command byte: header, busy, ready, data and CRC (R507, R508). -/
def spiReadOut (cmd : Byte) (t : SpiTx) (busy : Nat) (data : List Byte) : List Byte :=
  List.replicate 5 0xFF ++ List.replicate busy 0x3C ++ [0xC3] ++ data
    ++ beBytes 2 (crc16 (cmd :: (t.bytes.take 5 ++ data))).toNat

/-- A read that has run out of busy bytes: the timeout token, FRAME_ABORT and the flag (R509). -/
def State.spiTimeout (s : State) (t : SpiTx) : State :=
  s.spiTransaction t (List.replicate 5 0xFF ++ List.replicate 2048 0x3C ++ [0x0F]) fun s =>
    let s := { s with spi := { s.spi with timeouts := satInc 32 s.spi.timeouts } }
    let s := (s.spiMark 0x20 1394).spiEdges t t.bytes.length
    { s with spi := { s.spi with lastCode := .frameAbort } }

/-- A transaction whose header did not come whole: FRAME_ABORT. -/
def State.spiShort (s : State) (t : SpiTx) (n : Nat) : State := s.spiTransaction t [] fun s => s.spiEnd t n [] id

/-- READ 0x0B (R509, R517, R518). -/
def State.spiRead (s : State) (t : SpiTx) : State :=
  let a := t.field 0 3
  let n := t.field 3 2
  let hw := portHardware a
  if t.bytes.length < 5 then s.spiShort t 5
  else if ! hw ∧ 2048 < t.busy then s.spiTimeout t
  else
    let got := s.portRead a n
    let codes := (got.flatMap fun x => x.2) ++ (if n = 0 then [.badRange] else [])
    let busy := t.busyBytes hw
    if readStops codes then
      s.spiTransaction t [] fun s => (s.spiEnd t t.bytes.length codes id).boxesRefused a n s.readCodesAt
    else s.spiTransaction t (spiReadOut 0x0B t busy (got.map fun x => x.1)) fun s =>
      (s.spiEnd t (8 + busy + n) codes id).boxesRefused a n s.readCodesAt

/-- SPI_READ (R509). -/
def execSpiRead (tx : SpiTx) (s : State) : Host.Outcome State Fault Refusal := .next (s.spiRead tx)

/-- SPI_READ_TIMEOUT (R509). -/
def execSpiReadTimeout (tx : SpiTx) (s : State) : Host.Outcome State Fault Refusal := .next (s.spiTimeout tx)

/-- SPI_STATUS 0x05 (R507, R515). -/
def execSpiStatus (tx : SpiTx) (s : State) : Host.Outcome State Fault Refusal :=
  let b := s.spiStatusBytes
  .next (s.spiTransaction tx (b ++ beBytes 2 (crc16 (0x05 :: b)).toNat) fun s => s.spiEnd tx 6 [] id)

/-- The pattern of PORT_SYNC (R507). -/
def syncPattern : List Byte := [0x00, 0xFF, 0x55, 0xAA, 0x0F, 0xF0, 0x33, 0xCC]

/-- PORT_SYNC 0xF0 (R515): the flags and both counts clear. -/
def execPortSync (tx : SpiTx) (s : State) : Host.Outcome State Fault Refusal :=
  .next (s.spiTransaction tx (syncPattern ++ beBytes 2 (crc16 (0xF0 :: syncPattern)).toNat) fun s =>
    s.spiEnd tx 10 [] fun s => { s with spi := { s.spi with flags := 0, surplusCnt := 0, missingCnt := 0 } })

/-- SPI_UNKNOWN_COMMAND (R514). -/
def execSpiUnknownCommand (cmd : Byte) (tx : SpiTx) (s : State) : Host.Outcome State Fault Refusal :=
  .next (if [0x05, 0x0B, 0x02, 0x21, 0x5E, 0xF0].contains cmd then s else s.spiTransaction tx [] fun s =>
    let s := { s with spi := { s.spi with unknownCmds := satInc 32 s.spi.unknownCmds } }
    let s := (s.spiMark 0x02 1398).spiEdges tx tx.bytes.length
    { s with spi := { s.spi with lastCode := .frameAbort } })

/-! ## The Rill window (R527) -/

/-- The refusals of a submit. -/
def State.submitCodes (s : State) (len : Nat) : List Code :=
  (if s.spi.pending || s.spi.replyReady then [.busy] else []) ++ (if within 24 1048 len then [] else [.badRange])

/-- A submitted frame is a request of the port, never authorised. -/
def State.windowSubmit (s : State) (len : Nat) : State :=
  match rillOf (s.spi.req.toList.take len) with
  | some f => ({ s with spi := { s.spi with pending := true } }).rillRequest ⟨spiEndpoint, false⟩ f
  | none => s

/-- reply_ready written 1. -/
def State.windowClear (s : State) : State := { s with spi := { s.spi with replyReady := false } }

/-- RILL_WINDOW_SUBMIT (R527): a write of SUBMIT. -/
def execRillWindowSubmit (len : Word16) (s : State) : Host.Outcome State Fault Refusal :=
  let s := s.quiet
  .next (if ! s.portAnswers then s
    else match Code.first ((if s.responder then [] else [.refusedState]) ++ s.submitCodes len.toNat) with
      | some c => { s with spi := { s.spi with lastCode := c } }
      | none => { s.windowSubmit len.toNat with spi := { (s.windowSubmit len.toNat).spi with lastCode := .ok } })

/-- RILL_WINDOW_REPLY_CLEAR (R527): a write of 1 to reply_ready. -/
def execRillWindowReplyClear (s : State) : Host.Outcome State Fault Refusal :=
  .next (if ! s.portAnswers then s
    else if s.responder then { s.windowClear with spi := { s.windowClear.spi with lastCode := .ok } }
    else { s with spi := { s.spi with lastCode := .refusedState } })

/-! ## Writes (R510, R517, R518) -/

/-- The words of a run of bytes with their addresses. -/
def portWords (a : Nat) (data : List Byte) : List (Nat × Nat) :=
  (List.range (data.length / 4)).map fun i => (a + 4 * i, leNat ((data.drop (4 * i)).take 4))

/-- The refusals of the value of a register word: MSTATUS's in_len, SUBMIT (R520, R527). -/
def State.wordCodes (s : State) (a v : Nat) : List Code :=
  if isDoorbell a then
    match boxAt a with
    | some m =>
      let len := v % 512
      if (a - 0x4000) % 0x20 = 0x10 ∧ len ≠ 0 then (if 256 < len then [.badRange] else []) ++ (s.box m).fullCode else []
    | none => []
  else if a = 0x8FF0 then s.submitCodes (v % 65536) else []

/-- The refusals of a write at an address (R517, R518, R520). -/
def State.writeCodesAt (s : State) (a : Nat) : List Code :=
  s.touchCodes a ++ (if portReadOnly a then [.deniedAccess] else [])
  ++ (match boxAt a with
    | some m => if isDoorbell a then [] else (s.box m).fullCode
    | none => [])

/-- The refusals of a write as a whole (R507, R517). -/
def State.portWriteCodes (s : State) (a : Nat) (data : List Byte) : List Code :=
  let n := data.length
  if n = 0 then [.badRange]
  else match blockEnd a with
    | none => [.hole]
    | some e =>
      if e < a + n - 1 then [.overrun]
      else
        let aligned := a % 4 == 0 && n % 4 == 0
        ((List.range n).flatMap fun i => s.writeCodesAt (a + i))
        ++ (if ! isPortReg a then [] else if aligned then (portWords a data).flatMap fun w => s.wordCodes w.1 w.2 else [.badType])

/-- A word written to a register of a doorbell entry (R520, R521, R523). -/
def State.doorbellWrite (s : State) (m : Fin 16) (i : Nat) (v : Nat) : State :=
  let w : Word := BitVec.ofNat 32 v
  match i with
  | 0 => s.boxRing m w
  | 2 => s.boxOutClear m w
  | 3 => s.updBox m fun b => { b with outMask := w }
  | 4 =>
    let s := if w.getLsbD 30 then s.boxAck m else s
    if v % 512 = 0 then s else s.boxPost m (v % 512)
  | _ => s

/-- A word written to the Rill window. -/
def State.windowWrite (s : State) (o v : Nat) : State :=
  if o < 0x418 then { s with spi := { s.spi with req := putBytes s.spi.req o (leBytes 4 v) } }
  else if o = 0xFF0 then s.windowSubmit (v % 65536)
  else if v.testBit 30 then s.windowClear else s

/-- The effect of an accepted write. -/
def State.portWriteAct (s : State) (a : Nat) (data : List Byte) : State :=
  if isPortReg a then
    (portWords a data).foldl (fun (s : State) w => match boxAt w.1 with
      | some m => s.doorbellWrite m ((w.1 - 0x4000) % 0x20 / 4) w.2
      | none => s.windowWrite (w.1 - 0x8000) w.2) s
  else
    (List.range data.length).foldl (fun (s : State) i => match boxAt (a + i) with
      | some m => s.updBox m fun b => { b with inBuf := putBytes b.inBuf ((a + i - 0x1000) % 0x200) [data.getD i 0] }
      | none => s) s

/-- WRITE 0x02 (R510, R517, R518). A frame that ends early or fails its CRC is reported so, unless the domain it addresses is off (R11). -/
def State.spiWrite (s : State) (t : SpiTx) : State :=
  let a := t.field 0 3
  let n := t.field 3 2
  let data := (t.bytes.drop 5).take n
  if t.bytes.length < 5 then s.spiShort t 5
  else
    let form := t.crcCodes 0x02 (5 + n)
    let good := t.ended (7 + n) && form.isEmpty
    let codes := (s.portWriteCodes a data).filter fun c => good || c == .domainOff
    s.spiTransaction t [] fun s =>
      (s.spiEnd t (7 + n) (form ++ codes) fun s => s.portWriteAct a data).boxesRefused a (if good && ! codes.isEmpty then n else 0) s.writeCodesAt

/-- SPI_WRITE (R510). -/
def execSpiWrite (tx : SpiTx) (s : State) : Host.Outcome State Fault Refusal := .next (s.spiWrite tx)

/-- DOMAIN_OFF of the mailbox that a doorbell names, which comes before the form of its frame (R11). -/
def State.ringOff (s : State) (n : Nat) : List Code :=
  match finOf 16 n with
  | some m => if s.homeOn m then [] else [.domainOff]
  | none => []

/-- DOORBELL_SET 0x21 (R507, R518, R521). -/
def execDoorbellSet (tx : SpiTx) (s : State) : Host.Outcome State Fault Refusal :=
  let n := tx.field 0 1
  let mask : Word := BitVec.ofNat 32 (tx.field 1 4)
  let form := tx.crcCodes 0x21 5
  .next (s.spiTransaction tx [] fun s =>
    match if tx.ended 7 && form.isEmpty then finOf 16 n else none with
    | some m =>
      let codes := s.boxRefusals m false ++ (if s.responder then [] else [.refusedState])
      let s := s.spiEnd tx 7 codes fun s => s.boxRing m mask
      (match Code.first codes with
      | some c => s.boxRefused m c
      | none => s)
    | none => s.spiEnd tx 7 (form ++ if tx.ended 7 && form.isEmpty then [.hole] else s.ringOff n) id)

/-! ## Secure frames (R524) -/

/-- The refusals of a send: no responder, its length, its type, the message before it not yet taken in. -/
def State.sendCodes (s : State) (a n : Nat) (data : List Byte) : List Code :=
  (if a = 0 then [] else [.hole]) ++ (if 4352 < n then [.overrun] else []) ++ (if s.responder then [] else [.refusedState])
  ++ (if n = 0 ∨ ! (data.getD 0 0 == 5 || data.getD 0 0 == 6) then [.badRange] else [])
  ++ (if s.spi.sent.isSome then [.busy] else [])

/-- SECURE_FRAME_SEND (R524). -/
def execSecureFrameSend (tx : SpiTx) (s : State) : Host.Outcome State Fault Refusal :=
  let n := tx.field 3 2
  let data := (tx.bytes.drop 5).take n
  let form := tx.crcCodes 0x5E (5 + n)
  .next (if tx.bytes.length < 5 then s.spiShort tx 5
    else s.spiTransaction tx [] fun s =>
      s.spiEnd tx (7 + n) (form ++ if tx.ended (7 + n) && form.isEmpty then s.sendCodes (tx.field 0 3) n data else [])
        fun s => { s with spi := { s.spi with sent := some data } })

/-- The data of a receive of `n` bytes: M, then the message where it fits, 0x00 in the rest. -/
def State.receiveData (s : State) (n : Nat) : List Byte :=
  let m := s.spi.waiting.headD []
  let all := beBytes 2 m.length ++ (if m.length + 2 ≤ n then m else [])
  all.take n ++ List.replicate (n - all.length) 0

/-- SECURE_FRAME_RECEIVE (R524): the message is consumed where it was carried and the transaction ended whole. -/
def execSecureFrameReceive (tx : SpiTx) (s : State) : Host.Outcome State Fault Refusal :=
  let n := tx.field 3 2
  let busy := tx.busyBytes false
  let codes := (if tx.field 0 3 = 1 then [] else [Code.hole]) ++ (if s.responder then [] else [.refusedState])
    ++ (if n = 0 then [.badRange] else [])
  .next (if tx.bytes.length < 5 then s.spiShort tx 5
    else if 2048 < tx.busy then s.spiTimeout tx
    else if ! codes.isEmpty then s.spiTransaction tx [] fun s => s.spiEnd tx tx.bytes.length codes id
    else s.spiTransaction tx (spiReadOut 0x5E tx busy (s.receiveData n)) fun s =>
      s.spiEnd tx (8 + busy + n) [] fun s =>
        if (s.spi.waiting.headD []).length + 2 ≤ n then { s with spi := { s.spi with waiting := s.spi.waiting.drop 1 } } else s)

end Sys2Proof.Machine
end

