-- ==== Sys2Proof/Machine/Dispatch.lean ====
section
/-!
DEFINITION. The one dispatch of the commands: one arm for each constructor of Instr, a direct call of its meaning.
-/
namespace Sys2Proof.Machine

/-- The effect of a command on everything but the queue. -/
def exec (i : Instr) (s : State) : Host.Outcome State Fault Refusal :=
  match i with
  | .powerOnReset aonKept => Sys2Proof.Machine.execPowerOnReset aonKept s
  | .brownOut ns aonKept => Sys2Proof.Machine.execBrownOut ns aonKept s
  | .porstNRelease seg pos => Sys2Proof.Machine.execPorstNRelease seg pos s
  | .rootPllLock => Sys2Proof.Machine.execRootPllLock s
  | .bootFuseLoadDone crc => Sys2Proof.Machine.execBootFuseLoadDone crc s
  | .fuseBackgroundLoadDone => Sys2Proof.Machine.execFuseBackgroundLoadDone s
  | .missionCandidateJudged j => Sys2Proof.Machine.execMissionCandidateJudged j s
  | .handover => Sys2Proof.Machine.execHandover s
  | .bootTimerExpired => Sys2Proof.Machine.execBootTimerExpired s
  | .recoverInstall j => Sys2Proof.Machine.execRecoverInstall j s
  | .warmRestart crc => Sys2Proof.Machine.execWarmRestart crc s
  | .halfRestart h => Sys2Proof.Machine.execHalfRestart h s
  | .halfRestartEnd h => Sys2Proof.Machine.execHalfRestartEnd h s
  | .stewardClaim h claim epoch => Sys2Proof.Machine.execStewardClaim h claim epoch s
  | .stewardYield h => Sys2Proof.Machine.execStewardYield h s
  | .shadowDigestCheck off => Sys2Proof.Machine.execShadowDigestCheck off s
  | .tamperDetect sensor => Sys2Proof.Machine.execTamperDetect sensor s
  | .leveeSelftest core value => Sys2Proof.Machine.execLeveeSelftest core value s
  | .leveeSelftestDone passed => Sys2Proof.Machine.execLeveeSelftestDone passed s
  | .acfailAssert => Sys2Proof.Machine.execAcfailAssert s
  | .acfailDeassert => Sys2Proof.Machine.execAcfailDeassert s
  | .pwrokChange asserted => Sys2Proof.Machine.execPwrokChange asserted s
  | .freezeEnd => Sys2Proof.Machine.execFreezeEnd s
  | .busWindowTrip bus trip => Sys2Proof.Machine.execBusWindowTrip bus trip s
  | .dormantRequest who => Sys2Proof.Machine.execDormantRequest who s
  | .dormantOutputAssert h => Sys2Proof.Machine.execDormantOutputAssert h s
  | .dormantEntry => Sys2Proof.Machine.execDormantEntry s
  | .wake src => Sys2Proof.Machine.execWake src s
  | .lifecycleRequest who code burn => Sys2Proof.Machine.execLifecycleRequest who code burn s
  | .chtBaseWrite half value => Sys2Proof.Machine.execChtBaseWrite half value s
  | .chtInval half value => Sys2Proof.Machine.execChtInval half value s
  | .invalidateTaken loadPs => Sys2Proof.Machine.execInvalidateTaken loadPs s
  | .descReload c => Sys2Proof.Machine.execDescReload c s
  | .probeStepDone c r => Sys2Proof.Machine.execProbeStepDone c r s
  | .probeAttemptDone c => Sys2Proof.Machine.execProbeAttemptDone c s
  | .calibrationRecheck c passing => Sys2Proof.Machine.execCalibrationRecheck c passing s
  | .ioSupplySensed bank hostSide level => Sys2Proof.Machine.execIoSupplySensed bank hostSide level s
  | .mirctlTrain half => Sys2Proof.Machine.execMirctlTrain half s
  | .mirrorTrainDone o => Sys2Proof.Machine.execMirrorTrainDone o s
  | .fillLeaf c data => Sys2Proof.Machine.execFillLeaf c data s
  | .fillLeafDigests c leaf off ns => Sys2Proof.Machine.execFillLeafDigests c leaf off ns s
  | .fillDone c reject => Sys2Proof.Machine.execFillDone c reject s
  | .vpost h value => Sys2Proof.Machine.execVpost h value s
  | .holdOutputRelease h => Sys2Proof.Machine.execHoldOutputRelease h s
  | .holdRequest half h set => Sys2Proof.Machine.execHoldRequest half h set s
  | .grantWrite half h => Sys2Proof.Machine.execGrantWrite half h s
  | .senseInputChange inp level => Sys2Proof.Machine.execSenseInputChange inp level s
  | .senseLossHold h => Sys2Proof.Machine.execSenseLossHold h s
  | .senseTimeout h => Sys2Proof.Machine.execSenseTimeout h s
  | .loadSensing high1 high2 high3 => Sys2Proof.Machine.execLoadSensing high1 high2 high3 s
  | .puenSettled => Sys2Proof.Machine.execPuenSettled s
  | .planStageGenWrite half gen => Sys2Proof.Machine.execPlanStageGenWrite half gen s
  | .planGenWrite half gen => Sys2Proof.Machine.execPlanGenWrite half gen s
  | .planActivationTimeout => Sys2Proof.Machine.execPlanActivationTimeout s
  | .confirmDisarm half value => Sys2Proof.Machine.execConfirmDisarm half value s
  | .confirmTimerExpired => Sys2Proof.Machine.execConfirmTimerExpired s
  | .hostRead op => Sys2Proof.Machine.execHostRead op s
  | .fastRead op => Sys2Proof.Machine.execFastRead op s
  | .dualRead io op => Sys2Proof.Machine.execDualRead io op s
  | .quadRead io op => Sys2Proof.Machine.execQuadRead io op s
  | .octalRead op => Sys2Proof.Machine.execOctalRead op s
  | .octalDtrRead op => Sys2Proof.Machine.execOctalDtrRead op s
  | .readId tx len => Sys2Proof.Machine.execReadId tx len s
  | .readSfdp tx addr len => Sys2Proof.Machine.execReadSfdp tx addr len s
  | .readRegisters tx reg len => Sys2Proof.Machine.execReadRegisters tx reg len s
  | .writeEnable tx => Sys2Proof.Machine.execWriteEnable tx s
  | .writeDisable tx => Sys2Proof.Machine.execWriteDisable tx s
  | .writeRegisters tx w => Sys2Proof.Machine.execWriteRegisters tx w s
  | .enter4ByteMode tx => Sys2Proof.Machine.execEnter4ByteMode tx s
  | .exit4ByteMode tx => Sys2Proof.Machine.execExit4ByteMode tx s
  | .pageProgram tx opcode addr data => Sys2Proof.Machine.execPageProgram tx opcode addr data s
  | .erase4K tx opcode addr => Sys2Proof.Machine.execErase4K tx opcode addr s
  | .erase32K tx opcode addr => Sys2Proof.Machine.execErase32K tx opcode addr s
  | .erase64K tx opcode addr => Sys2Proof.Machine.execErase64K tx opcode addr s
  | .chipErase tx opcode => Sys2Proof.Machine.execChipErase tx opcode s
  | .programEraseSuspend tx opcode => Sys2Proof.Machine.execProgramEraseSuspend tx opcode s
  | .programEraseResume tx opcode => Sys2Proof.Machine.execProgramEraseResume tx opcode s
  | .resetEnable tx => Sys2Proof.Machine.execResetEnable tx s
  | .reset tx => Sys2Proof.Machine.execReset tx s
  | .deepPowerDown tx => Sys2Proof.Machine.execDeepPowerDown tx s
  | .releaseDeepPowerDown tx => Sys2Proof.Machine.execReleaseDeepPowerDown tx s
  | .unknownCommand tx opcode => Sys2Proof.Machine.execUnknownCommand tx opcode s
  | .csConflict p => Sys2Proof.Machine.execCsConflict p s
  | .hostReset p => Sys2Proof.Machine.execHostReset p s
  | .hostResetRelease p => Sys2Proof.Machine.execHostResetRelease p s
  | .prefetchLeafDone p c leaf fault => Sys2Proof.Machine.execPrefetchLeafDone p c leaf fault s
  | .holdLimitReached p => Sys2Proof.Machine.execHoldLimitReached p s
  | .refillDone c leaf src data => Sys2Proof.Machine.execRefillDone c leaf src data s
  | .lineRefillDone line pages => Sys2Proof.Machine.execLineRefillDone line pages s
  | .faultRateWindow => Sys2Proof.Machine.execFaultRateWindow s
  | .weirRefusalEnd c => Sys2Proof.Machine.execWeirRefusalEnd c s
  | .shadowedDurationEnd c => Sys2Proof.Machine.execShadowedDurationEnd c s
  | .journalFlashStart c => Sys2Proof.Machine.execJournalFlashStart c s
  | .flashStatusPoll c busy => Sys2Proof.Machine.execFlashStatusPoll c busy s
  | .journalReadbackDone c rb => Sys2Proof.Machine.execJournalReadbackDone c rb s
  | .mirrorResealDone => Sys2Proof.Machine.execMirrorResealDone s
  | .flashTimeout c => Sys2Proof.Machine.execFlashTimeout c s
  | .flashTimeoutReset c => Sys2Proof.Machine.execFlashTimeoutReset c s
  | .flashResetRecoveryEnd c => Sys2Proof.Machine.execFlashResetRecoveryEnd c s
  | .flashBusyGiveUp c => Sys2Proof.Machine.execFlashBusyGiveUp c s
  | .mutableLeafHashed c leaf => Sys2Proof.Machine.execMutableLeafHashed c leaf s
  | .mutableDigestRecompute c => Sys2Proof.Machine.execMutableDigestRecompute c s
  | .scrubLeaf c r => Sys2Proof.Machine.execScrubLeaf c r s
  | .repairUnitDone c flashFail before back off => Sys2Proof.Machine.execRepairUnitDone c flashFail before back off s
  | .repairRetry c => Sys2Proof.Machine.execRepairRetry c s
  | .noSourceReport c => Sys2Proof.Machine.execNoSourceReport c s
  | .chanCmdFill half c => Sys2Proof.Machine.execChanCmdFill half c s
  | .chanCmdToUpdating half c => Sys2Proof.Machine.execChanCmdToUpdating half c s
  | .chanCmdUpdateEnded half c => Sys2Proof.Machine.execChanCmdUpdateEnded half c s
  | .chanCmdToQuarantined half c => Sys2Proof.Machine.execChanCmdToQuarantined half c s
  | .chanCmdForcedScrub half c => Sys2Proof.Machine.execChanCmdForcedScrub half c s
  | .chanCmdRepair half c unit unitLen => Sys2Proof.Machine.execChanCmdRepair half c unit unitLen s
  | .pinLoad half value => Sys2Proof.Machine.execPinLoad half value s
  | .pinLoadDone fault => Sys2Proof.Machine.execPinLoadDone fault s
  | .hashQpush half addr => Sys2Proof.Machine.execHashQpush half addr s
  | .hashQpop half => Sys2Proof.Machine.execHashQpop half s
  | .hashDispatch half => Sys2Proof.Machine.execHashDispatch half s
  | .hashJobDone e ns => Sys2Proof.Machine.execHashJobDone e ns s
  | .hashCreditRefill => Sys2Proof.Machine.execHashCreditRefill s
  | .hashMedianWindow half => Sys2Proof.Machine.execHashMedianWindow half s
  | .hashFenceRetry e => Sys2Proof.Machine.execHashFenceRetry e s
  | .hashFenceRetryDone e digestOk ns => Sys2Proof.Machine.execHashFenceRetryDone e digestOk ns s
  | .verifyStageDone half t w => Sys2Proof.Machine.execVerifyStageDone half t w s
  | .channelUpdateVerified c => Sys2Proof.Machine.execChannelUpdateVerified c s
  | .durableWaitExpired t => Sys2Proof.Machine.execDurableWaitExpired t s
  | .landingDone c off => Sys2Proof.Machine.execLandingDone c off s
  | .switchUnitDone c flashFail back off => Sys2Proof.Machine.execSwitchUnitDone c flashFail back off s
  | .updateRetire t => Sys2Proof.Machine.execUpdateRetire t s
  | .updateFloor t burn => Sys2Proof.Machine.execUpdateFloor t burn s
  | .updateAbandon t code => Sys2Proof.Machine.execUpdateAbandon t code s
  | .gateRetry => Sys2Proof.Machine.execGateRetry s
  | .streamIdleExpired c => Sys2Proof.Machine.execStreamIdleExpired c s
  | .uploadStartTimeout c => Sys2Proof.Machine.execUploadStartTimeout c s
  | .uploadWaitExpired c => Sys2Proof.Machine.execUploadWaitExpired c s
  | .recoveryRun c j => Sys2Proof.Machine.execRecoveryRun c j s
  | .peerRecoveryTimeout c => Sys2Proof.Machine.execPeerRecoveryTimeout c s
  | .missionUpdateActivate => Sys2Proof.Machine.execMissionUpdateActivate s
  | .extensionUpdateApply readBackOk => Sys2Proof.Machine.execExtensionUpdateApply readBackOk s
  | .queryDeviceIdentifiers who => Sys2Proof.Machine.execQueryDeviceIdentifiers who s
  | .getFirmwareParameters who => Sys2Proof.Machine.execGetFirmwareParameters who s
  | .requestUpdate who maxTransfer => Sys2Proof.Machine.execRequestUpdate who maxTransfer s
  | .passComponentTable who component => Sys2Proof.Machine.execPassComponentTable who component s
  | .updateComponent who component imageSize => Sys2Proof.Machine.execUpdateComponent who component imageSize s
  | .firmwareDataResponse who completion data => Sys2Proof.Machine.execFirmwareDataResponse who completion data s
  | .firmwareDataTimeout => Sys2Proof.Machine.execFirmwareDataTimeout s
  | .activateFirmware who => Sys2Proof.Machine.execActivateFirmware who s
  | .getStatus who => Sys2Proof.Machine.execGetStatus who s
  | .cancelUpdateComponent who => Sys2Proof.Machine.execCancelUpdateComponent who s
  | .cancelUpdate who => Sys2Proof.Machine.execCancelUpdate who s
  | .pldmUnsupportedCmd who command => Sys2Proof.Machine.execPldmUnsupportedCmd who command s
  | .cisternInit half => Sys2Proof.Machine.execCisternInit half s
  | .cisternInitDone o => Sys2Proof.Machine.execCisternInitDone o s
  | .cisternQpop half => Sys2Proof.Machine.execCisternQpop half s
  | .cisternRead half cmd => Sys2Proof.Machine.execCisternRead half cmd s
  | .cisternProgram half cmd => Sys2Proof.Machine.execCisternProgram half cmd s
  | .cisternErase half cmd => Sys2Proof.Machine.execCisternErase half cmd s
  | .cisternEncode half cmd => Sys2Proof.Machine.execCisternEncode half cmd s
  | .cisternDecode half cmd => Sys2Proof.Machine.execCisternDecode half cmd s
  | .cisternPatrolRead half cmd => Sys2Proof.Machine.execCisternPatrolRead half cmd s
  | .cisternParameterPage half cmd => Sys2Proof.Machine.execCisternParameterPage half cmd s
  | .cisternCmdDone o => Sys2Proof.Machine.execCisternCmdDone o s
  | .catalogueCommitDone okA okB => Sys2Proof.Machine.execCatalogueCommitDone okA okB s
  | .goldenWrite t container => Sys2Proof.Machine.execGoldenWrite t container s
  | .patrolPeriod => Sys2Proof.Machine.execPatrolPeriod s
  | .laggardWindow => Sys2Proof.Machine.execLaggardWindow s
  | .replaceWaitExpired device => Sys2Proof.Machine.execReplaceWaitExpired device s
  | .orphanKeepExpired => Sys2Proof.Machine.execOrphanKeepExpired s
  | .shardReassemblyDone t shards j => Sys2Proof.Machine.execShardReassemblyDone t shards j s
  | .fillRemap p => Sys2Proof.Machine.execFillRemap p s
  | .pakorLinkTrainStep l step ok => Sys2Proof.Machine.execPakorLinkTrainStep l step ok s
  | .pakorLinkUp l oneLane => Sys2Proof.Machine.execPakorLinkUp l oneLane s
  | .pakorTrainRetry l => Sys2Proof.Machine.execPakorTrainRetry l s
  | .pakorLinkDown l => Sys2Proof.Machine.execPakorLinkDown l s
  | .pakorCrcRetrain l worse => Sys2Proof.Machine.execPakorCrcRetrain l worse s
  | .hello f device lane sameAsLane0 mode id ringOk => Sys2Proof.Machine.execHello f device lane sameAsLane0 mode id ringOk s
  | .handshake f msg chain => Sys2Proof.Machine.execHandshake f msg chain s
  | .linkTest f rtt copper => Sys2Proof.Machine.execLinkTest f rtt copper s
  | .beacon f b => Sys2Proof.Machine.execBeacon f b s
  | .claim f m => Sys2Proof.Machine.execClaim f m s
  | .leave f => Sys2Proof.Machine.execLeave f s
  | .holdings f shards => Sys2Proof.Machine.execHoldings f shards s
  | .shardOffer f number h => Sys2Proof.Machine.execShardOffer f number h s
  | .shardGrant f number code => Sys2Proof.Machine.execShardGrant f number code s
  | .shardData f number offset data => Sys2Proof.Machine.execShardData f number offset data s
  | .shardAck f number code => Sys2Proof.Machine.execShardAck f number code s
  | .shardReq f ownerId target svn root index => Sys2Proof.Machine.execShardReq f ownerId target svn root index s
  | .rillFrame f r => Sys2Proof.Machine.execRillFrame f r s
  | .rillReplyFrame f tag reply => Sys2Proof.Machine.execRillReplyFrame f tag reply s
  | .beaconSend => Sys2Proof.Machine.execBeaconSend s
  | .beaconRefresh half => Sys2Proof.Machine.execBeaconRefresh half s
  | .beaconStale => Sys2Proof.Machine.execBeaconStale s
  | .memberAbsenceTimeout device => Sys2Proof.Machine.execMemberAbsenceTimeout device s
  | .masterClaimStart cascade => Sys2Proof.Machine.execMasterClaimStart cascade s
  | .pakorRekey l msgs chain => Sys2Proof.Machine.execPakorRekey l msgs chain s
  | .shardTransferStall number outgoing => Sys2Proof.Machine.execShardTransferStall number outgoing s
  | .pakorQpush half cmd => Sys2Proof.Machine.execPakorQpush half cmd s
  | .pakorRxpop half => Sys2Proof.Machine.execPakorRxpop half s
  | .forwardTimeout endpoint tag => Sys2Proof.Machine.execForwardTimeout endpoint tag s
  | .disturbanceEnd input cls start durUs extremeMv meanMv => Sys2Proof.Machine.execDisturbanceEnd input cls start durUs extremeMv meanMv s
  | .holdupTestStep => Sys2Proof.Machine.execHoldupTestStep s
  | .huCtl core value => Sys2Proof.Machine.execHuCtl core value s
  | .holdupStepDone x => Sys2Proof.Machine.execHoldupStepDone x s
  | .holdupEstimate busMv busMa => Sys2Proof.Machine.execHoldupEstimate busMv busMa s
  | .psuPoll psu arbLost ans => Sys2Proof.Machine.execPsuPoll psu arbLost ans s
  | .psuClearFaults who psu => Sys2Proof.Machine.execPsuClearFaults who psu s
  | .measOverrun core => Sys2Proof.Machine.execMeasOverrun core s
  | .generate half cmd => Sys2Proof.Machine.execGenerate half cmd s
  | .derive half cmd => Sys2Proof.Machine.execDerive half cmd s
  | .extract half cmd => Sys2Proof.Machine.execExtract half cmd s
  | .expand half cmd => Sys2Proof.Machine.execExpand half cmd s
  | .invalidate half cmd => Sys2Proof.Machine.execInvalidate half cmd s
  | .loadPke half cmd => Sys2Proof.Machine.execLoadPke half cmd s
  | .storePke half cmd => Sys2Proof.Machine.execStorePke half cmd s
  | .hmac half cmd => Sys2Proof.Machine.execHmac half cmd s
  | .wrap half cmd => Sys2Proof.Machine.execWrap half cmd s
  | .unwrap half cmd => Sys2Proof.Machine.execUnwrap half cmd s
  | .kvOrphanSweep => Sys2Proof.Machine.execKvOrphanSweep s
  | .rootLock half => Sys2Proof.Machine.execRootLock half s
  | .testSecret half => Sys2Proof.Machine.execTestSecret half s
  | .fuseRead half priv word => Sys2Proof.Machine.execFuseRead half priv word s
  | .fuseMargin half priv word => Sys2Proof.Machine.execFuseMargin half priv word s
  | .fuseProgram half priv word burn => Sys2Proof.Machine.execFuseProgram half priv word burn s
  | .fuseReburn half priv word burn => Sys2Proof.Machine.execFuseReburn half priv word burn s
  | .fuseLock half region burn => Sys2Proof.Machine.execFuseLock half region burn s
  | .fuseRedirect half word burn => Sys2Proof.Machine.execFuseRedirect half word burn s
  | .genSecret half burn => Sys2Proof.Machine.execGenSecret half burn s
  | .fuseReload half priv word => Sys2Proof.Machine.execFuseReload half priv word s
  | .fuseOverrideWrite half value => Sys2Proof.Machine.execFuseOverrideWrite half value s
  | .fuseOverrideClear half value => Sys2Proof.Machine.execFuseOverrideClear half value s
  | .mac half hi lo => Sys2Proof.Machine.execMac half hi lo s
  | .vmac half hi lo => Sys2Proof.Machine.execVmac half hi lo s
  | .jobOpen half hi lo => Sys2Proof.Machine.execJobOpen half hi lo s
  | .jobClose half hi lo => Sys2Proof.Machine.execJobClose half hi lo s
  | .jobEnd half => Sys2Proof.Machine.execJobEnd half s
  | .jobOverrun half => Sys2Proof.Machine.execJobOverrun half s
  | .spongeInit half hi lo => Sys2Proof.Machine.execSpongeInit half hi lo s
  | .spongeAbsorb half hi lo => Sys2Proof.Machine.execSpongeAbsorb half hi lo s
  | .spongeSqueeze half hi lo => Sys2Proof.Machine.execSpongeSqueeze half hi lo s
  | .spongeSample half hi lo => Sys2Proof.Machine.execSpongeSample half hi lo s
  | .pkeAbort half => Sys2Proof.Machine.execPkeAbort half s
  | .pkeOperandRead half addr => Sys2Proof.Machine.execPkeOperandRead half addr s
  | .pkeSlotCfgWrite half slot value => Sys2Proof.Machine.execPkeSlotCfgWrite half slot value s
  | .nop k => Sys2Proof.Machine.execNop k s
  | .dup k => Sys2Proof.Machine.execDup k s
  | .drop k => Sys2Proof.Machine.execDrop k s
  | .swap k => Sys2Proof.Machine.execSwap k s
  | .over k => Sys2Proof.Machine.execOver k s
  | .rot k => Sys2Proof.Machine.execRot k s
  | .pick k n => Sys2Proof.Machine.execPick k n s
  | .tor k => Sys2Proof.Machine.execTor k s
  | .fromr k => Sys2Proof.Machine.execFromr k s
  | .rcopy k => Sys2Proof.Machine.execRcopy k s
  | .depth k => Sys2Proof.Machine.execDepth k s
  | .lit8 k f => Sys2Proof.Machine.execLit8 k f s
  | .lit k imm => Sys2Proof.Machine.execLit k imm s
  | .litu k imm => Sys2Proof.Machine.execLitu k imm s
  | .ori k imm => Sys2Proof.Machine.execOri k imm s
  | .addi k imm => Sys2Proof.Machine.execAddi k imm s
  | .add k => Sys2Proof.Machine.execAdd k s
  | .sub k => Sys2Proof.Machine.execSub k s
  | .andI k => Sys2Proof.Machine.execAndI k s
  | .orI k => Sys2Proof.Machine.execOrI k s
  | .xorI k => Sys2Proof.Machine.execXorI k s
  | .notI k => Sys2Proof.Machine.execNotI k s
  | .negI k => Sys2Proof.Machine.execNegI k s
  | .shl k => Sys2Proof.Machine.execShl k s
  | .shr k => Sys2Proof.Machine.execShr k s
  | .sar k => Sys2Proof.Machine.execSar k s
  | .shli k n => Sys2Proof.Machine.execShli k n s
  | .shri k n => Sys2Proof.Machine.execShri k n s
  | .sari k n => Sys2Proof.Machine.execSari k n s
  | .eqI k => Sys2Proof.Machine.execEqI k s
  | .neI k => Sys2Proof.Machine.execNeI k s
  | .ltI k => Sys2Proof.Machine.execLtI k s
  | .ltuI k => Sys2Proof.Machine.execLtuI k s
  | .leI k => Sys2Proof.Machine.execLeI k s
  | .leuI k => Sys2Proof.Machine.execLeuI k s
  | .eqzI k => Sys2Proof.Machine.execEqzI k s
  | .mul k => Sys2Proof.Machine.execMul k s
  | .mulh k => Sys2Proof.Machine.execMulh k s
  | .mulhu k => Sys2Proof.Machine.execMulhu k s
  | .ldw k d => Sys2Proof.Machine.execLdw k d s
  | .ldh k d => Sys2Proof.Machine.execLdh k d s
  | .ldhu k d => Sys2Proof.Machine.execLdhu k d s
  | .ldb k d => Sys2Proof.Machine.execLdb k d s
  | .ldbu k d => Sys2Proof.Machine.execLdbu k d s
  | .stw k d => Sys2Proof.Machine.execStw k d s
  | .sth k d => Sys2Proof.Machine.execSth k d s
  | .stb k d => Sys2Proof.Machine.execStb k d s
  | .ldr k d => Sys2Proof.Machine.execLdr k d s
  | .stc k d rivals => Sys2Proof.Machine.execStc k d rivals s
  | .fence k => Sys2Proof.Machine.execFence k s
  | .bz k o => Sys2Proof.Machine.execBz k o s
  | .bnz k o => Sys2Proof.Machine.execBnz k o s
  | .bra k o => Sys2Proof.Machine.execBra k o s
  | .bsr k o => Sys2Proof.Machine.execBsr k o s
  | .jmp k => Sys2Proof.Machine.execJmp k s
  | .jsr k => Sys2Proof.Machine.execJsr k s
  | .ret k => Sys2Proof.Machine.execRet k s
  | .tret k => Sys2Proof.Machine.execTret k s
  | .svc k n => Sys2Proof.Machine.execSvc k n s
  | .breakI k n => Sys2Proof.Machine.execBreakI k n s
  | .waitI k => Sys2Proof.Machine.execWaitI k s
  | .fmac k a sub => Sys2Proof.Machine.execFmac k a sub s
  | .pmac k a sub => Sys2Proof.Machine.execPmac k a sub s
  | .aclr k a => Sys2Proof.Machine.execAclr k a s
  | .ald k a => Sys2Proof.Machine.execAld k a s
  | .fsto k a => Sys2Proof.Machine.execFsto k a s
  | .fstoh k a => Sys2Proof.Machine.execFstoh k a s
  | .ard k a part => Sys2Proof.Machine.execArd k a part s
  | .awr k a => Sys2Proof.Machine.execAwr k a s
  | .emulateTrap k p => Sys2Proof.Machine.execEmulateTrap k p s
  | .eventInterrupt k => Sys2Proof.Machine.execEventInterrupt k s
  | .coreAlertWrite k value => Sys2Proof.Machine.execCoreAlertWrite k value s
  | .eventPendingClear core e raising => Sys2Proof.Machine.execEventPendingClear core e raising s
  | .eventCfgWrite core e value => Sys2Proof.Machine.execEventCfgWrite core e value s
  | .swtrig core value => Sys2Proof.Machine.execSwtrig core value s
  | .wdogKick core g => Sys2Proof.Machine.execWdogKick core g s
  | .wdogArm core g value => Sys2Proof.Machine.execWdogArm core g value s
  | .watchdogExpired g => Sys2Proof.Machine.execWatchdogExpired g s
  | .generalTimerExpired t => Sys2Proof.Machine.execGeneralTimerExpired t s
  | .domReq core value tied => Sys2Proof.Machine.execDomReq core value tied s
  | .domainSwitchDone => Sys2Proof.Machine.execDomainSwitchDone s
  | .clockMonitorWindow w => Sys2Proof.Machine.execClockMonitorWindow w s
  | .mboxTake core m value => Sys2Proof.Machine.execMboxTake core m value s
  | .mboxPost core m value acked => Sys2Proof.Machine.execMboxPost core m value acked s
  | .mboxInClear core m mask ringing => Sys2Proof.Machine.execMboxInClear core m mask ringing s
  | .mboxOutSet core m mask => Sys2Proof.Machine.execMboxOutSet core m mask s
  | .mboxInboundPost m p taken => Sys2Proof.Machine.execMboxInboundPost m p taken s
  | .mboxOutAck m src posted => Sys2Proof.Machine.execMboxOutAck m src posted s
  | .mboxOutClear m src mask setting => Sys2Proof.Machine.execMboxOutClear m src mask setting s
  | .mboxInRing m src mask => Sys2Proof.Machine.execMboxInRing m src mask s
  | .spiStatus tx => Sys2Proof.Machine.execSpiStatus tx s
  | .spiRead tx => Sys2Proof.Machine.execSpiRead tx s
  | .spiWrite tx => Sys2Proof.Machine.execSpiWrite tx s
  | .doorbellSet tx => Sys2Proof.Machine.execDoorbellSet tx s
  | .secureFrameSend tx => Sys2Proof.Machine.execSecureFrameSend tx s
  | .secureFrameReceive tx => Sys2Proof.Machine.execSecureFrameReceive tx s
  | .portSync tx => Sys2Proof.Machine.execPortSync tx s
  | .spiUnknownCommand cmd tx => Sys2Proof.Machine.execSpiUnknownCommand cmd tx s
  | .spiReadTimeout tx => Sys2Proof.Machine.execSpiReadTimeout tx s
  | .rillWindowSubmit len => Sys2Proof.Machine.execRillWindowSubmit len s
  | .rillWindowReplyClear => Sys2Proof.Machine.execRillWindowReplyClear s
  | .rillRead who f => Sys2Proof.Machine.execRillRead who f s
  | .rillWrite who f => Sys2Proof.Machine.execRillWrite who f s
  | .readBlock who f => Sys2Proof.Machine.execReadBlock who f s
  | .writeBlock who f => Sys2Proof.Machine.execWriteBlock who f s
  | .list who f => Sys2Proof.Machine.execList who f s
  | .subscribe who f => Sys2Proof.Machine.execSubscribe who f s
  | .notify endpoint index sub => Sys2Proof.Machine.execNotify endpoint index sub s
  | .rillFinalReply endpoint code => Sys2Proof.Machine.execRillFinalReply endpoint code s
  | .blockTransferStall endpoint index sub => Sys2Proof.Machine.execBlockTransferStall endpoint index sub s
  | .snapshotExpired endpoint tag => Sys2Proof.Machine.execSnapshotExpired endpoint tag s
  | .extensionCallTimeout endpoint tag index sub => Sys2Proof.Machine.execExtensionCallTimeout endpoint tag index sub s
  | .chanStateWrite who c value => Sys2Proof.Machine.execChanStateWrite who c value s
  | .channelConfigWrite who c sub value => Sys2Proof.Machine.execChannelConfigWrite who c sub value s
  | .releasePlanWrite who value => Sys2Proof.Machine.execReleasePlanWrite who value s
  | .holdRequestWrite who h value => Sys2Proof.Machine.execHoldRequestWrite who h value s
  | .ownerRevokeRequest who slot burn => Sys2Proof.Machine.execOwnerRevokeRequest who slot burn s
  | .svnAdvanceRequest who sub burn => Sys2Proof.Machine.execSvnAdvanceRequest who sub burn s
  | .streamCommit who c => Sys2Proof.Machine.execStreamCommit who c s
  | .streamAbandon who c => Sys2Proof.Machine.execStreamAbandon who c s
  | .imageUploadSegment who t offset total last data => Sys2Proof.Machine.execImageUploadSegment who t offset total last data s
  | .ownerDigestWrite who slot digest burn => Sys2Proof.Machine.execOwnerDigestWrite who slot digest burn s
  | .ownerLockRequest who slot burn => Sys2Proof.Machine.execOwnerLockRequest who slot burn s
  | .trustListWrite who value => Sys2Proof.Machine.execTrustListWrite who value s
  | .getVersion who msg => Sys2Proof.Machine.execGetVersion who msg s
  | .getCapabilities who msg => Sys2Proof.Machine.execGetCapabilities who msg s
  | .negotiateAlgorithms who msg => Sys2Proof.Machine.execNegotiateAlgorithms who msg s
  | .getDigests who msg => Sys2Proof.Machine.execGetDigests who msg s
  | .getCertificate who msg => Sys2Proof.Machine.execGetCertificate who msg s
  | .challenge who msg => Sys2Proof.Machine.execChallenge who msg s
  | .getMeasurements who msg => Sys2Proof.Machine.execGetMeasurements who msg s
  | .keyExchange who msg => Sys2Proof.Machine.execKeyExchange who msg s
  | .finish who session msg chain => Sys2Proof.Machine.execFinish who session msg chain s
  | .endSession who session msg => Sys2Proof.Machine.execEndSession who session msg s
  | .respondIfReady who msg => Sys2Proof.Machine.execRespondIfReady who msg s
  | .chunkSend who msg => Sys2Proof.Machine.execChunkSend who msg s
  | .chunkGet who msg => Sys2Proof.Machine.execChunkGet who msg s
  | .getCosig who msg => Sys2Proof.Machine.execGetCosig who msg s
  | .pushCosig who session msg => Sys2Proof.Machine.execPushCosig who session msg s
  | .spdmUnsupportedRequest who msg => Sys2Proof.Machine.execSpdmUnsupportedRequest who msg s
  | .spdmSignatureReady => Sys2Proof.Machine.execSpdmSignatureReady s
  | .securedRecord endpoint record => Sys2Proof.Machine.execSecuredRecord endpoint record s
  | .sessionIdleExpired session => Sys2Proof.Machine.execSessionIdleExpired session s
  | .setEndpointId eid => Sys2Proof.Machine.execSetEndpointId eid s
  | .getEndpointId => Sys2Proof.Machine.execGetEndpointId s
  | .getMctpVersionSupport => Sys2Proof.Machine.execGetMctpVersionSupport s
  | .getMessageTypeSupport => Sys2Proof.Machine.execGetMessageTypeSupport s
  | .registerWrite core addr value => Sys2Proof.Machine.execRegisterWrite core addr value s
  | .resealLineDone bad => Sys2Proof.Machine.execResealLineDone bad s
  | .suspendLatencyEnd c => Sys2Proof.Machine.execSuspendLatencyEnd c s
  | .senseLossLatchClear h => Sys2Proof.Machine.execSenseLossLatchClear h s
  | .pakorQpop half => Sys2Proof.Machine.execPakorQpop half s
  | .cisternEccMaxRead half => Sys2Proof.Machine.execCisternEccMaxRead half s
  | .timeLoRead core => Sys2Proof.Machine.execTimeLoRead core s
  | .dramRefreshRateChange => Sys2Proof.Machine.execDramRefreshRateChange s
  | .i3cDynamicAddressAssignment addr => Sys2Proof.Machine.execI3cDynamicAddressAssignment addr s
  | .smbusClockLowTimeout => Sys2Proof.Machine.execSmbusClockLowTimeout s
  | .mctpAssemblyFail endpoint => Sys2Proof.Machine.execMctpAssemblyFail endpoint s
  | .psuBusIdleRetry psu arbLost ans => Sys2Proof.Machine.execPsuBusIdleRetry psu arbLost ans s

end Sys2Proof.Machine
end

