-- ==== Sys2Proof/WellFormed.lean ====
section
/-!
DEFINITION. Well-formed commands: those that the interfaces can bring. The fields of a frame, a register or a wire fit their
widths; what the device computes from its own state (a leaf, a time) is bound by nothing here.
-/
namespace Sys2Proof
open Machine

/-- Does `v` fit `n` bits. -/
def fits (n v : Nat) : Bool := decide (v < 2 ^ n)

/-- An endpoint of the management transports (17 R501): the I3C and SMBus endpoints, the SPI register window and its secure frames,
a segment member. -/
def endpointOk (e : Nat) : Bool := decide (e < 0x200 ∨ e = 0x200 ∨ e = 0x201 ∨ (0x300 ≤ e ∧ e < 0x320))

/-- A requester names an endpoint. -/
def Machine.Requester.ok (w : Requester) : Bool := endpointOk w.endpoint

/-- A host transaction has a clock (03 R71). -/
def Machine.HostTx.ok (t : HostTx) : Bool := decide (0 < t.sckPs)

/-- A host read's transaction and address: in 4-byte mode the three-byte opcodes take four address bytes too (03 R77). -/
def Machine.HostReadOp.ok (o : HostReadOp) : Bool := o.tx.ok && fits 32 o.addr

/-- The opcode is one of those the row lists (03 R77). -/
def opcodeIn (ops : List Nat) (b : Byte) : Bool := ops.elem b.toNat

/-- A wait field that a configuration write sets comes from one byte (03 R77). -/
def Machine.RegWrite.ok (w : RegWrite) : Bool := w.wait.all (fits 8)

/-- The fields of a Rill frame fit their places (17 R491), and its data is at most 1,024 bytes long. -/
def Machine.RillReq.ok (f : RillReq) : Bool :=
  fits 8 f.version && fits 8 f.op && fits 16 f.index && fits 8 f.sub && fits 8 f.status && fits 16 f.rsv && fits 32 f.offset &&
    fits 16 f.length && fits 32 f.total && decide (f.data.length ≤ 1024)

/-- The header fields of a received Pakor frame fit their places (10 R279). -/
def Machine.FrameIn.ok (f : FrameIn) : Bool := fits 8 f.src && fits 8 f.dst && fits 8 f.hops

/-- The fields of a BEACON fit their places (10 R283). -/
def Machine.Beacon.ok (b : Beacon) : Bool :=
  fits 8 b.mode && fits 8 b.segMaster && fits 8 b.cascadeMaster && fits 32 b.segEpoch && fits 32 b.cascadeEpoch && fits 32 b.seq

/-- The fields of a CLAIM fit their places (10 R283). -/
def Machine.ClaimMsg.ok (m : ClaimMsg) : Bool := fits 8 m.claimant && fits 8 m.rank && fits 32 m.epoch && fits 32 m.seq

/-- The fields of a shard header fit their places (09 R254). -/
def Machine.ShardHead.ok (h : ShardHead) : Bool :=
  fits 8 h.k && fits 8 h.m && fits 8 h.index && fits 8 h.owner && fits 8 h.target && fits 32 h.containerLength &&
    fits 32 h.ownerHandle && fits 32 h.svn && fits 32 h.shardLength

/-- The fields of a Cistern command fit their places (09 R270), and its op is the row's. -/
def Machine.CisCmd.ok (op : Nat) (c : CisCmd) : Bool :=
  c.op == op && fits 8 c.cls && fits 16 c.tag && fits 8 c.target && fits 8 c.flags && fits 16 c.pages && fits 32 c.row &&
    fits 32 c.dram && fits 32 c.length && fits 8 c.k && fits 8 c.m && fits 16 c.missing && fits 32 c.shardBase && fits 32 c.stride

/-- The fields of a Pakor send command fit their places (10 R304). -/
def Machine.SendCmd.ok (c : SendCmd) : Bool :=
  fits 8 c.type && fits 8 c.cls && fits 16 c.tag && fits 8 c.dst && fits 8 c.flags && fits 32 c.src && fits 16 c.length

/-- The fields of a key-vault command block fit their places (13 R372). -/
def Machine.KvCmd.ok (c : KvCmd) : Bool :=
  fits 8 c.owner && fits 16 c.length && fits 32 c.src && fits 32 c.srcLen && fits 32 c.dst && fits 32 c.dstLen

/-- A burn leaves no bit that reads 1 tightly and 0 loosely (14 R404): the tight reading is the harder one to reach. -/
def Machine.BurnOutcome.ok (b : BurnOutcome) : Bool := b.tight &&& b.loose == b.tight

/-- A mailbox message is at most 256 bytes long (18 R519); in_len has 16 bits (18 R528). -/
def Machine.MboxPost.ok : MboxPost → Bool
  | .port len => fits 16 len
  | .rill who data => who.ok && decide (data.length ≤ 256)

/-- Who acts on a mailbox from outside. -/
def Machine.MboxFrom.ok : MboxFrom → Bool
  | .port => true
  | .rill who => who.ok

/-- The voltages of a disturbance record have 16 bits each, its duration 32 (11 R325, 17 R575). -/
def disturbOk (durUs extremeMv meanMv : Nat) : Bool := fits 32 durUs && fits 16 extremeMv && fits 16 meanMv

/-- PICK reaches S0 to S62 (16 R454). -/
def pickOk (n : Byte) : Bool := decide (n.toNat ≤ 62)

/-- A value or a message is no longer than its object, frame or command allows. -/
def dataOk {α : Type} (max : Nat) (data : List α) : Bool := decide (data.length ≤ max)

/-- The two dictionary keys of a request fit their places (17 R478). -/
def keyOk (index sub : Nat) : Bool := fits 16 index && fits 8 sub


/-- Can the interfaces bring the command. One arm for each constructor. -/
def wellFormed (i : Instr) : Bool :=
  match i with
  | .powerOnReset _ => true
  | .brownOut _ _ => true
  | .porstNRelease _ _ => true
  | .rootPllLock => true
  | .bootFuseLoadDone _ => true
  | .fuseBackgroundLoadDone => true
  | .missionCandidateJudged _ => true
  | .handover => true
  | .bootTimerExpired => true
  | .recoverInstall _ => true
  | .warmRestart _ => true
  | .halfRestart _ => true
  | .halfRestartEnd _ => true
  | .stewardClaim _ _ _ => true
  | .stewardYield _ => true
  | .shadowDigestCheck _ => true
  | .tamperDetect _ => true
  | .leveeSelftest _ _ => true
  | .leveeSelftestDone _ => true
  | .acfailAssert => true
  | .acfailDeassert => true
  | .pwrokChange _ => true
  | .freezeEnd => true
  | .busWindowTrip _ _ => true
  | .dormantRequest who => who.ok
  | .dormantOutputAssert _ => true
  | .dormantEntry => true
  | .wake _ => true
  | .lifecycleRequest who _ burn => who.ok && burn.ok
  | .chtBaseWrite _ _ => true
  | .chtInval _ _ => true
  | .invalidateTaken _ => true
  | .descReload _ => true
  | .probeStepDone _ _ => true
  | .probeAttemptDone _ => true
  | .calibrationRecheck _ _ => true
  | .ioSupplySensed _ _ _ => true
  | .mirctlTrain _ => true
  | .mirrorTrainDone _ => true
  | .fillLeaf _ data => dataOk 4096 data
  | .fillLeafDigests _ _ _ _ => true
  | .fillDone _ _ => true
  | .vpost _ _ => true
  | .holdOutputRelease _ => true
  | .holdRequest _ _ _ => true
  | .grantWrite _ _ => true
  | .senseInputChange _ _ => true
  | .senseLossHold _ => true
  | .senseTimeout _ => true
  | .loadSensing _ _ _ => true
  | .puenSettled => true
  | .planStageGenWrite _ _ => true
  | .planGenWrite _ _ => true
  | .planActivationTimeout => true
  | .confirmDisarm _ _ => true
  | .confirmTimerExpired => true
  | .hostRead op => op.ok
  | .fastRead op => op.ok
  | .dualRead _ op => op.ok
  | .quadRead _ op => op.ok
  | .octalRead op => op.ok
  | .octalDtrRead op => op.ok
  | .readId tx _ => tx.ok
  | .readSfdp tx addr _ => tx.ok && fits 24 addr
  | .readRegisters tx _ _ => tx.ok
  | .writeEnable tx => tx.ok
  | .writeDisable tx => tx.ok
  | .writeRegisters tx w => tx.ok && w.ok
  | .enter4ByteMode tx => tx.ok
  | .exit4ByteMode tx => tx.ok
  | .pageProgram tx _ addr data => tx.ok && fits 32 addr && dataOk 256 data
  | .erase4K tx opcode addr => tx.ok && opcodeIn [0x20, 0x21] opcode && fits 32 addr
  | .erase32K tx opcode addr => tx.ok && opcodeIn [0x52, 0x5C] opcode && fits 32 addr
  | .erase64K tx opcode addr => tx.ok && opcodeIn [0xD8, 0xDC] opcode && fits 32 addr
  | .chipErase tx opcode => tx.ok && opcodeIn [0x60, 0xC7] opcode
  | .programEraseSuspend tx opcode => tx.ok && opcodeIn [0x75, 0xB0] opcode
  | .programEraseResume tx opcode => tx.ok && opcodeIn [0x7A, 0x30] opcode
  | .resetEnable tx => tx.ok
  | .reset tx => tx.ok
  | .deepPowerDown tx => tx.ok
  | .releaseDeepPowerDown tx => tx.ok
  | .unknownCommand tx _ => tx.ok
  | .csConflict _ => true
  | .hostReset _ => true
  | .hostResetRelease _ => true
  | .prefetchLeafDone _ _ _ _ => true
  | .holdLimitReached _ => true
  | .refillDone _ _ _ data => dataOk 4096 data
  | .lineRefillDone _ pages => dataOk 64 pages && pages.all fun p => dataOk 4096 p.data
  | .faultRateWindow => true
  | .weirRefusalEnd _ => true
  | .shadowedDurationEnd _ => true
  | .journalFlashStart _ => true
  | .flashStatusPoll _ _ => true
  | .journalReadbackDone _ _ => true
  | .mirrorResealDone => true
  | .flashTimeout _ => true
  | .flashTimeoutReset _ => true
  | .flashResetRecoveryEnd _ => true
  | .flashBusyGiveUp _ => true
  | .mutableLeafHashed _ _ => true
  | .mutableDigestRecompute _ => true
  | .scrubLeaf _ _ => true
  | .repairUnitDone _ _ before back _ => dataOk 65536 before && dataOk 65536 back
  | .repairRetry _ => true
  | .noSourceReport _ => true
  | .chanCmdFill _ _ => true
  | .chanCmdToUpdating _ _ => true
  | .chanCmdUpdateEnded _ _ => true
  | .chanCmdToQuarantined _ _ => true
  | .chanCmdForcedScrub _ _ => true
  | .chanCmdRepair _ _ _ _ => true
  | .pinLoad _ _ => true
  | .pinLoadDone _ => true
  | .hashQpush _ _ => true
  | .hashQpop _ => true
  | .hashDispatch _ => true
  | .hashJobDone _ _ => true
  | .hashCreditRefill => true
  | .hashMedianWindow _ => true
  | .hashFenceRetry _ => true
  | .hashFenceRetryDone _ _ _ => true
  | .verifyStageDone _ _ _ => true
  | .channelUpdateVerified _ => true
  | .durableWaitExpired _ => true
  | .landingDone _ _ => true
  | .switchUnitDone _ _ back _ => dataOk 65536 back
  | .updateRetire _ => true
  | .updateFloor _ burn => burn.ok
  | .updateAbandon _ _ => true
  | .gateRetry => true
  | .streamIdleExpired _ => true
  | .uploadStartTimeout _ => true
  | .uploadWaitExpired _ => true
  | .recoveryRun _ _ => true
  | .peerRecoveryTimeout _ => true
  | .missionUpdateActivate => true
  | .extensionUpdateApply _ => true
  | .queryDeviceIdentifiers who => who.ok
  | .getFirmwareParameters who => who.ok
  | .requestUpdate who maxTransfer => who.ok && fits 32 maxTransfer
  | .passComponentTable who _ => who.ok
  | .updateComponent who _ imageSize => who.ok && fits 32 imageSize
  | .firmwareDataResponse who completion _ => who.ok && fits 8 completion
  | .firmwareDataTimeout => true
  | .activateFirmware who => who.ok
  | .getStatus who => who.ok
  | .cancelUpdateComponent who => who.ok
  | .cancelUpdate who => who.ok
  | .pldmUnsupportedCmd who _ => who.ok
  | .cisternInit _ => true
  | .cisternInitDone _ => true
  | .cisternQpop _ => true
  | .cisternRead _ cmd => cmd.ok 1
  | .cisternProgram _ cmd => cmd.ok 2
  | .cisternErase _ cmd => cmd.ok 3
  | .cisternEncode _ cmd => cmd.ok 4
  | .cisternDecode _ cmd => cmd.ok 5
  | .cisternPatrolRead _ cmd => cmd.ok 6
  | .cisternParameterPage _ cmd => cmd.ok 7
  | .cisternCmdDone _ => true
  | .catalogueCommitDone _ _ => true
  | .goldenWrite _ _ => true
  | .patrolPeriod => true
  | .laggardWindow => true
  | .replaceWaitExpired _ => true
  | .orphanKeepExpired => true
  | .shardReassemblyDone _ _ _ => true
  | .fillRemap _ => true
  | .pakorLinkTrainStep _ _ _ => true
  | .pakorLinkUp _ _ => true
  | .pakorTrainRetry _ => true
  | .pakorLinkDown _ => true
  | .pakorCrcRetrain _ _ => true
  | .hello f device _ _ mode _ _ => f.ok && fits 8 device && fits 8 mode
  | .handshake f msg chain => f.ok && dataOk 4096 msg && dataOk 65536 chain
  | .linkTest f rtt _ => f.ok && fits 24 rtt
  | .beacon f b => f.ok && b.ok
  | .claim f m => f.ok && m.ok
  | .leave f => f.ok
  | .holdings f _ => f.ok
  | .shardOffer f number h => f.ok && h.ok && fits 32 number
  | .shardGrant f number _ => f.ok && fits 32 number
  | .shardData f number offset data => f.ok && fits 32 number && fits 32 offset && data.length == 4096
  | .shardAck f number _ => f.ok && fits 32 number
  | .shardReq f _ target svn _ index => f.ok && fits 8 target && fits 32 svn && fits 8 index
  | .rillFrame f r => f.ok && r.ok
  | .rillReplyFrame f tag reply => f.ok && fits 8 tag && dataOk 4096 reply
  | .beaconSend => true
  | .beaconRefresh _ => true
  | .beaconStale => true
  | .memberAbsenceTimeout _ => true
  | .masterClaimStart _ => true
  | .pakorRekey _ _ chain => dataOk 65536 chain
  | .shardTransferStall _ _ => true
  | .pakorQpush _ cmd => cmd.ok
  | .pakorRxpop _ => true
  | .forwardTimeout endpoint tag => endpointOk endpoint && fits 8 tag
  | .disturbanceEnd _ _ _ durUs extremeMv meanMv => disturbOk durUs extremeMv meanMv
  | .holdupTestStep => true
  | .huCtl _ _ => true
  | .holdupStepDone _ => true
  | .holdupEstimate busMv busMa => fits 16 busMv && fits 16 busMa
  | .psuPoll _ _ _ => true
  | .psuClearFaults who _ => who.ok
  | .measOverrun _ => true
  | .generate _ cmd => cmd.ok
  | .derive _ cmd => cmd.ok
  | .extract _ cmd => cmd.ok
  | .expand _ cmd => cmd.ok
  | .invalidate _ cmd => cmd.ok
  | .loadPke _ cmd => cmd.ok
  | .storePke _ cmd => cmd.ok
  | .hmac _ cmd => cmd.ok
  | .wrap _ cmd => cmd.ok
  | .unwrap _ cmd => cmd.ok
  | .kvOrphanSweep => true
  | .rootLock _ => true
  | .testSecret _ => true
  | .fuseRead _ _ _ => true
  | .fuseMargin _ _ _ => true
  | .fuseProgram _ _ _ burn => burn.ok
  | .fuseReburn _ _ _ burn => burn.ok
  | .fuseLock _ _ burn => burn.ok
  | .fuseRedirect _ _ burn => burn.ok
  | .genSecret _ burn => burn.ok
  | .fuseReload _ _ _ => true
  | .fuseOverrideWrite _ _ => true
  | .fuseOverrideClear _ _ => true
  | .mac _ _ _ => true
  | .vmac _ _ _ => true
  | .jobOpen _ _ _ => true
  | .jobClose _ _ _ => true
  | .jobEnd _ => true
  | .jobOverrun _ => true
  | .spongeInit _ _ _ => true
  | .spongeAbsorb _ _ _ => true
  | .spongeSqueeze _ _ _ => true
  | .spongeSample _ _ _ => true
  | .pkeAbort _ => true
  | .pkeOperandRead _ _ => true
  | .pkeSlotCfgWrite _ _ _ => true
  | .nop _ => true
  | .dup _ => true
  | .drop _ => true
  | .swap _ => true
  | .over _ => true
  | .rot _ => true
  | .pick _ n => pickOk n
  | .tor _ => true
  | .fromr _ => true
  | .rcopy _ => true
  | .depth _ => true
  | .lit8 _ _ => true
  | .lit _ _ => true
  | .litu _ _ => true
  | .ori _ _ => true
  | .addi _ _ => true
  | .add _ => true
  | .sub _ => true
  | .andI _ => true
  | .orI _ => true
  | .xorI _ => true
  | .notI _ => true
  | .negI _ => true
  | .shl _ => true
  | .shr _ => true
  | .sar _ => true
  | .shli _ _ => true
  | .shri _ _ => true
  | .sari _ _ => true
  | .eqI _ => true
  | .neI _ => true
  | .ltI _ => true
  | .ltuI _ => true
  | .leI _ => true
  | .leuI _ => true
  | .eqzI _ => true
  | .mul _ => true
  | .mulh _ => true
  | .mulhu _ => true
  | .ldw _ _ => true
  | .ldh _ _ => true
  | .ldhu _ _ => true
  | .ldb _ _ => true
  | .ldbu _ _ => true
  | .stw _ _ => true
  | .sth _ _ => true
  | .stb _ _ => true
  | .ldr _ _ => true
  | .stc _ _ _ => true
  | .fence _ => true
  | .bz _ _ => true
  | .bnz _ _ => true
  | .bra _ _ => true
  | .bsr _ _ => true
  | .jmp _ => true
  | .jsr _ => true
  | .ret _ => true
  | .tret _ => true
  | .svc _ _ => true
  | .breakI _ _ => true
  | .waitI _ => true
  | .fmac _ _ _ => true
  | .pmac _ _ _ => true
  | .aclr _ _ => true
  | .ald _ _ => true
  | .fsto _ _ => true
  | .fstoh _ _ => true
  | .ard _ _ _ => true
  | .awr _ _ => true
  | .emulateTrap _ p => p.reserved
  | .eventInterrupt _ => true
  | .coreAlertWrite _ _ => true
  | .eventPendingClear _ _ _ => true
  | .eventCfgWrite _ _ _ => true
  | .swtrig _ _ => true
  | .wdogKick _ _ => true
  | .wdogArm _ _ _ => true
  | .watchdogExpired _ => true
  | .generalTimerExpired _ => true
  | .domReq _ _ _ => true
  | .domainSwitchDone => true
  | .clockMonitorWindow _ => true
  | .mboxTake _ _ _ => true
  | .mboxPost _ _ _ _ => true
  | .mboxInClear _ _ _ _ => true
  | .mboxOutSet _ _ _ => true
  | .mboxInboundPost _ p _ => p.ok
  | .mboxOutAck _ src _ => src.ok
  | .mboxOutClear _ src _ _ => src.ok
  | .mboxInRing _ src _ => src.ok
  | .spiStatus _ => true
  | .spiRead _ => true
  | .spiWrite _ => true
  | .doorbellSet _ => true
  | .secureFrameSend _ => true
  | .secureFrameReceive _ => true
  | .portSync _ => true
  | .spiUnknownCommand _ _ => true
  | .spiReadTimeout _ => true
  | .rillWindowSubmit _ => true
  | .rillWindowReplyClear => true
  | .rillRead who f => who.ok && f.ok
  | .rillWrite who f => who.ok && f.ok
  | .readBlock who f => who.ok && f.ok
  | .writeBlock who f => who.ok && f.ok
  | .list who f => who.ok && f.ok
  | .subscribe who f => who.ok && f.ok
  | .notify endpoint index sub => endpointOk endpoint && keyOk index sub
  | .rillFinalReply endpoint _ => endpointOk endpoint
  | .blockTransferStall endpoint index sub => endpointOk endpoint && keyOk index sub
  | .snapshotExpired endpoint _ => endpointOk endpoint
  | .extensionCallTimeout endpoint _ index sub => endpointOk endpoint && keyOk index sub
  | .chanStateWrite who _ _ => who.ok
  | .channelConfigWrite who _ _ _ => who.ok
  | .releasePlanWrite who _ => who.ok
  | .holdRequestWrite who _ _ => who.ok
  | .ownerRevokeRequest who _ burn => who.ok && burn.ok
  | .svnAdvanceRequest who _ burn => who.ok && burn.ok
  | .streamCommit who _ => who.ok
  | .streamAbandon who _ => who.ok
  | .imageUploadSegment who _ offset total _ data => who.ok && fits 32 offset && fits 32 total && dataOk 1024 data
  | .ownerDigestWrite who _ _ burn => who.ok && burn.ok
  | .ownerLockRequest who _ burn => who.ok && burn.ok
  | .trustListWrite who _ => who.ok
  | .getVersion who msg => who.ok && dataOk 65536 msg
  | .getCapabilities who msg => who.ok && dataOk 65536 msg
  | .negotiateAlgorithms who msg => who.ok && dataOk 65536 msg
  | .getDigests who msg => who.ok && dataOk 65536 msg
  | .getCertificate who msg => who.ok && dataOk 65536 msg
  | .challenge who msg => who.ok && dataOk 65536 msg
  | .getMeasurements who msg => who.ok && dataOk 65536 msg
  | .keyExchange who msg => who.ok && dataOk 65536 msg
  | .finish who session msg chain => who.ok && fits 32 session && dataOk 65536 msg && dataOk 65536 chain
  | .endSession who session msg => who.ok && fits 32 session && dataOk 65536 msg
  | .respondIfReady who msg => who.ok && dataOk 65536 msg
  | .chunkSend who msg => who.ok && dataOk 65536 msg
  | .chunkGet who msg => who.ok && dataOk 65536 msg
  | .getCosig who msg => who.ok && dataOk 65536 msg
  | .pushCosig who session msg => who.ok && fits 32 session && dataOk 65536 msg
  | .spdmUnsupportedRequest who msg => who.ok && dataOk 65536 msg
  | .spdmSignatureReady => true
  | .securedRecord endpoint record => endpointOk endpoint && dataOk 4352 record
  | .sessionIdleExpired session => fits 32 session
  | .setEndpointId _ => true
  | .getEndpointId => true
  | .getMctpVersionSupport => true
  | .getMessageTypeSupport => true
  | .registerWrite _ addr _ => addr.toNat % 4 == 0
  | .resealLineDone _ => true
  | .suspendLatencyEnd _ => true
  | .senseLossLatchClear _ => true
  | .pakorQpop _ => true
  | .cisternEccMaxRead _ => true
  | .timeLoRead _ => true
  | .dramRefreshRateChange => true
  | .i3cDynamicAddressAssignment _ => true
  | .smbusClockLowTimeout => true
  | .mctpAssemblyFail endpoint => endpointOk endpoint
  | .psuBusIdleRetry _ _ _ => true

end Sys2Proof
end

