-- ==== Sys2Proof/Safety.lean ====
section
/-!
DEFINITION. What counts as a safe state and a safe step, and the words in which the statements are made.
-/
namespace Sys2Proof.Machine

/-! ## Safe states -/

/-- The memory list keeps its canonical form: addresses rise strictly and no entry equals what an unlisted address reads as. -/
def State.memoryCanonical (s : State) : Prop := Memory.wf s.mem = true

/-- A core's stacks lie within the sizes that the hardware has: 64 data cells and 32 return entries (16 R449, R452). -/
def Core.sized (q : Core) : Bool :=
  decide (q.depth ≤ 64) && decide (q.rdepth ≤ 32) && decide (q.dlimit ≤ 64) && decide (q.rlimit ≤ 32)

/-- Every core's stacks do. -/
def State.stacksSized (s : State) : Prop := ∀ k : CoreId, (s.core k).sized = true

/-- A descriptor's mirror page and leaf count fit the fields that hold them (04 R90). -/
def Desc.fits (d : Desc) : Bool := decide (d.mirrorPage < 2 ^ 32) && decide (d.leafCount < 2 ^ 32)

/-- So do those of the descriptor that a channel's port has cached and of the one it is loading, and its pin list's slots (05 R144). -/
def Chan.fits (ch : Chan) : Bool :=
  ch.desc.fits && (ch.staged.map fun x => x.desc.fits).getD true && ch.pins.all fun p => decide (p.2 < 2 ^ 16)

/-- Every channel's do. -/
def State.chansFit (s : State) : Prop := ∀ c : ChanId, (s.chan c).fits = true

/-- No output is released after a step that was not before (11 R316): what every step but HOLD_OUTPUT_RELEASE keeps. -/
def State.releasesNothing (s t : State) : Prop := ∀ h : OutId, t.outReleased h = true → s.outReleased h = true

/-! ## Outcomes -/

/-- The outcome is a next state with the property. -/
def Completes (r : Host.Outcome State Fault Refusal) (P : State → Prop) : Prop := ∃ t, r = .next t ∧ P t

/-- A dictionary write by the requester is taken (R51, R481, R485, R496, R503): the device answers, and neither the write's class, its
persistence, the mode, the channel's state nor the object's own conditions refuse it. -/
def State.takesWrite (s : State) (who : Requester) (acc : Access) (p : Bool) (index sub : Nat) (c : Option ChanId) (own : List Code) : Bool :=
  s.answers who && (Code.first (s.writeRefusals who acc p index sub c ++ own)).isNone

/-- Only the pending bits of the events named are raised; every other bit is as it was (R531). -/
def State.raisesOnly (s t : State) (es : List Nat) : Prop :=
  ∀ n : Nat, n < 1536 → t.isPending n = (s.isPending n || es.contains n)

/-! ## The Brixxel core -/

/-- The core as an instruction of one (`long = false`) or two parcels finds it: results that are due have landed, and the return
address of a delay slot is settled (16 R460, R462). -/
def State.found (s : State) (k : CoreId) (long : Bool) : Core := ({ s.core k with waiting := false }.landDue).settleLink long

/-- Where the core goes on after an instruction of `len` bytes: past it, or where the branch before a delay slot leads (16 R461). -/
def Core.following (q : Core) (len : Nat) : Word :=
  match q.slot with
  | some d => d.dest.getD (q.pc + BitVec.ofNat 32 len)
  | none => q.pc + BitVec.ofNat 32 len

/-- The core executes an instruction that needs `need` cells, takes `pops` and gives `pushes`, and needs `rneed` return entries and
gives `rpushes` (16 R451, R452, R468, R471): it is released, not halted, and not kept waiting by WAIT; it may fetch the parcels; a
control instruction stands in no delay slot; a supervisor instruction finds supervisor privilege; and the stacks hold what it
takes and have room for what it gives. -/
def State.executes (s : State) (k : CoreId) (long : Bool) (need pops pushes : Nat) (rneed rpushes : Nat) (control sup : Bool) : Bool :=
  let q := s.found k long
  (s.core k).runs && ! s.stalls k && q.right q.pc.toNat 2 && (! long || q.right (q.pc + 2).toNat 2)
    && ! (control && q.slot.isSome) && ! (sup && q.ext) && decide (need ≤ q.depth)
    && (decide (pushes ≤ pops) || decide (q.depth - pops + pushes ≤ q.dmax)) && decide (rneed ≤ q.rdepth)
    && (decide (rpushes = 0) || decide (q.rdepth + rpushes ≤ q.rmax))

/-- The same of an instruction that leaves the return stack alone and may stand anywhere. -/
def State.executesPlain (s : State) (k : CoreId) (long : Bool) (need pops pushes : Nat) : Bool :=
  s.executes k long need pops pushes 0 0 false false

/-- A pending result one instruction nearer its landing (16 R462). -/
def Pend.nearer (p : Pend) : Pend := { p with left := p.left - 1 }

/-- `c` has, above the cells that `q` keeps below `pops` taken ones, the cells `outs`, S0 first (16 R450). -/
def StackGives (q c : Core) (pops : Nat) (outs : List Word) : Prop :=
  c.depth = q.depth - pops + outs.length ∧ (∀ i, i < outs.length → c.S i = outs.getD i 0) ∧
    ∀ i, outs.length ≤ i → i < c.depth → c.S i = q.S (i - outs.length + pops)

/-- The instruction completes: of the whole device only core `k` changes; it goes on past the `len` bytes, leaves a slot if it was
in one, brings its pending results nearer and adds `more`; its data stack gives `outs` for `pops`; of the rest of the core only what
`rest` says changes. `rest` is given the core found and the core left. -/
def Computes (s : State) (k : CoreId) (long : Bool) (pops : Nat) (outs : List Word) (more : List Pend) (rest : Core → Core → Prop)
    (r : Host.Outcome State Fault Refusal) : Prop :=
  Completes r fun t =>
    let q := s.found k long
    let c := t.core k
    t = { s with cores := vset s.cores k c } ∧ StackGives q c pops outs ∧ c.pend = q.pend.map Pend.nearer ++ more ∧ rest q c

/-- Nothing else of the core changes, and it goes on past the `len` bytes of the instruction. -/
def NothingElse (len : Nat) (q c : Core) : Prop :=
  c = { q with dstack := c.dstack, depth := c.depth, pend := c.pend, pc := q.following len, slot := none }

/-- An entry of the return stack by position, 0 the bottom (16 R449). -/
def Core.rAt (q : Core) (i : Nat) : Word := if h : i < 32 then q.rstack[i]'h else 0

/-- Nothing else of the core changes but the return stack, whose entries below `kept` stay (16 R454). -/
def ReturnStack (len kept rdepth : Nat) (q c : Core) : Prop :=
  c = { q with dstack := c.dstack, depth := c.depth, pend := c.pend, pc := q.following len, slot := none, rstack := c.rstack, rdepth := rdepth }
    ∧ ∀ i, i < kept → c.rAt i = q.rAt i

/-- Where a branch comes to be: its slot is next, at the address behind it, and `dest` says where the core goes on after the slot. -/
def Branches (len : Nat) (dest : Option Word) (link : Bool) (q c : Core) : Prop :=
  c = { q with dstack := c.dstack, depth := c.depth, pend := c.pend, pc := q.pc + BitVec.ofNat 32 len, slot := some ⟨dest, link⟩,
               rstack := c.rstack, rdepth := c.rdepth }

/-- The access of a core reaches secure SRAM outside the log ring and nothing refuses it (16 R455, R456, R469; 01 R30, R31). -/
def State.sramAccess (s : State) (k : CoreId) (write : Bool) (q : Core) (a n : Nat) : Bool :=
  a % n == 0 && q.dataOk a (b2n write) && (match areaOf a with
    | some (.sram _) => ! inRing a
    | _ => false) && (s.busRefusal k write a).isNone

/-- The device after a store of core `k` to secure SRAM: memory, the cores (a reservation of the granule goes, 16 R458) and the model's
own outputs apart, nothing changes; only core `k` changes further. The bytes outside the `n` stored keep their content. -/
def Stores (s t : State) (k : CoreId) (a n v : Nat) : Prop :=
  t = { s with cores := t.cores, mem := t.mem, pak := { s.pak with sent := t.pak.sent }, rill := { s.rill with out := t.rill.out } } ∧
    t.load a n = v % 2 ^ (8 * n) ∧ (∀ b, (b < a ∨ a + n ≤ b) → t.byte b = s.byte b) ∧
    ∀ j : CoreId, j ≠ k → t.core j = { s.core j with resv := keptReservation a n (s.core j).resv }

/-- The core traps instead of executing (16 R471, R472): neither stack's depth changes, results pending land, the reservation goes, it
is supervisor with the trap active, TRAPPC is `pc`, and it goes on at the vector of the cause. -/
def Traps (s : State) (k : CoreId) (long : Bool) (c : Cause) (pc : Core → Word) (r : Host.Outcome State Fault Refusal) : Prop :=
  Completes r fun t =>
    let q := s.found k long
    let d := t.core k
    t = { s with cores := vset s.cores k d, free := t.free } ∧ d.depth = q.depth ∧ d.rdepth = q.rdepth ∧ d.dstack = q.landAll.dstack ∧
      d.rstack = q.rstack ∧ d.acc = q.landAll.acc ∧ d.pend = [] ∧ d.resv = none ∧ d.ext = false ∧ d.active = true ∧ d.slot = none ∧
      d.trapPc = pc q ∧ bitsOf d.trapInfo.toNat 24 4 = c.num ∧ d.trapInfo.getLsbD 29 = q.ext ∧ d.trapInfo.getLsbD 30 = q.slot.isSome ∧
      d.pc = q.imageBase + BitVec.ofNat 32 c.vector

/-- The core is up to an instruction that traps: released, not halted, not kept waiting, no trap active, the parcels fetchable. -/
def State.upTo (s : State) (k : CoreId) (long : Bool) : Bool :=
  let q := s.found k long
  (s.core k).runs && ! s.stalls k && ! q.active && q.right q.pc.toNat 2 && (! long || q.right (q.pc + 2).toNat 2)

end Sys2Proof.Machine
end

