-- ==== Sys2Proof/Certificates/Slice0/Obligations.lean ====
section
/-!
DEFINITION. The statements for the provers, each a proposition about the machine that formalises rules of spec/.
-/
section
open Sys2Proof Sys2Proof.Machine

/-- Where the channel is served, no host reset is held, deep power-down is not emulated and the command is framed as the emulated mode asks
(a read without an opcode in a continuous read, any other with one), a read that the port lists, outside a strobe mode and with no fault
on the way, drives for each address its content where it is ready when due and 0xFF where not; memory outside the prefetch buffers and the
Headgate stay. A read it does not list, one framed otherwise, and an unknown command drive nothing and are counted. READ_ID, READ_SFDP and
READ_REGISTERS drive the captured, the constructed and the emulated bytes. A channel that is not served is ignored. The prefetch that is
due brings its leaf into a buffer, and the hold limit starts a held read. -/
def Obligations.HostReads : Prop :=
  ∀ (s : State) (tx : HostTx),
    let c := tx.chan
    let takes : Prop := (s.chan c).state.served = true ∧ (s.port tx.port).hreset = false ∧ (s.chan c).dpd = false
    let framed (noOpcode : Bool) : Prop := (s.chan c).contRead = noOpcode ∧ tx.framing = (s.chan c).protocol
    let drives (t : State) (bs : List Byte) : Prop := (t.port tx.port).dq = bs ∧ t.hg = s.hg
    let unknown (t : State) : Prop := drives t [] ∧ (t.port tx.port).unkCnt = satInc 32 (s.port tx.port).unkCnt ∧ t.mem = s.mem ∧
      t.isPending (portEvent tx.port 6) = true
    let outside (t : State) : Prop := ∀ a : Nat, (a < 0x11340000 ∨ 0x11380000 ≤ a) → t.byte a = s.byte a
    let sc := s.servingChan c
    let reads (k : ReadKind) (quad : Bool) (op : HostReadOp) (r : Host.Outcome State Fault Refusal) : Prop :=
      let listed := sc.readListed k quad op.fourByte (s.port tx.port).hostIo && (! op.noOpcode || k == .quadIo)
      ((s.chan c).state.served = false ∨ (s.port tx.port).hreset = true →
        Completes r fun t => drives t [] ∧ t.mem = s.mem ∧ t.chans = s.chans) ∧
      (takes → (s.chan c).contRead = false → ¬ framed op.noOpcode → Completes r unknown) ∧
      (takes → framed op.noOpcode → listed = false → Completes r unknown) ∧
      (takes → framed op.noOpcode → listed = true → s.extends_ c k = false → op.fault = none → op.linkEcc = false → op.pinEcc = false →
        (s.dramLeaves c sc op).all (fun l => ! s.leafFails sc l) = true →
        Completes r fun t => outside t ∧ drives t ((readAddrs sc op).zipIdx.map fun x =>
          if readyBy (s.readyAt c sc op x.1) (dueAt k tx.sckPs (sc.effWait k) x.2) then s.contentAt c sc x.1 else 0xFF))
    (∀ op : HostReadOp, op.tx = tx →
      reads .read false op (exec (.hostRead op) s) ∧
      (∀ k : ReadKind, fastKind (s.chan c).protocol = some k → reads k false op (exec (.fastRead op) s)) ∧
      (fastKind (s.chan c).protocol = none → takes → framed false → Completes (exec (.fastRead op) s) unknown) ∧
      reads .dualOut false op (exec (.dualRead false op) s) ∧ reads .dualIo false op (exec (.dualRead true op) s) ∧
      reads .quadOut true op (exec (.quadRead false op) s) ∧
      reads (quadIoKind (s.chan c).protocol) true op (exec (.quadRead true op) s) ∧
      reads .octal false op (exec (.octalRead op) s) ∧ reads .octalDtr false op (exec (.octalDtrRead op) s)) ∧
    (takes → framed false →
      (∀ len : Nat, Completes (exec (.readId tx len) s) fun t => t.mem = s.mem ∧
        drives t ((List.range len).map fun i => (s.chan c).idBytes.getD i 0xFF)) ∧
      (∀ addr len : Nat, Completes (exec (.readSfdp tx addr len) s) fun t =>
        drives t ((List.range len).map fun i => if 4096 ≤ addr + i then 0xFF else (s.chan c).persSfdp.getD (addr + i) 0) ∧
        ((s.chan c).desc.policy ≠ 1 → (t.chan c).native = false)) ∧
      (∀ (o : Byte) (len : Nat), Completes (exec (.readRegisters tx (.config o) len) s) fun t => t.mem = s.mem ∧
        drives t (List.replicate len ((s.chan c).regByte o))) ∧
      (∀ len : Nat, Completes (exec (.readRegisters tx .status len) s) fun t => t.mem = s.mem ∧
        drives t (List.replicate len ((s.chan c).regByte 0x05))) ∧
      (∀ opcode : Byte, Completes (exec (.unknownCommand tx opcode) s) unknown)) ∧
    (∀ leaf : Nat, (s.port tx.port).fetchDue = some ⟨c, leaf⟩ → (s.chan c).state.served = true →
      (s.chan c).faulted.contains leaf = false → (s.chan c).lost.contains leaf = false → s.leafFails (s.chan c) leaf = false →
      Completes (exec (.prefetchLeafDone tx.port c leaf none) s) fun t => outside t ∧ (t.port tx.port).fetchDue = none ∧ t.hg = s.hg ∧
        ∃ i : Fin 2, (t.port tx.port).buffers[i] = some ⟨c, leaf⟩ ∧ ∀ j : Nat, j < 4096 →
          t.byte (bufferAddr tx.port i + j) = s.byte (dramBase + ((s.chan c).desc.mirrorPage + leaf) * 4096 + j)) ∧
    (∀ h : HeldRead, (s.port tx.port).held = some h → h.op.tx.port = tx.port → Completes (exec (.holdLimitReached tx.port) s) fun t =>
      (t.port tx.port).held = none ∧ t.time = max s.time (h.dueAt + (s.port tx.port).limitPs / 1000) ∧ t.mem = s.mem ∧ t.hg = s.hg ∧
      (t.port tx.port).dq.length = h.op.len)

/-- A whole command to a served channel, framed as the emulated mode asks, sets or clears the write latch, the 4-byte mode, deep power-down or the reset's arming, each its own
field alone; where the real part has such a mode; a register write that the latch allows and WP_N does not keep out changes the volatile fields and clears the latch; RESET after RESET_ENABLE returns the
emulation to the real part's power-on state, and without it changes none. A command that ends off a byte boundary is only counted. A chip
select conflict ends what the port holds; the host reset's release lets commands in again. No output changes with any of them. -/
def Obligations.EmulatedState : Prop :=
  ∀ (s : State) (tx : HostTx),
    let c := tx.chan
    let ch := s.chan c
    (ch.state.served = true → (s.port tx.port).hreset = false → ch.contRead = false → tx.framing = ch.protocol →
      let ok (r : Host.Outcome State Fault Refusal) (f : Chan → Chan) : Prop := Completes r fun t =>
        t.chan c = { f ch with resetArmed := (t.chan c).resetArmed, sckRaised := (t.chan c).sckRaised } ∧ t.hg = s.hg ∧ t.mem = s.mem ∧
        ∀ d : ChanId, d ≠ c → t.chan d = s.chan d
      (tx.whole = true → ch.dpd = false →
        ok (exec (.writeEnable tx) s) (fun q => if ch.gated then q else { q with wel := true }) ∧
        ok (exec (.writeDisable tx) s) (fun q => if ch.gated then q else { q with wel := false }) ∧
        (((ch.info.map fun i => i.fourByteMode).getD false) = true →
          ok (exec (.enter4ByteMode tx) s) (fun q => { q with addr4 := true }) ∧
          ok (exec (.exit4ByteMode tx) s) (fun q => { q with addr4 := false })) ∧
        (((ch.info.map fun i => i.fourByteMode).getD false) = false → ∀ i : Instr, i ∈ ([.enter4ByteMode tx, .exit4ByteMode tx] : List Instr) →
          ok (exec i s) id ∧ Completes (exec i s) fun t => (t.port tx.port).unkCnt = satInc 32 (s.port tx.port).unkCnt) ∧
        ok (exec (.deepPowerDown tx) s) (fun q => { q with dpd := true }) ∧
        (∀ w : RegWrite, w.wait = none →
          (ch.gated = false → ch.wel = true → ch.wpBlocks tx w = false →
            ok (exec (.writeRegisters tx w) s) fun q => q.writeRegs (s.port tx.port).hostIo w) ∧
          (ch.gated = true ∨ ch.wel = false ∨ ch.wpBlocks tx w = true → ok (exec (.writeRegisters tx w) s) id)) ∧
        (∀ (w : RegWrite) (n : Nat), w.wait = some n → ch.gated = false → ch.wel = true → ch.wpBlocks tx w = false →
          Completes (exec (.writeRegisters tx w) s) fun t =>
          (t.chan c).waitField = some n ∧ (t.chan c).wel = false ∧ (ch.desc.policy ≠ 1 → (t.chan c).native = false) ∧ t.hg = s.hg)) ∧
      (tx.whole = true →
        ok (exec (.releaseDeepPowerDown tx) s) (fun q => { q with dpd := false }) ∧
        (Completes (exec (.resetEnable tx) s) fun t => (t.chan c).resetArmed = true ∧
          t.chan c = { ch with resetArmed := true, sckRaised := (t.chan c).sckRaised }) ∧
        (ch.resetArmed = false → ok (exec (.reset tx) s) id) ∧
        (ch.resetArmed = true → Completes (exec (.reset tx) s) fun t => (t.chan c).protocol = .p1S ∧ (t.chan c).wel = false ∧
          (t.chan c).dpd = false ∧ (t.chan c).suspended = false ∧ (t.chan c).resetArmed = false ∧ (t.chan c).waitField = none ∧
          (t.chan c).native = ch.opensNative ∧ (t.chan c).state = ch.state ∧ t.isPending (portEvent tx.port 14) = true ∧ t.hg = s.hg)) ∧
      (tx.whole = false → ch.dpd = false → ∀ i : Instr, i ∈ ([.writeEnable tx, .writeDisable tx, .enter4ByteMode tx, .exit4ByteMode tx,
          .deepPowerDown tx, .releaseDeepPowerDown tx, .resetEnable tx, .reset tx] : List Instr) →
        ok (exec i s) id ∧ Completes (exec i s) fun t => (t.port tx.port).partialCnt = satInc 32 (s.port tx.port).partialCnt ∧
          t.isPending (portEvent tx.port 8) = true)) ∧
    (∀ p : PortId, (s.port p).hreset = false → Completes (exec (.csConflict p) s) fun t =>
      (t.port p).held = none ∧ (t.port p).dq = [] ∧ (t.port p).sticky = putBit (s.port p).sticky 6 true ∧ s.raisesOnly t [portEvent p 7] ∧
      t = { s with ports := t.ports, ev := t.ev, log := t.log }) ∧
    (∀ p : PortId, Completes (exec (.hostResetRelease p) s) fun t => (t.port p).hreset = false ∧ t = { s with ports := t.ports } ∧
      ∀ q : PortId, q ≠ p → t.port q = s.port q)

/-- The steward moves the table only while every channel is ABSENT; an invalidate joins a queue of 8. The next invalidate is rejected with
its first failing check's cause, or its descriptor and rules are staged, due after the load. A reload with no host command in flight puts
the staged descriptor, its generation and rules into force, voids both verdicts and reports OK; where the table's generation had moved on
when the load ended it is rejected with cause 2 and the descriptor in force stays. While a host command is in flight it changes nothing but the model's outputs. -/
def Obligations.ChannelTable : Prop :=
  ∀ (s : State),
    (∀ (half : Half) (v : Word), s.domOn 23 = true → s.isSteward half = true →
      ((∀ c : ChanId, (s.chan c).state = .absent) → exec (.chtBaseWrite half v) s = .next { s with mir := { s.mir with chtBase := v } }) ∧
      (¬ (∀ c : ChanId, (s.chan c).state = .absent) → Completes (exec (.chtBaseWrite half v) s) fun t =>
        s.raisesOnly t [1052] ∧ t = { s with ev := t.ev, log := t.log }) ∧
      (s.mir.invals.length < 8 → exec (.chtInval half v) s =
        .next { s with mir := { s.mir with invals := s.mir.invals ++ [⟨⟨bitsOf v.toNat 16 6 % 64, Nat.mod_lt _ (by decide)⟩, bitsOf v.toNat 0 16⟩] } })) ∧
    (∀ (ps : Nat) (i : Inval), s.nextInval = some i → (∀ c : ChanId, (s.target (.chan c)).invalDue = false ∧ (s.target (.chan c)).edit = none ∧
        (s.target (.chan c)).editsDue = []) →
      (∀ (cause : BitVec 3) (code : Code), s.invalFailure i.chan i.gen = some (cause, code) →
        Completes (exec (.invalidateTaken ps) s) fun t => t.mir.invals = s.mir.invals.erase i ∧ t.mir.invalCode = code ∧
          t.mir.invalCause = cause ∧ t.mir.invalChan = i.chan ∧ t.chans = s.chans ∧ s.raisesOnly t [1052] ∧
          t = { s with mir := t.mir, ev := t.ev, log := t.log }) ∧
      (s.invalFailure i.chan i.gen = none → Completes (exec (.invalidateTaken ps) s) fun t =>
        let d := descOf (s.descBytes i.chan)
        (t.chan i.chan).staged = some ⟨d, s.rulesAt d.ruleBase (cachedRules d.ruleCount (s.siblingRules i.chan)), i.gen,
          s.time + ps / 1000, none⟩ ∧ (∀ c : ChanId, c ≠ i.chan → t.chan c = s.chan c) ∧
        t = { s with mir := { s.mir with invals := s.mir.invals.erase i }, chans := t.chans })) ∧
    (∀ (c : ChanId) (st : Staged), (s.chan c).staged = some st →
      (s.inFlight c = true → exec (.descReload c) s = .next s.quiet) ∧
      (s.inFlight c = false → st.genAfter.getD (descOf (s.descBytes c)).gen ≠ st.gen → Completes (exec (.descReload c) s) fun t =>
        (t.chan c).staged = none ∧ (t.chan c).desc = (s.chan c).desc ∧ (t.chan c).gen = (s.chan c).gen ∧ t.isPending 1052 = true) ∧
      (s.inFlight c = false → st.genAfter.getD (descOf (s.descBytes c)).gen = st.gen → Completes (exec (.descReload c) s) fun t =>
        (t.chan c).staged = none ∧ (t.chan c).desc = st.desc ∧ (t.chan c).gen = st.gen ∧
        (t.chan c).rules = s.fitRules st.desc st.rules (cachedRules st.desc.ruleCount (s.chan c.sibling).desc.ruleCount) ∧
        t.isPending (portEvent c.port 16) = true ∧
        ((s.target (.chan c)).state ≠ 5 → t.hg.out = s.hg.out ∧ t.time = max s.time st.loadedAt ∧ t.mir.invalCode = .ok ∧ t.mir.invalCause = 0 ∧ t.mir.invalChan = c ∧
          t.verdictOf .indigo c = none ∧ t.verdictOf .amber c = none)))

/-- Each step's result moves the probe whose turn it is to the next step or ends the attempt with its cause, and touches no other channel
but the other chip select at the port's reset. An attempt that passed leaves the channel FILLING where a manifest is named, else HELD;
one that failed is repeated up to three times, then the channel is ABSENT, at once where no part answers. A re-check below the minimum
takes the calibration back to the next lower clock. A supply sensed outside the windows leaves its bank's channels ABSENT, and in a window
lets ABSENT ones probe. -/
def Obligations.ProbingAndSupplies : Prop :=
  ∀ (s : State) (c : ChanId),
    (∀ p : Probe, (s.chan c).probe = some p → s.probeTurn c = true → s.higherWaits c.port 3 = false → (s.chan c).gaveUp = false →
      let at_ (t : State) (n : Nat) : Prop := (t.chan c).probe = some { p with step := n } ∧ ∀ d : ChanId, d ≠ c → t.chan d = s.chan d
      let ends (t : State) (cause : Nat) : Prop := at_ t 8 ∧ (t.chan c).cal.cause = cause ∧ (t.chan c).cal.attempts = p.attempt
      let run (r : ProbeResult) (P : State → Prop) : Prop :=
        Completes (exec (.probeStepDone c r) s) fun t => P t ∧ t = { s with chans := t.chans } ∧ (t.chan c).state = (s.chan c).state
      (p.step = 1 → run .reset fun t => (t.chan c).probe = some { p with step := 2 } ∧
        ∀ d : ChanId, d ≠ c → d ≠ c.sibling → t.chan d = s.chan d) ∧
      (p.step = 2 → run .softReset fun t => at_ t 3) ∧
      (∀ a b : List Byte, p.step = 3 →
        (a ≠ b → run (.readId a b) fun t => ends t 1) ∧
        (a = b → (∀ x ∈ a, x = 0) ∨ (∀ x ∈ a, x = 0xFF) → run (.readId a b) fun t => ends t 4) ∧
        (a = b → ¬ ((∀ x ∈ a, x = 0) ∨ (∀ x ∈ a, x = 0xFF)) → run (.readId a b) fun t =>
          at_ t (if (s.chan c).info.isNone then 4 else 5) ∧ (t.chan c).idBytes = a.take 6)) ∧
      (∀ (sig : Bool) (raw : List Byte) (info : SfdpInfo), p.step = 4 →
        (sig = false → (s.chan c).desc.sfdpOverride = false → run (.readSfdp sig raw info) fun t => ends t 2) ∧
        (sig = true ∨ (s.chan c).desc.sfdpOverride = true → run (.readSfdp sig raw info) fun t =>
          at_ t 5 ∧ (t.chan c).info = some info ∧ (t.chan c).rawSfdp = raw.take 4096)) ∧
      (∀ regs : List Byte, p.step = 5 → run (.readStatus regs) fun t => at_ t 6 ∧ (t.chan c).regs = regs) ∧
      (p.step = 6 → run .switchMode fun t =>
        let e := attemptMode (((s.chan c).info.map fun i => i.modes).getD []) (FlashClk.ofCode (s.chan c).desc.flashSckMax)
          (s.port c.port).flashIo p.attempt
        (t.chan c).mode = e.mode ∧ (t.chan c).clk = e.clk ∧ (t.chan c).probe = some { p with step := 7, mode := e.mode, clk := e.clk }) ∧
      (∀ (passing : BitVec 256) (lanes : List (BitVec 256)) (f : Nat), p.step = 7 → (s.chan c).state = .probing →
        let r := sweepRun passing
        run (.calibrate passing lanes f) fun t => ends t (if (s.chan c).clk.minWindow ≤ r.length then 0 else 3) ∧
          (t.chan c).cal.window = r.length ∧ (t.chan c).cal.delay = r.centre ∧ (t.chan c).trim = trimWord r.centre lanes)) ∧
    (∀ p : Probe, (s.chan c).probe = some p → p.step = 8 →
      ((s.chan c).cal.cause = 0 → s.dev.form ≠ .freeze → Completes (exec (.probeAttemptDone c) s) fun t =>
        (t.chan c).state = (if (s.chan c).desc.manifestRef = 0 then .held else .filling) ∧ (t.chan c).probe = none ∧
        (t.chan c).cal.valid = true ∧ t.isPending (portEvent c.port c.cs.val) = true ∧ t.hg = s.hg) ∧
      ((s.chan c).cal.cause = 4 ∨ ((s.chan c).cal.cause ≠ 0 ∧ 3 ≤ p.attempt) → s.dev.form ≠ .freeze → Completes (exec (.probeAttemptDone c) s) fun t =>
        (t.chan c).state = .absent ∧ (t.chan c).probe = none ∧ t.isPending (portEvent c.port (2 + c.cs.val)) = true ∧ t.hg = s.hg) ∧
      ((s.chan c).cal.cause ≠ 0 → (s.chan c).cal.cause ≠ 4 → p.attempt < 3 → Completes (exec (.probeAttemptDone c) s) fun t =>
        (t.chan c).probe = some { p with attempt := p.attempt + 1, step := 2 } ∧ (t.chan c).state = (s.chan c).state ∧
        t = { s with chans := t.chans })) ∧
    (∀ passing : BitVec 17, (s.dev.mode = .guard ∨ s.dev.mode = .update) → (s.chan c).cal.valid = true → s.flashIdle c = true →
      let r := recheckRun passing
      let centre := (s.chan c).cal.delay + r.centre - 8
      (r.length < (s.chan c).clk.minWindow → Completes (exec (.calibrationRecheck c passing) s) fun t =>
        (t.chan c).cal.valid = false ∧ (t.chan c).clk = (s.chan c).clk.lower ∧ ((t.chan c).probe.map fun p => p.step) = some 7 ∧
        s.raisesOnly t [portEvent c.port (4 + c.cs.val)]) ∧
      ((s.chan c).clk.minWindow ≤ r.length → Completes (exec (.calibrationRecheck c passing) s) fun t =>
        (t.chan c).cal = { (s.chan c).cal with window := r.length, delay := centre } ∧
        s.raisesOnly t (if 4 ≤ codeDiff (s.chan c).cal.delay centre then [portEvent c.port (4 + c.cs.val)] else []))) ∧
    (∀ (b : Fin 4) (host : Bool) (l : IoSupply), s.domOn ((if host then 15 else 16) + 2 * b.val) = true →
      Completes (exec (.ioSupplySensed b host l) s) fun t =>
        (∀ p : PortId, p.bank = b → (if host then (t.port p).hostIo else (t.port p).flashIo) = l) ∧
        (∀ d : ChanId, d.port.bank = b →
          (l = .outside → s.dev.form ≠ .freeze → (t.chan d).state = .absent) ∧
          (l.inWindow = true → s.dev.form ≠ .freeze → (s.chan d).state = .absent → (s.chan d).desc.enable = true → t.bankReady d.port = true →
            (t.chan d).state = .probing)) ∧
        (∀ d : ChanId, d.port.bank ≠ b → (t.chan d).desc = (s.chan d).desc ∧ (t.chan d).state = (s.chan d).state) ∧ t.hg = s.hg)

/-- Training begins anew where none runs; its good end makes the mirror ready where the keys are loaded, every version and epoch zero. A
leaf of a fill lands in the channel's mirror and the fill moves on; equal digests of both engines, of the leaf as it stands in the mirror,
enter the digest area, different ones raise the mismatch. A fill's end, with every digest in, leaves the channel HELD with the root
verified where both halves find nothing amiss, and FILLING with both halves' code of the check that failed. A pin load copies the leaf
from the mirror to its slot and reports OK; a re-seal goes line by line, keeps good pages good and ends with the next key in force. -/
def Obligations.MirrorFills : Prop :=
  ∀ (s : State) (half : Half) (c : ChanId),
    (s.domOn 23 = true → s.isSteward half = true →
      (s.mir.training = none → exec (.mirctlTrain half) s =
        .next { s with mir := { s.mir with training := some (0, 0), ready := false, trainFail := false, chanOk := 0 } }) ∧
      (s.mir.training.isSome = true → exec (.mirctlTrain half) s = .next s) ∧
      ((s.chan c).state = .quarantined → s.dev.form ≠ .freeze → Completes (exec (.chanCmdFill half c) s) fun t =>
        (t.chan c).state = .filling ∧ (t.chan c).fillNext = some 0 ∧ (t.chan c).fillCount = 0 ∧ t.mir.cmdStatus = (.ok, c) ∧ t.hg = s.hg) ∧
      ((s.chan c).state ≠ .quarantined → Completes (exec (.chanCmdFill half c) s) fun t =>
        t.mir.cmdStatus = (.refusedState, c) ∧ s.raisesOnly t [1031] ∧ t.chans = s.chans) ∧
      (∀ (leaf slot : Nat), leaf < 65536 → slot < 1024 → s.mir.pinLoad = none →
        let v : Word := BitVec.ofNat 32 (c.val * 2 ^ 26 + leaf * 1024 + slot)
        ((s.chan c).leafSealed leaf = true → exec (.pinLoad half v) s =
          .next { s with mir := { s.mir with pinHi := false, pinLoad := some (c, leaf, slot + 1024 * b2n s.mir.pinHi) } }) ∧
        ((s.chan c).leafSealed leaf = false → exec (.pinLoad half v) s =
          .next { s with mir := { s.mir with pinHi := false, cmdStatus := (.refusedState, c) } }))) ∧
    (∀ f0 f1 : Nat, s.mir.training = some (f0, f1) → f0 < 3 → f1 < 3 → s.mir.ready = false →
      Completes (exec (.mirrorTrainDone ⟨true, true⟩) s) fun t =>
        t.mir.training = none ∧ t.mir.chanOk = 3 ∧ t.mir.trainFail = false ∧ t.mir.ready = s.mir.keysValid ∧
        (s.mir.keysValid = true → t.mir.versions = [] ∧ t.mir.seals = [] ∧ (∀ l : Nat, l < 65536 → t.lineEpoch l = 0) ∧
          t.isPending 1008 = true)) ∧
    (∀ (n : Nat) (data : List Byte), s.chansFit → (s.chan c).state = .filling → s.fillTurn c = true → s.higherWaits c.port 3 = false →
      (s.chan c).gaveUp = false → s.mir.ready = true → (s.chan c).fillNext = some n →
      n < (s.chan c).desc.leafCount → s.rangeFree c (n * 4096) 4096 = true → Completes (exec (.fillLeaf c data) s) fun t =>
        (t.chan c).fillNext = some (n + 1) ∧ t.mirrorBytes c (n * 4096) 4096 = leafBytes data ∧ (t.chan c).state = .filling ∧
        (n + 1 = (s.chan c).desc.leafCount → t.isPending 1010 = true) ∧
        t = { s with ev := t.ev, log := t.log, chans := t.chans, ports := t.ports, mir := t.mir, hash := t.hash, cores := t.cores, mem := t.mem }) ∧
    (∀ (leaf : Nat) (off : Both Digest) (ns : Both Nat), s.chansFit → (s.chan c).state = .filling → leaf < (s.chan c).fillNext.getD 0 →
      leaf < (s.chan c).desc.leafCount → s.digestFree c leaf = true →
      (off.indigo = off.amber → Completes (exec (.fillLeafDigests c leaf off ns) s) fun t =>
        t.leafDigest c leaf = sha384 (s.mirrorBytes c (leaf * 4096) 4096) ^^^ off.indigo ∧ t.hg = s.hg ∧
        t.chan c = { s.chan c with fillDig := (t.chan c).fillDig } ∧ ∀ d : ChanId, d ≠ c → t.chan d = s.chan d) ∧
      (off.indigo ≠ off.amber → Completes (exec (.fillLeafDigests c leaf off ns) s) fun t =>
        t.isPending 1011 = true ∧ t.isPending 1012 = true)) ∧
    (∀ (v : Both Verification) (reject : Both Bool) (m : List Byte), (s.chan c).state = .filling →
      (s.chan c).fillNext = some (s.chan c).desc.leafCount → s.dev.mode.running = true → s.hg.warm = false → s.dev.form ≠ .freeze →
      (s.chan c).staged = none → (s.chan c).gen < 65536 → s.verdictOf .indigo c = none → s.verdictOf .amber c = none →
      (∀ h : Half, s.verOf h (.chan c) = some (v.get h) ∧ (v.get h).kind = .fill ∧ 5 ≤ (v.get h).stage ∧ (v.get h).result = none ∧
        (v.get h).container = m ∧ (s.chan c).digestsIn h = true ∧ s.mayNotPost h c = false) →
      Completes (exec (.fillDone c reject) s) fun t =>
        let g (h : Half) : Option CheckGroup := s.fillGroup c m (s.halfRoot h c m) (reject.get h)
        t.hg.out = s.hg.out ∧
        (g .indigo = none → g .amber = none → (t.chan c).state = .held ∧ (t.chan c).verified = Both.rep (some (imgRoot m)) ∧
          t.verdictsRelease c = true) ∧
        (∀ x : CheckGroup, g .indigo = some x → g .amber = some x → (t.chan c).state = .filling ∧ t.verdictsRelease c = false ∧
          ∀ h : Half, (t.verdictOf h c).map (fun y => y.code) = some (BitVec.ofNat 8 x.fail.num))) ∧
    (∀ (leaf slot : Nat), s.mir.pinLoad = some (c, leaf, slot) →
      (Completes (exec (.pinLoadDone none) s) fun t => t.bytes (pinSlotAddr slot) 4096 = s.mirrorBytes c (leaf * 4096) 4096 ∧
        t.mir.pinLoad = none ∧ t.mir.cmdStatus = (.ok, c) ∧
        ((s.chan c).pins.contains (leaf, slot) = true → (t.chan c).pinsLoaded.contains leaf = true)) ∧
      (∀ f : MirrorFault, Completes (exec (.pinLoadDone (some f)) s) fun t => t.mir.pinLoad = none ∧ t.mir.cmdStatus = (.verifyFail, c) ∧
        t.isPending f.kind.event = true)) ∧
    (∀ p : Nat, s.mir.reseal = some p →
      (∀ bad : List Nat, s.mir.keyNext ≠ 0 → p < s.mir.lines → Completes (exec (.resealLineDone bad) s) fun t => t.mir.reseal = some (p + 1) ∧
        (bad = [] → s.mir.heldDigests = [] → (∀ d : ChanId, s.opIn d .timed = none) →
          (∀ q : Nat, q / 64 = p → t.pageVersion q = 0 ∧ (s.pageGood q = true → t.pageGood q = true)) ∧ t.lineEpoch p = 0 ∧
          t = { s with mir := t.mir, cores := t.cores, mem := t.mem })) ∧
      (s.mir.lines ≤ p → Completes (exec .mirrorResealDone s) fun t => s.raisesOnly t [1026] ∧
        t = { s with mir := { s.mir with keyProt := s.mir.keyNext, keyNext := 0, reseal := none }, ev := t.ev, log := t.log })) ∧
    (Completes (exec .faultRateWindow s) fun t => t.mir = { s.mir with faultSec := 0 } ∧ t.time = (s.time / 1000000000 + 1) * 1000000000 ∧
      s.raisesOnly t (if s.mir.faultLimit.toNat < s.mir.faultSec then [1019] else []) ∧
      t = { s with time := t.time, mir := t.mir, ev := t.ev, log := t.log }) ∧
    (Completes (exec .dramRefreshRateChange s) fun t => s.raisesOnly t [1032] ∧ t = { s with ev := t.ev, log := t.log })

/-- A refill from a source whose turn it is in the leaf's row, with the digest asked for, lands in the mirror; with another digest that
source has failed; from nowhere the leaf is lost. A line is refilled page by page, each as a leaf of the channel that owns it is. A scrubbed
leaf that matches moves the pass on, a mismatch that both halves confirm starts the repair of its unit; a repair whose unit reads back as
it should is recorded and the channel follows its output. A channel command acts in the states that permit it and is refused otherwise. -/
def Obligations.MirrorRepairs : Prop :=
  ∀ (s : State) (c : ChanId),
    (∀ (leaf : Nat) (src : Source) (data : List Byte), s.chansFit → leaf < (s.chan c).desc.leafCount → (s.chan c).faulted.contains leaf = true → (s.chan c).lost.contains leaf = false →
      (src = .nowhere → Completes (exec (.refillDone c leaf src data) s) fun t =>
        (t.chan c).lost.contains leaf = true ∧ t.isPending 1017 = true ∧ t.hg.out = s.hg.out) ∧
      (src ≠ .nowhere → s.refillSource c leaf src = true → s.rangeFree c (leaf * 4096) 4096 = true →
        ((s.leafRegion c leaf).byDigest = true ∧ sha384 (leafBytes data) ≠ s.leafDigest c leaf →
          exec (.refillDone c leaf src data) s = .next (((s.chargeBest .indigo 4096).chargeBest .amber 4096).updChan c fun ch =>
            { ch with tried := setKey ch.tried leaf src.refillRank })) ∧
        (¬ ((s.leafRegion c leaf).byDigest = true ∧ sha384 (leafBytes data) ≠ s.leafDigest c leaf) →
          Completes (exec (.refillDone c leaf src data) s) fun t =>
            t.mirrorBytes c (leaf * 4096) 4096 = leafBytes data ∧ t.isPending 1016 = true ∧ t.hg.out = s.hg.out))) ∧
    (∀ (line : Nat) (x : PageIn),
      exec (.lineRefillDone line []) s = .next s ∧
      (∀ xs : List PageIn, xs.length < 64 → Completes (exec (.lineRefillDone line xs) s) fun t =>
        let p := 64 * line + xs.length
        exec (.lineRefillDone line (xs ++ [x])) s = match t.chanAtOffset (p * 4096) with
          | some d => exec (.refillDone d (p - (t.chan d).desc.mirrorPage) x.src x.data) t
          | none => .next t) ∧
      (let leaf := 64 * line - (s.chan c).desc.mirrorPage
       s.chansFit → s.chanAtOffset (64 * line * 4096) = some c → leaf < (s.chan c).desc.leafCount → (s.chan c).faulted.contains leaf = true →
       (s.chan c).lost.contains leaf = false → x.src ≠ .nowhere → s.refillSource c leaf x.src = true →
       s.rangeFree c (leaf * 4096) 4096 = true →
       ((s.leafRegion c leaf).byDigest = true → sha384 (leafBytes x.data) = s.leafDigest c leaf) →
       Completes (exec (.lineRefillDone line [x]) s) fun t =>
          t.mirrorBytes c (leaf * 4096) 4096 = leafBytes x.data ∧ t.isPending 1016 = true ∧ t.hg.out = s.hg.out)) ∧
    (∀ (x : Scrub) (r : ScrubRead), (s.chan c).scrub = some x → s.scrubbing c = true → x.next < (s.chan c).desc.leafCount → r.fault = none →
      s.higherWaits c.port 5 = false → (s.chan c).gaveUp = false →
      ((∀ d : Digest, s.flashRef c x.next = some d → leafMatches d r.first r.off1 = true) →
        Completes (exec (.scrubLeaf c r) s) fun t => t.time = max s.time x.dueAt ∧ t.mir.scrubChan = c ∧
          (t.chan c).fillCount = x.next + 1 ∧ (t.chan c).state = (s.chan c).state ∧
          (x.next + 1 < (s.chan c).desc.leafCount → ((t.chan c).scrub.map fun y => y.next) = some (x.next + 1)) ∧
          (x.next + 1 = (s.chan c).desc.leafCount → t.isPending 1021 = true)) ∧
      (∀ d : Digest, s.flashRef c x.next = some d → leafMatches d r.first r.off1 = false →
        (leafMatches d r.second r.off2.indigo = false → leafMatches d r.second r.off2.amber = false → s.dev.form ≠ .freeze →
          Completes (exec (.scrubLeaf c r) s) fun t => t.isPending 1020 = true ∧ (t.chan c).state = .repairing ∧
            ((t.chan c).repair.map fun q => (q.unit, q.unitLen)) = some ((s.chan c).repairUnit x.next)) ∧
        (leafMatches d r.second r.off2.indigo = true → leafMatches d r.second r.off2.amber = true →
          Completes (exec (.scrubLeaf c r) s) fun t =>
            (t.chan c).state = (s.chan c).state ∧ (t.chan c).repair = (s.chan c).repair))) ∧
    (∀ (r : Repair) (a : Nat), (s.chan c).repair = some r → r.retryAt = some a → exec (.repairRetry c) s =
      .next ((s.advanceTo a).updChan c fun ch => { ch with repair := some { r with retried := false, retryAt := none, waits := s.dev.freeze } })) ∧
    (∀ a : Nat, (s.chan c).noSourceAt = some a → (s.chan c).state = .repairing → Completes (exec (.noSourceReport c) s) fun t =>
      t.time = max s.time a ∧ (t.chan c).noSourceAt = some (t.time + 60000000000) ∧ t.log.nextSeq = (s.log.nextSeq + 1) % 2 ^ 32 ∧
      t = { s with time := t.time, log := t.log, chans := t.chans }) ∧
    (∀ (r : Repair) (flashFail : Bool) (before back : List Byte) (off : Both Digest), (s.chan c).repair = some r →
      (s.chan c).state = .repairing → r.retryAt = none → s.higherWaits c.port 4 = false → (s.chan c).gaveUp = false →
      (r.waits && s.dev.freeze) = false → (s.target (.chan c)).state ≠ 5 →
      let good := ! flashFail && s.unitMatches c r back off.indigo && s.unitMatches c r back off.amber
      (good = true → (s.chan c).badUnits = [] → (s.chan c).lost = [] → s.dev.form ≠ .freeze →
        Completes (exec (.repairUnitDone c flashFail before back off) s) fun t => t.isPending 1023 = true ∧ (t.chan c).repair = none ∧
          (t.chan c).state = s.returnState c ∧ t.log.meas.length = s.log.meas.length + 1 ∧ t.hg.out = s.hg.out) ∧
      (good = false → r.retried = false → Completes (exec (.repairUnitDone c flashFail before back off) s) fun t =>
        (t.chan c).repair = some { r with retried := true } ∧ (t.chan c).state = .repairing) ∧
      (good = false → r.retried = true → Completes (exec (.repairUnitDone c flashFail before back off) s) fun t => t.isPending 1024 = true ∧
        (t.chan c).repair = some { r with retryAt := some (s.time + 60000000000) })) ∧
    (∀ half : Half, s.domOn 23 = true → s.isSteward half = true → s.dev.form ≠ .freeze →
      let st := (s.chan c).state
      let ok (r : Host.Outcome State Fault Refusal) (P : State → Prop) : Prop :=
        Completes r fun t => P t ∧ t.mir.cmdStatus = (.ok, c) ∧ t.hg = s.hg ∧ ∀ d : ChanId, d ≠ c → (t.chan d).state = (s.chan d).state
      let refused (r : Host.Outcome State Fault Refusal) : Prop :=
        Completes r fun t => t.mir.cmdStatus = (.refusedState, c) ∧ s.raisesOnly t [1031] ∧ t.chans = s.chans ∧ t.hg = s.hg
      (if st = .held ∨ st = .released then ok (exec (.chanCmdToUpdating half c) s) fun t => (t.chan c).state = .updating
        else refused (exec (.chanCmdToUpdating half c) s)) ∧
      (if st = .updating then ok (exec (.chanCmdUpdateEnded half c) s) fun t => (t.chan c).state = s.returnState c
        else refused (exec (.chanCmdUpdateEnded half c) s)) ∧
      (if st = .filling ∨ st = .held ∨ (st = .repairing ∧ s.boundReleased c = false)
        then ok (exec (.chanCmdToQuarantined half c) s) fun t => (t.chan c).state = .quarantined
        else refused (exec (.chanCmdToQuarantined half c) s)) ∧
      (if st = .held ∨ st = .released
        then ok (exec (.chanCmdForcedScrub half c) s) fun t => (t.chan c).scrub = some ⟨0, s.time, true, false⟩ ∧ (t.chan c).state = st
        else refused (exec (.chanCmdForcedScrub half c) s)) ∧
      (∀ unit len : Nat, if st = .held ∨ st = .released ∨ st = .repairing
        then ok (exec (.chanCmdRepair half c unit len) s) fun t => (t.chan c).state = .repairing ∧
          ((t.chan c).repair.map fun q => (q.unit, q.unitLen)) = some (unit, len)
        else refused (exec (.chanCmdRepair half c unit len) s)))

/-- A program or erase that the port acts on, outside a stream and opening none, sets WIP and becomes the command in flight. Refused, it
changes no memory, raises its row's event and runs 4 µs; shadowed, the mirror's range takes the old content AND the data, or 0xFF, and it
runs its typical time; journaled, it waits for the flash with the mirror as it was. A chip erase is refused. One that the port does not
act on changes no memory and no command in flight, and one with a 4-byte opcode that the real part lacks is an unknown command. -/
def Obligations.WeirAccepts : Prop :=
  ∀ (s : State) (tx : HostTx) (k : WeirKind) (opcode : Byte) (addr : Nat) (data : List Byte),
    let c := tx.chan
    let ch := s.chan c
    let four := fourByteOp opcode
    let at_ := addr % ch.addrRange four
    let base := ch.rangeBase k at_
    let len := ch.unitOf k
    let leaves := leavesOf base len
    let j := s.weirJudge c k leaves
    s.chansFit → ch.state.served = true → (s.port tx.port).hreset = false → ch.dpd = false → tx.whole = true → ch.contRead = false →
    tx.framing = ch.protocol → ch.staged = none → (s.target (.chan c)).stream = 0 → s.opensStream c k leaves = false →
    (k ≠ .program → data = []) → (k = .chip → addr = 0) →
    let i : Instr := match k with
      | .program => .pageProgram tx opcode addr data
      | .erase4k => .erase4K tx opcode addr
      | .erase32k => .erase32K tx opcode addr
      | .erase64k => .erase64K tx opcode addr
      | .chip => .chipErase tx opcode
    let flight (t : State) (cls : WeirClass) (ph : WeirPhase) : Prop := (t.chan c).wip = true ∧ t.hg = s.hg ∧
      (t.chan c).current.map (fun o => (o.kind, o.addr, o.len, o.cls, o.phase)) = some (k, base, len, cls, ph)
    ((! four || ch.has4) = true → ch.actsOn k data = true →
      (j.cls = .refused → Completes (exec i s) fun t => flight t .refused .timed ∧ t.mem = s.mem ∧
        t.isPending (portEvent tx.port (j.event.getD 20)) = true ∧ ((t.chan c).current.map fun o => o.deadline) = some (s.time + 4000)) ∧
      (j.cls = .shadowed → s.rangeFree c base len = true → Completes (exec i s) fun t => flight t .shadowed .timed ∧
        t.mirrorBytes c base len = weirContent k ch.pageSize (at_ % ch.density) data (s.mirrorBytes c base len) ∧
        ((t.chan c).current.map fun o => o.deadline) = some (s.time + ch.typical k)) ∧
      (j.cls = .journaled → Completes (exec i s) fun t => flight t .journaled .waitFlash ∧ t.mem = s.mem) ∧
      (k = .chip → Completes (exec i s) fun t => flight t .refused .timed ∧ t.mem = s.mem)) ∧
    ((! four || ch.has4) = true → ch.actsOn k data = false → Completes (exec i s) fun t => t.mem = s.mem ∧ (t.chan c).op = ch.op ∧
      (t.chan c).inner = ch.inner ∧ (t.chan c).wip = ch.wip ∧ t.hg = s.hg) ∧
    ((! four || ch.has4) = false → Completes (exec i s) fun t => t.mem = s.mem ∧ (t.chan c).op = ch.op ∧ (t.chan c).wip = ch.wip ∧
      (t.port tx.port).unkCnt = satInc 32 (s.port tx.port).unkCnt ∧ t.hg = s.hg)

/-- The end of a refusal sets the fail bit of its kind and, like a shadowed command's end, clears WIP and the latch. A journaled command
starts on the flash in its order outside a freeze, is read back once the flash is idle, and the mirror takes what was read; a difference
or a fail bit raises FLASH_FAIL. Past its maximum it is timed out, at four times reset, after the recovery polled, and given up at last. A
suspend stops it, its latency clears WIP, a resume sets WIP again. A journaled leaf's digest and the mutable digest follow the mirror. -/
def Obligations.WeirRuns : Prop :=
  ∀ (s : State) (c : ChanId),
    let ch := s.chan c
    (∀ o : WeirOp, s.opIn c .timed = some o → o.hostSusp = false →
      (o.cls = .refused → Completes (exec (.weirRefusalEnd c) s) fun t => t.time = max s.time o.deadline ∧ (t.chan c).wel = false ∧
        (ch.inner = none → (t.chan c).op = none ∧ (t.chan c).wip = false) ∧
        (if o.kind.isErase then (t.chan c).eraseErr = true else (t.chan c).progErr = true) ∧ t = { s with time := t.time, chans := t.chans }) ∧
      (o.cls ≠ .refused → o.heldForLine = false → Completes (exec (.shadowedDurationEnd c) s) fun t => t.time = max s.time o.deadline ∧
        (t.chan c).wel = false ∧ (ch.inner = none → (t.chan c).op = none ∧ (t.chan c).wip = false) ∧ (t.chan c).progErr = ch.progErr ∧
        (t.chan c).eraseErr = ch.eraseErr ∧ t = { s with time := t.time, chans := t.chans })) ∧
    (∀ n : Nat, s.waitingOrder c = some n → s.dev.freeze = false → (∀ m : Nat, s.waitingOrder c.sibling = some m → n ≤ m) →
      s.repairOn c = false → s.repairOn c.sibling = false →
      Completes (exec (.journalFlashStart c) s) fun t => ((t.chan c).current.map fun o => (o.phase, o.deadline)) = some (.running, s.time) ∧
        t = { s with chans := t.chans }) ∧
    (s.dev.freeze = true → exec (.journalFlashStart c) s = .next s) ∧
    (exec (.flashStatusPoll c true) s = .next s) ∧
    (∀ o : WeirOp, ch.current = some o → (o.phase = .running ∧ o.executes = true) ∨ o.phase = .busyPoll →
      Completes (exec (.flashStatusPoll c false) s) fun t => ((t.chan c).current.map fun o => o.phase) = some .readback ∧
        t = { s with chans := t.chans }) ∧
    (∀ (o : WeirOp) (rb : Readback), s.opIn c .readback = some o → s.rangeFree c o.addr o.len = true → s.chansFit →
      (∀ l ∈ leavesOf o.addr o.len, l < ch.desc.leafCount) →
      let got := rb.data.take o.len
      let failed := rb.failBit || got != weirContent o.kind o.len o.addr o.data (s.mirrorBytes c o.addr o.len) || o.resetAt != 0
      Completes (exec (.journalReadbackDone c rb) s) fun t => t.mirrorBytes c o.addr got.length = got ∧ (t.chan c).wel = false ∧
        (t.chan c).mutCount = ch.mutCount + 1 ∧ (ch.inner = none → (t.chan c).op = none) ∧ t.hg = s.hg ∧
        (failed = true → t.isPending (portEvent c.port 25) = true ∧
          if o.kind.isErase then (t.chan c).eraseErr = true else (t.chan c).progErr = true)) ∧
    (∀ o : WeirOp, s.opIn c .running = some o → o.executes = true →
      (o.timedOut = false → Completes (exec (.flashTimeout c) s) fun t => t.time = max s.time (o.ranFor (ch.maxTime o.kind)) ∧
        t.isPending (portEvent c.port 26) = true ∧ ((t.chan c).current.map fun o => (o.phase, o.timedOut)) = some (.running, true)) ∧
      (o.timedOut = true → Completes (exec (.flashTimeoutReset c) s) fun t => t.time = max s.time (o.ranFor (4 * ch.maxTime o.kind)) ∧
        ((t.chan c).current.map fun o => (o.phase, o.resetAt)) = some (.recovery, t.time))) ∧
    (∀ o : WeirOp, s.opIn c .recovery = some o → Completes (exec (.flashResetRecoveryEnd c) s) fun t =>
      t.time = max s.time (o.resetAt + 1000000) ∧ ((t.chan c).current.map fun o => o.phase) = some .busyPoll) ∧
    (∀ o : WeirOp, s.opIn c .busyPoll = some o → Completes (exec (.flashBusyGiveUp c) s) fun t =>
      t.time = max s.time (o.resetAt + 100000000) ∧ (t.chan c).gaveUp = true ∧ t.isPending (portEvent c.port 25) = true ∧ t.mem = s.mem) ∧
    (∀ (o : WeirOp) (a : Nat), ch.op = some o → o.suspLat = some a → Completes (exec (.suspendLatencyEnd c) s) fun t =>
      t.time = max s.time a ∧ (t.chan c).wip = false ∧ (t.chan c).suspended = true ∧ t = { s with time := t.time, chans := t.chans }) ∧
    (∀ (tx : HostTx) (opcode : Byte) (o : WeirOp), tx.chan = c → ch.state.served = true → (s.port tx.port).hreset = false → ch.dpd = false →
      tx.whole = true → ch.contRead = false → tx.framing = ch.protocol → ch.canSuspend = true → ch.op = some o → ch.inner = none →
      (o.suspendable = true → Completes (exec (.programEraseSuspend tx opcode) s) fun t =>
        ((t.chan c).op.map fun q => (q.hostSusp, q.suspAt)) = some (true, s.time) ∧ t.isPending (portEvent tx.port 24) = true ∧ t.mem = s.mem) ∧
      (o.hostSusp = true → Completes (exec (.programEraseResume tx opcode) s) fun t =>
        ((t.chan c).op.map fun q => q.hostSusp) = some false ∧ (t.chan c).wip = true ∧ (t.chan c).suspended = false ∧
        t.isPending (portEvent tx.port 24) = true ∧ t.mem = s.mem)) ∧
    (∀ leaf : Nat, s.chansFit → ch.touched.contains leaf = true → leaf < ch.desc.leafCount → s.digestFree c leaf = true →
      Completes (exec (.mutableLeafHashed c leaf) s) fun t => t.leafDigest c leaf = sha384 (s.mirrorBytes c (leaf * 4096) 4096) ∧
        t.chan c = { ch with touched := ch.touched.erase leaf } ∧ (∀ d : ChanId, d ≠ c → t.chan d = s.chan d) ∧ t.hg = s.hg) ∧
    (ch.mutCount ≠ 0 → ch.staged = none → (s.mir.invals.any fun i => i.chan == c) = false → s.hg.steward.isSome = true → Completes (exec (.mutableDigestRecompute c) s) fun t =>
      (t.chan c).desc.mutableDigest = s.mutableDigest c ∧ (t.chan c).mutCount = 0 ∧ t.log.meas.length = s.log.meas.length + 1 ∧
      t.bytes (s.mir.chtBase.toNat + c.val * 0x100 + 0x60) 48 = digestBytes (s.mutableDigest c) ∧
      t.time = max s.time (min (ch.mutLast + 1000000000) (ch.mutFirst + 10000000000)) ∧ t.hg = s.hg)

/-- A half's stage moves its verification on, alone: the manifest in its place, the chain judged, each leaf hashed in its turn and the digest
kept, the root rebuilt, the fuses sampled for the result. The end of the durable wait raises its event. A landing in which both
halves find the leaves they verified is committed under an open gate and waits under a closed one; a mismatch abandons. Each unit that reads
back right leaves the list, another is rewritten again, and after the last the update moves to retire, to its floor, and ends. An update that may be abandoned ends with the code. The floor's steps are burned up to
its value, where the FLOOR record ends the update, or the rest waits. In a freeze a retry of the gate leaves every waiting step and the
journal; under an open gate a waiting record is appended. -/
def Obligations.UpdateSteps : Prop :=
  ∀ (s : State) (tg : Target),
    let u := s.quiet
    let U := s.target tg
    (∀ (h : Half) (v : Verification) (w : StageWork), s.verOf h tg = some v → v.result = none → U.state ≠ 5 →
      (v.onEngine = true → u.engineTurn h v = true) →
      let moves (next : Nat) (P : Verification → Prop) : Prop := Completes (exec (.verifyStageDone h tg w) s) fun t =>
        (∃ v' : Verification, t.verOf h tg = some v' ∧ v'.stage = next ∧ v'.result = none ∧ P v') ∧
        t = { u with upd := { s.upd with vers := t.upd.vers }, cores := t.cores, mem := t.mem, hash := t.hash } ∧
        t.upd.vers.get h.other = s.upd.vers.get h.other
      let b := v.container
      (∀ m : List Byte, v.stage = 1 → u.loadContainer v = some m → moves 2 fun v' => v'.container = m) ∧
      (v.stage = 2 → u.structureOk tg (u.payloadSize v) b = true → moves 3 fun v' => v'.container = b) ∧
      (v.stage = 3 → ∀ c : ChanId, tg = .chan c → v.kind = .update → Completes (exec (.verifyStageDone h tg w) s) fun t =>
        ∃ v' : Verification, t.verOf h tg = some v' ∧
          (u.chainOk b w.engine.reject = true → v'.stage = 4 ∧ v'.result = none ∧ v'.container = b) ∧
          (u.chainOk b w.engine.reject = false → v'.result = some .verifyFail ∧ v'.failed = some .chain)) ∧
      (v.stage = 4 → v.failed = none → moves (v.after 4) fun v' => v'.container = b) ∧
      (∀ c : ChanId, v.stage = 5 → v.kind = .fill → tg = .chan c → (s.chan c).fillNext = some (s.chan c).desc.leafCount →
        (s.chan c).digestsIn h = true → moves 6 fun v' => v'.container = b) ∧
      (v.stage = 5 → v.kind = .update → U.state = 2 →
        (v.leaves ≤ v.digests.length → u.structureOk tg (u.payloadSize v) (u.inHand v) = true → moves 6 fun v' => v'.digests = v.digests) ∧
        (v.digests.length < v.leaves → (u.leafEngine h 3).isSome = true → moves 5 fun v' =>
          v'.digests = v.digests ++ [sha384 (u.judgedLeaf tg (u.inHand v) v.digests.length w.back) ^^^ w.engine.off])) ∧
      (v.stage = 6 → moves 7 fun v' => v'.root = some (u.rebuiltRoot h v)) ∧
      (v.stage = 7 → v.root = some (imgRoot b) → moves 8 fun v' => v'.failed = v.failed) ∧
      (v.stage = 8 → moves 9 fun v' => v'.container = b) ∧
      (∀ c : ChanId, v.stage = 9 → v.kind = .update → tg = .chan c → Completes (exec (.verifyStageDone h tg w) s) fun t =>
        ∃ v' : Verification, t.verOf h tg = some v' ∧
          v'.result = some (groupCode (if v.failed.isSome = true then v.failed else u.fuseGroup tg b)))) ∧
    (∀ a : Nat, U.idleAt = some a → U.state = 3 → U.verified = true → U.golden = false → Completes (exec (.durableWaitExpired tg) s) fun t =>
      t.time = max s.time a ∧ t.isPending 1070 = true ∧ (t.target tg).golden = true) ∧
    (∀ (c : ChanId) (page : Nat) (off : Both Digest), tg = .chan c → U.landing = some page → U.state = 4 → s.commitWaits tg = false →
      let landed := u.landImage c U.container page
      let good := landed.landedOk U.container page U.digests.indigo off.indigo && landed.landedOk U.container page U.digests.amber off.amber
      Completes (exec (.landingDone c off) s) fun t =>
        (good = true → u.mayStart (.journal (JRec.of .commit tg.code)) = true → (t.target tg).state = 5) ∧
        (good = true → u.mayStart (.journal (JRec.of .commit tg.code)) = false →
          (t.target tg).state = 4 ∧ t.upd.journal = s.upd.journal ∧ t.upd.waiting.length = s.upd.waiting.length + 1) ∧
        (good = false → U.commit = 0 → (t.target tg).state = 0 ∧ (t.target tg).status = .verifyFail)) ∧
    (∀ (c : ChanId) (unit : Nat) (rest : List Nat) (back : List Byte) (off : Both Digest), tg = .chan c → U.state = 5 →
      U.switchUnits = unit :: rest → s.higherWaits c.port 4 = false → (s.chan c).gaveUp = false → (U.switchWaits && s.dev.freeze) = false →
      let r : Repair := ⟨unit, ((s.chan c).repairUnit (unit / 4096)).2, false, Source.mirror.num, s.time, none, false⟩
      let good := s.unitMatches c r back off.indigo && s.unitMatches c r back off.amber
      (Completes (exec (.switchUnitDone c false back off) s) fun t =>
        (good = true → (t.target tg).switchUnits = rest ∧ (rest ≠ [] → (t.target tg).state = 5 ∧ t.upd.journal = s.upd.journal) ∧
          (rest = [] → s.recWaits tg .switched = false → u.mayStart (.journal (JRec.of .switched tg.code)) = true → (t.target tg).state = 6)) ∧
        (good = false → (t.target tg).switchUnits = unit :: rest ∧ (t.target tg).switchRetried = ! U.switchRetried ∧
          s.raisesOnly t (if U.switchRetried = true then [1024] else []))) ∧
      (Completes (exec (.switchUnitDone c true back off) s) fun t => (t.target tg).switchUnits = unit :: rest ∧
        (t.target tg).switchRetried = (! U.switchRetried) ∧
        s.raisesOnly t (portEvent c.port 25 :: if U.switchRetried = true then [1024] else []))) ∧
    (U.state = 6 → s.recWaits tg .retired = false →
      (U.supersedes = 0 → Completes (exec (.updateRetire tg) s) fun t => (t.target tg).state = 7 ∧ (t.target tg).staging = none ∧
        (t.target tg).landing = none) ∧
      (U.supersedes ≠ 0 → U.atStart = false → u.mayStart (.journal (JRec.of .retired tg.code)) = true →
        Completes (exec (.updateRetire tg) s) fun t => (t.target tg).state = 7 ∧ (t.target tg).staging = none)) ∧
    (U.state = 7 → s.floorSkipped tg = true → ∀ b : BurnOutcome, Completes (exec (.updateFloor tg b) s) fun t =>
      (t.target tg).state = 0 ∧ (t.target tg).status = U.endCode ∧ t.fuse = s.fuse) ∧
    (U.state = 7 → s.floorSkipped tg = false → ∀ b : BurnOutcome,
      (s.floorFull tg = true → Completes (exec (.updateFloor tg b) s) fun t =>
        (t.target tg).state = 0 ∧ (t.target tg).status = U.endCode ∧ t.fuse = s.fuse) ∧
      (s.floorFull tg = false → Completes (exec (.updateFloor tg b) s) fun t =>
        (∀ c : ChanId, tg = .chan c → t.fuse.priv = s.fuse.priv) ∧ t.fuse.redirects = s.fuse.redirects ∧
        (t.floorVal tg < s.newFloor tg → (t.target tg).state = 7 ∧ t.upd.journal = s.upd.journal) ∧
        (s.newFloor tg ≤ t.floorVal tg → (t.target tg).state = 0 ∧ (t.target tg).status = U.endCode ∨
          (t.target tg).state = 7 ∧ ∃ r : JRec, r.type = .floor ∧ .journal r ∈ t.upd.waiting))) ∧
    (∀ code : Code, s.mayAbandon tg = true → Completes (exec (.updateAbandon tg code) s) fun t =>
      (t.target tg).state = 0 ∧ (t.target tg).status = code ∧ (t.target tg).staging = none ∧ (t.target tg).landing = none) ∧
    (s.dev.freeze = true → Completes (exec .gateRetry s) fun t => t.upd.waiting = s.upd.waiting ∧ t.upd.journal = s.upd.journal ∧
      t.fuse = s.fuse) ∧
    (∀ r : JRec, s.upd.waiting = [.journal r] → r.type = .abandon → s.gateOpen journalUs = true → s.upd.journal ≠ [] →
      s.upd.journal.length < 200 → Completes (exec .gateRetry s) fun t => t.upd.waiting = [] ∧
        ∃ q : JRec, t.upd.journal = s.upd.journal ++ [q] ∧ q.type = .abandon ∧ q.target = r.target ∧ q.refSeq = r.refSeq)

/-- An update of mission firmware that is verified and durable in UPDATE is committed under an open gate and asks for the warm restart. The
extension's, asked for, is written to its region with extension code stopped, and runs again once the region reads back. A revocation
request that is taken of a slot not yet revoked burns its bit alone, or answers INTERNAL; one of a revoked slot is answered OK. A floor
request that is taken is answered OK; it burns nothing where the floor is there already, and nothing of the privileged array for a
channel; in a freeze its burn waits. -/
def Obligations.DeviceFirmwareAndFuseRequests : Prop :=
  ∀ (s : State),
    let u := s.quiet
    (let U := s.target .mission
     U.state = 3 → U.verified = true → U.golden = true → s.dev.mode = .update → s.commitWaits .mission = false →
       (u.mayStart (.journal (JRec.of .commit Target.mission.code)) = true → Completes (exec .missionUpdateActivate s) fun t =>
         (t.target .mission).state = 4 ∧ t.boot.warmAsked = true ∧ t.dev.mode = .update ∧ t.hg = s.hg) ∧
       (u.mayStart (.journal (JRec.of .commit Target.mission.code)) = false → Completes (exec .missionUpdateActivate s) fun t =>
         (t.target .mission).state = 3 ∧ t.upd.journal = s.upd.journal ∧ t.upd.waiting.length = s.upd.waiting.length + 1)) ∧
    (let U := s.target .extension
     U.state = 3 → U.verified = true → U.golden = true → U.activate = true → s.commitWaits .extension = false →
       u.mayStart (.journal (JRec.of .commit Target.extension.code)) = true →
       (Completes (exec (.extensionUpdateApply false) s) fun t => (t.target .extension).state = 5 ∧ t.boot.extRuns = false ∧
         t.dev = s.dev ∧ t.hg = s.hg) ∧
       (Completes (exec (.extensionUpdateApply true) s) fun t => t.boot.extRuns = true ∧
         t.boot.extDigest = sha384 (U.container.take 256))) ∧
    (∀ (who : Requester) (slot : Byte) (b : BurnOutcome),
      s.takesWrite who .rwa false 0x0B02 1 none (s.revokeRefusals slot.toNat) = true →
      (s.ownerRevoked slot.toNat = true → Completes (exec (.ownerRevokeRequest who slot b) s) fun t =>
        t.rill.lastCode = .ok ∧ t = { s with rill := t.rill }) ∧
      (s.ownerRevoked slot.toNat = false → s.dev.freeze = false → b.cut = none → Completes (exec (.ownerRevokeRequest who slot b) s) fun t =>
        t.fuse.main = s.fuse.main ∧ (∀ p : Fin 64, p ≠ 2 → t.fuse.priv[p] = s.fuse.priv[p]) ∧
        t.rill.lastCode = (if (t.fuse.priv[(2 : Fin 64)]).loose.getLsbD slot.toNat = true then .ok else .internal))) ∧
    (∀ (who : Requester) (sub : Byte) (tg : Target) (b : BurnOutcome), floorTarget sub.toNat = some tg → s.floorPolicy tg = 2 →
      s.takesWrite who .rwa false 0x0A11 1 none [] = true → s.floorFull tg = false → Completes (exec (.svnAdvanceRequest who sub b) s) fun t =>
        t.rill.lastCode = .ok ∧ (∀ c : ChanId, tg = .chan c → t.fuse.priv = s.fuse.priv) ∧
        (s.newFloor tg ≤ s.floorVal tg → t.fuse = s.fuse ∧ t = { s with rill := t.rill, upd := { s.upd with floorDue := t.upd.floorDue } }) ∧
        (s.floorVal tg < s.newFloor tg → s.dev.freeze = true → t.fuse = s.fuse ∧ t.upd.waiting.length = s.upd.waiting.length + 1))

/-- Over I3C or SMBus, where the device answers: the identifiers hold IANA 101182 and the part's name; the parameters list every enabled
channel; RequestUpdate needs authorisation, the mode and IDLE; a component passed is judged; UpdateComponent reserves or answers FULL's
code and records it, opens the download and asks for its first chunk, never below 32 bytes; whole chunks join the container until
verification begins, others change nothing; an unanswered request is repeated three times, then the update is abandoned; activation asks
for each component and ends, IDLE, with the last COMMIT; status names the state; cancelling abandons; any other command is answered 0x05. -/
def Obligations.PldmDevice : Prop :=
  ∀ (s : State) (who : Requester), endpointTransport who.endpoint ≤ 1 → s.answers who = true →
    let u := s.quiet
    let replies (n : Nat) (d : List Byte) (t : State) : Prop := t.upd.pldmOut = some ⟨n, d⟩
    let only (n : Nat) (d : List Byte) (t : State) : Prop := t = { u with upd := { s.upd with pldmOut := some ⟨n, d⟩ } }
    (Completes (exec (.queryDeviceIdentifiers who) s) fun t =>
      ∃ d, only 0 d t ∧ leBytes 4 101182 <:+: d ∧ ascii "GV4896-B1" <:+: d) ∧
    (Completes (exec (.getFirmwareParameters who) s) fun t => only 0 s.pldmParameters t ∧
      ∀ c : ChanId, Target.chan c ∈ s.pldmComponents ↔ (s.chan c).desc.enable = true) ∧
    (∀ n : Nat,
      (s.authorised who = true → s.pldmMode = true → s.upd.pldm = .idle → Completes (exec (.requestUpdate who n) s) fun t =>
        replies 0 [] t ∧ t.upd.pldm = .learnComponents ∧ t.upd.pldmMax = max 32 n ∧ t.upd.pldmApplied = [] ∧ t.upd.targets = s.upd.targets) ∧
      (s.authorised who = false → Completes (exec (.requestUpdate who n) s) (only 0x8A [])) ∧
      (s.authorised who = true → (s.pldmMode = false ∨ s.upd.pldm ≠ .idle) → Completes (exec (.requestUpdate who n) s) (only 0x84 []))) ∧
    (∀ k : Word16, (s.upd.pldm = .learnComponents ∨ s.upd.pldm = .readyXfer) → Completes (exec (.passComponentTable who k) s) fun t =>
      t.upd.pldm = .readyXfer ∧ t.upd.targets = s.upd.targets ∧
      replies 0 [if s.componentCode k = .ok then 0 else 1, BitVec.ofNat 8 (s.componentCode k).pldm] t) ∧
    (∀ (k : Word16) (tg : Target) (size : Nat), s.pldmTarget k = some tg → s.updateComponentCode who k size = .ok →
      let opens (t : State) : Prop := replies 0 [] t ∧ (t.target tg).state = 1 ∧ (t.target tg).expect = size ∧ (t.target tg).container = [] ∧
        t.upd.pldm = .download ∧ t.upd.pldmComp = some tg ∧
        t.upd.pldmReq = some (0, max 32 (min (min s.upd.pldmMax 4096) size), s.time + 5 * secNs, 0)
      (u.pldmReserve tg size = none → Completes (exec (.updateComponent who k size) s) fun t =>
        replies 0x8A [] t ∧ (t.target tg).status = .full ∧ t = { u with upd := { s.upd with pldmOut := t.upd.pldmOut, targets := t.upd.targets } } ∧
        ∀ x : Target, x ≠ tg → t.target x = s.target x) ∧
      (u.pldmReserve tg size ≠ none →
        (∀ c : ChanId, tg = .chan c → s.recoveringUpload c = true → Completes (exec (.updateComponent who k size) s) fun t =>
          opens t ∧ t.chans = s.chans ∧ t.dev = s.dev) ∧
        (∀ c : ChanId, tg = .chan c → s.recoveringUpload c = false → s.dev.form ≠ .freeze → Completes (exec (.updateComponent who k size) s) fun t =>
          opens t ∧ (t.chan c).state = .updating ∧ t.dev = s.dev ∧ (t.target tg).staging.isSome = true ∧ (t.target tg).landing.isSome = true) ∧
        (tg = .mission → (s.dev.mode = .hold ∨ s.dev.mode = .guard) → Completes (exec (.updateComponent who k size) s) fun t =>
          opens t ∧ t.dev.mode = .update ∧ t.dev.cause = 5) ∧
        (tg = .mission → s.dev.mode = .recover → Completes (exec (.updateComponent who k size) s) fun t => opens t ∧ t.dev = s.dev) ∧
        (tg = .extension → Completes (exec (.updateComponent who k size) s) fun t => opens t ∧ t.dev = s.dev ∧ t.chans = s.chans))) ∧
    (∀ (tg : Target) (o n due k : Nat) (data : List Byte), s.upd.pldmComp = some tg → s.upd.pldmReq = some (o, n, due, k) →
      let U := s.target tg
      (s.upd.pldm = .download → data.length = n →
        (U.container.length + n < U.expect → Completes (exec (.firmwareDataResponse who 0 data) s) fun t =>
          (t.target tg).container = U.container ++ data ∧ t.upd.pldm = .download ∧
          t.upd.pldmReq = some (U.container.length + n, max 32 (min (min s.upd.pldmMax 4096) (U.expect - (U.container.length + n))), s.time + 5 * secNs, 0)) ∧
        (U.expect ≤ U.container.length + n → s.dev.mode ≠ .recover → (tg = .mission → s.dev.freeze = false) → Completes (exec (.firmwareDataResponse who 0 data) s) fun t =>
          (t.target tg).container = U.container ++ data.take (U.expect - U.container.length) ∧ (t.target tg).state = 2 ∧ t.upd.pldm = .verify ∧ t.upd.pldmReq = none)) ∧
      (∀ m : Nat, (m ≠ 0 ∨ data.length ≠ n) → exec (.firmwareDataResponse who m data) s = .next u) ∧
      (k < 3 → Completes (exec .firmwareDataTimeout s) fun t => t.time = max s.time due ∧
        t.upd = { s.upd with pldmReq := some (o, n, max s.time due + 5 * secNs, k + 1) }) ∧
      (3 ≤ k → s.dev.mode ≠ .recover → s.mayAbandon tg = true → Completes (exec .firmwareDataTimeout s) fun t =>
        (t.target tg).state = 0 ∧ (t.target tg).status = .frameAbort ∧ t.upd.pldm = .readyXfer ∧ t.upd.pldmReq = none)) ∧
    (s.upd.pldm = .readyXfer → s.upd.pldmApplied ≠ [] → Completes (exec (.activateFirmware who) s) fun t =>
      replies 0 [] t ∧ (∀ tg ∈ s.upd.pldmApplied, (t.target tg).activate = true) ∧
      t.upd.pldm = if t.upd.pldmApplied.isEmpty = true then .idle else .activate) ∧
    (Completes (exec (.getStatus who) s) (only 0 [BitVec.ofNat 8 s.upd.pldm.num])) ∧
    (∀ tg : Target, s.pldmAll.head? = some tg → s.dev.mode ≠ .recover →
      (s.mayAbandon tg = true → Completes (exec (.cancelUpdateComponent who) s) fun t =>
        replies 0 [] t ∧ (t.target tg).state = 0 ∧ (t.target tg).status = .frameAbort ∧
        (s.upd.pldmComp = some tg → t.upd.pldm = .readyXfer ∧ t.upd.pldmComp = none)) ∧
      (s.mayAbandon tg = false → Completes (exec (.cancelUpdateComponent who) s) (only 0x84 []))) ∧
    (s.upd.pldm ≠ .idle → s.pldmAll.all s.mayCancel = true → Completes (exec (.cancelUpdate who) s) fun t =>
      replies 0 [] t ∧ t.upd.pldm = .idle ∧ t.upd.pldmComp = none ∧ t.upd.pldmApplied = []) ∧
    (∀ command : Byte, Completes (exec (.pldmUnsupportedCmd who command) s) (only 5 [command]))

/-- A run uses the verified mirror of a REPAIRING channel, source 1; else the first local copy that both halves find good, source 2;
else it asks the peers that may yield one and waits; without any, a FILLING channel waits for an upload, a HELD one is quarantined with
the code of what was judged, and so it is at the peers' timeout and at the end of the upload wait. A good container reassembled from k
good shards serves as source 3, a bad one raises its event. Verified channel updates become durable or are abandoned. Upload
segments and streams that are taken act; idle ones are abandoned with FRAME_ABORT. RECOVER holds a complete container for judgement. A
host reset holds the port in reset. -/
def Obligations.RecoveryUploadsAndStreams : Prop :=
  ∀ (s : State) (c : ChanId),
    let u := s.quiet
    let T : Target := .chan c
    let U := s.target T
    let abandoned (code : Code) (t : State) : Prop := (t.target T).state = 0 ∧ (t.target T).status = code ∧ (t.target T).staging = none
    (∀ j : Judgement, U.recState = 1 → U.recLocal = false →
      let tries := (u.localCopies c).map fun b => (b, (u.judgeBoth T b j).code)
      let codes := U.recCodes ++ tries.map fun x => x.2
      let serves (x : List Byte × Code) : Bool := x.2 == .ok && u.installable c x.1
      (s.mirrorSource c = true → Completes (exec (.recoveryRun c j) s) fun t =>
        (t.target T).recSource = 1 ∧ (t.target T).recState = 0 ∧ t.pending = s.pending) ∧
      (s.mirrorSource c = false →
        (tries.any serves = true → Completes (exec (.recoveryRun c j) s) fun t => (t.target T).recSource = 2 ∧ t.pending = s.pending) ∧
        (tries.any serves = false →
          (u.peerSource c = true → Completes (exec (.recoveryRun c j) s) fun t =>
            (t.target T).recState = 1 ∧ (t.target T).recLocal = true ∧ (t.target T).recCodes = codes ∧ t.chans = s.chans ∧ t.hg = s.hg) ∧
          (u.peerSource c = false → (s.chan c).state = .filling → Completes (exec (.recoveryRun c j) s) fun t =>
            (t.target T).recState = 2 ∧ (t.target T).recUntil = some (s.time + s.uploadWait) ∧ (t.chan c).state = .filling ∧ t.hg = s.hg ∧
            (t.target T).status = runCode codes) ∧
          (u.peerSource c = false → (s.chan c).state = .held → s.dev.form ≠ .freeze → Completes (exec (.recoveryRun c j) s) fun t =>
            (t.target T).recState = 3 ∧ (t.target T).recSource = 5 ∧ (t.target T).status = runCode codes ∧
            (t.chan c).state = .quarantined ∧ t.hg = s.hg)))) ∧
    (∀ a : Nat, U.recUntil = some a → s.dev.form ≠ .freeze →
      (U.recState = 1 → U.recLocal = true → (s.chan c).state = .held → Completes (exec (.peerRecoveryTimeout c) s) fun t =>
        t.time = max s.time a ∧ (t.target T).status = runCode U.recCodes ∧ (t.chan c).state = .quarantined) ∧
      (U.recState = 2 → Completes (exec (.uploadWaitExpired c) s) fun t =>
        t.time = max s.time a ∧ (t.target T).status = U.status ∧ (t.target T).recState = 3 ∧ (t.chan c).state = .quarantined)) ∧
    (∀ (l : List ShardCopy) (h : ShardHead) (j : Judgement), agreedHead l = some h →
      let good := goodShards h l
      let b := joinShards h good
      let code := (u.judgeBoth T b j).code
      ((good.length < h.k ∨ s.freeStaging b.length = none) → exec (.shardReassemblyDone T l j) s = .next u) ∧
      (h.k ≤ good.length → (s.freeStaging b.length).isSome = true →
        (code ≠ .ok → Completes (exec (.shardReassemblyDone T l j) s) fun t => t.isPending 1081 = true) ∧
        (code = .ok → h.ownerId ≠ s.deviceId → U.recState = 1 → U.recLocal = true → s.installable c b = true →
          Completes (exec (.shardReassemblyDone T l j) s) fun t => (t.target T).recSource = 3))) ∧
    (∀ r : Both Code, U.state = 2 → s.halfResults T = some r →
      (s.recoveringUpload c = false → r.code = .ok → Completes (exec (.channelUpdateVerified c) s) fun t =>
        (t.target T).state = 3 ∧ (t.target T).verified = true ∧ (t.target T).idleAt = some (s.time + s.durableWait) ∧
        (t.target T).digests = ⟨s.verDigests .indigo T, s.verDigests .amber T⟩) ∧
      (s.recoveringUpload c = false → U.commit = 0 → r.code ≠ .ok → Completes (exec (.channelUpdateVerified c) s) (abandoned r.code)) ∧
      (s.recoveringUpload c = true → r.code ≠ .ok → Completes (exec (.channelUpdateVerified c) s) fun t =>
        abandoned r.code t ∧ t.chans = s.chans)) ∧
    (∀ (who : Requester) (data : List Byte) (offset total : Nat),
      (u.takesWrite who .rwa false 0x0A42 T.sub none (u.uploadRefusals c offset total) = true → U.continues offset total = true →
        U.container.length + data.length ≤ total →
        Completes (exec (.imageUploadSegment who T offset total false data) s) fun t =>
          (t.target T).container = U.container ++ data ∧ (t.target T).state = 1 ∧ t.rill.lastCode = .ok) ∧
      (u.takesWrite who .rwa false 0x0A42 T.sub none (u.uploadRefusals c 0 total) = true → s.recoveringUpload c = true → data.length ≤ total →
        Completes (exec (.imageUploadSegment who T 0 total false data) s) fun t =>
          (t.target T).container = data ∧ (t.target T).expect = total ∧ (t.target T).state = 1 ∧ t.rill.lastCode = .ok) ∧
      (u.takesWrite who .rwa false 0x0A42 Target.mission.sub none u.recoverRefusals = true → s.dev.mode = .recover → data.length = total →
        Completes (exec (.imageUploadSegment who .mission 0 total true data) s) fun t =>
          t.boot = { s.boot with recoverImage := some (4, data) } ∧ t.rill.lastCode = .ok ∧ t.mem = s.mem)) ∧
    (U.commit = 0 → ∀ a : Nat, U.idleAt = some a →
      (s.uploadOpen c = true → Completes (exec (.uploadStartTimeout c) s) fun t => abandoned .frameAbort t ∧ t.time = max s.time a) ∧
      (U.stream = 1 → 1 ≤ U.state → U.state ≤ 4 → Completes (exec (.streamIdleExpired c) s) fun t =>
        abandoned .frameAbort t ∧ t.time = max s.time a)) ∧
    (∀ who : Requester, u.takesWrite who .rwa false 0x0A21 (c.val + 1) none (u.streamRefusals c) = true →
      (∀ m : List Byte, s.vget 0x0A22 T.sub [] = m → m ≠ [] → Completes (exec (.streamCommit who c) s) fun t =>
        (t.target T).stream = 2 ∧ (t.target T).state = 2 ∧ (t.target T).container = m ∧ (t.target T).activate = true ∧
        t.rill.lastCode = .ok ∧ t.hg = s.hg) ∧
      (s.mayAbandon T = true → Completes (exec (.streamAbandon who c) s) fun t => abandoned .frameAbort t ∧ t.rill.lastCode = .ok)) ∧
    (∀ p : PortId, Completes (exec (.hostReset p) s) fun t =>
      (t.port p).hreset = true ∧ (t.port p).held = none ∧ (t.port p).dq = [] ∧
      (∀ q : PortId, q ≠ p → (t.port q).hreset = (s.port q).hreset) ∧ t.isPending (portEvent p 14) = true)

/-- With its groups on, a half's push joins its queue, completes with BAD_RANGE for a bad descriptor, or is lost on a full queue; a pop takes
the oldest completion. A dispatch gives the first job of the highest class to a free engine of the half with the most credit, which it
charges. A job's end stores the result and no other byte, and completes it. A refill sets every unfenced engine's credit. A median
window takes the median over unfenced engines and, over 16 jobs or more, counts or fences the slow ones, at most four. A fenced engine
is tried again, and is unfenced, waits another second, or is retired at the eighth failure. -/
def Obligations.HashEngines : Prop :=
  ∀ (s : State) (h : Half),
    let Q := s.hash.queue.get h
    (∀ addr : Word, s.hashOn h = true →
      let b := s.bytes addr.toNat 32
      let keeps (t : State) : Prop := t.hash.engines = s.hash.engines ∧ t.hash.queue.get h.other = s.hash.queue.get h.other ∧ t.mem = s.mem ∧
        t.hash.done.get h.other = s.hash.done.get h.other
      (Q.length < 64 → s.hashJobOk b = true → Completes (exec (.hashQpush h addr) s) fun t =>
        t.hash.queue.get h = Q ++ [hashJobOf b] ∧ t.ev = s.ev ∧ keeps t) ∧
      (Q.length < 64 → s.hashJobOk b = false → Completes (exec (.hashQpush h addr) s) fun t =>
        t.hash.queue.get h = Q ∧ t.hash.done.get h = s.hash.done.get h ++ [((hashJobOf b).tag, .badRange)] ∧ keeps t ∧
        s.raisesOnly t [hashEvent h.engine0 5]) ∧
      (64 ≤ Q.length → Completes (exec (.hashQpush h addr) s) fun t =>
        t.hash.queue.get h = Q ∧ t.hash.lostPush.get h = true ∧ keeps t ∧ s.raisesOnly t [hashEvent h.engine0 4])) ∧
    (∀ (tag : Nat) (c : Code) (r : List (Nat × Code)), s.hashOn h = true → s.hash.lostPush.get h = false → s.hash.done.get h = (tag, c) :: r →
      Completes (exec (.hashQpop h) s) fun t =>
        t.hash.popped.get h = BitVec.ofNat 32 (tag * 65536 + c.num) ∧ t.hash.done.get h = r ∧
        t.hash.done.get h.other = s.hash.done.get h.other ∧ t = { s with hash := t.hash }) ∧
    (s.hash.enable = true → Q ≠ [] → (∃ e ∈ h.engines, s.engineFree e = true) → Completes (exec (.hashDispatch h) s) fun t =>
      ∃ (e : Fin 16) (j : HashJob), e ∈ h.engines ∧ s.engineFree e = true ∧
        (∀ x ∈ h.engines, s.engineFree x = true → s.hash.engines[x].credit < s.hash.engines[e].credit ∨
          (s.hash.engines[x].credit = s.hash.engines[e].credit ∧ e ≤ x)) ∧
        (∀ x ∈ Q, j.cls ≤ x.cls) ∧ Q.find? (fun x => x.cls == j.cls) = some j ∧ t.hash.queue.get h = Q.erase j ∧
        t.hash.engines[e] = { s.hash.engines[e] with job := some j, startAt := s.time, credit := s.hash.engines[e].credit - (j.left : Int) } ∧
        (∀ x : Fin 16, x ≠ e → t.hash.engines[x] = s.hash.engines[x]) ∧ t = { s with hash := t.hash }) ∧
    (∀ (e : Fin 16) (ns : Nat) (j : HashJob), s.hash.engines[e].job = some j → Completes (exec (.hashJobDone e ns) s) fun t =>
      let m := s.hashResult j
      t.time = max s.time (s.hash.engines[e].startAt + ns * j.left / 4096) ∧ t.bytes j.dst m.length = m ∧
      (∀ a, (a < j.dst ∨ j.dst + m.length ≤ a) → t.byte a = s.byte a) ∧ t.hash.engines[e].job = none ∧
      t.hash.done.get (engineHalf e) = s.hash.done.get (engineHalf e) ++ [(j.tag, .ok)] ∧ t.hash.queue = s.hash.queue) ∧
    (Completes (exec .hashCreditRefill s) fun t => t.time = nextMultiple s.time msNs ∧ s.time < t.time ∧
      ∀ e : Fin 16, t.hash.engines[e] = (if s.hash.engines[e].fenced then s.hash.engines[e] else { s.hash.engines[e] with credit := 1920000 })) ∧
    (Completes (exec (.hashMedianWindow h) s) fun t =>
      let all := (h.engines.filter fun e => ! s.hash.engines[e].fenced).flatMap fun e => s.hash.engines[e].window
      let med := if all.isEmpty then 0 else median all
      t.time = nextMultiple s.time (10 * msNs) ∧ t.hash.median.get h = med ∧ t.hash.median.get h.other = s.hash.median.get h.other ∧
      (∀ e ∈ h.other.engines, t.hash.engines[e] = s.hash.engines[e]) ∧
      ∀ e ∈ h.engines,
        let g := s.hash.engines[e]
        let g' := t.hash.engines[e]
        g'.window = [] ∧ (all.length < 16 → g' = { g with window := [] }) ∧ (g.fenced = true → g' = { g with window := [] }) ∧
        (16 ≤ all.length → g.fenced = false → g.window ≠ [] →
          (median g.window ≤ 4 * med → g' = { g with window := [], slow := 0 }) ∧
          (4 * med < median g.window → g.slow < 2 → g' = { g with window := [], slow := g.slow + 1 }) ∧
          (4 * med < median g.window → 2 ≤ g.slow → t.isPending (hashEvent e.val 0) = true ∧
            (g'.fenced = true ∧ g'.job = none ∧ g'.retryAt = some (t.time + secNs) ∧ (∀ j, g.job = some j → j ∈ t.hash.queue.get h) ∨
              g' = { g with window := [], slow := 0 } ∧ 4 ≤ (t.fencedOf h).length)))) ∧
    (∀ (e : Fin 16) (a : Nat), s.hash.engines[e].retryAt = some a → s.hash.engines[e].fenced = true → s.hash.engines[e].retired = false →
      Completes (exec (.hashFenceRetry e) s) fun t => t.time = max s.time a ∧
        t.hash.engines[e] = { s.hash.engines[e] with retryAt := none, kat := true }) ∧
    (∀ (e : Fin 16) (ns : Nat), s.hash.engines[e].kat = true →
      let g := s.hash.engines[e]
      (ns ≤ 4 * s.hash.median.get (engineHalf e) → Completes (exec (.hashFenceRetryDone e true ns) s) fun t =>
        t.hash.engines[e] = { g with kat := false, fenced := false, fails := 0, slow := 0, credit := 1920000 } ∧
        s.raisesOnly t [hashEvent e.val 1]) ∧
      (g.fails + 1 < 8 → Completes (exec (.hashFenceRetryDone e false ns) s) fun t =>
        t.hash.engines[e] = { g with kat := false, fails := g.fails + 1, retryAt := some (s.time + secNs) } ∧
        s.raisesOnly t [hashEvent e.val 3]) ∧
      (8 ≤ g.fails + 1 → Completes (exec (.hashFenceRetryDone e false ns) s) fun t =>
        t.hash.engines[e] = { g with kat := false, fails := g.fails + 1, retired := true, retryAt := none } ∧
        s.raisesOnly t [hashEvent e.val 2, hashEvent e.val 3]))

/-- The steward starts init and pushes commands: a good one joins the queue, a bad one completes with BAD_RANGE, one too many is lost.
Pops and the ECC register's read clear. A completed command is the lowest class, first in; reads bring the pages to staging, programs
and erases change exactly their pages, under the block's erase sequence. A commit of which both copies read back changes the catalogue; a patrol pass, golden writes, the 10 s window's
laggards, the replace wait and the oldest orphan's end act; the fill map keeps ports whose fill runs and leaves none on a retired
engine. Init ends online, read-only or offline. -/
def Obligations.CisternAndAllotter : Prop :=
  ∀ (s : State) (h : Half),
    let u := s.quiet
    let C := s.cis
    (s.domOn 25 = true →
      (s.isSteward h = true →
        exec (.cisternInit h) s = .next { s with cis := { C with state := 1, ready := false, committing := false, commits := [] } } ∧
        ∀ x ∈ ([(1, Instr.cisternRead), (2, Instr.cisternProgram), (3, Instr.cisternErase), (4, Instr.cisternEncode), (5, Instr.cisternDecode),
                (6, Instr.cisternPatrolRead), (7, Instr.cisternParameterPage)] : List (Nat × (Half → CisCmd → Instr))), ∀ cmd : CisCmd,
          let c : CisCmd := { cmd with op := x.1 }
          (C.queue.length < 64 → s.cisCmdOk c = true → exec (x.2 h cmd) s = .next { s with cis := { C with queue := C.queue ++ [c] } }) ∧
          (C.queue.length < 64 → s.cisCmdOk c = false → Completes (exec (x.2 h cmd) s) fun t =>
            t.cis = { C with done := C.done ++ [(c.tag, .badRange)] } ∧ s.raisesOnly t [1084]) ∧
          (64 ≤ C.queue.length → Completes (exec (x.2 h cmd) s) fun t => t.cis = { C with lostPush := true } ∧ s.raisesOnly t [1083])) ∧
      (s.isSteward h = false → ∀ cmd : CisCmd, Completes (exec (.cisternProgram h cmd) s) fun t =>
        t.cis = C ∧ s.raisesOnly t [1487 + 2 * (halfCore h).val]) ∧
      (∀ (tag : Nat) (k : Code) (r : List (Nat × Code)), C.lostPush = false → C.done = (tag, k) :: r →
        exec (.cisternQpop h) s = .next { s with cis := { C with popped := BitVec.ofNat 32 (tag * 65536 + k.num), done := r } }) ∧
      exec (.cisternEccMaxRead h) s = .next { s with cis := { C with popped := BitVec.ofNat 32 C.eccMax.toNat, eccMax := 0 } }) ∧
    (∀ (o : CisOutcome) (c : CisCmd), s.nextCis = some c → Completes (exec (.cisternCmdDone o) s) fun t =>
      c ∈ C.queue ∧ s.cisServes c = true ∧ (∀ x ∈ C.queue, s.cisServes x = true → c.cls ≤ x.cls) ∧ t.cis.queue = C.queue.erase c ∧
      (∃ code : Code, t.cis.done = C.done ++ [(c.tag, code)]) ∧
      (c.op = 1 → o.words = [] → (c.tag, Code.ok) ∈ t.cis.done ∧
        ∀ i, i < c.pages → t.bytes (dramBase + (c.dram * 512 + i * 16384)) 16384 = padPage (s.pageData c.target (c.row + i))) ∧
      (c.op = 2 → o.opFail = false → (c.tag, Code.ok) ∈ t.cis.done ∧
        (∀ i, i < c.pages → lookupD t.cis.pages (pageKey c.target (c.row + i)) ([], 0) =
          (s.bytes (dramBase + c.dram * 512 + i * 16384) 16384, s.blockSeq c.target (c.row + i))) ∧
        ∀ k, (k < pageKey c.target c.row ∨ pageKey c.target c.row + c.pages ≤ k) →
          lookupD t.cis.pages k ([], 0) = lookupD C.pages k ([], 0)) ∧
      (c.op = 3 → o.opFail = false → (c.tag, Code.ok) ∈ t.cis.done ∧ t.cis.eraseSeq = (C.eraseSeq + 1) % 2 ^ 40 ∧ t.blockSeq c.target c.row = t.cis.eraseSeq ∧
        ∀ p, p ∈ t.cis.pages ↔ p ∈ C.pages ∧
          ¬ (keyTarget p.1 = c.target ∧ p.1 % 2 ^ 32 / max 1 C.pagesPerBlock = c.row / max 1 C.pagesPerBlock))) ∧
    (∀ (e : CatEntry) (rest : List CatChange), C.committing = true →
      (∀ ack : Option (Nat × Nat), C.commits = .add e ack :: rest →
        (Completes (exec (.catalogueCommitDone true true) s) fun t => t.cis.catalogue = C.catalogue ++ [e] ∧
          t.cis.copyA.entries = t.cis.catalogue ∧ t.cis.copyB.entries = t.cis.catalogue) ∧
        (∀ okA okB : Bool, (okA && okB) = false → Completes (exec (.catalogueCommitDone okA okB) s) fun t =>
          t.cis.catalogue = C.catalogue ∧ t.isPending 1065 = true)) ∧
      (∀ hs : List Nat, C.commits = .free hs :: rest → Completes (exec (.catalogueCommitDone true true) s) fun t =>
        t.cis.catalogue = C.catalogue.filter fun e => ! hs.contains e.handle)) ∧
    (C.patrolOn = true → s.catalogueReadable = true → Completes (exec .patrolPeriod s) fun t =>
      t.time = max s.time (C.patrolAt + s.pnat 0x0401 2 7 * 86400 * secNs) ∧ t.cis = { C with patrolAt := t.time } ∧ s.raisesOnly t [1067]) ∧
    (∀ (tg : Target) (b : List Byte), ModeOp.golden.permitted s.dev.mode = true → b ≠ [] →
      (C.state = 3 → Completes (exec (.goldenWrite tg b) s) fun t => t.cis = C ∧ s.raisesOnly t [1068]) ∧
      (C.state ≠ 2 → C.state ≠ 3 → exec (.goldenWrite tg b) s = .next { u with cis := { C with pendingWrites := C.pendingWrites ++ [(tg, b)] } }) ∧
      (C.state = 2 → let f := s.fullContainer tg b
        (s.goldenSpace f.length = true → Completes (exec (.goldenWrite tg b) s) fun t =>
          (∃ g : GoldenSet, t.setsOf tg = g :: s.setsOf tg ∧ g.handle = C.nextHandle ∧ g.root = imgRoot f ∧ (g.k, g.m) = s.setParams tg) ∧
          t.cis.nextHandle = C.nextHandle + 1 ∧ t.cis.catalogue = C.catalogue ∧
          ∃ e : CatEntry, t.cis.commits = C.commits ++ [.add e none] ∧ e.handle = C.nextHandle ∧ e.container = f ∧ e.role = .localCopy) ∧
        (s.goldenSpace f.length = false → Completes (exec (.goldenWrite tg b) s) fun t => t.cis = C ∧ s.raisesOnly t [1068]))) ∧
    (Completes (exec .laggardWindow s) fun t =>
      let all := C.peers.toList.flatMap fun p => p.acks
      t.time = nextMultiple s.time (10 * secNs) ∧
      ∀ d : Fin 32, (t.cis.peers[d]).acks = [] ∧ (t.cis.peers[d]).sent = false ∧
        (all.length < 8 → (t.cis.peers[d]).laggard = (C.peers[d]).laggard) ∧
        (8 ≤ all.length → d.val ∈ s.present → d.val ≠ s.devNumber → (C.peers[d]).acks ≠ [] →
          let m := median (C.peers[d]).acks
          (4 * median all < m → 2 ≤ (C.peers[d]).slow → (t.cis.peers[d]).laggard = true) ∧
          (m ≤ 2 * median all → 2 ≤ (C.peers[d]).good → (t.cis.peers[d]).laggard = false) ∧
          ((C.peers[d]).laggard = false → m ≤ 4 * median all → (t.cis.peers[d]).laggard = false))) ∧
    (∀ (d : Fin 32) (a : Nat), (s.peer d.val).absentSince = some a → s.isPresent d.val = false →
      Completes (exec (.replaceWaitExpired d) s) fun t =>
        t.time = max s.time (a + s.pnat 0x0404 3 3600 * secNs) ∧ (t.peer d.val).absentSince = none) ∧
    (∀ (o : OrphanSet) (rest : List OrphanSet), C.orphans = o :: rest → Completes (exec .orphanKeepExpired s) fun t =>
      t.time = max s.time (o.since + s.pnat 0x0404 5 168 * 3600 * secNs) ∧ t.cis.orphans = rest ∧ t.isPending 1082 = true ∧
      t.cis.commits = C.commits ++ [.free o.handles]) ∧
    (∀ p : PortId, s.fillUnderWay p = false → Completes (exec (.fillRemap p) s) fun t =>
      t = { s with hash := { s.hash with fillMap := t.hash.fillMap }, ev := t.ev, log := t.log } ∧ s.raisesOnly t (if t.hash = s.hash then [] else [1087]) ∧
      ∀ (k : Half) (q : PortId), (s.fillUnderWay q = true → t.fillEngine k q = s.fillEngine k q) ∧
        (s.fillUnderWay q = false → (∃ e : Fin 8, s.fillRetired k e = false) → s.fillRetired k (t.fillEngine k q) = false)) ∧
    (∀ o : InitOutcome, C.state = 1 →
      ((o.match_ = false ∨ o.fitted &&& o.trained = 0) → Completes (exec (.cisternInitDone o) s) fun t =>
        t.cis.state = 4 ∧ t.isPending 1057 = true ∧ t.cis.catalogue = C.catalogue) ∧
      (o.match_ = true → o.fitted &&& o.trained ≠ 0 → s.pget 0x0401 1 [] ≠ [] → Completes (exec (.cisternInitDone o) s) fun t =>
        t.cis.state = (if t.reserveGone then 3 else 2) ∧ t.cis.ready = true ∧ t.isPending 1056 = true ∧
        (t.cis.trainFail = true ↔ o.fitted &&& ~~~ o.trained ≠ 0)))

/-- A training step that is next passes or fails the try, which is tried again; a link whose handshake is done comes up; a link down, or of
32 CRC failures, loses its session. A HELLO tells the peer or a position conflict; the requester of a handshake opens it and goes on as
the answers come, the responder answers, a message out of turn fails it, and it ends in a session where the peer's co-signature verifies;
a link test keeps the round trip; a rekey begins a new exchange, at whose end the session is renewed. Sealed set-up frames are dropped
and counted. The steward's commands join the queue, are sent by priority where a session may carry them, or fail; pops take the oldest. -/
def Obligations.PakorLinks : Prop :=
  ∀ (s : State) (l : LinkId),
    let u := s.quiet
    let L := s.link l
    let others (t : State) : Prop := ∀ j : LinkId, j ≠ l → t.link j = s.link j
    (∀ n : Fin 7, s.linkEnabled l = true → n.val = L.step + 1 → n.val < 5 → s.pak.posConflict = false → L.retryAt = none →
      (n.val < 4 → Completes (exec (.pakorLinkTrainStep l n true) s) fun t => t.link l = { L with step := n.val, state := .training } ∧ others t) ∧
      (n.val = 4 → Completes (exec (.pakorLinkTrainStep l n true) s) fun t => (t.link l).step = 4 ∧ (t.link l).state = .training ∧ others t ∧
        t.pak.sent = if s.requests l = true then [⟨0x02, L.peer, s.devNumber, 16, some l, true, getVersionMsg⟩] else []) ∧
      (Completes (exec (.pakorLinkTrainStep l n false) s) fun t => t.link l = { L with
        state := .down, step := 0, fails := L.fails + 1, hsStep := 0,
        retryAt := some (s.time + (if 5 ≤ L.fails + 1 then secNs else 100 * msNs)) } ∧ others t)) ∧
    (∀ a : Nat, L.retryAt = some a → Completes (exec (.pakorTrainRetry l) s) fun t => t.time = max s.time a ∧ others t ∧
      t.link l = { L with retryAt := none, step := 0, state := .training, ringTold := false }) ∧
    (∀ one : Bool, L.session = true → L.step = 5 → Completes (exec (.pakorLinkUp l one) s) fun t =>
      (t.link l).state = (if one then .upOneLane else .up) ∧ (t.link l).step = 6 ∧ (t.link l).fails = 0 ∧
      t.isPending (1088 + 2 * l.val) = true ∧ (2 ≤ l.val → t.pak.multiSeg = true)) ∧
    (Completes (exec (.pakorLinkDown l) s) fun t =>
      (t.link l).state = .down ∧ (t.link l).session = false ∧ (t.link l).step = 0 ∧ (t.link l).peer = 0xFF ∧ (t.link l).laneOff = none ∧
      (∀ j : LinkId, j ≠ l → (t.link j).state = (s.link j).state ∧ (t.link j).session = (s.link j).session ∧
        (t.link j).step = (s.link j).step ∧ (t.link j).peer = (s.link j).peer ∧ (t.link j).rxCounter = (s.link j).rxCounter) ∧
      (L.state = .up → t.isPending (1089 + 2 * l.val) = true)) ∧
    (∀ worse : Fin 2, Completes (exec (.pakorCrcRetrain l worse) s) fun t =>
      let n := (s.time :: L.retrains.filter fun a => decide (s.time ≤ a + 60 * secNs)).length
      (t.link l).state = .training ∧ (t.link l).session = false ∧ (t.link l).step = 1 ∧ (t.link l).crcCnt = satAdd 32 L.crcCnt 32 ∧ others t ∧
      (n < 3 → (t.link l).laneOff = L.laneOff) ∧
      (3 ≤ n → L.laneOff = none → L.lane0 = true → L.lane1 = true → (t.link l).laneOff = some worse ∧ t.isPending 1096 = true)) ∧
    (∀ f : FrameIn, f.link = l →
      (∀ (d : Nat) (lane : Fin 2) (same ringOk : Bool) (mode : Nat) (id : Digest),
        ((f.hops = 0 ∨ f.isSealed = true) → Completes (exec (.hello f d lane same mode id ringOk) s) fun t =>
          t.link l = { L with dropCnt := satInc 32 L.dropCnt } ∧ others t ∧ t.ev = s.ev) ∧
        (f.hops ≠ 0 → f.isSealed = false → s.pak.posConflict = false →
          (d = s.devNumber → Completes (exec (.hello f d lane same mode id ringOk) s) fun t =>
            t.pak.posConflict = true ∧ t.isPending 1101 = true ∧ ∀ j : LinkId, (t.link j).state = .untrusted ∧ (t.link j).session = false) ∧
          (d ≠ s.devNumber → lane = 0 → Completes (exec (.hello f d lane same mode id ringOk) s) fun t =>
            (t.link l).peer = d ∧ (t.link l).peerMode = mode ∧ (t.link l).peerId = id ∧ others t ∧
            ∀ i : Fin 32, i.val = d → (t.pak.seen[i]).deviceId = id))) ∧
      (f.hops ≠ 0 → f.isSealed = false →
        (L.step = 4 → s.admitted = true → modeAdmits L.peerMode = true → s.pak.posConflict = false → ∀ m chain : List Byte,
          let e := linkEndpoint l
          let fails (t : State) : Prop := (t.link l).state = .untrusted ∧ (t.link l).session = L.session ∧ t.isPending 1097 = true ∧ others t
          let sends (x : List Byte) (t : State) : Prop := t.pak.sent = [⟨0x02, L.peer, s.devNumber, 16, some l, true, x⟩]
          (s.boot.secretBad = true → Completes (exec (.handshake f m chain) s) fails) ∧
          (s.boot.secretBad = false → s.requests l = true → L.hsStep = 0 →
            (spdmField m 1 1 = 0x04 → Completes (exec (.handshake f m chain) s) fun t =>
              (t.link l).hsStep = 1 ∧ others t ∧ sends (spdmMsg 0xE1 0 0 capabilitiesBody) t) ∧
            (spdmField m 1 1 = 0x03 → Completes (exec (.handshake f m chain) s) fails)) ∧
          (s.boot.secretBad = false → s.requests l = false → s.answers ⟨e, false⟩ = true → spdmField m 1 1 = 0x84 → m.headD 0 = 0x10 →
            s.spdm.sessions.find? (fun x => x.endpoint == e && x.cosigDone) = none → Completes (exec (.handshake f m chain) s) fun t =>
              t.link l = L ∧ others t ∧ sends versionMsg t) ∧
          (∀ x : Session, s.boot.secretBad = false → s.requests l = true → L.hsStep = 8 → spdmField m 1 1 = 0x7E → L.session = false →
            s.spdm.sessions.find? (fun x => x.endpoint == e) = some x → Completes (exec (.handshake f m chain) s) fun t =>
              (cosigOk x.peer 0 2 (s.conn e).cosig (m.drop 15) = true → (t.link l).session = true ∧ (t.link l).step = 5 ∧
                (t.link l).sessionAt = s.time ∧ (t.link l).txCounter = 0 ∧ (t.link l).rxCounter = 0 ∧ (t.link l).slots = x.slots ∧
                t.isPending 1098 = true ∧ others t) ∧
              (cosigOk x.peer 0 2 (s.conn e).cosig (m.drop 15) = false → fails t))) ∧
        (∀ (rtt : Nat) (copper : Bool), s.pak.posConflict = false → Completes (exec (.linkTest f rtt copper) s) fun t =>
          t.link l = { L with rtt := min rtt (2 ^ 24 - 1) } ∧ others t ∧
          s.raisesOnly t (if copper = true ∧ 700 < s.cableCm l rtt then [1117] else [])))) ∧
    (∀ (msgs : SpdmMsgs) (chain : List Byte), L.session = false → exec (.pakorRekey l msgs chain) s = .next u) ∧
    (∀ chain : List Byte, L.session = true → Completes (exec (.pakorRekey l [] chain) s) fun t => (t.link l).session = true ∧ others t ∧
      (t.link l).txCounter = L.txCounter ∧ (t.link l).hsStep = (if s.requests l = true then 5 else L.hsStep) ∧
      (s.requests l = false → t = u) ∧ (s.requests l = true → (t.link l).hsSent = s.exchangeMsg)) ∧
    (∀ (x : Session) (own : Bool), L.session = true →
      let t := u.linkSecured l x own
      (t.link l).session = true ∧ (t.link l).step = L.step ∧ (t.link l).sessionAt = s.time ∧ (t.link l).rxCounter = 0 ∧
      (t.link l).slots = x.slots ∧ t.isPending 1099 = true ∧ (s.pak.queue = [] → (t.link l).txCounter = 0)) ∧
    (∀ h : Half, (s.domOn 26 = true ∨ s.domOn 27 = true) →
      (∀ cmd : SendCmd, s.isSteward h = true →
        (64 ≤ s.pak.queue.length → Completes (exec (.pakorQpush h cmd) s) fun t =>
          t.pak = { u.pak with lostPush := true } ∧ s.raisesOnly t [1115]) ∧
        (s.pak.queue.length < 64 → s.sendCmdOk cmd = false → Completes (exec (.pakorQpush h cmd) s) fun t =>
          t.pak = { u.pak with done := s.pak.done ++ [(cmd.tag, .badRange)] } ∧ s.raisesOnly t [1116]) ∧
        (s.pak.queue.length < 64 → s.sendCmdOk cmd = true →
          (s.maySend = false → exec (.pakorQpush h cmd) s = .next { u with pak := { u.pak with queue := s.pak.queue ++ [cmd] } }) ∧
          (s.maySend = true →
            let q := (List.range 7).flatMap fun p => (s.pak.queue ++ [cmd]).filter fun c => min c.priority 6 == p
            Completes (exec (.pakorQpush h cmd) s) fun t => t.pak.queue = [] ∧
              t.pak.done = s.pak.done ++ q.map (fun c => (c.tag, Code.ok)) ∧
              ((∀ c ∈ q, c.length ≤ 4096) → t.pak.sent.map (fun x => (x.type, x.dst)) = q.map fun c => (c.type, c.dst))))) ∧
      (exec (.pakorRxpop h) s = .next { s with pak := { s.pak with popped := s.pak.rx.headD 0, rx := s.pak.rx.tail } }) ∧
      (∀ (tag : Nat) (c : Code) (r : List (Nat × Code)), s.pak.lostPush = false → s.pak.done = (tag, c) :: r →
        exec (.pakorQpop h) s = .next { s with pak := { s.pak with popped := BitVec.ofNat 32 (tag * 65536 + c.num), done := r } }))

/-- A sealed frame for this device over a session with its tag right acts: a beacon keeps its sender's state and shows a position conflict;
a winning claim makes its claimant master; a member that leaves the segment master is absent; holdings that lack a shard start
re-protection; an offer is answered and taken; a grant sends; data joins its transfer, and whole goes to its commit or fails; an
acknowledgement is timed; a request is served or EMPTY. Beacons go out every 100 ms, are refreshed, go stale; absence is declared;
the rightful device claims; a stalled transfer ends. -/
def Obligations.PakorFrames : Prop :=
  ∀ (s : State),
    (∀ f : FrameIn, f.hops ≠ 0 → f.isSealed = true → (s.link f.link).session = true → s.pak.posConflict = false → f.tagOk = true →
      f.dst = s.devNumber →
      let frame (type : Nat) (body : List Byte) : FrameOut := ⟨type, f.src, s.devNumber, 16, none, true, body⟩
      let last (t : State) (type : Nat) (body : List Byte) : Prop := t.pak.sent.getLast? = some (frame type body)
      (∀ b : Beacon,
        (f.src = s.devNumber → Completes (exec (.beacon f b) s) fun t => t.pak.posConflict = true ∧ t.isPending 1101 = true) ∧
        (∀ i : Fin 32, i.val = f.src → f.src ≠ s.devNumber → Completes (exec (.beacon f b) s) fun t =>
          (t.pak.seen[i]).lastBeacon = s.time ∧ (t.pak.seen[i]).healthy = b.flags.getLsbD 0 ∧
          (t.pak.seen[i]).reachesTrunk = b.flags.getLsbD 3 ∧ (i.val / 8 = s.pak.seg.val → (t.pak.seen[i]).present = true))) ∧
      (∀ m : ClaimMsg,
        (m.cascade = false → s.pak.segMaster ≠ m.claimant →
          ((s.pak.segMaster = 0xFF ∨ claimBeats m.epoch (m.claimant % 8) s.pak.segEpoch (s.pak.segMaster % 8) = true) →
            Completes (exec (.claim f m) s) fun t => t.pak.segMaster = m.claimant ∧ t.pak.segEpoch = m.epoch ∧
              t.pak.isSeg = (m.claimant == s.devNumber) ∧ t.isPending 1106 = true) ∧
          (s.pak.segMaster ≠ 0xFF → claimBeats m.epoch (m.claimant % 8) s.pak.segEpoch (s.pak.segMaster % 8) = false →
            Completes (exec (.claim f m) s) fun t => t.pak.segMaster = s.pak.segMaster ∧ t.pak.segEpoch = s.pak.segEpoch ∧ t.ev = s.ev)) ∧
        (m.cascade = true → s.pak.casMaster ≠ m.claimant →
          (s.pak.casMaster = 0xFF ∨ claimBeats m.epoch (m.claimant / 8) s.pak.casEpoch (s.pak.casMaster / 8) = true) →
          Completes (exec (.claim f m) s) fun t => t.pak.casMaster = m.claimant ∧ t.pak.casEpoch = m.epoch)) ∧
      (s.pak.isSeg = true → s.seenPresent f.src = true → Completes (exec (.leave f) s) fun t =>
        t.seenPresent f.src = false ∧ t.isPending 1105 = true ∧ t.isPending 1076 = true) ∧
      (∀ has : List (Nat × Nat), Completes (exec (.holdings f has) s) fun t => t.cis.catalogue = s.cis.catalogue ∧
        ((∃ x ∈ s.setsOn f.src, ∃ p ∈ x.2.shards, p.device = f.src ∧ (x.2.handle, p.index) ∉ has) → t.isPending 1077 = true)) ∧
      (∀ (n : Nat) (h : ShardHead), Completes (exec (.shardOffer f n h) s) fun t =>
        last t 0x21 (codeBytes n (s.grantCode h)) ∧
        (s.grantCode h = .ok → ∃ x : Transfer, t.pak.incoming = s.pak.incoming ++ [x] ∧ x.number = n ∧ x.peer = f.src ∧ x.head = h ∧
          x.data = []) ∧
        (s.grantCode h ≠ .ok → t.pak.incoming = s.pak.incoming)) ∧
      (∀ (n : Nat) (x : Transfer), s.outTransfer f.src n = some x →
        (Completes (exec (.shardGrant f n .ok) s) fun t =>
          t.pak.sent = (framePieces 4096 x.data).zipIdx.map (fun p => frame 0x22 (shardDataBytes n (p.2 * 4096) p.1)) ∧
          (∀ y ∈ t.pak.outgoing, y.peer = f.src → y.number = n → y.granted = true ∧ y.startAt = s.time) ∧
          t.pak.outgoing.length = s.pak.outgoing.length) ∧
        (Completes (exec (.shardGrant f n .busy) s) fun t =>
          t.pak.outgoing = s.pak.outgoing.filter fun y => ! (y.peer == f.src && y.number == n)) ∧
        (∀ c : Code, Completes (exec (.shardAck f n c) s) fun t => (t.peer f.src).acks =
          (s.peer f.src).acks ++ [(s.time - x.startAt) * 1048576 / max 1 x.head.shardLength])) ∧
      (∀ (n : Nat) (x : Transfer) (d : List Byte), s.pak.incoming.find? (fun y => y.peer == f.src && y.number == n) = some x →
        let all := x.data ++ d
        (all.length < x.head.shardLength → Completes (exec (.shardData f n x.data.length d) s) fun t =>
          t.pak.incoming.find? (fun y => y.peer == f.src && y.number == n) = some { x with data := all, progressAt := s.time } ∧
          t.pak.incoming.length = s.pak.incoming.length) ∧
        (x.head.shardLength ≤ all.length → x.probe = false →
          (x.head.digests.getD x.head.index 0 = sha384 all → Completes (exec (.shardData f n x.data.length d) s) fun t =>
            (∃ e : CatEntry, t.cis.commits = s.cis.commits ++ [.add e (some (f.src, n))] ∧ e.container = headBytes x.head ++ all ∧
              e.role = .shard x.head.index ∧ e.root = x.head.root) ∧
            t.pak.incoming.find? (fun y => y.peer == f.src && y.number == n) = none) ∧
          (x.head.digests.getD x.head.index 0 ≠ sha384 all → Completes (exec (.shardData f n x.data.length d) s) fun t =>
            last t 0x23 (codeBytes n .verifyFail) ∧ t.cis = s.cis))) ∧
      (∀ (id : Digest) (tg svn : Nat) (root : Digest) (ix : Nat),
        let held (e : CatEntry) : Bool := e.role == .shard ix && e.ownerId == id && e.target == tg && e.svn == svn && e.root == root && e.readable
        Completes (exec (.shardReq f id tg svn root ix) s) fun t => t.cis = s.cis ∧
          last t 0x23 (codeBytes 0 (if s.catalogueReadable && s.cis.catalogue.any held then .ok else .empty)))) ∧
    (s.pak.beaconRun = true → s.maySend = true → Completes (exec .beaconSend s) fun t =>
      t.time = nextMultiple s.time (100 * msNs) ∧ t.pak.seq = (s.pak.seq + 1) % 2 ^ 32 ∧
      t.pak.sent = [⟨0x10, 0xFE, s.devNumber, 16, none, true, Beacon.bytes ⟨s.dev.mode.num, s.pak.flags, s.pak.segMaster, s.pak.casMaster,
        s.pak.segEpoch, s.pak.casEpoch, s.pak.members, s.pak.seq⟩⟩]) ∧
    (∀ h : Half, (s.domOn 26 = true ∨ s.domOn 27 = true) → s.isSteward h = true → Completes (exec (.beaconRefresh h) s) fun t =>
      t.pak = { s.pak with refreshAt := s.time, stale := false, flags := s.beaconFlags, healthySince := t.pak.healthySince }) ∧
    (s.pak.beaconRun = true → Completes (exec .beaconStale s) fun t => t.time = max s.time (s.pak.refreshAt + 2 * secNs) ∧
      t.pak = { s.pak with stale := true, flags := s.pak.flags &&& 0xF8 }) ∧
    (∀ i : Fin 32, (s.pak.seen[i]).present = true → s.pak.isSeg = true → Completes (exec (.memberAbsenceTimeout i) s) fun t =>
      t.time = max s.time ((s.pak.seen[i]).lastBeacon + secNs) ∧ (t.pak.seen[i]).present = false ∧ t.isPending 1105 = true) ∧
    (∀ a : Nat, s.pak.isSeg = false → s.rightful = true → s.claimAt = some a → Completes (exec (.masterClaimStart false) s) fun t =>
      t.time = max s.time a ∧ t.pak.segMaster = s.devNumber ∧ t.pak.isSeg = true ∧ t.pak.segEpoch = nextEra s.pak.segEpoch) ∧
    (s.pak.isSeg = true → s.pak.isCas = false → s.trunkReach = true → (s.pak.casMaster = 0xFF ∨ s.pak.seg.val < s.pak.casMaster / 8) →
      Completes (exec (.masterClaimStart true) s) fun t =>
        t.pak.casMaster = s.devNumber ∧ t.pak.isCas = true ∧ t.pak.casEpoch = nextEra s.pak.casEpoch ∧ t.isPending 1107 = true) ∧
    (∀ (n : Nat) (x : Transfer),
      (s.pak.incoming.find? (fun y => y.number == n) = some x → Completes (exec (.shardTransferStall n false) s) fun t =>
        t.time = max s.time (x.progressAt + 5 * secNs) ∧ t.isPending 1113 = true ∧ t.pak.incoming = s.pak.incoming.filter fun y => ! (y == x)) ∧
      (s.pak.outgoing.find? (fun y => y.number == n) = some x → Completes (exec (.shardTransferStall n true) s) fun t =>
        t.time = max s.time (x.progressAt + 5 * secNs) ∧ t.isPending 1113 = true))

/-- The edge at which an output is evaluated releases it where no condition of R316 is unmet: the mode and the plan run with a steward,
HG_PUEN is settled, the entry is used, the net is pulled or its class ignored, no hold and no latched sense loss stands, the plan's
channels are those whose descriptors name the output, each has both halves' matching good verdicts of its cached generation in a state
that may be served, an output without channels has both grants, the predecessors were released before and the delay has passed, and the
sense conditions have held. Where one is unmet, or the output is released already, the edge changes nothing. -/
def Obligations.OutputReleasesWhereEveryConditionHolds : Prop :=
  ∀ (s : State) (h : OutId),
    let e := s.hg.planActive[h]
    let met : Prop :=
      s.outReleased h = false ∧
      (s.dev.mode = .hold ∨ s.dev.mode = .guard ∨ s.dev.mode = .update) ∧ s.hg.planRun = true ∧ s.hg.warm = false ∧
      s.hg.steward.isSome = true ∧ s.dev.dormantSeq = false ∧
      s.hg.puenSettled = true ∧ e.used = true ∧ (s.hg.loadClass[h] = .pulled ∨ e.ignoreLoad = true) ∧
      (s.hg.holds.indigo.getLsbD h.val = false ∧ s.hg.holds.amber.getLsbD h.val = false ∧ s.hg.senseLoss.getLsbD h.val = false) ∧
      s.namingChans h = e.chanMask ∧
      (∀ c : ChanId, e.chanMask.getLsbD c.val = true →
        ((s.chan c).state = .held ∨ (s.chan c).state = .updating ∨ (s.chan c).state = .repairing) ∧ s.verdictsRelease c = true) ∧
      (e.chanMask = 0 → s.hg.grants.indigo.getLsbD h.val = true ∧ s.hg.grants.amber.getLsbD h.val = true) ∧
      s.predsDone e = true ∧ s.senseHeld e = true
    (met → Completes (exec (.holdOutputRelease h) s) fun t => t.outReleased h = true ∧
      (∀ j : OutId, j ≠ h → t.outReleased j = s.outReleased j) ∧ t.dev.mode = (if s.dev.mode = .hold then .guard else s.dev.mode) ∧
      t.hg.relAt[h] = s.time) ∧
    (¬ met → exec (.holdOutputRelease h) s = .next s)

/-- Outside RECOVER and SERVICE and outside a warm restart, a half that sets its hold bit leaves the output asserted with the bit set, a
half that clears it changes that bit alone; in RECOVER and SERVICE nothing of the Headgate changes. A half whose conditions of R578
hold sets its own grant bit and nothing else; otherwise the write changes nothing. -/
def Obligations.HoldsAndGrants : Prop :=
  ∀ (s : State) (half : Half) (h : OutId),
    (s.dev.mode ≠ .recover → s.dev.mode ≠ .service → s.hg.warm = false →
      Completes (exec (.holdRequest half h true) s) (fun t => t.outReleased h = false ∧
        t.hg.holds = s.hg.holds.upd half (fun m => putBit m h.val true) ∧ s.releasesNothing t) ∧
      exec (.holdRequest half h false) s =
        .next { s with hg := { s.hg with holds := s.hg.holds.upd half fun m => putBit m h.val false } }) ∧
    ((s.dev.mode = .recover ∨ s.dev.mode = .service) → ∀ b : Bool,
      Completes (exec (.holdRequest half h b) s) fun t => t = { s with log := t.log }) ∧
    (let e := s.hg.planActive[h]
     let may : Prop := e.used = true ∧ e.chanMask = 0 ∧ (s.dev.mode = .hold ∨ s.dev.mode = .guard ∨ s.dev.mode = .update) ∧
       s.hg.warm = false ∧ s.hg.planGen.get half = s.hg.planActiveGen ∧ (s.hg.holds.get half).getLsbD h.val = false
     (may → exec (.grantWrite half h) s =
       .next { s with hg := { s.hg with grants := s.hg.grants.upd half fun m => putBit m h.val true } }) ∧
     (¬ may → exec (.grantWrite half h) s = .next s))

/-- A changed filtered level is taken over, restarts its settle time and raises HG_INss; the same level changes nothing. A released output
whose entry holds on sense loss asserts, with the latch set, once a condition has been unmet for settle_ms; the latch clears once all
have held for settle_ms. An output that waits on cause 10 alone is marked timed out with HG_OUThh pending, once. -/
def Obligations.SenseInputs : Prop :=
  ∀ (s : State),
    (∀ (i : SenseId) (level : Bool),
      (s.hg.senseLevel.getLsbD i.val ≠ level → Completes (exec (.senseInputChange i level) s) fun t =>
        t.hg.senseLevel = putBit s.hg.senseLevel i.val level ∧ t.hg.senseSince[i] = s.time ∧ t.isPending (1200 + i.val) = true ∧
        t = { s with hg := { s.hg with senseLevel := t.hg.senseLevel, senseSince := t.hg.senseSince }, ev := t.ev, log := t.log }) ∧
      (s.hg.senseLevel.getLsbD i.val = level → exec (.senseInputChange i level) s = .next s)) ∧
    ∀ h : OutId,
      let e := s.hg.planActive[h]
      (∀ d : Nat, s.outReleased h = true → e.holdOnSenseLoss = true → s.senseUnmetAt e = some d →
        Completes (exec (.senseLossHold h) s) fun t =>
          t.outReleased h = false ∧ t.hg.senseLoss.getLsbD h.val = true ∧ t.time = max s.time d ∧ s.releasesNothing t) ∧
      (∀ d : Nat, s.senseMetAt e = some d → exec (.senseLossLatchClear h) s =
        .next { s with time := max s.time d, hg := { s.hg with senseLoss := putBit s.hg.senseLoss h.val false } }) ∧
      (s.outReleased h = false → ((s.conditions h).filter fun p => ! p.2).map (fun p => p.1) = [10] → e.senseTimeoutMs ≠ 0 →
        s.hg.timedOut.getLsbD h.val = false →
        Completes (exec (.senseTimeout h) s) fun t => t.hg.timedOut = putBit s.hg.timedOut h.val true ∧
          t.isPending (1136 + h.val) = true ∧ t = { s with hg := { s.hg with timedOut := t.hg.timedOut }, ev := t.ev, log := t.log })

/-- While load sensing runs, its result classifies each net as shorted where it read high in step 1 or 2, open where only step 3 read
high, else pulled, and drives HG_PUEN high; the load event of a net that is not pulled is raised. HG_PUEN that is high settles once
PUEN_SETTLE has passed. Neither changes an output. -/
def Obligations.LoadSensingAndReleaseSupply : Prop :=
  ∀ (s : State),
    (∀ (a b c : DWord), s.hg.loadSensing = true → Completes (exec (.loadSensing a b c) s) fun t =>
      (∀ h : OutId, t.hg.loadClass[h] = (if a.getLsbD h.val || b.getLsbD h.val then .shorted else if c.getLsbD h.val then .open_ else .pulled) ∧
        (t.hg.loadClass[h] ≠ .pulled → t.isPending (1136 + h.val) = true)) ∧
      t.hg.puen = true ∧ t.hg.puenAt = s.time ∧ t.hg.loadSensing = false ∧ t.hg.loadSensed = true ∧ t.hg.out = s.hg.out ∧
      t = { s with hg := t.hg, ev := t.ev, log := t.log }) ∧
    (s.hg.puen = true → exec .puenSettled s =
      .next { s with time := max s.time (s.hg.puenAt + max 1 s.hg.puenSettleMs.toNat * 1000000), hg := { s.hg with puenSettled := true } })

/-- The steward stages a generation; each half writes the generation it accepts; the write with which both accept the staged generation,
other than the active one, makes the staged plan and its generation active, and any other leaves the active plan as it is. A plan not
activated 40 ms after staging is replaced in the stage by the one before, and the write is answered INTERNAL. -/
def Obligations.ReleasePlanActivation : Prop :=
  ∀ (s : State) (half : Half) (gen : Word16),
    (s.domOn 1 = true → s.isSteward half = true → Completes (exec (.planStageGenWrite half gen) s) fun t =>
      t.hg.planStageGen = gen ∧
      (if s.hg.planGen.indigo = gen ∧ s.hg.planGen.amber = gen ∧ gen ≠ s.hg.planActiveGen then
          t.hg.planActive = s.hg.planStage ∧ t.hg.planActiveGen = gen ∧ t.hg.staging = none
        else t.hg.planActive = s.hg.planActive ∧ t.hg.planActiveGen = s.hg.planActiveGen ∧
          t.hg.staging.map (fun p => p.1) = some s.time) ∧
      t = { s with hg := { s.hg with planStageGen := gen, planActive := t.hg.planActive, planActiveGen := t.hg.planActiveGen,
                                     staging := t.hg.staging } }) ∧
    (let g := s.hg.planGen.set half gen
     Completes (exec (.planGenWrite half gen) s) fun t =>
      t.hg.planGen = g ∧
      (if g.indigo = s.hg.planStageGen ∧ g.amber = s.hg.planStageGen ∧ s.hg.planStageGen ≠ s.hg.planActiveGen then
          t.hg.planActive = s.hg.planStage ∧ t.hg.planActiveGen = s.hg.planStageGen ∧ t.hg.staging = none
        else t.hg.planActive = s.hg.planActive ∧ t.hg.planActiveGen = s.hg.planActiveGen ∧ t.hg.staging = s.hg.staging) ∧
      t = { s with hg := { s.hg with planGen := g, planActive := t.hg.planActive, planActiveGen := t.hg.planActiveGen,
                                     staging := t.hg.staging } }) ∧
    (∀ (at_ : Nat) (old : Vector PlanEntry 64), s.hg.staging = some (at_, old) → Completes (exec .planActivationTimeout s) fun t =>
      t.hg.planStage = old ∧ t.hg.staging = none ∧ t.hg.planActive = s.hg.planActive ∧ t.rill.lastCode = .internal ∧
      t.time = max s.time (at_ + 40 * 1000000))

/-- A half's post of a shared code, in a mode that takes verdicts, outside a warm restart and after its last post was stored, is kept for
its channel with its generation and VROOT, and VPOST_STATUS is OK; where the two halves' verdicts then release a FILLING channel it becomes
HELD, and where they conflict for the first time both are cleared for a verification anew. CONFIRM_DISARM of the steward without bit 0
changes nothing but the model's own outputs; with it the timer is disarmed, and an unconfirmed trial is confirmed, under the gate. The end
of the timer raises its event and disarms it: in UPDATE it asks for the warm restart, in QUARANTINE nothing more, else the device resets. -/
def Obligations.VerdictPostsAndConfirmTimer : Prop :=
  ∀ (s : State) (half : Half) (v : Word),
    let u := s.quiet
    (let c := vpostChan v
     let x : Verdict := ⟨s.hg.vroot.get half, BitVec.ofNat 16 v.toNat, BitVec.ofNat 8 (v.toNat / 2 ^ 24)⟩
     let w : State := { s with hg := { s.hg with verdicts := s.hg.verdicts.upd half fun vs => vset vs c (some x) } }
     s.dev.mode.running = true → s.hg.warm = false → s.hg.vpostBusy.get half ≤ s.time → (Code.ofNum (v.toNat / 2 ^ 24)).isSome = true →
       (w.verdictConflict c = false → Completes (exec (.vpost half v) s) fun t =>
         t.hg.verdicts = w.hg.verdicts ∧ t.hg.vpostStatus.get half = 0 ∧ t.hg.vpostBusy.get half = s.time + 1000 ∧
         t.hg.out = s.hg.out ∧ (w.verdictsRelease c = true → (s.chan c).state = .filling → s.dev.form ≠ .freeze →
           (s.target (.chan c)).state ≠ 5 → (t.chan c).state = .held)) ∧
       (w.verdictConflict c = true → s.hg.reverify[c] = false → Completes (exec (.vpost half v) s) fun t =>
         t.hg.vpostStatus.get half = 0 ∧ (∀ h : Half, (t.hg.verdicts.get h)[c] = none) ∧ t.hg.reverify[c] = true ∧ t.hg.out = s.hg.out)) ∧
    (s.domOn 1 = true → s.isSteward half = true →
      (v.getLsbD 0 = false → exec (.confirmDisarm half v) s = .next u) ∧
      (v.getLsbD 0 = true → s.trialUnconfirmed = false → exec (.confirmDisarm half v) s = .next { u with hg := { s.hg with confirm := none } }) ∧
      (v.getLsbD 0 = true → s.trialUnconfirmed = true →
        (u.mayStart (.journal (JRec.of .confirm Target.mission.code)) = true → Completes (exec (.confirmDisarm half v) s) fun t =>
          t.hg.confirm = none ∧ (t.target .mission).state = 6 ∧ t.dev.mode ≠ .update ∧ t.hg.out = s.hg.out) ∧
        (u.mayStart (.journal (JRec.of .confirm Target.mission.code)) = false → Completes (exec (.confirmDisarm half v) s) fun t =>
          t.hg.confirm = none ∧ t.upd.waiting.length = s.upd.waiting.length + 1 ∧ t.upd.journal = s.upd.journal ∧ t.dev = s.dev))) ∧
    (s.hg.confirm = none → exec .confirmTimerExpired s = .next u) ∧
    (∀ d : Nat, s.hg.confirm = some d →
      (s.dev.mode = .update → Completes (exec .confirmTimerExpired s) fun t =>
        t.time = max s.time d ∧ t.hg.confirm = none ∧ t.boot.warmAsked = true ∧ t.isPending 1515 = true ∧ t.hg.out = s.hg.out ∧ t.dev = s.dev) ∧
      (s.dev.mode = .quarantine → Completes (exec .confirmTimerExpired s) fun t =>
        t.time = max s.time d ∧ t.hg.confirm = none ∧ t.boot = s.boot ∧ t.isPending 1515 = true ∧ t.hg.out = s.hg.out ∧ t.dev = s.dev) ∧
      (s.dev.mode ≠ .update → s.dev.mode ≠ .quarantine → Completes (exec .confirmTimerExpired s) fun t =>
        t.dev.mode = .cold ∧ t.dev.cause = 0 ∧ t.boot.phase = .pll ∧ t.hg = Headgate.reset))

/-- With no steward a STEWARD claim makes the half steward at the next epoch; a shadow's claim with a higher epoch takes over and restarts
the other half, with a lower one it restarts the claimant; a yield hands over to a half that claims SHADOW, at the next epoch, and
changes nothing but the record; a half restart leaves the half RESTARTING with its cores in reset and hands a lost stewardship to a
shadow at the next epoch; its end releases its cores, and makes it shadow beside a steward. -/
def Obligations.StewardshipRecord : Prop :=
  ∀ (s : State) (h : Half) (e : Word),
    let next := if s.hg.epoch = 0xFFFFFFFF then s.hg.epoch else s.hg.epoch + 1
    (s.hg.steward = none → Completes (exec (.stewardClaim h .steward e) s) fun t =>
      t.hg.steward = some h ∧ t.hg.epoch = next ∧ t.hg.claims.get h = .steward ∧ t = { s with hg := t.hg }) ∧
    (s.hg.steward = some h.other → e ≠ 0xFFFFFFFF → s.hg.epoch.toNat < e.toNat →
      Completes (exec (.stewardClaim h .steward e) s) fun t =>
        t.hg.steward = some h ∧ t.hg.epoch = e ∧ t.hg.claims.get h.other = .restarting) ∧
    (s.hg.steward = some h.other → e ≠ 0xFFFFFFFF → e.toNat < s.hg.epoch.toNat →
      Completes (exec (.stewardClaim h .steward e) s) fun t =>
        t.hg.steward = some h.other ∧ t.hg.epoch = s.hg.epoch ∧ t.hg.claims.get h = .restarting) ∧
    (s.hg.steward = some h → s.hg.claims.get h.other = .shadow → Completes (exec (.stewardYield h) s) fun t =>
      t.hg.steward = some h.other ∧ t.hg.epoch = next ∧ t.hg.claims.get h = .shadow ∧ t.hg.claims.get h.other = .steward ∧
      t = { s with hg := { s.hg with steward := t.hg.steward, epoch := t.hg.epoch, claims := t.hg.claims, claimEpochs := t.hg.claimEpochs } }) ∧
    (Completes (exec (.halfRestart h) s) fun t =>
      t.hg.claims.get h = .restarting ∧ (∀ k : CoreId, coreHalf k = some h → (t.core k).released = false) ∧
      (s.hg.steward = some h → s.hg.claims.get h.other = .shadow → t.hg.steward = some h.other ∧ t.hg.epoch = next) ∧
      (s.hg.steward = some h.other → t.hg.steward = some h.other ∧ t.hg.epoch = s.hg.epoch) ∧ t.upd.vers.get h = []) ∧
    (s.hg.claims.get h = .restarting → s.hg.steward = some h.other → Completes (exec (.halfRestartEnd h) s) fun t =>
      t.hg.claims.get h = .shadow ∧ t.hg.steward = s.hg.steward ∧ t.hg.epoch = s.hg.epoch ∧
      ∀ k : CoreId, coreHalf k = some h → (t.core k).released = true)

/-- ACFAIL_N asserting raises its event and starts the freeze, or keeps it on; deasserting raises its event and starts the freeze's last
second once no equivalent stands and PWROK is asserted. PWROK's loss with ACFAIL_N deasserted acts as its assertion. A low trip of
MEAS_BUS0 with bus_freeze does as well, and a cleared trip ends that. The freeze ends where the supply is good and stayed so, and what it
had put off goes on. Nothing else changes, an input that does not change nothing at all. -/
def Obligations.SupplyFreeze : Prop :=
  ∀ (s : State),
    let clear (m : Measure) : Option Nat :=
      if s.dev.freeze = true ∧ m.acfail = false ∧ m.busTrip = false ∧ m.pwrok = true then some s.time else s.dev.freezeClear
    (s.ms.acfail = true → exec .acfailAssert s = .next s) ∧
    (s.ms.acfail = false → Completes (exec .acfailAssert s) fun t =>
      t = { s with ms := { s.ms with acfail := true }, dev := { s.dev with freeze := true, freezeClear := none }, ev := t.ev, log := t.log } ∧
      s.raisesOnly t [1272] ∧ (s.dev.freeze = false → t.log.meas.length = s.log.meas.length + 1)) ∧
    (s.ms.acfail = false → exec .acfailDeassert s = .next s) ∧
    (s.ms.acfail = true → Completes (exec .acfailDeassert s) fun t =>
      let m : Measure := { s.ms with acfail := false }
      t = { s with ms := m, dev := { s.dev with freezeClear := clear m }, ev := t.ev } ∧ s.raisesOnly t [1273]) ∧
    (∀ b : Bool, s.ms.pwrok = b → exec (.pwrokChange b) s = .next s) ∧
    (s.ms.pwrok = false → Completes (exec (.pwrokChange true) s) fun t =>
      let m : Measure := { s.ms with pwrok := true }
      t = { s with ms := m, dev := { s.dev with freezeClear := clear m }, ev := t.ev } ∧ s.raisesOnly t [1275]) ∧
    (s.ms.pwrok = true → Completes (exec (.pwrokChange false) s) fun t =>
      t = { s with ms := { s.ms with pwrok := false }, dev := t.dev, ev := t.ev, log := t.log } ∧ s.raisesOnly t [1274] ∧
      t.dev = (if s.ms.acfail = true then s.dev else { s.dev with freeze := true, freezeClear := none })) ∧
    (∀ c : Nat, s.dev.freeze = true → s.dev.freezeClear = some c → s.supplyBad = false → Completes (exec .freezeEnd s) fun t =>
      t.time = max s.time (c + 1000000000) ∧ t.dev = { s.dev with freeze := false, freezeClear := none } ∧ t.ms = s.ms ∧ t.hg = s.hg ∧
      t.chans = s.chans) ∧
    (∀ bus : Fin 2,
      (Completes (exec (.busWindowTrip bus .high) s) fun t => t = { s with ev := t.ev } ∧ s.raisesOnly t [1276 + bus.val]) ∧
      (Completes (exec (.busWindowTrip bus .low) s) fun t => s.raisesOnly t [1276 + bus.val] ∧
        (bus = 0 ∧ s.ms.busFreeze = true → t.ms = { s.ms with busTrip := true } ∧ t.dev = { s.dev with freeze := true, freezeClear := none }) ∧
        (¬ (bus = 0 ∧ s.ms.busFreeze = true) → t = { s with ev := t.ev })) ∧
      (bus = 0 ∧ s.ms.busTrip = true → Completes (exec (.busWindowTrip bus .cleared) s) fun t =>
        let m : Measure := { s.ms with busTrip := false }
        t = { s with ms := m, dev := { s.dev with freezeClear := clear m } }) ∧
      (¬ (bus = 0 ∧ s.ms.busTrip = true) → exec (.busWindowTrip bus .cleared) s = .next s))

/-- A disturbance that reached its class's limits on a classified input raises that class's event, another nothing; a core that falls behind loses its pace. A due or commanded
test step drives the load; one whose line is not rejected adds its capacitance, current over slope, to the last eight, whose median the
block reports, and a rejected one only raises its event. The estimate is the usable time of R329 at the highest power of the last second,
in whole ms where the field can hold it, and 0 and invalid while no power is available. A polled PSU that answers has its answer kept, with an event where its status changed; one that loses arbitration
raises the loss. CLEAR_FAULTS that is taken changes the answer alone. -/
def Obligations.MeasurementHoldupAndPsus : Prop :=
  ∀ (s : State),
    (∀ (i : Fin 18) (c : DisturbClass) (start dur ext mean : Nat), s.classified i = true →
      c.meets (s.nominal i) (s.limited i ext) dur = true → Completes (exec (.disturbanceEnd i c start dur ext mean) s) fun t =>
        s.raisesOnly t [disturbEvent i c] ∧
        t = { s with ms := { s.ms with busQuiet := if i = 16 then s.time else s.ms.busQuiet }, ev := t.ev, log := t.log }) ∧
    (∀ (i : Fin 18) (c : DisturbClass) (start dur ext mean : Nat),
      (s.classified i = false ∨ c.meets (s.nominal i) (s.limited i ext) dur = false) → exec (.disturbanceEnd i c start dur ext mean) s = .next s) ∧
    (∀ k : Fin 2, Completes (exec (.measOverrun k) s) fun t =>
      s.raisesOnly t [1286] ∧ t = { s with ms := { s.ms with pace := vset s.ms.pace k false }, ev := t.ev }) ∧
    (s.stepDue = true → s.ms.huStep = none → exec .holdupTestStep s = .next { s with ms := { s.ms with huStep := some s.time } }) ∧
    (s.stepDue = false → exec .holdupTestStep s = .next s) ∧
    (∀ (k : CoreId) (v : Word), s.domOn 29 = true → s.stewardCore k = true →
      (v.getLsbD 0 = true → s.ms.huStep = none → exec (.huCtl k v) s = .next { s with ms := { s.ms with huStep := some s.time } }) ∧
      (v.getLsbD 0 = false → exec (.huCtl k v) s = .next s)) ∧
    (∀ (x : HuStep) (a : Nat), s.ms.huStep = some a →
      (x.rejected = true → Completes (exec (.holdupStepDone x) s) fun t => s.raisesOnly t [1279] ∧
        t = { s with time := max s.time (a + 60000), ms := { s.ms with huStep := none }, ev := t.ev }) ∧
      (∀ ma : Nat, x.rejected = false → s.stepMa x = some ma → 0 < x.whole.fall → Completes (exec (.holdupStepDone x) s) fun t =>
        let caps := ((250 * (ma : Int) * x.whole.den / x.whole.fall).toNat :: s.ms.caps).take 8
        s.raisesOnly t [1278] ∧ t.ms = { s.ms with huStep := none, caps := caps, cap := BitVec.ofNat 32 (median caps),
                                                   lastStep := max s.time (a + 60000) } ∧
        t = { s with time := max s.time (a + 60000), ms := t.ms, ev := t.ev, free := s.free + 1 })) ∧
    (∀ busMv busMa : Nat, s.domOn 29 = true →
      let mv := s.limited 16 busMv
      let ma := s.limited 17 busMa
      (s.busPower mv ma = none → Completes (exec (.holdupEstimate busMv busMa) s) fun t => t.ms.valid = false ∧ t.ms.holdupMs = 0 ∧
        t = { s with ms := { s.ms with powers := s.recentPowers none, valid := false, stale := s.holdupStale, low := false, holdupMs := 0 },
                     ev := t.ev }) ∧
      (∀ p : Nat, s.peakPower mv ma = some p → 0 < p → Completes (exec (.holdupEstimate busMv busMa) s) fun t =>
        let us := holdupUs s.ms.cap.toNat mv (s.pnat 0x0513 1 0) p
        t.ms.valid = (! s.ms.caps.isEmpty && ! s.holdupStale) ∧ t.ms.peakW = BitVec.ofNat 16 (p / 1000) ∧
        t.ms.powers = s.recentPowers (s.busPower mv ma) ∧
        (t.ms.valid = true → us / 1000 < 65536 → t.ms.holdupMs.toNat = us / 1000) ∧
        (t.ms.valid = true → us < 7500 → s.ms.low = false → t.isPending 1280 = true) ∧
        t = { s with ms := { s.ms with powers := t.ms.powers, valid := t.ms.valid, stale := s.holdupStale, low := t.ms.low,
                                       holdupMs := t.ms.holdupMs, peakW := t.ms.peakW },
                     ev := t.ev, free := s.free + 1 })) ∧
    (∀ (i : Fin 4) (a : PsuAnswer), s.psuPolled i = true →
      (a.ok = true → Completes (exec (.psuPoll i false a) s) fun t =>
        let p := t.ms.psus[i]
        p.statusWord = a.status ∧ p.pout = a.pout ∧ p.unanswered = 0 ∧ p.arbLosses = 0 ∧ p.seen = true ∧
        s.raisesOnly t (if a.status = (s.ms.psus[i]).statusWord then [] else [1282]) ∧
        t = { s with ms := { s.ms with psus := vset s.ms.psus i p }, ev := t.ev, log := t.log }) ∧
      (a.ok = false → Completes (exec (.psuPoll i false a) s) fun t =>
        (t.ms.psus[i]).unanswered = (s.ms.psus[i]).unanswered + 1 ∧ (t.ms.psus[i]).statusWord = (s.ms.psus[i]).statusWord ∧
        s.raisesOnly t (if (s.ms.psus[i]).unanswered = 2 then [1283] else [])) ∧
      ((s.ms.psus[i]).arbLosses ≠ 0 → a.ok = true → Completes (exec (.psuBusIdleRetry i false a) s) fun t =>
        let p := t.ms.psus[i]
        p.statusWord = a.status ∧ p.pout = a.pout ∧ p.unanswered = 0 ∧ p.arbLosses = 0 ∧
        s.raisesOnly t (if a.status = (s.ms.psus[i]).statusWord then [] else [1282])) ∧
      (Completes (exec (.psuPoll i true a) s) fun t => s.raisesOnly t [1284] ∧ (t.ms.psus[i]).arbLosses = 1 ∧
        t = { s with ms := { s.ms with psus := vset s.ms.psus i (t.ms.psus[i]) }, ev := t.ev }) ∧
      ((s.ms.psus[i]).arbLosses ≠ 0 → Completes (exec (.psuBusIdleRetry i true a) s) fun t => s.raisesOnly t [1284] ∧
        (t.ms.psus[i]).arbLosses = (if 3 ≤ (s.ms.psus[i]).arbLosses then 0 else (s.ms.psus[i]).arbLosses + 1) ∧
        t = { s with ms := { s.ms with psus := vset s.ms.psus i (t.ms.psus[i]) }, ev := t.ev })) ∧
    (∀ (who : Requester) (i : Fin 4), s.takesWrite who .wo false 0x0534 (i.val + 1) none [] = true →
      exec (.psuClearFaults who i) s = .next { s with rill := { s.rill with lastCode := .ok } })

/-- A detection that is neither masked nor preceded by a latched one latches its sensor and time and, outside SERVICE, leaves the device in
QUARANTINE in tamper form with every output asserted, HG_PUEN low and every channel that is not ABSENT quarantined. A masked one only
raises its events; a further one only adds its cause. A control core starts the self-test outside QUARANTINE, and its end reports each
sensor, with an event where one failed. The shadow's check of the digest marks a difference and raises event 1532 with a record. -/
def Obligations.TamperAndChecks : Prop :=
  ∀ (s : State),
    (∀ n : Sensor,
      (s.sensorMasked n = true → Completes (exec (.tamperDetect n) s) fun t => s.raisesOnly t [1424 + n.val, 1440] ∧
        t = { s with lev := { s.lev with now := bitMask 14 n.val }, ev := t.ev }) ∧
      (s.sensorMasked n = false → s.lev.latched = true → Completes (exec (.tamperDetect n) s) fun t => s.raisesOnly t [1424 + n.val] ∧
        t = { s with lev := { s.lev with now := bitMask 14 n.val, cause := putBit s.lev.cause n.val true }, ev := t.ev }) ∧
      (s.sensorMasked n = false → s.lev.latched = false → s.dev.mode ≠ .service → Completes (exec (.tamperDetect n) s) fun t =>
        t.lev.latched = true ∧ t.lev.cause = putBit s.lev.cause n.val true ∧ t.lev.first = n.val ∧ t.lev.causeTime = s.time ∧
        t.dev.mode = .quarantine ∧ t.dev.form = .tamper ∧ t.hg.out = 0 ∧ t.hg.puen = false ∧ t.spdm.sessions = [] ∧
        t.isPending (1424 + n.val) = true ∧ t.isPending 1438 = true ∧
        ∀ c : ChanId, (t.chan c).state = .absent ∨ (t.chan c).state = .quarantined)) ∧
    (∀ (k : CoreId) (v : Word), k.val < 8 → v.getLsbD 0 = true → s.lev.selftest = none → s.dev.mode ≠ .quarantine →
      exec (.leveeSelftest k v) s = .next { s with lev := { s.lev with selftest := some (s.time + 200000) } }) ∧
    (∀ (a : Nat) (p : BitVec 14), s.lev.selftest = some a → Completes (exec (.leveeSelftestDone p) s) fun t =>
      s.raisesOnly t (if p = BitVec.allOnes 14 then [] else [1439]) ∧
      t = { s with time := max s.time a, lev := { s.lev with selftest := none, result := p }, ev := t.ev }) ∧
    (∀ (h : Half) (p off : Digest), s.hg.steward = some h → s.dev.chtPosted = some p →
      let at_ := max s.time (nextMultiple s.time 100000000)
      (s.tableDigest ^^^ off = p → exec (.shadowDigestCheck off) s =
        .next { s with time := at_, dev := { s.dev with chtMismatch := false } }) ∧
      (s.tableDigest ^^^ off ≠ p → Completes (exec (.shadowDigestCheck off) s) fun t => s.raisesOnly t [1532] ∧
        t.log.nextSeq = (s.log.nextSeq + 1) % 2 ^ 32 ∧
        t = { s with time := at_, dev := { s.dev with chtMismatch := true }, ev := t.ev, log := t.log }))

/-- POWER_ON_RESET, and a BROWN_OUT of 1 µs or more, leave mode COLD, time 0, the Headgate, events, power, measurement, channels, ports, key
vault, cores and mailboxes as at reset, the fuse cells and eFlash as they were, nothing in SRAM and DRAM, and the waiting commands; a
shorter undervoltage changes nothing. PORST_N's release samples the straps and starts the time; the root PLL's lock switches on
exactly the domains that hardware switches on. -/
def Obligations.PowerOnReset : Prop :=
  ∀ (s : State),
    let atReset (t : State) (phase : BootPhase) : Prop :=
      t.dev = { Device.reset with cause := 0 } ∧ t.time = 0 ∧ t.hg = Headgate.reset ∧ t.ev = Events.reset ∧ t.pw = PwrClk.reset ∧
      t.ms = Measure.reset ∧ t.chans = Vector.replicate 64 Chan.reset ∧ t.ports = Vector.replicate 32 Port.reset ∧
      t.kv = KeyVault.reset ∧ t.lev = Levee.reset ∧ t.spdm = Spdm.reset ∧ t.cores = Vector.replicate 12 Core.reset ∧
      t.mbox = Vector.replicate 16 Mailbox.empty ∧ t.fuse.main = s.fuse.main ∧ t.fuse.spare = s.fuse.spare ∧ t.fuse.priv = s.fuse.priv ∧
      t.mem = (s.mem.filter fun x => decide (x.1 < 0xA00000)) ∧ t.upd.journal = s.upd.journal ∧ t.cis.pages = s.cis.pages ∧
      t.rill.store = s.rill.store ∧ t.boot.phase = phase ∧ t.pending = s.pending
    (∀ aon : Bool, Completes (exec (.powerOnReset aon) s) fun t => atReset t .held) ∧
    (∀ (ns : Nat) (aon : Bool),
      (1000 ≤ ns → Completes (exec (.brownOut ns aon) s) fun t => atReset t (if s.boot.phase = .held then .held else .pll)) ∧
      (ns < 1000 → exec (.brownOut ns aon) s = .next s)) ∧
    (∀ (seg : Fin 4) (pos : Fin 8), s.boot.phase = .held → s.dev.mode ≠ .dormant → exec (.porstNRelease seg pos) s =
      .next { s with time := 0, pak := { s.pak with seg := seg, pos := pos }, boot := { s.boot with phase := .pll, startAt := 0 } }) ∧
    (s.boot.phase = .pll → Completes (exec .rootPllLock s) fun t =>
      t.pw.rootLock = true ∧ t.boot = { s.boot with phase := .fuses } ∧ t.hg = s.hg ∧ t.dev = s.dev ∧ t.time = s.time ∧
      ∀ d : Nat, d < 39 → t.domOn d = (s.domOn d || hardwareDomains.any fun x => x.val == d))

/-- After the fuse load a stop that R343 calls for stops the device with its code, every output asserted and no core running; else Sill
judges candidates or is in RECOVER or SERVICE, in SCRAP in RECOVER, with its domains on. Agreeing OK judgements accept a candidate that
is no trial; agreeing others reject it for the next, the last for RECOVER (a device frozen meanwhile stops in QUARANTINE, R35); the first difference has both judge again. Handover of an accepted candidate runs
mission firmware from its slot's payload, in HOLD but after a warm restart. The boot timer's end stops with code 4. In RECOVER an image
judged OK is installed, and its second OK judgement under an open gate resets the device. -/
def Obligations.SillStartUp : Prop :=
  ∀ (s : State),
    let u := s.quiet
    (∀ c : CrcReads, s.boot.phase = .fuses → s.dev.mode = .cold →
      let n := u.loadBootFuses.stopDue c
      (n ≠ 0 → Completes (exec (.bootFuseLoadDone c) s) fun t =>
        t.boot.phase = .stopped ∧ t.boot.stopCode = n ∧ t.hg.out = 0 ∧ t.hg.puen = false ∧ ∀ k : CoreId, (t.core k).runs = false) ∧
      (n = 0 → Completes (exec (.bootFuseLoadDone c) s) fun t =>
        (t.boot.phase = .judging ∨ t.boot.phase = .recover ∨ t.boot.phase = .service) ∧
        (u.loadBootFuses.lifecycle = .scrap → t.boot.phase = .recover ∧ t.dev.mode = .recover) ∧
        ∀ d : Fin 39, d ∈ sillDomains → t.domOn d.val = true)) ∧
    (∀ (j : Judgement) (c : Candidate) (rest : List Candidate), s.boot.phase = .judging → s.boot.candidates = c :: rest →
      let r := u.bothJudge (u.slotContainer c.slot) (c.commit.bind fun q => s.upd.journal.find? fun r => r.seq == q) j
      (agreed r = true → r.indigo.1 = .ok → c.trial = false → Completes (exec (.missionCandidateJudged j) s) fun t =>
        t.boot.phase = .accepted ∧ t.boot.accepted = some (c, r.indigo.2.2) ∧ t.hg = s.hg ∧ t = { u with boot := t.boot }) ∧
      (agreed r = true → r.indigo.1 ≠ .ok → rest ≠ [] → Completes (exec (.missionCandidateJudged j) s) fun t =>
        t.boot.phase = .judging ∧ t.boot.candidates = rest ∧ t.boot.rejected = s.boot.rejected ++ [c] ∧
        t = { u with boot := t.boot, log := t.log }) ∧
      (agreed r = true → r.indigo.1 ≠ .ok → rest = [] → Completes (exec (.missionCandidateJudged j) s) fun t =>
        ((s.dev.mode = .cold ∨ s.dev.mode = .update) → t.boot.phase = .recover ∧ t.dev.mode = .recover ∧ t.hg.out = 0) ∧
        (s.dev.mode = .quarantine → t.boot.phase = .stopped ∧ t.dev.mode = .quarantine ∧ t.hg = s.hg)) ∧
      (agreed r = false → s.boot.rejudged = false → exec (.missionCandidateJudged j) s =
        .next { u with boot := { s.boot with rejudged := true } })) ∧
    (∀ (c : Candidate) (root : Digest), s.boot.phase = .accepted → s.boot.accepted = some (c, root) → s.trialBootWaits = false →
      Completes (exec .handover s) fun t =>
        t.boot.phase = .running ∧ (s.boot.entry ≠ .warm → s.dev.mode = .cold → t.dev.mode = .hold ∧ t.dev.cause = 1) ∧
        ∃ v : State, (t = v.startMission ∨ t = v.startMission.noteAll) ∧ v.boot.slot = c.slot.val ∧ v.boot.root = root ∧
          v.boot.missionMeas = sha384 ((u.slotContainer c.slot).take 256) ∧ (v.core 0).pc = u.payloadBase c.slot ∧
          (v.core 4).pc = u.payloadBase c.slot) ∧
    (∀ a : Nat, s.boot.timer = some a → Completes (exec .bootTimerExpired s) fun t =>
      t.boot.phase = .stopped ∧ t.boot.stopCode = 4 ∧ t.boot.timer = none ∧ t.time = max s.time a ∧ t.isPending 1514 = true ∧
      t.hg.out = 0 ∧ t.hg.puen = false ∧ ∀ k : CoreId, (t.core k).runs = false) ∧
    (∀ (j : Judgement) (src : Nat) (b : List Byte), s.boot.phase = .recover → s.boot.recoverImage = some (src, b) →
      (let r := u.bothJudge b none j
       s.boot.installing = false → agreed r = true → r.indigo.1 = .ok → Completes (exec (.missionCandidateJudged j) s) fun t =>
         t.boot = { s.boot with installing := true, rejudged := false } ∧ t.mem = (u.rewriteFlash (slotBase u.installSlot) slotSize b).mem) ∧
      (let r := u.bothJudge (u.slotContainer u.installSlot) none j
       s.boot.installing = true → agreed r = true → r.indigo.1 = .ok → u.mayStart (.journal (JRec.of .commit Target.mission.code)) = true →
         Completes (exec (.recoverInstall j) s) fun t => t.boot.phase = .pll ∧ t.dev.mode = .cold ∧ t.dev.cause = 8 ∧ t.hg.out = 0))

/-- A warm restart asked for in UPDATE stops with the self-check's code or chooses mission firmware anew, sessions ended and no core but the
first ones running. A dormant request that may be granted starts the assertion sequence alone; each output asserts in its turn, and with
none left the device enters DORMANT with its domains off; an enabled wake source brings it to COLD with the events at reset. A lifecycle
request that is taken asserts every output, burns privileged word 0 alone and resets the device, where no power loss or T_J cuts the burn; its answer is OK only where every step
asked for reads 1. -/
def Obligations.RestartsAndDormancy : Prop :=
  ∀ (s : State),
    let u := s.quiet
    (∀ c : CrcReads, s.dev.mode = .update → s.boot.warmAsked = true → s.boot.phase = .running →
      (s.crcStop c ≠ 0 → Completes (exec (.warmRestart c) s) fun t =>
        t.boot.phase = .stopped ∧ t.boot.stopCode = s.crcStop c ∧ t.hg.out = 0) ∧
      (s.crcStop c = 0 → Completes (exec (.warmRestart c) s) fun t =>
        (t.boot.phase = .judging ∧ t.hg.out = s.hg.out ∨ t.boot.phase = .recover ∧ t.hg.out = 0) ∧ t.boot.entry = .warm ∧
        t.boot.warmAsked = false ∧ t.spdm.sessions = [] ∧ t.log.meas = [])) ∧
    (∀ who : Requester, s.answers who = true → s.dormantCode who = .ok → exec (.dormantRequest who) s =
      .next { s with dev := { s.dev with dormantSeq := true }, rill := { s.rill with lastCode := .ok } }) ∧
    (∀ (h : OutId) (a : Nat), s.dev.dormantSeq = true → s.outReleased h = true → s.dormantTurn h = some a →
      Completes (exec (.dormantOutputAssert h) s) fun t => t.outReleased h = false ∧ t.time = max s.time a ∧ s.releasesNothing t) ∧
    (s.dev.dormantSeq = true → s.hg.out = 0 → (s.dev.mode = .hold ∨ s.dev.mode = .guard) → Completes (exec .dormantEntry s) fun t =>
      t.dev.mode = .dormant ∧ t.dev.cause = 9 ∧ t.dev.dormantSeq = false ∧ t.hg.out = 0 ∧ t.hg.puen = false ∧ t.time = s.time ∧
      t.cores = Vector.replicate 12 Core.reset ∧ t.spdm = Spdm.reset ∧ ∀ d : Fin 39, d ∈ dormantOff → t.domOn d.val = false) ∧
    (∀ src : WakeSource, s.dev.mode = .dormant → s.wakeEnabled src = true → Completes (exec (.wake src) s) fun t =>
      t.dev.mode = .cold ∧ t.dev.cause = 10 ∧ t.ev = Events.reset ∧ t.boot.phase = .pll ∧ t.boot.entry = .wake ∧
      t.pw = { s.pw with wakeCause := src.num, wakeAt := none } ∧ t.fuse = s.fuse.kept ∧ t.hg = s.hg ∧ t.mem = s.mem) ∧
    (∀ (who : Requester) (code : Byte) (b : BurnOutcome),
      b.cut = none → u.takesWrite who .rwa false 0x0201 2 none (u.lifecycleRefusals code.toNat) = true →
      Completes (exec (.lifecycleRequest who code b) s) fun t =>
        t.dev.mode = .cold ∧ t.boot.phase = .pll ∧ t.hg = Headgate.reset ∧ t.kv = KeyVault.reset ∧ t.fuse.main = s.fuse.main ∧
        t.fuse.spare = s.fuse.spare ∧ (∀ p : Fin 64, p ≠ 0 → t.fuse.priv[p] = s.fuse.priv[p]) ∧
        (t.rill.lastCode = .ok ∨ t.rill.lastCode = .internal) ∧
        (t.rill.lastCode = .ok → BitVec.ofNat 32 (2 ^ code.toNat - 1) &&& ~~~ (t.fuse.priv[(0 : Fin 64)]).loose = 0))

/-- With the vault on and none running, GENERATE, DERIVE, EXTRACT, EXPAND and UNWRAP make a slot of the value and naming the command gives,
under the lowest free slot's handle, and change no other slot; a use that is denied changes none and raises its event; INVALIDATE
destroys an unloaded slot's key; LOAD_PKE marks the operand slot KEYED, STORE_PKE moves a live OUT slot; HMAC and WRAP write their bytes and
no others. A sweep leaves no orphan. The root lock zeroises slots 0 and 1 in place; the test secret goes to slot 0 and sets the debug byte. -/
def Obligations.KeyVaultCommands : Prop :=
  ∀ (s : State) (h : Half) (cmd : KvCmd),
    s.domOn 6 = true →
    let ok (op : Nat) (t : State) : Prop := t.kv.cmdStatus.get h = (op, .ok)
    let makes (op bits value : Nat) (dest usage : BitVec 8) (parent : Option (Fin 128)) (bound : Bool) (i : Fin 128) (t : State) : Prop :=
      ok op t ∧ t.kv.cmdResult.get h = handleOf i (s.kslot i).gen ∧ (∀ j : Fin 128, j ≠ i → t.kslot j = s.kslot j) ∧
      t.kslot i = { state := .inUse, owner := kvOwner h cmd.owner, bits := bits, value := value % 2 ^ bits, dest := dest, usage := usage,
                    parent := parent.map fun p => (p, (s.kslot p).gen), gen := (s.kslot i).gen, bound := bound,
                    depth := (parent.map fun p => (s.kslot p).depth + 1).getD 0 } ∧ t.mem = s.mem ∧ t.ev = s.ev
    let able (bits : Nat) (parent : Option (Fin 128)) (i : Fin 128) : Prop := s.mayOwn h cmd.owner = .ok ∧ kvLengthOk bits = true ∧
      (∀ p, parent = some p → (s.kslot p).depth < 8) ∧ s.freeKslot = some i
    let uses (hd : Word) (n : KvNeed) : Prop := (s.useHandle h hd n).2 = .ok
    let P := handleSlot cmd.parent
    let T := handleSlot cmd.target
    let writes (t : State) (a : Nat) (m : List Byte) : Prop := t.bytes a m.length = m ∧ ∀ b, (b < a ∨ a + m.length ≤ b) → t.byte b = s.byte b
    (s.kv.busy.get h = false → cmd.rsvZero = true →
      (∀ i, s.domOn 31 = true → able cmd.length none i → Completes (exec (.generate h cmd) s) fun t =>
        makes 1 cmd.length s.drbgBits cmd.dest cmd.usage none false i t ∧ t.free = s.free + 2) ∧
      (∀ (i : Fin 128) (n : Nat), n = s.load cmd.src 1 → inSram cmd.src cmd.srcLen = true → 1 ≤ n → n ≤ 32 → 1 + n ≤ cmd.srcLen →
        cmd.srcLen ≤ 1 + n + 192 → uses cmd.parent needKdf → able cmd.length (some P) i → Completes (exec (.derive h cmd) s)
          (makes 2 cmd.length (kdf (s.kslot P).bytes (s.bytes (cmd.src + 1) n) s.kdfLife (b2n s.kv.debug)
            (s.bytes (cmd.src + 1 + n) (cmd.srcLen - 1 - n)) cmd.length) cmd.dest cmd.usage (some P) true i)) ∧
      (∀ i, uses cmd.target needKdf →
        (cmd.parent = 0 → able 384 none i → Completes (exec (.extract h cmd) s)
          (makes 3 384 (beNat (hmac384 (List.replicate 48 0) (s.kslot T).bytes)) cmd.dest cmd.usage none false i)) ∧
        (cmd.parent ≠ 0 → uses cmd.parent needKdf → able 384 (some P) i → Completes (exec (.extract h cmd) s)
          (makes 3 384 (beNat (hmac384 (s.kslot P).bytes (s.kslot T).bytes)) cmd.dest cmd.usage (some P) false i))) ∧
      (∀ i, inSram cmd.src cmd.srcLen = true → uses cmd.parent needKdf → able cmd.length (some P) i → Completes (exec (.expand h cmd) s)
        (makes 4 cmd.length (beNat ((hkdfBlocks (s.kslot P).bytes (s.bytes cmd.src cmd.srcLen) [] 1 2).take (cmd.length / 8)))
          cmd.dest cmd.usage (some P) false i)) ∧
      (∀ c : Code, (s.useHandle h cmd.target ⟨0, 0⟩).2 = c →
        (c = .ok → s.loadedBelow T = false → Completes (exec (.invalidate h cmd) s) fun t => ok 5 t ∧
          (t.kslot T).state ≠ .inUse ∧ (t.kslot T).value = 0 ∧ (t.useHandle h cmd.target ⟨0, 0⟩).2 ≠ .ok ∧
          ∀ j : Fin 128, j ≠ T → t.kslot j = s.kslot j) ∧
        (c = .ok → s.loadedBelow T = true → Completes (exec (.invalidate h cmd) s) fun t =>
          t.kv.slots = s.kv.slots ∧ t.kv.cmdStatus.get h = (5, .busy)) ∧
        (c = .deniedAccess → Completes (exec (.invalidate h cmd) s) fun t =>
          t.kv.slots = s.kv.slots ∧ t.kv.cmdStatus.get h = (5, .deniedAccess) ∧ s.raisesOnly t [1315])) ∧
      (s.domOn h.pkeDomain = true →
        (uses cmd.target ⟨h.pkeDest, 0x06⟩ → (s.eng h).job.isSome = true → ((s.eng h).slot cmd.dst).isSome = true →
          (s.kslot T).bits ≤ 64 * (s.eng h).slotLen cmd.dst → Completes (exec (.loadPke h cmd) s) fun t => ok 6 t ∧
            t.mem = (s.setSlot h cmd.dst (s.kslot T).value).mem ∧ (t.eng h).keyed = putBit (s.eng h).keyed cmd.dst true ∧ t.kv.slots = s.kv.slots) ∧
        (∀ i, (s.eng h).outLive.getLsbD cmd.src = true → (s.eng h).outRead.any (fun p => p.1 == cmd.src) = false → able cmd.length none i →
          Completes (exec (.storePke h cmd) s) fun t => ok 7 t ∧ t.kv.cmdResult.get h = handleOf i (s.kslot i).gen ∧
            (t.kslot i).value = s.slotWords h cmd.src 0 ((s.eng h).slotLen cmd.src) % 2 ^ cmd.length ∧ (t.kslot i).bits = cmd.length ∧
            (t.eng h).outLive.getLsbD cmd.src = false ∧ ∀ j : Fin 128, j ≠ i → t.kslot j = s.kslot j)) ∧
      ((s.bestEngine h).isSome = true → cmd.srcLen ≤ 16777216 → inSram cmd.src cmd.srcLen = true → inSram cmd.dst 48 = true → uses cmd.target ⟨0x04, 0x20⟩ →
        Completes (exec (.hmac h cmd) s) fun t => ok 8 t ∧ writes t cmd.dst (hmac384 (s.kslot T).bytes (s.bytes cmd.src cmd.srcLen)) ∧
          t.kv.slots = s.kv.slots) ∧
      (uses cmd.parent needWrap →
        (uses cmd.target ⟨0, 0x80⟩ →
          ((s.kslot T).bound = true → Completes (exec (.wrap h cmd) s) fun t => t.kv.cmdStatus.get h = (9, .deniedAccess) ∧ t.mem = s.mem) ∧
          ((s.kslot T).bound = false → aesKeyBits (s.kslot P).bits = true → 16 + (s.kslot T).bits / 8 ≤ cmd.dstLen →
            inSram cmd.dst (16 + (s.kslot T).bits / 8) = true → Completes (exec (.wrap h cmd) s) fun t =>
              ok 9 t ∧ writes t cmd.dst (kwpWrap (s.kslot P).bytes (s.kslot T).wrapPlain) ∧ t.kv.slots = s.kv.slots)) ∧
        (aesKeyBits (s.kslot P).bits = true → inSram cmd.src cmd.srcLen = true →
          (s.mayOwn h cmd.owner = .ok → kwpUnwrap (s.kslot P).bytes (s.bytes cmd.src cmd.srcLen) = none → Completes (exec (.unwrap h cmd) s) fun t =>
            t.kv.cmdStatus.get h = (10, .verifyFail) ∧ t.isPending 1320 = true ∧ t.kv.slots = s.kv.slots) ∧
          (∀ (m : List Byte) (i : Fin 128), kwpUnwrap (s.kslot P).bytes (s.bytes cmd.src cmd.srcLen) = some m →
            m.length = 8 + leNat (m.take 2) / 8 → able (leNat (m.take 2)) none i → Completes (exec (.unwrap h cmd) s)
              (makes 10 (leNat (m.take 2)) (beNat (m.drop 8)) (m.getD 2 0) (m.getD 3 0) none false i))))) ∧
    (Completes (exec .kvOrphanSweep s) fun t => (∀ i : Fin 128, t.isOrphan i = false) ∧
      ((∀ i : Fin 128, s.isOrphan i = false) → t.kv = s.kv ∧ t.ev = s.ev) ∧
      ((∃ i : Fin 128, s.isOrphan i = true) → t.isPending 1312 = true)) ∧
    (s.kv.rootLock = false → Completes (exec (.rootLock h) s) fun t => t.kv.rootLock = true ∧ s.raisesOnly t [1313] ∧
      (∀ i : Fin 128, i.val < 2 → (t.kslot i).state = .locked ∧ (t.kslot i).value = 0 ∧ (t.kslot i).gen = (s.kslot i).gen) ∧
      ∀ i : Fin 128, 2 ≤ i.val → t.kslot i = s.kslot i) ∧
    (s.kv.testSecret = false → Completes (exec (.testSecret h) s) fun t => t.kv.testSecret = true ∧ t.kv.debug = true ∧
      s.raisesOnly t [1321] ∧ (∀ i : Fin 128, i ≠ 0 → t.kslot i = s.kslot i) ∧
      (t.kslot 0).value = (if s.kv.rootLock then (s.kslot 0).value else Config.testSecret.toNat))

/-- In an open job a MAC leaves its slot the result modulo the slot with its extension word and marks what its assert rejects; a bad one is
a command error; VMAC leaves each lane canonical; the sponge starts, absorbs, squeezes and samples. JOB_OPEN opens at now; JOB_CLOSE within
the class time waits for it; the end records the code, keeps the clean OUT slots and wipes all else to 0; a job past its time overruns and
is then aborted with INTERNAL, every unreleased output held. An abort wipes all. In a job window reads give 0 with an event;
an OUT word is read once. A slot configuration that stands is stored, any in a window is a bus error. -/
def Obligations.BigNumberEngine : Prop :=
  ∀ (s : State) (h : Half), s.domOn h.pkeDomain = true →
    let E := s.eng h
    let wiped (keep : BitVec 256) (t : State) : Prop := ∀ o, o < opBytes → E.inSlots keep o = false → t.byte (opBase h + o) = 0
    (∀ j : PkeJob, E.job = some j → j.closed = false → E.enable = true → E.queue = [] → E.wipeUntil ≤ s.time →
      let failed (t : State) : Prop := (t.eng h).job.map (fun x => x.cmdErr && x.reject) = some true ∧ t.isPending (pkeEvent h 6) = true ∧
        t.mem = s.mem
      (∀ (hi : BitVec 28) (lo : Word),
        (let f := pkeFields (pkeHi 0 hi) lo
         (E.macBad f = true → Completes (exec (.mac h hi lo) s) failed) ∧
         (E.macBad f = false → Completes (exec (.mac h hi lo) s) fun t =>
           t.slotValue h f.dst = s.macResult h f ∧ t.ev = s.ev ∧
           (t.eng h).job.map (fun x => x.reject) = some (j.reject || (t.eng h).macRejects f (s.macResult h f)) ∧
           ∀ (b n : Nat), E.slot f.dst = some (b, n) → ∀ a, (a < opBase h + 8 * b ∨ opBase h + 8 * (b + n) ≤ a) → t.byte a = s.byte a)) ∧
        (let f := pkeFields (pkeHi 1 hi) lo
         (E.vmacBad f = true → Completes (exec (.vmac h hi lo) s) failed) ∧
         (E.vmacBad f = false → Completes (exec (.vmac h hi lo) s) fun t =>
           (∀ k, k < 32 * (f.count % 8 + 1) → t.lane h f.dst f.dstOff k = s.vmacLane h f k ∧ s.vmacLane h f k < 8380417) ∧
           (t.eng h).ext = E.ext ∧ t.ev = s.ev))) ∧
      (∀ p : Fin 2, Completes (exec (.spongeInit h (BitVec.ofNat 24 (p.val * 2 ^ 20)) 0) s) fun t =>
        (t.eng h).sponge = some (Sponge.init (if p = 0 then .shake128 else .shake256)) ∧ t.mem = s.mem) ∧
      (∀ (slot : BitVec 8) (n : Fin 1024) (off : BitVec 10) (sp : Sponge), E.sponge = some sp →
        off.toNat + (n.val + 1) ≤ 8 * E.slotLen slot.toNat →
        let hi : BitVec 24 := BitVec.ofNat 24 (n.val * 2 ^ 8 + slot.toNat)
        (sp.squeezing = false → Completes (exec (.spongeAbsorb h hi (off.setWidth 32)) s) fun t =>
          (t.eng h).sponge = some (sp.absorb (s.bytes (s.slotAddr h slot.toNat off.toNat) (n.val + 1))) ∧ t.mem = s.mem) ∧
        (Completes (exec (.spongeSqueeze h hi (off.setWidth 32)) s) fun t =>
          let r := sp.finish.squeeze (n.val + 1)
          (t.eng h).sponge = some r.2 ∧ t.bytes (s.slotAddr h slot.toNat off.toNat) r.1.length = r.1)) ∧
      (∀ (slot : BitVec 8) (mode : Fin 4) (sp : Sponge), E.sponge = some sp → 128 ≤ E.slotLen slot.toNat →
        sp.kind = (if mode = 0 then .shake128 else .shake256) →
        Completes (exec (.spongeSample h (BitVec.ofNat 24 (mode.val * 2 ^ 20 + slot.toNat)) 0) s) fun t =>
          let r := sp.finish.squeeze (sampleBlocks mode.val * sp.kind.rate)
          (t.eng h).sponge = some r.2 ∧
          (∀ l, sampleCoeffs mode.val r.1 = some l → let m := l.flatMap fun v => leBytes 4 v
            t.bytes (s.slotAddr h slot.toNat 0) m.length = m) ∧
          (sampleCoeffs mode.val r.1 = none → (t.eng h).job.map (fun x => x.reject) = some true ∧ t.mem = s.mem)) ∧
      (let c := max j.cycles (j.elapsed s.time) + 1
       c ≤ pkeClassCycles j.cls → j.overrun = false → Completes (exec (.jobClose h 0 0) s) fun t =>
         (t.eng h).job.map (fun x => (x.closed, x.cls, x.openAt)) = some (true, j.cls, j.openAt) ∧ (t.eng h).cycles = BitVec.ofNat 32 c ∧
         t.ev = s.ev ∧ t.mem = s.mem)) ∧
    (∀ c : Fin 11, E.job = none → E.enable = true → E.queue = [] → E.wipeUntil ≤ s.time → E.outLive = 0 →
      Completes (exec (.jobOpen h (BitVec.ofNat 28 c.val) 0) s) fun t =>
        (t.eng h).job = some ⟨c, s.time, 1, false, false, false, false, false⟩ ∧ (t.eng h).keyed = 0 ∧ (t.eng h).sponge = none ∧ t.ev = s.ev) ∧
    (∀ j : PkeJob, E.job = some j →
      (j.closed = true → E.queue = [] → Completes (exec (.jobEnd h) s) fun t =>
        let code : Code := if E.poisoned || j.lost then .full else if j.cmdErr then .badRange else if j.reject then .reject else .ok
        let keep := if code = .ok then E.outMask &&& ~~~ E.keyed &&& E.validMask else 0
        (t.eng h).job = none ∧ (t.eng h).code = code ∧ (t.eng h).outLive = keep ∧ (t.eng h).keyed = 0 ∧ (t.eng h).lastCls = j.cls ∧
        t.time = max s.time (j.openAt + pkeClassNs j.cls + 430) ∧ wiped keep t ∧ t.isPending (pkeEvent h 0) = true) ∧
      (j.closed = false → j.overrun = false → Completes (exec (.jobOverrun h) s) fun t =>
        t.time = max s.time (j.openAt + pkeClassNs j.cls) ∧ (t.eng h).job = some { j with overrun := true } ∧
        s.raisesOnly t [pkeEvent h 4]) ∧
      (j.closed = false → j.overrun = true → Completes (exec (.jobOverrun h) s) fun t =>
        t.time = max s.time (j.openAt + pkeClassNs j.cls * 101 / 100) ∧ (t.eng h).job = none ∧ (t.eng h).code = .internal ∧ wiped 0 t ∧
        t.hg = { s.hg with holds := t.hg.holds } ∧ t.hg.holds.get h = s.hg.holds.get h ||| ~~~ s.hg.out)) ∧
    (Completes (exec (.pkeAbort h) s) fun t =>
      (t.eng h).job = none ∧ (t.eng h).queue = [] ∧ (t.eng h).outLive = 0 ∧ (t.eng h).sponge = none ∧ wiped 0 t ∧
      (t.eng h).wipeUntil = s.time + 430 ∧ (E.job.isSome = true → (t.eng h).code = .frameAbort) ∧
      s.raisesOnly t (if E.job.isSome then [pkeEvent h 0, pkeEvent h 5] else [])) ∧
    (∀ a : Word,
      (s.pkeWindow h = true → Completes (exec (.pkeOperandRead h a) s) fun t =>
        t.pke = s.pke.upd h (fun e => { e with readValue := 0 }) ∧ s.raisesOnly t [pkeEvent h 2]) ∧
      (s.pkeWindow h = false → ∀ x : Nat × Nat, E.readTarget h a.toNat = some x →
        (E.outLive.getLsbD x.1 = false → exec (.pkeOperandRead h a) s =
          .next (s.updEng h fun e => { e with readValue := BitVec.ofNat 32 (s.opWord h a.toNat) })) ∧
        (E.outLive.getLsbD x.1 = true → E.outRead.contains x = true → Completes (exec (.pkeOperandRead h a) s) fun t =>
          (t.eng h).readValue = 0 ∧ s.raisesOnly t [pkeEvent h 3] ∧ t.mem = s.mem) ∧
        (E.outLive.getLsbD x.1 = true → E.outRead.contains x = false → Completes (exec (.pkeOperandRead h a) s) fun t =>
          (t.eng h).readValue = BitVec.ofNat 32 (s.opWord h a.toNat) ∧
          ((t.eng h).outRead.contains x = true ∨ (t.eng h).outLive.getLsbD x.1 = false)))) ∧
    (∀ (slot : Fin 256) (v : Word),
      (s.pkeWindow h = true → Completes (exec (.pkeSlotCfgWrite h slot v) s) fun t =>
        t.pke = s.pke ∧ s.raisesOnly t [1487 + 2 * (halfCore h).val]) ∧
      (s.pkeWindow h = false → v.getLsbD 31 = false → exec (.pkeSlotCfgWrite h slot v) s =
        .next (s.updEng h fun e => { e with slotCfg := vset e.slotCfg slot (v &&& 0x9FFF00FF) })))

/-- Where the device answers: the negotiation goes up by its steps, and a request in another version or before its step is refused;
certificates and digests come from the slots served, a mismatched identity serves none; a signed request waits for its signature, told
ResponseNotReady while the steward verifies for release, and is delivered or kept ready when signed; a response over the transfer size is
collected in chunks; KEY_EXCHANGE opens a session, FINISH finishes it or ends it, END_SESSION ends it; GET_COSIG answers in its turn and
PUSH_COSIG authorises or ends the session; a secured record counts or ends it, and so does the idle time. Messages are bytes laid out as
DSP0274 1.3 (log entry 44). -/
def Obligations.SpdmResponder : Prop :=
  ∀ (s : State),
    let small (e : Nat) (r : List Byte) : Prop := r.length ≤ min dataTransfer (s.conn e).peerSize
    (∀ (who : Requester) (m : List Byte), s.answers who = true → m.headD 0 = 0x10 → Completes (exec (.getVersion who m) s) fun t =>
      t.spdm.out = versionMsg ∧ (t.conn who.endpoint).negotiated = 1 ∧
        t.spdm.waiting = s.spdm.waiting.filter fun w => w.1.endpoint != who.endpoint) ∧
    (∀ (who : Requester) (m : List Byte), s.answers who = true → (s.conn who.endpoint).ack = none →
      let e := who.endpoint
      let C := s.conn e
      let served (slot : Nat) : State := ((s.spdmTaken e (spdmField m 1 1 == 0xE0)).checkIdentity).issueAlias slot
      let out (r : List Byte) (t : State) : Prop := t.spdm.out = r
      let delivered (r : List Byte) (t : State) : Prop :=
        (small e r → out r t) ∧ (¬ small e r → out (errorMsg .largeResponse 0) t ∧ (t.conn e).chunks = r)
      let signable (slot : Nat) : Prop := s.dev.form ≠ .tamper ∧ slot ∈ (served slot).certSlots ∧
        (s.spdm.waiting.any fun x => x.1.endpoint == e) = false
      let waits (kind slot : Nat) (t : State) : Prop :=
        (∃ w : SignWait, t.spdm.waiting = s.spdm.waiting ++ [(who, w)] ∧ w.kind = kind ∧ w.slot = slot ∧ w.req = m) ∧
        (s.verifyingForRelease = true → out (errorMsg .responseNotReady (spdmField m 1 1)) t ∧ (t.conn e).deferred = spdmField m 1 1) ∧
        (s.verifyingForRelease = false → out [] t)
      (m.headD 0 ≠ 0x13 → Completes (exec (.getCapabilities who m) s) (out (errorMsg .versionMismatch 0))) ∧
      (m.headD 0 = 0x13 →
        (1 ≤ C.negotiated → 20 ≤ m.length → Completes (exec (.getCapabilities who m) s) fun t =>
          out (spdmMsg 0x61 0 0 capabilitiesBody) t ∧ (t.conn e).negotiated = max 2 C.negotiated ∧
          (C.negotiated = 1 → (t.conn e).peerFlags = spdmField m 8 4 ∧ (t.conn e).peerSize = spdmField m 12 4)) ∧
        (2 ≤ C.negotiated →
          (offersAll m = true → Completes (exec (.negotiateAlgorithms who m) s) fun t =>
            out algorithmsMsg t ∧ (t.conn e).negotiated = max 3 C.negotiated) ∧
          (offersAll m = false → Completes (exec (.negotiateAlgorithms who m) s) fun t =>
            out (errorMsg .invalidRequest 0) t ∧ (t.conn e).negotiated = C.negotiated) ∧
          (∀ all : List Byte, chunkOf C m = some all →
            let ack (r : List Byte) : List Byte := spdmMsg 0x05 0 (spdmField m 3 1) (leBytes 2 (spdmField m 4 2) ++ r)
            ((spdmField m 2 1).testBit 0 = false → Completes (exec (.chunkSend who m) s) fun t =>
              out (ack []) t ∧ (t.conn e).inChunks = all) ∧
            ((spdmField m 2 1).testBit 0 = true → all.headD 0 = 0x13 → spdmField all 1 1 ∉ spdmCodes →
              Completes (exec (.chunkSend who m) s) (out (ack (errorMsg .unsupportedRequest (spdmField all 1 1)))))) ∧
          (C.chunks ≠ [] → spdmField m 3 1 = 0 → spdmField m 4 2 = C.chunkSeq → Completes (exec (.chunkGet who m) s) fun t =>
            out (chunkResponse C 0) t ∧ (t.conn e).chunks = C.chunkGone.chunks)) ∧
        (C.negotiated < 3 → ∀ i ∈ [Instr.getDigests who m, .getCertificate who m, .challenge who m, .getMeasurements who m,
            .respondIfReady who m, .keyExchange who m, .finish who 0 m [], .getCosig who m], Completes (exec i s) fun t =>
          out (errorMsg .unexpectedRequest 0) t ∧ t.spdm.waiting = s.spdm.waiting ∧
          t.spdm.sessions.map (fun x => x.id) = s.spdm.sessions.map fun x => x.id) ∧
        (spdmField m 1 1 ∉ spdmCodes → Completes (exec (.spdmUnsupportedRequest who m) s)
          (out (errorMsg .unsupportedRequest (spdmField m 1 1)))) ∧
        (3 ≤ C.negotiated →
          (Completes (exec (.getDigests who m) s) fun t => out (served 1).digestsMsg t ∧
            (s.spdm.checked = false → s.certSlots ≠ [] → s.keysMatch = false → t.certSlots = [] ∧ t.isPending 1318 = true)) ∧
          (let slot := spdmField m 2 1 % 16
           8 ≤ m.length → slot ∈ (served slot).certSlots → spdmField m 4 2 ≤ ((served slot).chain slot).length →
             Completes (exec (.getCertificate who m) s) (delivered ((served slot).certificateMsg slot (spdmField m 4 2) (spdmField m 6 2)))) ∧
          (ModeOp.attest.permitted s.dev.mode = false → ∀ i ∈ [Instr.challenge who m, .getMeasurements who m],
            Completes (exec i s) fun t => out (errorMsg .unspecified 0) t ∧ t.spdm.waiting = s.spdm.waiting) ∧
          (ModeOp.attest.permitted s.dev.mode = true →
            (signable (spdmField m 2 1) → 44 ≤ m.length → summaryOk (spdmField m 3 1) = true →
              Completes (exec (.challenge who m) s) (waits 1 (spdmField m 2 1))) ∧
            (∀ a : List Nat × Bool, (spdmField m 2 1).testBit 0 = false → 12 ≤ m.length → measAsked false (spdmField m 3 1) = some a →
              Completes (exec (.getMeasurements who m) s)
                (delivered (s.measHead false (spdmField m 36 1 % 16) (spdmField m 3 1) a ++ s.measTail m false))) ∧
            (∀ a : List Nat × Bool, (spdmField m 2 1).testBit 0 = true → signable (spdmField m 36 1 % 16) → 45 ≤ m.length →
              measAsked true (spdmField m 3 1) = some a →
              Completes (exec (.getMeasurements who m) s) (waits 4 (spdmField m 36 1 % 16)))) ∧
          (C.deferred ≠ 0 → spdmField m 2 1 = C.deferred → spdmField m 3 1 = 0 →
            (∀ r : List Byte, C.ready = some r → Completes (exec (.respondIfReady who m) s) fun t =>
              delivered r t ∧ (t.conn e).ready = none ∧ (t.conn e).deferred = 0) ∧
            (C.ready = none → Completes (exec (.respondIfReady who m) s) (out (errorMsg .responseNotReady C.deferred)))) ∧
          (signable (spdmField m 3 1) → s.boot.secretBad = false → (e < 0x400 → (s.spdm.sessions.filter Session.counts).length < 4) →
            138 ≤ m.length → summaryOk (spdmField m 2 1) = true → s.roomForSession = true →
            Completes (exec (.keyExchange who m) s) fun t =>
              match sharedSecret ((served (spdmField m 3 1)).drbgNonce 0) (spdmBytes m 40 96) with
              | none => out (errorMsg .invalidRequest 0) t
              | some _ => waits 2 (spdmField m 3 1) t ∧ t.spdm.nextId = s.spdm.nextId + 1 ∧ ∃ x ∈ t.spdm.sessions,
                x.id = s.newSessionId (spdmField m 4 2) ∧ x.endpoint = e ∧ x.finished = false ∧ x.cosigDone = false ∧
                x.mutualAuth = C.peerFlags.testBit 8) ∧
          (∀ (id : Nat) (x : Session), s.session id = some x → x.endpoint = e →
            (x.finished = false → 8 ≤ x.slots.length → ∀ chain : List Byte, Completes (exec (.finish who id m chain) s) fun t =>
              if s.finishOk x chain m then out (spdmMsg 0x65 0 0 []) t ∧ (t.conn e).cosigKind = some 2 ∧
                ∃ y : Session, t.session id = some y ∧ y.finished = true ∧ y.lastMsg = s.time
              else out (errorMsg .invalidRequest 0) t ∧ t.session id = none) ∧
            (x.carries = true → Completes (exec (.endSession who id m) s) fun t => out (spdmMsg 0x6C 0 0 []) t ∧ t.session id = none) ∧
            (x.finished = true → x.mutualAuth = true → x.cosigDone = false → Completes (exec (.pushCosig who id m) s) fun t =>
              if cosigForm m 2 && spdmField m 14 1 == 3 && cosigOk x.peer 2 3 x.finHash (m.drop 15) then
                out (vendorMsg 0x7E [0x82, 3]) t ∧ (t.conn e).cosigKind = C.cosigKind ∧
                ∃ y : Session, t.session id = some y ∧ y.cosigDone = true ∧ y.lastMsg = s.time
              else out (errorMsg .unspecified 0) t ∧ t.session id = none)) ∧
          (s.dev.form ≠ .tamper → cosigForm m 1 = true →
            let kind := spdmField m 14 1
            (C.cosigKind = some kind → (kind = 1 ∨ kind = 2) → Completes (exec (.getCosig who m) s)
              (delivered (vendorMsg 0x7E ([0x81, BitVec.ofNat 8 kind] ++ C.cosig)))) ∧
            (C.cosigKind ≠ some kind → Completes (exec (.getCosig who m) s) (out (errorMsg .unexpectedRequest 0))))))) ∧
    (∀ (who : Requester) (w : SignWait) (rest : List (Requester × SignWait)), s.spdm.waiting = (who, w) :: rest →
      let e := who.endpoint
      let r := ({ s.quiet with spdm := { s.spdm with out := [], waiting := rest } }).signNow who w
      ((s.conn e).deferred ≠ 0 → Completes (exec .spdmSignatureReady s) fun t =>
        t.spdm.waiting = rest ∧ (t.conn e).ready = some r.2 ∧ t.spdm.out = []) ∧
      ((s.conn e).deferred = 0 → (s.conn e).ack = none → Completes (exec .spdmSignatureReady s) fun t =>
        t.spdm.waiting = rest ∧ (small e r.2 → t.spdm.out = r.2) ∧ (spdmField r.2 1 1 = 0x03 → (t.conn e).cosigKind = some 1))) ∧
    (∀ (e : Nat) (rec : List Byte) (x : Session),
      let r := s.recordArrived e rec
      s.session (leNat (r.take 4)) = some x → x.endpoint = e → Completes (exec (.securedRecord e rec) s) fun t =>
        match (if leNat ((r.drop 4).take 8) = x.rxSeq then s.recordIn x r else none) with
        | some m => (∃ y : Session, t.session x.id = some y ∧ y.rxSeq = x.rxSeq + 1 ∧ y.lastMsg = s.time) ∧
          (m.headD 0 ≠ 0x05 → m.headD 0 ≠ 0x7E → t.rill.lastCode = .badRange)
        | none => t.session x.id = none ∧ t.rill.lastCode = .verifyFail) ∧
    (∀ (id : Nat) (x : Session), s.session id = some x → Completes (exec (.sessionIdleExpired id) s) fun t =>
      t.session id = none ∧ t.time = max s.time (x.lastMsg + s.pnat 0x0602 2 900 * secNs))

/-- With the fuse controller on, for the steward, and no command running: READ gives the loose reading, MARGIN both readings, the weak bits
and their events, and of SECRET only the number of weak bits; RELOAD takes the word into its shadow, 0 for SECRET. An override write in
TEST or PROVISION overrides the word addressed and raises its event, and is ignored otherwise; OVR_ADDR without bit 31 only names a word
and with it drops every override. The background load completes the shadows of W96 to W511 and raises FUSE_LOADED. -/
def Obligations.FuseSensing : Prop :=
  ∀ (s : State) (half : Half) (w : BitVec 9), s.domOn 30 = true → s.isSteward half = true →
    let c := s.mainCells (mainIx w.toNat)
    let secret := regionOf w.toNat = 1
    (s.fuseBusy = false → ∀ priv : Bool, (priv = true → w.toNat < 64) →
      let p := s.fuse.priv[privIx w.toNat]
      let loose := if priv then p.loose else c.loose
      let tight := if priv then p.tight else c.tight
      let weak := if priv then p.weak else c.weak
      let hide := priv = false ∧ secret
      (Completes (exec (.fuseRead half priv w) s) fun t =>
        t.fuse.readLoose = (if hide then 0 else loose) ∧ (hide → t.fuse.readTight = 0 ∧ t.fuse.readWeak.toNat = popCount weak) ∧
        (¬ hide → t.fuse.readTight = s.fuse.readTight ∧ t.fuse.readWeak = s.fuse.readWeak) ∧ t.fuse.status = ⟨false, .ok, 0, 0⟩ ∧
        t.fuse.busyUntil = s.time + 2500 ∧
        t = { s with fuse := { s.fuse with readLoose := t.fuse.readLoose, readTight := t.fuse.readTight, readWeak := t.fuse.readWeak,
                                           status := t.fuse.status, busyUntil := t.fuse.busyUntil } }) ∧
      (Completes (exec (.fuseMargin half priv w) s) fun t =>
        (¬ hide → t.fuse.readLoose = loose ∧ t.fuse.readTight = tight ∧ t.fuse.readWeak = weak) ∧
        (hide → t.fuse.readLoose = 0 ∧ t.fuse.readTight = 0 ∧ t.fuse.readWeak.toNat = popCount weak) ∧
        t.fuse.status = ⟨false, .ok, 0, 0⟩ ∧
        s.raisesOnly t ((if tight &&& ~~~ loose = 0 then [] else [1298]) ++ (if weak = 0 then [] else [1297])) ∧
        t = { s with fuse := { s.fuse with readLoose := t.fuse.readLoose, readTight := t.fuse.readTight, readWeak := t.fuse.readWeak,
                                           status := t.fuse.status, busyUntil := t.fuse.busyUntil }, ev := t.ev }) ∧
      (Completes (exec (.fuseReload half priv w) s) fun t =>
        t = { s with fuse := { s.fuse with shadow := t.fuse.shadow, shadowPriv := t.fuse.shadowPriv, status := ⟨false, .ok, 0, 0⟩,
                                           busyUntil := s.time + 4500 } } ∧
        t.fuse.shadow = (if priv then s.fuse.shadow else vset s.fuse.shadow (mainIx w.toNat) (if secret then 0 else c.loose)) ∧
        t.fuse.shadowPriv = (if priv then vset s.fuse.shadowPriv (privIx w.toNat) p.loose else s.fuse.shadowPriv))) ∧
    (∀ v : Word,
      let may : Prop := (s.lifecycle = .test ∨ s.lifecycle = .provision) ∧ regionOverridable (regionOf s.fuse.ovrAddr.val) = true
      (may → Completes (exec (.fuseOverrideWrite half v) s) fun t =>
        t.fuseWord s.fuse.ovrAddr = v ∧ (∀ x : Fin 512, x ≠ s.fuse.ovrAddr → t.fuseWord x = s.fuseWord x) ∧ s.raisesOnly t [1307] ∧
        t = { s with fuse := { s.fuse with overrides := t.fuse.overrides }, ev := t.ev }) ∧
      (¬ may → exec (.fuseOverrideWrite half v) s = .next s) ∧
      (v.getLsbD 31 = false → exec (.fuseOverrideClear half v) s =
        .next { s with fuse := { s.fuse with ovrAddr := mainIx (bitsOf v.toNat 0 9) } }) ∧
      (v.getLsbD 31 = true → Completes (exec (.fuseOverrideClear half v) s) fun t =>
        t.fuse.overrides = [] ∧ t.fuse.ovrAddr = mainIx (bitsOf v.toNat 0 9) ∧
        t = { s with fuse := { s.fuse with overrides := [], ovrAddr := t.fuse.ovrAddr, shadow := t.fuse.shadow } })) ∧
    (s.fuse.bootLoaded = true → s.fuse.allLoaded = false → Completes (exec .fuseBackgroundLoadDone s) fun t =>
      t.fuse.allLoaded = true ∧ t.isPending 1296 = true ∧ t.fuse.main = s.fuse.main ∧ t.fuse.spare = s.fuse.spare ∧
      t.fuse.priv = s.fuse.priv ∧ (∀ x : Fin 512, 96 ≤ x.val → t.fuse.shadow[x] = (s.mainCells x).loose) ∧
      (∀ x : Fin 512, x.val < 96 → t.fuse.shadow[x] = s.fuse.shadow[x]) ∧
      t = { s with fuse := t.fuse, boot := { s.boot with alarm := t.boot.alarm, otherBad := t.boot.otherBad }, ev := t.ev, log := t.log })

/-- Where neither power loss nor T_J cuts the burn: a PROGRAM or REBURN of a main word that nothing refuses burns the masked bits of that word's cells, its spare's where it is
redirected, and takes the result into its shadow; the answer is OK exactly where every masked bit reads 1, else INTERNAL. REDIRECT
answered OK leaves the value in the free spare and the entry burned, and nothing in force changes. GEN_SECRET burns W8 to W20, whose
shadows read 0. LOCK of a region that passes its checks burns its bit of P1, or answers INTERNAL; a locked one is answered OK. The owner
objects do the same for the slot's digest and lock. -/
def Obligations.FuseBurns : Prop :=
  ∀ (s : State) (half : Half) (w : BitVec 9) (b : BurnOutcome), s.domOn 30 = true → s.isSteward half = true → b.cut = none →
    let onlyWord (t : State) : Prop :=
      (∀ sp : Fin 128, s.spareOf (mainIx w.toNat) = some sp → t.fuse.main = s.fuse.main ∧ ∀ j : Fin 128, j ≠ sp → t.fuse.spare[j] = s.fuse.spare[j]) ∧
      (s.spareOf (mainIx w.toNat) = none → t.fuse.spare = s.fuse.spare ∧
        ∀ j : Fin 512, j ≠ mainIx w.toNat → t.fuse.main[j] = s.fuse.main[j]) ∧
      t.fuse.priv = s.fuse.priv ∧ t.fuse.redirects = s.fuse.redirects
    let burned (mask set : Word) (t : State) : Prop :=
      let v := (s.mainCells (mainIx w.toNat)).burn set (BitVec.ofNat 32 b.loose) (BitVec.ofNat 32 b.tight)
      t.mainCells (mainIx w.toNat) = v ∧ onlyWord t ∧
      t.fuse.status.code = (if mask &&& ~~~ v.loose = 0 then .ok else .internal) ∧ t.isPending (if mask &&& ~~~ v.loose = 0 then 1300 else 1301) = true ∧
      t.fuse.busyUntil = s.time + 20000 + 10000 * popCount set + 15000 * popCount (set &&& ~~~ v.tight) ∧ t = { s with fuse := t.fuse, ev := t.ev }
    let mask := s.fuse.cmdData
    (s.burnStop true = none →
      (s.programMainCode w.toNat mask = none → Completes (exec (.fuseProgram half false w b) s)
        (burned mask (mask &&& ~~~ (s.mainCells (mainIx w.toNat)).loose))) ∧
      (s.reburnCode false w.toNat mask = none → Completes (exec (.fuseReburn half false w b) s) (burned mask mask)) ∧
      (s.programPrivCode w.toNat mask = none → Completes (exec (.fuseProgram half true w b) s) fun t =>
        t.fuse.main = s.fuse.main ∧ t.fuse.spare = s.fuse.spare ∧ (∀ p : Fin 64, p ≠ privIx w.toNat → t.fuse.priv[p] = s.fuse.priv[p]) ∧
        t.fuse.status.code = (if mask &&& ~~~ (t.fuse.priv[privIx w.toNat]).loose = 0 then .ok else .internal)) ∧
      (∀ (sp : Fin 128) (e : Nat), s.lockCell (regionOf w.toNat) = false → (s.lifecycle = .test ∨ s.lifecycle = .provision) →
        s.freeSpare = some sp → s.freeEntry = some e → Completes (exec (.fuseRedirect half w b) s) fun t =>
          t.fuse.main = s.fuse.main ∧ t.fuse.redirects = s.fuse.redirects ∧ (∀ j : Fin 128, j ≠ sp → t.fuse.spare[j] = s.fuse.spare[j]) ∧
          (∀ p : Fin 64, p ≠ privIx (32 + e) → t.fuse.priv[p] = s.fuse.priv[p]) ∧
          (t.fuse.status.code = .ok ∨ t.fuse.status.code = .internal) ∧
          (t.fuse.status.code = .ok → (t.fuse.spare[sp]).loose = mask ∧ t.isPending 1305 = true ∧
            redirectWord w.toNat sp.val &&& ~~~ (t.fuse.priv[privIx (32 + e)]).loose = 0)) ∧
      (s.lockCell 1 = false → s.lifecycle = .test → Completes (exec (.genSecret half b) s) fun t =>
        (t.fuse.status.code = .ok ∨ t.fuse.status.code = .internal) ∧ t.fuse.priv = s.fuse.priv ∧ t.fuse.readLoose = s.fuse.readLoose ∧
        (∀ x : Fin 512, regionOf x.val = 1 → t.fuse.shadow[x] = 0) ∧ (∀ x : Fin 512, regionOf x.val ≠ 1 → t.fuse.shadow[x] = s.fuse.shadow[x]) ∧
        t = { s with fuse := t.fuse, ev := t.ev, free := s.free + 1 }) ∧
      (w.toNat ≤ 10 → s.lockCell w.toNat = false → regionLockable w.toNat s.lifecycle = true → s.lockFailure w.toNat = none →
        Completes (exec (.fuseLock half w b) s) fun t =>
          t.fuse.status.code = (if t.lockCell w.toNat = true then .ok else .internal) ∧ t.fuse.main = s.fuse.main ∧
          (∀ p : Fin 64, p ≠ 1 → t.fuse.priv[p] = s.fuse.priv[p]) ∧ (t.lockCell w.toNat = true → t.isPending 1304 = true) ∧
          t = { s with fuse := t.fuse, ev := t.ev })) ∧
    (w.toNat ≤ 10 → s.lockCell w.toNat = true → s.fuseBusy = false → exec (.fuseLock half w b) s =
      .next { s with fuse := { s.fuse with status := ⟨false, .ok, 0, 0⟩, busyUntil := s.time } }) ∧
    (∀ (who : Requester) (slot : Fin 4), s.answers who = true → s.authorised who = true → s.lockCell (3 + slot.val) = false →
      s.fuseObjMode true = true → s.dev.freeze = false → s.tempOk = true →
      (∀ d : Digest, regionProgrammed (3 + slot.val) s.lifecycle = true →
        s.wouldClear (32 + 13 * slot.val) (digestWords d ++ [integrityOf (3 + slot.val) (digestWords d)]) = false →
        Completes (exec (.ownerDigestWrite who slot d b) s) fun t =>
          (t.rill.lastCode = .ok ∨ t.rill.lastCode = .internal) ∧ t.fuse.priv = s.fuse.priv ∧
          (t.rill.lastCode = .ok → ∀ i, i < 12 →
            (digestWords d).getD i 0 &&& ~~~ (t.mainCells (mainIx (32 + 13 * slot.val + i))).loose = 0) ∧
          t = { s with fuse := t.fuse, ev := t.ev, rill := { s.rill with lastCode := t.rill.lastCode } }) ∧
      (regionLockable (3 + slot.val) s.lifecycle = true → s.lockFailure (3 + slot.val) = none →
        Completes (exec (.ownerLockRequest who slot b) s) fun t =>
          t.rill.lastCode = (if t.lockCell (3 + slot.val) = true then .ok else .internal) ∧ t.fuse.main = s.fuse.main ∧
          ∀ p : Fin 64, p ≠ 1 → t.fuse.priv[p] = s.fuse.priv[p]))

/-- On every core whose stacks lie within their size and that executes the instruction, the stack instructions and literals give the
stack effect of the table of R454, bring pending results nearer, go on behind the instruction, and change nothing else. -/
def Obligations.BrixxelStackEffects : Prop :=
  ∀ (s : State) (k : CoreId), (s.core k).sized = true →
    let q := s.found k false
    (s.executesPlain k false 0 0 0 = true → Computes s k false 0 [] [] (NothingElse 2) (exec (.nop k) s)) ∧
    (s.executesPlain k false 1 1 2 = true → Computes s k false 1 [q.S 0, q.S 0] [] (NothingElse 2) (exec (.dup k) s)) ∧
    (s.executesPlain k false 1 1 0 = true → Computes s k false 1 [] [] (NothingElse 2) (exec (.drop k) s)) ∧
    (s.executesPlain k false 2 2 2 = true → Computes s k false 2 [q.S 1, q.S 0] [] (NothingElse 2) (exec (.swap k) s)) ∧
    (s.executesPlain k false 2 2 3 = true → Computes s k false 2 [q.S 1, q.S 0, q.S 1] [] (NothingElse 2) (exec (.over k) s)) ∧
    (s.executesPlain k false 3 3 3 = true → Computes s k false 3 [q.S 2, q.S 0, q.S 1] [] (NothingElse 2) (exec (.rot k) s)) ∧
    (∀ n : Byte, n.toNat ≤ 62 → s.executesPlain k false (n.toNat + 1) 0 1 = true →
      Computes s k false 0 [q.S n.toNat] [] (NothingElse 2) (exec (.pick k n) s)) ∧
    (s.executesPlain k false 0 0 1 = true → Computes s k false 0 [BitVec.ofNat 32 q.depth] [] (NothingElse 2) (exec (.depth k) s)) ∧
    (∀ f : Byte, s.executesPlain k false 0 0 1 = true →
      Computes s k false 0 [f.signExtend 32] [] (NothingElse 2) (exec (.lit8 k f) s)) ∧
    (∀ i : BitVec 20, s.executesPlain k true 0 0 1 = true →
      Computes s k true 0 [i.signExtend 32] [] (NothingElse 4) (exec (.lit k i) s) ∧
      Computes s k true 0 [BitVec.ofNat 32 (i.toNat * 4096)] [] (NothingElse 4) (exec (.litu k i) s))

/-- On a core that executes them, TOR moves S0 to the return stack, FROMR pops the entry on top of it and RCOPY copies it; the entries
below stay, and nothing else of the device changes. -/
def Obligations.BrixxelReturnStackMoves : Prop :=
  ∀ (s : State) (k : CoreId), (s.core k).sized = true →
    let q := s.found k false
    (s.executes k false 1 1 0 0 1 false false = true →
      Computes s k false 1 [] [] (fun q c => ReturnStack 2 q.rdepth (q.rdepth + 1) q c ∧ c.R = q.S 0) (exec (.tor k) s)) ∧
    (s.executes k false 0 0 1 1 0 false false = true →
      Computes s k false 0 [q.R] [] (ReturnStack 2 32 (q.rdepth - 1)) (exec (.fromr k) s) ∧
      Computes s k false 0 [q.R] [] (ReturnStack 2 32 q.rdepth) (exec (.rcopy k) s))

/-- On a core that executes them, the arithmetic, logic and shift instructions take their operands off the stack, x below y, and leave
the result of the table of R454 in their place: a shift by 32 to 63 gives 0, or the sign fill for SAR. Nothing else changes. -/
def Obligations.BrixxelArithmetic : Prop :=
  ∀ (s : State) (k : CoreId), (s.core k).sized = true →
    let q := s.found k false
    let x := q.S 1
    let y := q.S 0
    let n := y.toNat % 64
    (s.executesPlain k false 2 2 1 = true →
      Computes s k false 2 [x + y] [] (NothingElse 2) (exec (.add k) s) ∧
      Computes s k false 2 [x - y] [] (NothingElse 2) (exec (.sub k) s) ∧
      Computes s k false 2 [x &&& y] [] (NothingElse 2) (exec (.andI k) s) ∧
      Computes s k false 2 [x ||| y] [] (NothingElse 2) (exec (.orI k) s) ∧
      Computes s k false 2 [x ^^^ y] [] (NothingElse 2) (exec (.xorI k) s) ∧
      Computes s k false 2 [BitVec.ofNat 32 (if n < 32 then x.toNat * 2 ^ n else 0)] [] (NothingElse 2) (exec (.shl k) s) ∧
      Computes s k false 2 [BitVec.ofNat 32 (if n < 32 then x.toNat / 2 ^ n else 0)] [] (NothingElse 2) (exec (.shr k) s) ∧
      Computes s k false 2 [if n < 32 then BitVec.ofInt 32 (x.toInt / 2 ^ n) else if x.msb then BitVec.allOnes 32 else 0] []
        (NothingElse 2) (exec (.sar k) s)) ∧
    (s.executesPlain k false 1 1 1 = true →
      Computes s k false 1 [~~~ y] [] (NothingElse 2) (exec (.notI k) s) ∧
      Computes s k false 1 [0 - y] [] (NothingElse 2) (exec (.negI k) s) ∧
      (∀ m : BitVec 5,
        Computes s k false 1 [BitVec.ofNat 32 (y.toNat * 2 ^ m.toNat)] [] (NothingElse 2) (exec (.shli k m) s) ∧
        Computes s k false 1 [BitVec.ofNat 32 (y.toNat / 2 ^ m.toNat)] [] (NothingElse 2) (exec (.shri k m) s) ∧
        Computes s k false 1 [BitVec.ofInt 32 (y.toInt / 2 ^ m.toNat)] [] (NothingElse 2) (exec (.sari k m) s)) ∧
      ∀ f : Byte, Computes s k false 1 [y + f.signExtend 32] [] (NothingElse 2) (exec (.addi k (.short f)) s)) ∧
    (∀ i : BitVec 20, s.executesPlain k true 1 1 1 = true →
      let z := (s.found k true).S 0
      Computes s k true 1 [z ||| i.setWidth 32] [] (NothingElse 4) (exec (.ori k i) s) ∧
      Computes s k true 1 [z + i.signExtend 32] [] (NothingElse 4) (exec (.addi k (.long i)) s))

/-- On a core that executes them, EQ, NE, LT, LTU, LE, LEU and EQZ replace their operands by 1 where x stands in the relation to y, as
signed values for LT and LE, and by 0 where it does not. Nothing else changes. -/
def Obligations.BrixxelCompares : Prop :=
  ∀ (s : State) (k : CoreId), (s.core k).sized = true →
    let q := s.found k false
    let x := q.S 1
    let y := q.S 0
    let flag := fun b : Bool => if b then (1 : Word) else 0
    (s.executesPlain k false 2 2 1 = true →
      Computes s k false 2 [flag (decide (x = y))] [] (NothingElse 2) (exec (.eqI k) s) ∧
      Computes s k false 2 [flag (decide (x ≠ y))] [] (NothingElse 2) (exec (.neI k) s) ∧
      Computes s k false 2 [flag (decide (x.toInt < y.toInt))] [] (NothingElse 2) (exec (.ltI k) s) ∧
      Computes s k false 2 [flag (decide (x.toNat < y.toNat))] [] (NothingElse 2) (exec (.ltuI k) s) ∧
      Computes s k false 2 [flag (decide (x.toInt ≤ y.toInt))] [] (NothingElse 2) (exec (.leI k) s) ∧
      Computes s k false 2 [flag (decide (x.toNat ≤ y.toNat))] [] (NothingElse 2) (exec (.leuI k) s)) ∧
    (s.executesPlain k false 1 1 1 = true →
      Computes s k false 1 [flag (decide (y = 0))] [] (NothingElse 2) (exec (.eqzI k) s))

/-- MUL, MULH and MULHU take one cell and leave the value of S1 in the cell of the result; the product's low, signed high or unsigned
high 32 bits are pending for that cell at distance 2. A result that is due lands in its cell at the next instruction of the core,
unless the cell lies at or above the depth. -/
def Obligations.BrixxelMultiplies : Prop :=
  (∀ (s : State) (k : CoreId), (s.core k).sized = true → s.executesPlain k false 2 2 1 = true →
    let q := s.found k false
    let x := q.S 1
    let y := q.S 0
    let due := fun v : Word => [(⟨2, .cell (q.depth - 2), v.setWidth 72⟩ : Pend)]
    Computes s k false 2 [x] (due (BitVec.ofNat 32 (x.toNat * y.toNat))) (NothingElse 2) (exec (.mul k) s) ∧
    Computes s k false 2 [x] (due (BitVec.ofInt 32 (x.toInt * y.toInt / 2 ^ 32))) (NothingElse 2) (exec (.mulh k) s) ∧
    Computes s k false 2 [x] (due (BitVec.ofNat 32 (x.toNat * y.toNat / 2 ^ 32))) (NothingElse 2) (exec (.mulhu k) s)) ∧
  ∀ (s : State) (k : CoreId) (long : Bool) (i : Nat) (v : BitVec 72), (s.core k).sized = true → (s.core k).pend = [⟨0, .cell i, v⟩] →
    ∀ j, j < (s.core k).depth → (s.found k long).cell j = (if j = i then v.setWidth 32 else (s.core k).cell j)

/-- A load whose aligned address lies in secure SRAM outside the log ring, and is permitted, takes its base, keeps the base in the cell
of the result and has the bytes there, sign- or zero-extended, pending for it at distance 2; LDR also reserves the 32-byte granule
in place of an earlier reservation. Memory and everything else stay. -/
def Obligations.BrixxelLoads : Prop :=
  ∀ (s : State) (k : CoreId) (d : Disp), (s.core k).sized = true →
    let long := d.isLong
    let len := if long then 4 else 2
    let q := s.found k long
    let at_ := fun n : Nat => (q.S 0 + d.bytes n).toNat
    let due := fun v : Word => [(⟨2, .cell (q.depth - 1), v.setWidth 72⟩ : Pend)]
    let value := fun n : Nat => s.load (at_ n) n
    s.executesPlain k long 1 1 1 = true →
    (s.sramAccess k false q (at_ 4) 4 = true →
      Computes s k long 1 [q.S 0] (due (BitVec.ofNat 32 (value 4))) (NothingElse len) (exec (.ldw k d) s) ∧
      Computes s k long 1 [q.S 0] (due (BitVec.ofNat 32 (value 4)))
        (fun q c => NothingElse len { q with resv := some (at_ 4 / 32) } c) (exec (.ldr k d) s)) ∧
    (s.sramAccess k false q (at_ 2) 2 = true →
      Computes s k long 1 [q.S 0] (due ((BitVec.ofNat 16 (value 2)).signExtend 32)) (NothingElse len) (exec (.ldh k d) s) ∧
      Computes s k long 1 [q.S 0] (due (BitVec.ofNat 32 (value 2))) (NothingElse len) (exec (.ldhu k d) s)) ∧
    (s.sramAccess k false q (at_ 1) 1 = true →
      Computes s k long 1 [q.S 0] (due ((BitVec.ofNat 8 (value 1)).signExtend 32)) (NothingElse len) (exec (.ldb k d) s) ∧
      Computes s k long 1 [q.S 0] (due (BitVec.ofNat 32 (value 1))) (NothingElse len) (exec (.ldbu k d) s))

/-- A store whose aligned address lies in secure SRAM outside the log ring, and is permitted, takes value and base and changes the
low bytes of the value there, no other byte; reservations of the granule go. STC does so where the core reserved the granule, with 1
pending for the flag's cell; without the reservation, or beside the STC of a lower core that holds it in the same cycle, it stores
nothing, with 0 pending; its reservation goes either way. -/
def Obligations.BrixxelStores : Prop :=
  ∀ (s : State) (k : CoreId) (d : Disp) (rivals : BitVec 12), (s.core k).sized = true →
    let long := d.isLong
    let len := if long then 4 else 2
    let q := s.found k long
    let at_ := fun n : Nat => (q.S 0 + d.bytes n).toNat
    let plain := fun (n : Nat) (t : State) => Stores s t k (at_ n) n (q.S 1).toNat ∧ StackGives q (t.core k) 2 [] ∧
      (t.core k).pend = q.pend.map Pend.nearer ∧
      NothingElse len { q with resv := keptReservation (at_ n) n q.resv } (t.core k)
    (s.executesPlain k long 2 2 0 = true →
      (s.sramAccess k true q (at_ 4) 4 = true → Completes (exec (.stw k d) s) (plain 4)) ∧
      (s.sramAccess k true q (at_ 2) 2 = true → Completes (exec (.sth k d) s) (plain 2)) ∧
      (s.sramAccess k true q (at_ 1) 1 = true → Completes (exec (.stb k d) s) (plain 1))) ∧
    (s.executesPlain k long 2 2 1 = true → s.sramAccess k true q (at_ 4) 4 = true →
      let due := fun v : Nat => [(⟨2, .cell (q.depth - 2), BitVec.ofNat 72 v⟩ : Pend)]
      let lower := ∃ r : CoreId, r.val < k.val ∧ rivals.getLsbD r.val = true ∧ (s.core r).resv = some (at_ 4 / 32)
      (q.resv = some (at_ 4 / 32) → ¬ lower → Completes (exec (.stc k d rivals) s) fun t =>
        Stores s t k (at_ 4) 4 (q.S 1).toNat ∧ StackGives q (t.core k) 2 [q.S 1] ∧
          (t.core k).pend = q.pend.map Pend.nearer ++ due 1 ∧ NothingElse len { q with resv := none } (t.core k)) ∧
      (q.resv ≠ some (at_ 4 / 32) ∨ lower →
        Computes s k long 2 [q.S 1] (due 0) (fun q c => NothingElse len { q with resv := none } c) (exec (.stc k d rivals) s)))

/-- On a core that executes them, a branch takes its operand and goes on to its delay slot; after the slot the core goes to the
branch's own address plus twice the offset where it is taken, to the popped target of JMP and JSR, to the entry popped off the return
stack by RET, and else behind the slot. BSR and JSR push the address that follows a slot of one parcel, and the link is settled for a
slot of two at the slot. FENCE, all earlier accesses being complete, does nothing more. -/
def Obligations.BrixxelBranches : Prop :=
  ∀ (s : State) (k : CoreId), (s.core k).sized = true →
    (∀ o : BImm,
      let long := o.isLong
      let len := if long then 4 else 2
      let q := s.found k long
      let target := q.pc + o.signed + o.signed
      let same := fun c : Core => c.rstack = q.rstack ∧ c.rdepth = q.rdepth
      (s.executes k long 1 1 0 0 0 true false = true →
        Computes s k long 1 [] [] (fun q c => same c ∧ Branches len (if q.S 0 = 0 then some target else none) false q c)
          (exec (.bz k o) s) ∧
        Computes s k long 1 [] [] (fun q c => same c ∧ Branches len (if q.S 0 ≠ 0 then some target else none) false q c)
          (exec (.bnz k o) s)) ∧
      (s.executes k long 0 0 0 0 0 true false = true →
        Computes s k long 0 [] [] (fun q c => same c ∧ Branches len (some target) false q c) (exec (.bra k o) s)) ∧
      (s.executes k long 0 0 0 0 1 true false = true →
        Computes s k long 0 [] [] (fun q c => c.rdepth = q.rdepth + 1 ∧ c.R = q.pc + BitVec.ofNat 32 (len + 2) ∧
          (∀ i, i < q.rdepth → c.rAt i = q.rAt i) ∧ Branches len (some target) true q c) (exec (.bsr k o) s))) ∧
    (let q := s.found k false
     let same := fun c : Core => c.rstack = q.rstack ∧ c.rdepth = q.rdepth
     (s.executes k false 1 1 0 0 0 true false = true → (q.S 0).getLsbD 0 = false →
       Computes s k false 1 [] [] (fun q c => same c ∧ Branches 2 (some (q.S 0)) false q c) (exec (.jmp k) s)) ∧
     (s.executes k false 1 1 0 0 1 true false = true → (q.S 0).getLsbD 0 = false →
       Computes s k false 1 [] [] (fun q c => c.rdepth = q.rdepth + 1 ∧ c.R = q.pc + 4 ∧ (∀ i, i < q.rdepth → c.rAt i = q.rAt i) ∧
         Branches 2 (some (q.S 0)) true q c) (exec (.jsr k) s)) ∧
     (s.executes k false 0 0 0 1 0 true false = true → q.R.getLsbD 0 = false →
       Computes s k false 0 [] [] (fun q c => c.rdepth = q.rdepth - 1 ∧ c.rstack = q.rstack ∧ Branches 2 (some q.R) false q c)
         (exec (.ret k) s)) ∧
     (s.executesPlain k false 0 0 0 = true → Computes s k false 0 [] [] (NothingElse 2) (exec (.fence k) s)))

/-- On a core with no trap active, SVC and BREAK enter their vectors with TRAPPC behind them and their field in TRAPINFO. In supervisor,
TRET goes on at TRAPPC with privilege from prev_x and active and in_slot clear, the one instruction there being a slot instruction
with TRAPNEXT behind it where in_slot was 1; the reservation goes. WAIT in supervisor leaves the core waiting behind it. -/
def Obligations.BrixxelTrapsAndReturns : Prop :=
  ∀ (s : State) (k : CoreId), (s.core k).sized = true →
    (∀ n : Byte, s.upTo k false = true → (s.found k false).slot = none →
      Traps s k false .svc (fun q => q.pc + 2) (exec (.svc k n) s) ∧
      Traps s k false .break_ (fun q => q.pc + 2) (exec (.breakI k n) s) ∧
      Completes (exec (.svc k n) s) (fun t => bitsOf (t.core k).trapInfo.toNat 5 8 = n.toNat) ∧
      Completes (exec (.breakI k n) s) (fun t => bitsOf (t.core k).trapInfo.toNat 5 8 = n.toNat)) ∧
    (s.executes k false 0 0 0 0 0 true true = true →
      Computes s k false 0 [] [] (fun q c =>
        c = { q with pend := c.pend, ext := q.trapInfo.getLsbD 29, resv := none, pc := q.trapPc &&& 0xFFFFFFFE, trapInfo := c.trapInfo,
                     slot := if q.trapInfo.getLsbD 30 then some ⟨some (q.trapNext &&& 0xFFFFFFFE), false⟩ else none } ∧
        c.active = false ∧ c.trapInfo.getLsbD 30 = false ∧ ∀ i, i < 30 → c.trapInfo.getLsbD i = q.trapInfo.getLsbD i)
        (exec (.tret k) s) ∧
      Computes s k false 0 [] [] (fun q c => NothingElse 2 { q with waiting := true } c) (exec (.waitI k) s))

/-- On a core with no trap active that may fetch the instruction: DROP on an empty stack, DUP at the limit, RET on an empty return stack,
TOR at its limit, a load off its size, a store that the regions deny, WAIT and TRET in extension, a branch in a delay slot, and an
emulated encoding trap with the cause of R471 and TRAPPC at the instruction; where the parcel may not be fetched, NOP traps with FETCH.
A trap other than an event while one is active halts the core and raises its ALERT. -/
def Obligations.BrixxelTrapCauses : Prop :=
  ∀ (s : State) (k : CoreId), (s.core k).sized = true →
    let q := s.found k false
    let here := fun q : Core => q.pc
    (s.upTo k false = true →
      (q.depth = 0 → Traps s k false .dunder here (exec (.drop k) s)) ∧
      (0 < q.depth → q.dmax < q.depth + 1 → Traps s k false .dover here (exec (.dup k) s)) ∧
      (q.slot = none → q.rdepth = 0 → Traps s k false .runder here (exec (.ret k) s)) ∧
      (0 < q.depth → q.rmax < q.rdepth + 1 → Traps s k false .rover here (exec (.tor k) s)) ∧
      (∀ f : BitVec 5, 0 < q.depth → (q.S 0 + BitVec.ofNat 32 (f.toNat * 4)).toNat % 4 ≠ 0 →
        Traps s k false .align here (exec (.ldw k (.short f)) s)) ∧
      (∀ f : BitVec 5, 1 < q.depth → (q.S 0 + BitVec.ofNat 32 (f.toNat * 4)).toNat % 4 = 0 →
        q.dataOk (q.S 0 + BitVec.ofNat 32 (f.toNat * 4)).toNat 1 = false → Traps s k false .data here (exec (.stw k (.short f)) s)) ∧
      (q.slot = none → q.ext = true → Traps s k false .privilege here (exec (.waitI k) s) ∧
        Traps s k false .privilege here (exec (.tret k) s)) ∧
      (q.slot.isSome = true → ∀ f : Byte, Traps s k false .slot here (exec (.bra k (.short f)) s)) ∧
      (∀ w : Word16, (Parcels.mk w none).reserved = true → Traps s k false .emulate here (exec (.emulateTrap k ⟨w, none⟩) s))) ∧
    ((s.core k).runs = true → s.stalls k = false → q.active = false → q.right q.pc.toNat 2 = false →
      Traps s k false .fetch here (exec (.nop k) s)) ∧
    ((s.core k).runs = true → s.stalls k = false → q.active = true → q.right q.pc.toNat 2 = true → q.depth = 0 →
      Completes (exec (.drop k) s) fun t =>
        t.core k = { q with halted := true } ∧ t.isPending (1486 + 2 * k.val) = true ∧
          t = { s with cores := vset s.cores k (t.core k), ev := t.ev, log := t.log })

/-- FMAC and PMAC take two cells and have the latest value of the accumulator, pending or held, plus or minus the product or the sum of
paired products pending for it at distance 3, wrapping at 72 bits. ACLR, ALD and AWR write the accumulator; FSTO and FSTOH push it
divided, rounded by FXMODE.round and saturated, with FXMODE.sat set where they saturated; ARD pushes its parts 0 to 2 raw. -/
def Obligations.BrixxelFixedPoint : Prop :=
  ∀ (s : State) (k : CoreId) (a : Fin 2), (s.core k).sized = true →
    let q := s.found k false
    let acc := fun (v : BitVec 72) (q c : Core) => NothingElse 2 { q with acc := vset q.acc a v } c
    let due := fun (sub : Bool) (p : Int) =>
      [(⟨3, .acc a, q.accNext a + BitVec.ofInt 72 (if sub then -p else p)⟩ : Pend)]
    let hi := fun w : Word => (w.extractLsb' 16 16).toInt
    let lo := fun w : Word => (w.extractLsb' 0 16).toInt
    let out := fun (sh n : Nat) =>
      let v := roundShift (q.acc[a]).toInt sh q.round
      let w : Int := max (-(2 ^ (n - 1))) (min v (2 ^ (n - 1) - 1))
      Computes s k false 0 [BitVec.ofInt 32 w] [] fun q c => NothingElse 2 { q with sat := q.sat || decide (w ≠ v) } c
    (∀ sub : Bool, s.executesPlain k false 2 2 0 = true →
      Computes s k false 2 [] (due sub ((q.S 1).toInt * (q.S 0).toInt)) (NothingElse 2) (exec (.fmac k a sub) s) ∧
      Computes s k false 2 [] (due sub ((hi (q.S 1) * hi (q.S 0) + lo (q.S 1) * lo (q.S 0)) * 2 ^ 32)) (NothingElse 2)
        (exec (.pmac k a sub) s)) ∧
    (s.executesPlain k false 0 0 0 = true → Computes s k false 0 [] [] (acc 0) (exec (.aclr k a) s)) ∧
    (s.executesPlain k false 1 1 0 = true →
      Computes s k false 1 [] [] (acc (BitVec.ofInt 72 ((q.S 0).toInt * 2 ^ 31))) (exec (.ald k a) s)) ∧
    (s.executesPlain k false 3 3 0 = true →
      Computes s k false 3 [] []
        (acc (BitVec.ofNat 72 ((q.S 0).toNat % 256 * 2 ^ 64 + (q.S 1).toNat * 2 ^ 32 + (q.S 2).toNat))) (exec (.awr k a) s)) ∧
    (s.executesPlain k false 0 0 1 = true →
      out 31 32 (exec (.fsto k a) s) ∧ out 47 16 (exec (.fstoh k a) s) ∧
      Computes s k false 0 [BitVec.ofNat 32 ((q.acc[a]).toNat % 2 ^ 32)] [] (NothingElse 2) (exec (.ard k a 0) s) ∧
      Computes s k false 0 [BitVec.ofNat 32 ((q.acc[a]).toNat / 2 ^ 32 % 2 ^ 32)] [] (NothingElse 2) (exec (.ard k a 1) s) ∧
      Computes s k false 0 [(BitVec.ofNat 8 ((q.acc[a]).toNat / 2 ^ 64)).signExtend 32] [] (NothingElse 2) (exec (.ard k a 2) s))

/-- A well-formed request for this device over I3C or SMBus, nothing else outstanding, is answered by one frame: a READ that nothing
refuses with the value, one refused with the first code; a WRITE that is taken stores the value; a READ_BLOCK opens at offset 0 with the
value's segment and keeps a snapshot until the last; a first WRITE_BLOCK segment opens a transfer; LIST gives the readable objects, 85
a frame; SUBSCRIBE adds or removes. A changed value is notified. Stalled block writes and expired snapshots go. A plan's end and an
extension call's timeout end their requests. -/
def Obligations.RillRequests : Prop :=
  ∀ (s : State),
    let u := s.quiet
    (∀ (who : Requester) (f : RillReq), endpointTransport who.endpoint ≤ 1 → s.cosigWaits who = false → s.answers who = true →
      s.waitingOf who.endpoint = [] → s.ownDevice f.device = true →
      let as (op : Nat) : RillReq := ({ f with op := op } : RillReq).cleared who.endpoint
      let sends (r : RillReq) (t : State) : Prop := t.rill.out = [⟨who.endpoint, r⟩]
      ((as 1).formOk = true → extIndex f.index = false →
        let a := u.answer .ok
        (u.readRefusals who f.index f.sub = [] → Completes (exec (.rillRead who f) s) fun t =>
          sends (a.readReply (as 1) (a.valueFor who f.index f.sub)) t ∧ t.rill.lastCode = .ok ∧ t.rill.store = s.rill.store ∧ t.mem = s.mem) ∧
        (∀ c : Code, Code.first (u.readRefusals who f.index f.sub) = some c → Completes (exec (.rillRead who f) s) fun t =>
          sends (rillCode (as 1) c) t ∧ t.rill.lastCode = c ∧ t.mem = s.mem)) ∧
      ((as 2).formOk = true → ∀ r : ObjRow, u.row f.index f.sub = some r → objBox f.index f.sub = none → objChannel f.index = none →
        u.specialWrite who f.index f.sub r f.data = none → u.openElsewhere who.key f.index f.sub = false → f.index < 0x2000 →
        endsLate f.index f.sub f.data = false → r.persist = .p → f.index / 0x100 ≠ 5 → f.index ≠ 0x0901 → f.index ≠ 0x0D05 →
        u.takesWrite who r.access true f.index f.sub none (u.valueRefusals r f.index f.sub f.data) = true →
        Completes (exec (.rillWrite who f) s) fun t => sends (rillDone (as 2) .ok) t ∧ t.rill.lastCode = .ok ∧
          t.rill.store = (u.storePut f.index f.sub f.data).rill.store ∧ t.mem = (u.storePut f.index f.sub f.data).mem) ∧
      ((as 3).formOk = true → f.offset = 0 → u.readRefusals who f.index f.sub = [] → u.tooLong f.index f.sub = false →
        u.transfersOf who.key < 4 → Completes (exec (.readBlock who f) s) fun t =>
          let v := u.valueFor who f.index f.sub
          sends (segmentReply (as 3) v) t ∧
          t.rill.snaps = (s.rill.snaps.filter fun x => ! (x.endpoint == who.key && x.tag == f.tag)) ++
            (if v.length ≤ min f.length v.length then [] else [⟨who.key, f.tag, f.index, f.sub, v, s.time⟩])) ∧
      ((as 4).formOk = true → f.offset = 0 → f.flags.getLsbD 0 = false → staged f.index = false → f.data.length ≤ f.total →
        f.total ≤ u.maxLenOf f.index f.sub → u.accessCodes who f.index f.sub = [] → u.openElsewhere who.key f.index f.sub = false →
        u.transfersOf who.key < 4 → (s.rill.writes.any fun w => w.index == f.index && w.sub == f.sub && w.endpoint == who.key) = false →
        Completes (exec (.writeBlock who f) s) fun t => sends (rillCode (as 4) .ok) t ∧
          t.rill.writes = s.rill.writes ++ [⟨who.key, f.index, f.sub, f.total, f.data, s.time⟩]) ∧
      ((as 5).formOk = true → u.listFrom f.index f.sub ≠ [] → Completes (exec (.list who f) s) fun t =>
        let all := u.listFrom f.index f.sub
        let data := (all.take 85).flatMap listEntry
        sends (rillReply (as 5) .ok (if all.length ≤ 85 then 1 else 0) data.length data) t ∧ t.mem = s.mem) ∧
      ((as 6).formOk = true → u.subscribeCodes who (as 6) = [] →
        let others := s.rill.subs.filter fun x => ! (x.endpoint == who.key && x.index == f.index && x.sub == f.sub)
        (f.data.getD 0 0 = 1 → ((s.subsOf who.key).filter fun x => ! (x.endpoint == who.key && x.index == f.index && x.sub == f.sub)).length < 32 →
          Completes (exec (.subscribe who f) s) fun t => sends (rillCode (as 6) .ok) t ∧
            t.rill.subs = others ++ [⟨who.key, f.index, f.sub, frameField f.data 2 2, none, u.valueFor who f.index f.sub⟩]) ∧
        (f.data.getD 0 0 = 0 → Completes (exec (.subscribe who f) s) fun t =>
          sends (rillCode (as 6) .ok) t ∧ t.rill.subs = others))) ∧
    (∀ (e index sub : Nat) (x : Subscription), endpointTransport e ≤ 1 →
      (s.rill.subs.filter fun y => endpointOf y.endpoint == e && y.index == index && y.sub == sub) = [x] → s.waitingOf e = [] →
      s.answers ⟨e, false⟩ = true → let v := u.valueFor ⟨e, decide (0x10000 ≤ x.endpoint)⟩ index sub
      v ≠ x.last → Completes (exec (.notify e index sub) s) fun t =>
        t.time = max s.time ((x.sentAt.map fun n => n + x.minMs * msNs).getD 0) ∧
        t.rill.out = [⟨e, notifyFrame s.rill.notifyTag (BitVec.ofNat 8 s.devNumber) index sub v⟩]) ∧
    (∀ (e : Nat) (o : Outstanding), endpointTransport e ≤ 1 → s.waitingOf e = [o] → o.reply = none → o.forwarded = false →
      (∀ (c d : Code), o.frame.index = 0x0D00 → s.planEnd = some c → Completes (exec (.rillFinalReply e d) s) fun t =>
        t.rill.lastCode = c ∧ t.rill.out = [⟨e, rillDone o.frame c⟩] ∧ t.waitingOf e = []) ∧
      (extIndex o.frame.index = true → Completes (exec (.extensionCallTimeout e o.frame.tag o.frame.index o.frame.sub) s) fun t =>
        t.rill.lastCode = .internal ∧ t.rill.out = [⟨e, rillDone o.frame .internal⟩] ∧ t.waitingOf e = [])) ∧
    (∀ (e index sub : Nat) (w : BlockWrite), index ≠ 0x0A42 → index ≠ 0x0A22 →
      (s.rill.writes.filter fun y => endpointOf y.endpoint == e && y.index == index && y.sub == sub) = [w] →
      Completes (exec (.blockTransferStall e index sub) s) fun t =>
        t.rill.writes = s.rill.writes.erase w ∧ t.time = max s.time (w.lastAt + 5 * secNs) ∧ t.mem = s.mem) ∧
    (∀ (e : Nat) (tag : Byte), Completes (exec (.snapshotExpired e tag) s) fun t =>
      (∀ x, x ∈ t.rill.snaps ↔ x ∈ s.rill.snaps ∧ ¬ (endpointOf x.endpoint = e ∧ x.tag = tag)) ∧ t.rill.writes = s.rill.writes)

/-- A Rill frame over Pakor for another device is sent on by the cascade master, and one for this device is refused where the board says
so; a final reply ends its forwarded request and goes to the requester, as FRAME_ABORT does at the deadline. The MCTP control commands
answer; an address, a low clock and a failed assembly raise their events. Named writes that are taken: chan_state 7 quarantines and 5 opens
an upload; a configuration edit changes the descriptor and waits; a plan is staged; a hold asserts its output; the trust list ends the
links' sessions. -/
def Obligations.RillCascadeAndNamedWrites : Prop :=
  ∀ (s : State),
    let u := s.quiet
    (∀ f : FrameIn, f.hops ≠ 0 → f.isSealed = true → (s.link f.link).session = true → s.pak.posConflict = false → f.tagOk = true →
      f.dst = s.devNumber →
      (∀ r : RillReq, r.formOk = true →
        (s.ownDevice r.device = false → s.pak.casMaster = s.devNumber → s.seesMember r.device.toNat = true →
          Completes (exec (.rillFrame f r) s) fun t => t.rill = u.rill ∧
            t.pak.sent = [⟨0x30, r.device.toNat, s.devNumber, 16, none, true, rillBytes r⟩]) ∧
        (s.ownDevice r.device = true → s.pnat 0x0102 4 1 = 0 → s.answers ⟨pakorEndpoint f.src, r.flags.getLsbD 2⟩ = true →
          Completes (exec (.rillFrame f r) s) fun t => t.rill.lastCode = .deniedAccess ∧ t.rill.store = s.rill.store ∧ t.mem = s.mem)) ∧
      (∀ (tag : Nat) (b : List Byte) (fw : Forwarded) (r : RillReq) (o : Outstanding),
        s.pak.forwards.find? (fun x => x.frame.tag.toNat == tag) = some fw → rillOf b = some r → r.flags.getLsbD 1 = false →
        endpointTransport (endpointOf fw.endpoint) ≤ 1 → s.waitingOf (endpointOf fw.endpoint) = [o] → o.forwarded = true → o.reply = none →
        o.frame.tag = fw.frame.tag → Completes (exec (.rillReplyFrame f tag b) s) fun t =>
          t.pak.forwards = s.pak.forwards.erase fw ∧ t.rill.out = [⟨endpointOf fw.endpoint, r⟩] ∧ t.waitingOf (endpointOf fw.endpoint) = [])) ∧
    (∀ (e tag : Nat) (fw : Forwarded), s.pak.forwards.find? (fun x => endpointOf x.endpoint == e && x.frame.tag.toNat == tag) = some fw →
      Completes (exec (.forwardTimeout e tag) s) fun t =>
        t.time = max s.time fw.deadline ∧ t.pak.forwards = s.pak.forwards.erase fw ∧ s.raisesOnly t [1114]) ∧
    (s.mctpAnswers = true →
      let answer (b : List Byte) : State := { s with rill := { s.rill with mctpOut := b } }
      (∀ eid : Byte, eid ≠ 0 → eid ≠ 0xFF → Completes (exec (.setEndpointId eid) s) fun t => t.rill.eid = eid ∧ s.raisesOnly t [1416] ∧
        t.rill.mctpOut.take 2 = [0x01, 0x00]) ∧
      exec (.setEndpointId 0) s = .next (answer [0x01, 0x02]) ∧ exec (.setEndpointId 0xFF) s = .next (answer [0x01, 0x02]) ∧
      exec .getEndpointId s = .next (answer [0x02, 0x00, s.rill.eid, 0x00, 0x00]) ∧
      (Completes (exec .getMctpVersionSupport s) fun t => t.rill.mctpOut.take 3 = [0x04, 0x00, 0x01] ∧ t.rill.mctpOut.length = 7 ∧
        t.free = s.free + 4) ∧
      exec .getMessageTypeSupport s = .next (answer [0x05, 0x00, 0x05, 0x00, 0x01, 0x05, 0x06, 0x7E])) ∧
    (∀ a : BitVec 7, s.answers ⟨0, false⟩ = true → Completes (exec (.i3cDynamicAddressAssignment a) s) fun t =>
      t.rill = { s.rill with i3cAddr := some a } ∧ s.raisesOnly t [1400]) ∧
    (s.answers ⟨0x100, false⟩ = true → Completes (exec .smbusClockLowTimeout s) fun t => s.raisesOnly t [1409] ∧
      t = { s with ev := t.ev, log := t.log }) ∧
    (∀ e : Nat, s.answers ⟨e, false⟩ = true → Completes (exec (.mctpAssemblyFail e) s) fun t => s.raisesOnly t [1417] ∧
      t = { s with ev := t.ev, log := t.log }) ∧
    (∀ (who : Requester) (r : ObjRow),
      let taken (index sub : Nat) (c : Option ChanId) (v : List Byte) : Prop := u.row index sub = some r ∧
        u.takesWrite who r.access (r.persist == .p) index sub c (u.valueRefusals r index sub v) = true
      (∀ c : ChanId, s.dev.form ≠ .freeze →
        (taken (0x0300 + c.val) 4 (some c) [7] → Completes (exec (.chanStateWrite who c 7) s) fun t =>
          t.rill.lastCode = .ok ∧ (t.chan c).state = .quarantined ∧ ∀ d : ChanId, d ≠ c → t.chan d = s.chan d) ∧
        (taken (0x0300 + c.val) 4 (some c) [5] → Completes (exec (.chanStateWrite who c 5) s) fun t =>
          t.rill.lastCode = .ok ∧ (t.chan c).state = .updating ∧ t.uploadOpen c = true ∧ ∀ d : ChanId, d ≠ c → t.chan d = s.chan d)) ∧
      (∀ (c : ChanId) (sub : Byte) (v : List Byte), sub ≠ 4 → u.mustWait (0x0300 + c.val) sub.toNat = false →
        taken (0x0300 + c.val) sub.toNat (some c) v → Completes (exec (.channelConfigWrite who c sub v) s) fun t =>
          let e := u.editConfig c sub.toNat v
          t.rill.lastCode = .ok ∧ t.mem = e.mem ∧ t.chans = e.chans ∧ t.mir = e.mir ∧
          ∃ o ∈ t.rill.outstanding, o.reply = none ∧ o.frame.index = 0x0300 + c.val ∧ o.frame.sub = sub.toNat ∧ o.frame.data = v) ∧
      (∀ v : List Byte, taken 0x0D00 1 none v → Completes (exec (.releasePlanWrite who v) s) fun t =>
        t.rill.lastCode = .ok ∧ t.hg.planStage = planOf v ∧ t.hg.planStageGen = s.hg.planStageGen + 1 ∧ t.hg.staging.isSome = true ∧
        t.hg.out = s.hg.out) ∧
      (∀ (h : OutId) (half : Half), r.persist = .v → s.hg.steward = some half → s.hg.warm = false →
        (taken 0x0D06 (h.val + 1) none [1] → Completes (exec (.holdRequestWrite who h 1) s) fun t =>
          t.rill.lastCode = .ok ∧ (t.hg.holds.get half).getLsbD h.val = true ∧ t.outReleased h = false ∧ s.releasesNothing t) ∧
        (taken 0x0D06 (h.val + 1) none [0] → Completes (exec (.holdRequestWrite who h 0) s) fun t =>
          t.rill.lastCode = .ok ∧ (t.hg.holds.get half).getLsbD h.val = false ∧ t.hg.out = s.hg.out)) ∧
      (∀ v : List Byte, r.persist = .p → taken 0x0901 2 none v → Completes (exec (.trustListWrite who v) s) fun t =>
        t.rill.lastCode = .ok ∧ (∀ l : LinkId, (t.link l).session = false) ∧
        t.rill.store = (u.storePut 0x0901 2 v).rill.store))

/-- A core of a mailbox's home takes the inbound message, posts an outbound one of 1 to 256 bytes, clears IN bits and sets OUT bits, each a
bus error from any other core. From the SPI port or by a Rill write that is taken, an inbound post fills the mailbox, is FULL where one
waits, and is denied on a secure mailbox; an acknowledgement empties the outbound side, a ring sets IN bits, OUT bits clear; each changes
its mailbox alone. Of two parties in one cycle R523 decides: a bit set and cleared is set, a post beside a TAKE is judged before it, a
POST beside an acknowledgement stands. A register write of a core that the bus refuses is a bus error and changes nothing else; in secure SRAM it
stores the word; at a block it does what the block's registers say. -/
def Obligations.MailboxesAndRegisterWrites : Prop :=
  ∀ (s : State),
    let u := s.quiet
    (∀ (m : Fin 16) (k : CoreId), s.domOn 28 = true → s.homeOn m = true →
      let B := s.box m
      let buserr (t : State) : Prop := t.mbox = s.mbox ∧ s.raisesOnly t [1487 + 2 * k.val]
      (s.homeCore m k = true →
        (∀ v : Word, v.getLsbD 0 = true → exec (.mboxTake k m v) s = .next (s.updBox m fun b => { b with inFull := false, tookFull := b.inFull })) ∧
        (∀ v : Word, 1 ≤ v.toNat % 512 → v.toNat % 512 ≤ 256 →
          (∀ acked : Bool, (B.outFull = true → acked = true) → exec (.mboxPost k m v acked) s = .next (s.updBox m fun b =>
            { b with outFull := true, outLen := v.toNat % 512, postFound := b.outFull })) ∧
          (B.outFull = true → Completes (exec (.mboxPost k m v false) s) buserr)) ∧
        (∀ v w : Word, exec (.mboxInClear k m v w) s = .next (s.updBox m fun b => { b with inBits := b.inBits &&& ~~~ (v &&& ~~~ w) }) ∧
          exec (.mboxOutSet k m v) s = .next (s.updBox m fun b => { b with outBits := b.outBits ||| v }))) ∧
      (s.homeCore m k = false → ∀ v w : Word, ∀ x : Bool,
        ∀ i ∈ [Instr.mboxTake k m v, .mboxPost k m v x, .mboxInClear k m v w, .mboxOutSet k m v], Completes (exec i s) buserr)) ∧
    (∀ m : Fin 16,
      let B := s.box m
      let reaches (src : MboxFrom) (index : Nat) : Prop := match src with
        | .port => s.portAnswers = true ∧ s.responder = true ∧ s.homeOn m = true ∧ 8 ≤ m.val
        | .rill who => s.takesWrite who .rw false index (m.val + 1) none (s.boxRefusals m (s.authorised who)) = true
      let only (b : Mailbox) (t : State) : Prop := t.mbox = vset s.mbox m b ∧ t.mem = s.mem ∧ t.hg = s.hg
      (∀ (len : Nat) (taken : Bool), reaches .port 0x0110 → 1 ≤ len → len ≤ 256 →
        let full := B.inFull = true ∨ (taken = true ∧ B.tookFull = true)
        (¬ full → Completes (exec (.mboxInboundPost m (.port len) taken) s) fun t =>
          only { B with inFull := true, inLen := len } t ∧ t.spi.lastCode = .ok ∧ s.raisesOnly t [mboxEvent m 0]) ∧
        (full → Completes (exec (.mboxInboundPost m (.port len) taken) s) fun t =>
          only B t ∧ t.spi.lastCode = .full ∧ s.raisesOnly t [mboxEvent m 3])) ∧
      (∀ len : Nat, s.portAnswers = true → s.responder = true → s.homeOn m = true → m.val < 8 →
        Completes (exec (.mboxInboundPost m (.port len) false) s) fun t => only B t ∧ t.spi.lastCode = .deniedAuth ∧ s.raisesOnly t [mboxEvent m 3]) ∧
      (∀ (who : Requester) (data : List Byte), reaches (.rill who) 0x0110 → 1 ≤ data.length → data.length ≤ 256 → B.inFull = false →
        Completes (exec (.mboxInboundPost m (.rill who data) false) s) fun t =>
          only { B with inBuf := putBytes B.inBuf 0 data, inFull := true, inLen := data.length } t ∧ t.rill.lastCode = .ok ∧
          s.raisesOnly t [mboxEvent m 0]) ∧
      (∀ src : MboxFrom,
        (reaches src 0x0112 →
          (B.outFull = true → Completes (exec (.mboxOutAck m src false) s) fun t =>
            only { B with outFull := false } t ∧ s.raisesOnly t [mboxEvent m 2]) ∧
          (B.postFound = true → Completes (exec (.mboxOutAck m src true) s) fun t =>
            only { B with postFound := false } t ∧ s.raisesOnly t [mboxEvent m 2])) ∧
        (∀ mask setting : Word,
          (reaches src 0x0114 → Completes (exec (.mboxOutClear m src mask setting) s) fun t =>
            only { B with outBits := B.outBits &&& ~~~ (mask &&& ~~~ setting) } t ∧ t.ev = s.ev) ∧
          (reaches src 0x0113 → Completes (exec (.mboxInRing m src mask) s) fun t =>
            only { B with inBits := B.inBits ||| mask } t ∧
            s.raisesOnly t (if mask &&& B.inMask = 0 then [] else [mboxEvent m 1]))))) ∧
    (∀ (k : CoreId) (addr value : Word),
      let a := addr.toNat / 4 * 4
      (∀ c : Code, u.busRefusal k true a = some c → Completes (exec (.registerWrite k addr value) s) fun t =>
        t = { u with cores := t.cores, ev := t.ev, log := t.log } ∧ (t.core k).busErrAddr = BitVec.ofNat 32 a ∧
        (∀ j : CoreId, j ≠ k → t.core j = s.core j) ∧ s.raisesOnly t [1487 + 2 * k.val]) ∧
      (∀ b : Fin 32, u.busRefusal k true a = none → areaOf a = some (.sram b) → Completes (exec (.registerWrite k addr value) s) fun t =>
        t.load a 4 = value.toNat ∧ (∀ x, (x < a ∨ a + 4 ≤ x) → t.byte x = s.byte x) ∧ t.hg = s.hg ∧ t.ev = s.ev) ∧
      (∀ (b : Fin 16) (r : State × Code), u.busRefusal k true a = none → areaOf a = some (.block b) → undescribed (.block b) = false →
        u.blockWrite k b (a % 0x10000) value = r →
        (r.2 = .ok → exec (.registerWrite k addr value) s = .next r.1) ∧
        (r.2 ≠ .ok → Completes (exec (.registerWrite k addr value) s) fun t => s.raisesOnly t [1487 + 2 * k.val] ∧ t.hg = s.hg ∧ t.mem = s.mem)))

/-- Where the port answers: a whole STATUS, READ or PORT_SYNC drives status byte 0, then its form with its CRC; a read that is refused drives
0xFF and ends with the first code. A whole WRITE of mailbox buffers with its CRC right stores each byte; with its CRC wrong, or short, it
does nothing but end with that code where no domain that it addresses is off. DOORBELL_SET rings; a secure frame is taken, and a waiting one that fits is handed over. An unknown
command and a read timeout end with FRAME_ABORT, their flags and events. A submit runs the request in the window, once. A port that does
not answer drives nothing and changes nothing. -/
def Obligations.SpiPort : Prop :=
  ∀ (s : State) (tx : SpiTx),
    let u := s.quiet
    let b0 := s.spiStatusBytes.getD 0 0
    let ends (c : Code) (t : State) : Prop := t.spi.lastCode = c
    let drives (out : List Byte) (t : State) : Prop := t.spi.miso = b0 :: out
    let keeps (t : State) : Prop := t.mbox = s.mbox ∧ t.mem = s.mem ∧ t.hg = s.hg
    (s.portAnswers = false →
      exec (.spiStatus tx) s = .next { u with spi := { s.spi with miso := [] } } ∧
      (∀ len : Word16, exec (.rillWindowSubmit len) s = .next u) ∧ exec .rillWindowReplyClear s = .next s) ∧
    (s.portAnswers = true →
      (tx.bits = 0 →
        let n := tx.field 3 2
        let a := tx.field 0 3
        let data := (tx.bytes.drop 5).take n
        (tx.bytes.length = 6 → Completes (exec (.spiStatus tx) s) fun t => ends .ok t ∧ keeps t ∧ t.spi.flags = s.spi.flags ∧
          drives (s.spiStatusBytes ++ beBytes 2 (crc16 (0x05 :: s.spiStatusBytes)).toNat) t) ∧
        (tx.bytes.length = 10 → Completes (exec (.portSync tx) s) fun t => ends .ok t ∧ keeps t ∧ t.spi.flags = 0 ∧
          t.spi.surplusCnt = 0 ∧ t.spi.missingCnt = 0 ∧ drives (syncPattern ++ beBytes 2 (crc16 (0xF0 :: syncPattern)).toNat) t) ∧
        (n ≠ 0 → tx.bytes.length = 8 + tx.busyBytes (portHardware a) + n → (portHardware a = true ∨ tx.busy ≤ 2048) →
          (s.portRead a n).all (fun x => x.2.isEmpty) = true → Completes (exec (.spiRead tx) s) fun t => ends .ok t ∧ keeps t ∧
            drives (spiReadOut 0x0B tx (tx.busyBytes (portHardware a)) ((s.portRead a n).map fun x => x.1)) t) ∧
        (∀ c : Code, n ≠ 0 → 5 ≤ tx.bytes.length → (portHardware a = true ∨ tx.busy ≤ 2048) →
          let codes := (s.portRead a n).flatMap fun x => x.2
          readStops codes = true → Code.first codes = some c → Completes (exec (.spiRead tx) s) fun t => ends c t ∧ keeps t ∧
            drives (List.replicate tx.bytes.length 0xFF) t) ∧
        (tx.bytes.length = 7 + n → tx.crcCodes 0x02 (5 + n) = [] → s.portWriteCodes a data = [] → isPortReg a = false →
          Completes (exec (.spiWrite tx) s) fun t => ends .ok t ∧ t.mem = s.mem ∧
            (∀ (i : Nat) (m : Fin 16), i < n → boxAt (a + i) = some m →
              (t.box m).inBuf.toList.getD ((a + i - 0x1000) % 0x200) 0 = data.getD i 0) ∧
            ∀ m : Fin 16, t.box m = { s.box m with inBuf := (t.box m).inBuf }) ∧
        (tx.bytes.length = 7 + n → tx.crcCodes 0x02 (5 + n) ≠ [] → .domainOff ∉ s.portWriteCodes a data → Completes (exec (.spiWrite tx) s) fun t =>
          ends .crcFail t ∧ keeps t ∧ t.isPending 1392 = true) ∧
        (∀ m : Fin 16, tx.bytes.length = 7 → tx.crcCodes 0x21 5 = [] → tx.field 0 1 = m.val → s.boxRefusals m false = [] →
          s.responder = true → Completes (exec (.doorbellSet tx) s) fun t => ends .ok t ∧ t.mem = s.mem ∧
            t.mbox = vset s.mbox m { s.box m with inBits := (s.box m).inBits ||| BitVec.ofNat 32 (tx.field 1 4) }) ∧
        (tx.bytes.length = 7 + n → tx.crcCodes 0x5E (5 + n) = [] → s.sendCodes a n data = [] →
          Completes (exec (.secureFrameSend tx) s) fun t => ends .ok t ∧ keeps t ∧ t.spi.sent = some data) ∧
        (a = 1 → n ≠ 0 → s.responder = true → tx.busy ≤ 2048 → tx.bytes.length = 8 + max 1 tx.busy + n →
          Completes (exec (.secureFrameReceive tx) s) fun t => ends .ok t ∧ keeps t ∧
            drives (spiReadOut 0x5E tx (max 1 tx.busy) (s.receiveData n)) t ∧
            t.spi.waiting = (if (s.spi.waiting.headD []).length + 2 ≤ n then s.spi.waiting.drop 1 else s.spi.waiting))) ∧
      (5 ≤ tx.bytes.length → tx.ended (7 + tx.field 3 2) = false →
        .domainOff ∉ s.portWriteCodes (tx.field 0 3) ((tx.bytes.drop 5).take (tx.field 3 2)) → Completes (exec (.spiWrite tx) s) fun t => ends .frameAbort t ∧ keeps t) ∧
      (∀ cmd : Byte, cmd ∉ ([0x05, 0x0B, 0x02, 0x21, 0x5E, 0xF0] : List Byte) → Completes (exec (.spiUnknownCommand cmd tx) s) fun t =>
        ends .frameAbort t ∧ keeps t ∧ t.spi.flags.getLsbD 1 = true ∧ t.spi.unknownCmds = satInc 32 s.spi.unknownCmds ∧
        t.isPending 1398 = true) ∧
      (Completes (exec (.spiReadTimeout tx) s) fun t => ends .frameAbort t ∧ keeps t ∧ t.spi.flags.getLsbD 5 = true ∧
        t.spi.timeouts = satInc 32 s.spi.timeouts ∧ t.isPending 1394 = true) ∧
      (s.responder = true →
        (∀ (len : Word16) (f : RillReq), s.submitCodes len.toNat = [] → rillOf (s.spi.req.toList.take len.toNat) = some f →
          let v := ({ u with spi := { s.spi with pending := true } } : State).rillRequest ⟨spiEndpoint, false⟩ f
          exec (.rillWindowSubmit len) s = .next { v with spi := { v.spi with lastCode := .ok } } ∧
          (s.answers ⟨spiEndpoint, false⟩ = true → (f.cleared spiEndpoint).formOk = false → s.waitingOf spiEndpoint = [] →
            Completes (exec (.rillWindowSubmit len) s) fun t => t.spi.pending = false ∧ t.spi.replyReady = true ∧
              t.spi.reply = rillBytes (rillCode (f.cleared spiEndpoint) .frameAbort) ∧ t.rill.lastCode = .frameAbort)) ∧
        (∀ len : Word16, s.spi.pending = true → 24 ≤ len.toNat → len.toNat ≤ 1048 →
          exec (.rillWindowSubmit len) s = .next { u with spi := { s.spi with lastCode := .busy } }) ∧
        exec .rillWindowReplyClear s = .next { s with spi := { s.spi with replyReady := false, lastCode := .ok } }))

/-- A permitted core's write of 1 clears that pending bit alone, and nothing beside a raise in the same cycle; its owner's core writes an event's priority and route where the route is
one; SWTRIG raises events 1532 + i for its bits i alone; ALERT with bit 0 raises the core's alert event with a record, and without it
changes nothing. A core that runs, outside a delay slot and with no result pending, and finds a claimable event above its level with
delivery and interrupts enabled, enters the event trap; a core that may take none only has the results landed that are due. -/
def Obligations.EventsAreWrittenAndTaken : Prop :=
  ∀ (s : State) (k : CoreId) (e : EventId) (v : Word),
    (s.eventToucher k e = true → exec (.eventPendingClear k e false) s =
      .next { s with ev := { s.ev with pending := putBit s.ev.pending e.val false } } ∧ exec (.eventPendingClear k e true) s = .next s) ∧
    (s.eventWriter k e = true → routeOk v.toNat = true → exec (.eventCfgWrite k e v) s =
      (let c : EventCfg := ⟨BitVec.ofNat 3 (bitsOf v.toNat 8 3), BitVec.ofNat 2 (bitsOf v.toNat 4 2), BitVec.ofNat 4 (bitsOf v.toNat 0 4)⟩
       .next { s with ev := { s.ev with cfg := vset s.ev.cfg e c } })) ∧
    (k.val < 8 → Completes (exec (.swtrig k v) s) fun t =>
      (∀ i, i < 4 → t.isPending (1532 + i) = (v.getLsbD i || s.isPending (1532 + i))) ∧
      (∀ n, n < 1532 → t.isPending n = s.isPending n) ∧ t = { s with ev := { s.ev with pending := t.ev.pending } }) ∧
    (v.getLsbD 0 = true → Completes (exec (.coreAlertWrite k v) s) fun t =>
      t.isPending (1486 + 2 * k.val) = true ∧ (∀ n, n ≠ 1486 + 2 * k.val → t.isPending n = s.isPending n) ∧
      t.log.nextSeq = (s.log.nextSeq + 1) % 2 ^ 32 ∧ t = { s with ev := { s.ev with pending := t.ev.pending }, log := t.log }) ∧
    (v.getLsbD 0 = false → exec (.coreAlertWrite k v) s = .next s) ∧
    (let q := (s.core k).landDue
     let s1 := s.updCore k Core.landDue
     ((s.core k).runs = true → (s.core k).waiting = false → q.slot = none →
       (s1.takeable k = true → q.pend = [] →
         Traps s k false .event (fun q => q.pc) (exec (.eventInterrupt k) s)) ∧
       (s1.takeable k = false → exec (.eventInterrupt k) s = .next (s.updCore k fun _ => { q with blocked := 0 }))))

/-- A core of the group kicks its watchdog, which sets its period running anew, or arms it; an armed one keeps its period. The expiry of
an armed watchdog raises its event and restarts its group: a half's claim reads RESTARTING and its cores are in reset; the management
cores run from reset without sessions and subscriptions; the measurement cores run from reset with the hold-up estimate invalid. One that
is not armed changes nothing. A timer that runs raises its event at its period and goes on only if periodic. -/
def Obligations.WatchdogsAndTimers : Prop :=
  ∀ (s : State) (k : CoreId) (g : Fin 4) (v : Word),
    let w := s.pw.wdogs[g]
    (coreGroup k = g →
      (let w' : Wdog := { w with deadline := s.time + w.periodMs.toNat * 1000000 }
       exec (.wdogKick k g) s = .next { s with pw := { s.pw with wdogs := vset s.pw.wdogs g w' } }) ∧
      (w.armed = true → isMgmtCore k = false → exec (.wdogArm k g v) s = .next s) ∧
      (w.armed = false → Completes (exec (.wdogArm k g v) s) fun t =>
        t = { s with pw := { s.pw with wdogs := vset s.pw.wdogs g (t.pw.wdogs[g]) } } ∧
        (t.pw.wdogs[g]).periodMs = BitVec.ofNat 16 (v.toNat % 65536) ∧ (t.pw.wdogs[g]).armed = v.getLsbD 31 ∧
        (v.getLsbD 31 = true → (t.pw.wdogs[g]).deadline = s.time + v.toNat % 65536 * 1000000))) ∧
    (w.armed = false → exec (.watchdogExpired g) s = .next s) ∧
    (∀ h : Half, w.armed = true → g = h.group → Completes (exec (.watchdogExpired g) s) fun t =>
      t.isPending (1510 + g.val) = true ∧ t.time = max s.time w.deadline ∧ t.hg.claims.get h = .restarting ∧
      (t.pw.wdogs[g]).armed = false ∧ ∀ j : CoreId, coreHalf j = some h → (t.core j).released = false) ∧
    (w.armed = true → g = 2 → s.rill.writes = [] → Completes (exec (.watchdogExpired g) s) fun t =>
      t.isPending 1512 = true ∧ (t.pw.wdogs[g]).armed = false ∧ t.spdm.sessions = [] ∧ t.rill.subs = [] ∧ t.rill.snaps = [] ∧
      ∀ j : CoreId, isMgmtCore j = true → t.core j = { Core.reset with released := true, releasedAt := t.time }) ∧
    (w.armed = true → g = 3 → Completes (exec (.watchdogExpired g) s) fun t =>
      t.isPending 1513 = true ∧ (t.pw.wdogs[g]).armed = false ∧ t.ms.valid = false ∧ t.ms.holdupMs = 0 ∧
      (∀ j : CoreId, isMeasCore j = true → t.core j = { Core.reset with released := true, releasedAt := t.time }) ∧
      (∀ j : CoreId, isMeasCore j = false → t.core j = s.core j)) ∧
    (∀ n : Fin 8, let x := s.pw.timers[n]
      x.enable = true → x.periodUs ≠ 0 → Completes (exec (.generalTimerExpired n) s) fun t =>
        t.time = max s.time (x.start + x.periodUs.toNat * 1000) ∧ t.isPending (1516 + n.val) = true ∧
        (∀ m, m ≠ 1516 + n.val → t.isPending m = s.isPending m) ∧
        t = { s with time := t.time, ev := { s.ev with pending := t.ev.pending },
                     pw := { s.pw with timers := vset s.pw.timers n { x with enable := x.periodic, start := x.start + x.periodUs.toNat * 1000 } } }) ∧
    exec (.timeLoRead k) s = .next { s with pw := { s.pw with timeHi := BitVec.ofNat 32 (s.time / 2 ^ 32) } }

/-- A core that may switch the domain has the request answered OK where the domain is or will be so, else refused with its event where R540
refuses it, or queued in a queue of 8, Indigo's before Amber's of the same cycle. The switch at the queue's head leaves the domain as asked, takes the request off the queue and
raises the domain's event. A clock window with no bad clock only ends; one with a bad clock raises the event and sets the status bit, and
a bad port clock closes a running device's mode to QUARANTINE. -/
def Obligations.PowerDomainsAndClocks : Prop :=
  ∀ (s : State),
    (∀ (k : CoreId) (d : Fin 39) (on : Bool), d ≠ 0 → s.maySwitch k d.val = true →
      let v : Word := BitVec.ofNat 32 (d.val + 256 * b2n on)
      (∀ c : Code, s.domWill d.val ≠ on → s.switchRefusal d.val on = some c → Completes (exec (.domReq k v false) s) fun t =>
        t.pw.reqCode = c ∧ t.pw.reqDom = d ∧ t.isPending (1447 + d.val) = true ∧ t.pw.domOn = s.pw.domOn ∧ t.pw.queue = s.pw.queue) ∧
      (s.domWill d.val = on → exec (.domReq k v false) s =
        .next { s with pw := { s.pw with reqCode := .ok, reqDom := d } }) ∧
      (s.switchRefusal d.val on = none → s.domWill d.val ≠ on → s.pw.queue.length < 8 → exec (.domReq k v false) s =
        .next { s with pw := { s.pw with queue := s.pw.queue ++ [⟨d, on⟩] } }) ∧
      (∀ (qs : List DomReq) (x : DomReq), s.switchRefusal d.val on = none → s.domWill d.val ≠ on → s.pw.queue = qs ++ [x] → qs.length < 7 →
        coreHalf k = some .indigo → exec (.domReq k v true) s = .next { s with pw := { s.pw with queue := qs ++ [⟨d, on⟩, x] } })) ∧
    (∀ (r : DomReq) (rest : List DomReq), s.pw.queue = r :: rest → Completes (exec .domainSwitchDone s) fun t =>
      t.domOn r.dom.val = r.on ∧ (∀ d : Nat, d < 39 → d ≠ r.dom.val → t.domOn d = s.domOn d) ∧ t.pw.queue = rest ∧
      t.isPending (1447 + r.dom.val) = true ∧ t.pw.reqCode = .ok ∧ t.pw.reqDom = r.dom ∧ t.hg = s.hg ∧ t.dev = s.dev) ∧
    (∀ w : ClockCounts, w.rootLost = false → s.badClocks w = [] → Completes (exec (.clockMonitorWindow w) s) fun t =>
      t = { s with time := t.time, pak := { s.pak with sent := [] }, rill := { s.rill with out := [] } } ∧ s.time ≤ t.time ∧
      t.time % 100000 = 0) ∧
    (∀ (w : ClockCounts) (i : Fin 6), w.rootLost = false → s.badClocks w = [i.val] → Completes (exec (.clockMonitorWindow w) s) fun t =>
      t.isPending (1524 + i.val) = true ∧ t.pw.clkStatus.getLsbD i.val = true ∧ t.hg.out = s.hg.out ∧
      (i.val ≤ 3 → s.dev.mode.running = true → t.dev.mode = .quarantine))

/-- With a command at the front of the queue, a step of the machine is that command's effect on the state with the queue's rest. On an
empty queue a step answers a next state in which the time counter has moved on by 40 ns, the Levee holds what the free functions of that
time give, and, no big-number command waiting, no fuse re-burn, digest-area rewrite or golden fields being due, nothing else but the log may differ. That a cycle passes on an empty queue is the
model's choice (log entries 1 and 113). -/
def Obligations.StepTakesTheFrontCommand : Prop :=
  ∀ (s : State) (c : Instr) (rest : List Instr),
    (s.pending = c :: rest → step s = exec c { s with pending := rest }) ∧
    step { s with pending := c :: rest } = exec c { s with pending := rest } ∧
    (s.pending = [] → s.fuse.reburnDue = false → (∀ h : Half, (s.eng h).queue = []) → (∀ c : ChanId, (s.chan c).digestFault = false ∧ s.goldensDue c = false) → Completes (step s) fun t => t =
      { s with time := s.time + 40, log := t.log,
               lev := { s.lev with temp := Config.temperature (s.time + 40), refclkKhz := Config.refclkKhz (s.time + 40) } })

/-- The state right after power-on reset: mode COLD with cause 0, time 0, every output asserted and HG_PUEN low, no steward, no event
pending and every event masked, every channel ABSENT, AON alone powered, every key slot's generation 1, the stacks empty with the limits
60 and 30, no command waiting; and it satisfies the invariants that the steps keep: memory in its canonical form the stacks within
their sizes and the descriptors within their widths. (Blank fuses, eFlash and NAND at reset are the model's choice, log entries 3 and 5, and no part of this statement.) -/
def Obligations.ResetState : Prop :=
  let s := State.reset
  s.dev.mode = .cold ∧ s.dev.cause = 0 ∧ s.time = 0 ∧ (∀ h : OutId, s.outReleased h = false) ∧ s.hg.puen = false ∧ s.hg.steward = none ∧
  (∀ n : Nat, n < 1536 → s.isPending n = false) ∧ s.ev.mask = BitVec.allOnes 1536 ∧ (∀ c : ChanId, (s.chan c).state = .absent) ∧
  (∀ d : Nat, s.domOn d = decide (d = 1)) ∧ (∀ i, (s.kslot i).gen = 1) ∧
  (∀ k : CoreId, (s.core k).depth = 0 ∧ (s.core k).rdepth = 0 ∧ (s.core k).dlimit = 60 ∧ (s.core k).rlimit = 30 ∧ (s.core k).runs = false) ∧
  s.pending = [] ∧ s.memoryCanonical ∧ s.stacksSized ∧ s.chansFit

/-- Whatever the command, the state it leaves holds the same commands waiting, in the same order, as the state it found, a power-on reset
included; so a step of the machine that answers a next state has taken exactly the command at the front. (The queue is the model's own
field: it is how commands come to the block.) -/
def Obligations.QueueIsKept : Prop :=
  (∀ (c : Instr) (s t : State), exec c s = .next t → t.pending = s.pending) ∧
  ∀ s t : State, step s = .next t → t.pending = s.pending.tail

/-- For every state whose memory list is in its canonical form (addresses strictly rising, no entry that equals what an unlisted address
reads as), every state that a step answers has it too, whatever the command: a store, an erase of eFlash or of SRAM, a fill, a seal, a
power switch, a reset. So equal memories are equal data. -/
def Obligations.StepKeepsMemoryCanonical : Prop :=
  ∀ s t : State, s.memoryCanonical → step s = .next t → t.memoryCanonical

/-- For every state in which each core's data stack holds at most 64 cells, its return stack at most 32 entries, and its limits are at
most 64 and 32, every state that a step answers is such a state too: an instruction that would push past a limit traps and pushes
nothing, a trap leaves both depths, and a store to STACK_CTL cannot set a depth or a limit beyond the stack's size. Likewise every step
keeps each channel's cached and loading descriptors, and its pin list, within the widths of the fields that they are loaded from. -/
def Obligations.StepKeepsStacksSized : Prop :=
  (∀ s t : State, s.stacksSized → step s = .next t → t.stacksSized) ∧ ∀ s t : State, s.chansFit → step s = .next t → t.chansFit

/-- Whatever the command, no hold output is released after a step that was not released before it, unless the command is the evaluation of
an output at an AON clock edge; and after the evaluation of output h no output but h is released that was not before, and h itself only
where every one of the release conditions held. -/
def Obligations.OnlyItsEvaluationReleasesAnOutput : Prop :=
  ∀ s t : State, step s = .next t →
    ((∀ (h : OutId) (rest : List Instr), s.pending ≠ .holdOutputRelease h :: rest) → s.releasesNothing t) ∧
    ∀ (h : OutId) (rest : List Instr), s.pending = .holdOutputRelease h :: rest →
      (∀ j : OutId, j ≠ h → t.outReleased j = s.outReleased j) ∧
      (t.outReleased h = true → s.outReleased h = false → ((s.conditions h).all fun p => p.2) = true)

/-- For every state whose mode is QUARANTINE or SERVICE and every step from it that answers a next state, the mode is as it was, or the
step was a power-on reset: the mode is COLD, every output is asserted, and start-up stands at its beginning, with PORST_N held or with the
root PLL yet to lock. -/
def Obligations.QuarantineAndServiceStand : Prop :=
  ∀ s t : State, (s.dev.mode = .quarantine ∨ s.dev.mode = .service) → step s = .next t →
    t.dev.mode = s.dev.mode ∨
      (t.dev.mode = .cold ∧ t.hg.out = 0 ∧ (t.boot.phase = .held ∨ t.boot.phase = .pll))

/-- A yield by the steward, while the other half claims SHADOW, makes that half steward at the current epoch + 1 at that instant (a
saturated epoch stays, R56), and neither the count of disagreements, its record of the last 10 s, nor the mode changes. A yield by a half
that is not steward, or to a half that does not claim SHADOW, is no handover: the steward, the epoch and the disagreements stay. -/
def Obligations.DeliberateHandover : Prop :=
  ∀ (s : State) (h : Half),
    (s.isSteward h = true → s.hg.claims.get h.other = .shadow → Completes (exec (.stewardYield h) s) fun t =>
      t.hg.steward = some h.other ∧ (s.hg.epoch ≠ 0xFFFFFFFF → t.hg.epoch.toNat = s.hg.epoch.toNat + 1) ∧
      (s.hg.epoch = 0xFFFFFFFF → t.hg.epoch = s.hg.epoch) ∧ t.time = s.time ∧ t.hg.disagree = s.hg.disagree ∧
      t.rill.store = s.rill.store ∧ t.dev = s.dev ∧ t.hg.out = s.hg.out) ∧
    (¬ (s.isSteward h = true ∧ s.hg.claims.get h.other = .shadow) → Completes (exec (.stewardYield h) s) fun t =>
      t.hg.steward = s.hg.steward ∧ t.hg.epoch = s.hg.epoch ∧ t.time = s.time ∧ t.hg.disagree = s.hg.disagree ∧
      t.rill.store = s.rill.store ∧ t.dev = s.dev ∧ t.hg.out = s.hg.out)

end
end

