-- ==== Sys2Proof/Laws/Memory.lean ====
section
/-!
SUPPORT. Laws of memory: what a byte reads as after a write or a clear, and that both keep the canonical form.
-/
namespace Sys2Proof.Machine

theorem Memory.read_append (m n : List Host.Cell) (a : Nat) (h : ∀ p ∈ m, p.1 ≠ a) :
    Memory.read (m ++ n) a = Memory.read n a := by
  induction m with
  | nil => rfl
  | cons p m ih =>
    obtain ⟨k, b⟩ := p
    have hk : k ≠ a := h (k, b) (by simp)
    simp only [List.cons_append, Memory.read, hk, if_false]
    exact ih fun q hq => h q (by simp [hq])

theorem Memory.read_of_absent (m : List Host.Cell) (a : Nat) (h : ∀ p ∈ m, p.1 ≠ a) : Memory.read m a = memDefault a := by
  simpa [Memory.read] using Memory.read_append m [] a h

theorem Memory.read_filter (m : List Host.Cell) (a : Nat) (f : Nat → Bool) (h : f a = true) :
    Memory.read (m.filter fun p => f p.1) a = Memory.read m a := by
  induction m with
  | nil => rfl
  | cons p m ih =>
    obtain ⟨k, b⟩ := p
    by_cases hk : f k = true
    · simp only [List.filter_cons, hk, if_true, Memory.read, ih]
    · have hka : k ≠ a := fun e => hk (e ▸ h)
      simp only [List.filter_cons, hk, Memory.read, hka, if_false, ih, Bool.false_eq_true]

theorem Memory.read_cons_lt (m n : List Host.Cell) (a : Nat) (h : ∀ p ∈ n, p.1 ≠ a) :
    Memory.read (m ++ n) a = Memory.read m a := by
  induction m with
  | nil => simpa [Memory.read] using Memory.read_of_absent n a h
  | cons p m ih =>
    obtain ⟨k, b⟩ := p
    by_cases hk : k = a
    · simp [Memory.read, hk]
    · simp only [List.cons_append, Memory.read, hk, if_false]
      exact ih

theorem Memory.cellsOf_keys (bs : List Byte) (a : Nat) : ∀ p ∈ Memory.cellsOf a bs, a ≤ p.1 ∧ p.1 < a + bs.length := by
  induction bs generalizing a with
  | nil => simp [Memory.cellsOf]
  | cons b bs ih =>
    intro p hp
    unfold Memory.cellsOf at hp
    simp only [List.length_cons]
    split at hp
    · have := ih (a + 1) p hp
      omega
    · rcases List.mem_cons.1 hp with rfl | hp
      · simp
      · have := ih (a + 1) p hp
        omega

theorem Memory.read_cellsOf (bs : List Byte) (a i : Nat) (h : i < bs.length) :
    Memory.read (Memory.cellsOf a bs) (a + i) = bs[i] := by
  induction bs generalizing a i with
  | nil => simp at h
  | cons b bs ih =>
    unfold Memory.cellsOf
    cases i with
    | zero =>
      split
      · rename_i e
        rw [Memory.read_of_absent]
        · simp [e]
        · intro p hp
          have := Memory.cellsOf_keys bs (a + 1) p hp
          omega
      · simp [Memory.read]
    | succ i =>
      have e : a + (i + 1) = a + 1 + i := by omega
      have hi : i < bs.length := by simpa using h
      have hr := ih (a + 1) i hi
      split
      · simpa [e] using hr
      · have hne : a ≠ a + 1 + i := by omega
        rw [e, Memory.read]
        simp only [hne, if_false]
        simpa using hr

/-- A byte of the run that was written reads as it was written. -/
theorem Memory.read_write_in (m : List Host.Cell) (a i : Nat) (bs : List Byte) (h : i < bs.length) :
    Memory.read (Memory.write m a bs) (a + i) = bs[i] := by
  unfold Memory.write
  rw [List.append_assoc, Memory.read_append, Memory.read_cons_lt, Memory.read_cellsOf bs a i h]
  · intro p hp
    have := (List.mem_filter.1 hp).2
    simp only [decide_eq_true_eq] at this
    omega
  · intro p hp
    have := (List.mem_filter.1 hp).2
    simp only [decide_eq_true_eq] at this
    omega

/-- A byte outside the run that was written reads as before. -/
theorem Memory.read_write_out (m : List Host.Cell) (a b : Nat) (bs : List Byte) (h : b < a ∨ a + bs.length ≤ b) :
    Memory.read (Memory.write m a bs) b = Memory.read m b := by
  unfold Memory.write
  rcases h with h | h
  · rw [List.append_assoc, Memory.read_cons_lt]
    · exact Memory.read_filter m b (fun k => decide (k < a)) (by simpa using h)
    · intro p hp
      rcases List.mem_append.1 hp with hp | hp
      · have := Memory.cellsOf_keys bs a p hp
        omega
      · have := (List.mem_filter.1 hp).2
        simp only [decide_eq_true_eq] at this
        omega
  · rw [Memory.read_append]
    · exact Memory.read_filter m b (fun k => decide (a + bs.length ≤ k)) (by simpa using h)
    · intro p hp
      rcases List.mem_append.1 hp with hp | hp
      · have := (List.mem_filter.1 hp).2
        simp only [decide_eq_true_eq] at this
        omega
      · have := Memory.cellsOf_keys bs a p hp
        omega

/-- A byte of a cleared run reads as unlisted. -/
theorem Memory.read_clear_in (m : List Host.Cell) (a n b : Nat) (h : a ≤ b ∧ b < a + n) :
    Memory.read (Memory.clear m a n) b = memDefault b := by
  apply Memory.read_of_absent
  intro p hp
  rcases List.mem_append.1 hp with hp | hp
  · have := (List.mem_filter.1 hp).2
    simp only [decide_eq_true_eq] at this
    omega
  · have := (List.mem_filter.1 hp).2
    simp only [decide_eq_true_eq] at this
    omega

/-- A byte outside a cleared run reads as before. -/
theorem Memory.read_clear_out (m : List Host.Cell) (a n b : Nat) (h : b < a ∨ a + n ≤ b) :
    Memory.read (Memory.clear m a n) b = Memory.read m b := by
  unfold Memory.clear
  rcases h with h | h
  · rw [Memory.read_cons_lt]
    · exact Memory.read_filter m b (fun k => decide (k < a)) (by simpa using h)
    · intro p hp
      have := (List.mem_filter.1 hp).2
      simp only [decide_eq_true_eq] at this
      omega
  · rw [Memory.read_append]
    · exact Memory.read_filter m b (fun k => decide (a + n ≤ k)) (by simpa using h)
    · intro p hp
      have := (List.mem_filter.1 hp).2
      simp only [decide_eq_true_eq] at this
      omega

/-! ## The canonical form -/

theorem Memory.sorted_iff (m : List Host.Cell) : Memory.sorted m = true ↔ m.Pairwise fun p q => p.1 < q.1 := by
  induction m with
  | nil => simp [Memory.sorted]
  | cons p m ih =>
    obtain ⟨a, x⟩ := p
    cases m with
    | nil => simp [Memory.sorted]
    | cons q m =>
      obtain ⟨b, y⟩ := q
      simp only [Memory.sorted, Bool.and_eq_true, decide_eq_true_eq, ih, List.pairwise_cons, List.mem_cons, forall_eq_or_imp]
      constructor
      · rintro ⟨hab, hb, hm⟩
        exact ⟨⟨hab, fun p hp => Nat.lt_trans hab (hb p hp)⟩, hb, hm⟩
      · rintro ⟨⟨hab, -⟩, hb, hm⟩
        exact ⟨hab, hb, hm⟩

theorem Memory.lean_iff (m : List Host.Cell) : Memory.lean m = true ↔ ∀ p ∈ m, p.2 ≠ memDefault p.1 := by
  simp [Memory.lean, List.all_eq_true]

/-- The canonical form, as a proposition over the entries. -/
theorem Memory.wf_iff (m : List Host.Cell) :
    Memory.wf m = true ↔ (m.Pairwise fun p q => p.1 < q.1) ∧ ∀ p ∈ m, p.2 ≠ memDefault p.1 := by
  simp [Memory.wf, Memory.sorted_iff, Memory.lean_iff]

theorem Memory.wf_filter (m : List Host.Cell) (f : Host.Cell → Bool) (h : Memory.wf m = true) : Memory.wf (m.filter f) = true := by
  rw [Memory.wf_iff] at h ⊢
  exact ⟨h.1.filter _, fun p hp => h.2 p (List.mem_filter.1 hp).1⟩

theorem Memory.wf_cellsOf (bs : List Byte) (a : Nat) : Memory.wf (Memory.cellsOf a bs) = true := by
  induction bs generalizing a with
  | nil => rfl
  | cons b bs ih =>
    have hi := (Memory.wf_iff _).1 (ih (a + 1))
    unfold Memory.cellsOf
    split
    · exact ih (a + 1)
    · rename_i hb
      rw [Memory.wf_iff]
      refine ⟨List.pairwise_cons.2 ⟨fun p hp => ?_, hi.1⟩, fun p hp => ?_⟩
      · have := Memory.cellsOf_keys bs (a + 1) p hp
        simp only
        omega
      · rcases List.mem_cons.1 hp with rfl | hp
        · exact hb
        · exact hi.2 p hp

theorem Memory.wf_append (m n : List Host.Cell) (c : Nat) (hm : Memory.wf m = true) (hn : Memory.wf n = true)
    (ham : ∀ p ∈ m, p.1 < c) (han : ∀ p ∈ n, c ≤ p.1) : Memory.wf (m ++ n) = true := by
  rw [Memory.wf_iff] at *
  refine ⟨List.pairwise_append.2 ⟨hm.1, hn.1, fun p hp q hq => Nat.lt_of_lt_of_le (ham p hp) (han q hq)⟩, fun p hp => ?_⟩
  rcases List.mem_append.1 hp with hp | hp
  · exact hm.2 p hp
  · exact hn.2 p hp

/-- A write keeps the canonical form. -/
theorem Memory.wf_write (m : List Host.Cell) (a : Nat) (bs : List Byte) (h : Memory.wf m = true) :
    Memory.wf (Memory.write m a bs) = true := by
  unfold Memory.write Memory.below Memory.from_
  rw [List.append_assoc]
  refine Memory.wf_append _ _ a (Memory.wf_filter m _ h)
    (Memory.wf_append _ _ (a + bs.length) (Memory.wf_cellsOf bs a) (Memory.wf_filter m _ h) ?_ ?_) ?_ ?_
  · exact fun p hp => (Memory.cellsOf_keys bs a p hp).2
  · intro p hp
    simpa using (List.mem_filter.1 hp).2
  · intro p hp
    simpa using (List.mem_filter.1 hp).2
  · intro p hp
    rcases List.mem_append.1 hp with hp | hp
    · exact (Memory.cellsOf_keys bs a p hp).1
    · have := (List.mem_filter.1 hp).2
      simp only [decide_eq_true_eq] at this
      omega

/-- A clear keeps the canonical form. -/
theorem Memory.wf_clear (m : List Host.Cell) (a n : Nat) (h : Memory.wf m = true) : Memory.wf (Memory.clear m a n) = true := by
  unfold Memory.clear Memory.below Memory.from_
  refine Memory.wf_append _ _ (a + n) (Memory.wf_filter m _ h) (Memory.wf_filter m _ h) ?_ ?_
  · intro p hp
    have := (List.mem_filter.1 hp).2
    simp only [decide_eq_true_eq] at this
    omega
  · intro p hp
    simpa using (List.mem_filter.1 hp).2

/-! ## Runs of bytes -/

theorem Memory.readN_length (m : List Host.Cell) (a n : Nat) : (Memory.readN m a n).length = n := by
  induction n generalizing a with
  | zero => rfl
  | succ n ih => simp [Memory.readN, ih]

/-- A run of bytes reads the same in two memories that agree on it. -/
theorem Memory.readN_congr (m n : List Host.Cell) (a c : Nat) (h : ∀ b, a ≤ b → b < a + c → Memory.read m b = Memory.read n b) :
    Memory.readN m a c = Memory.readN n a c := by
  induction c generalizing a with
  | zero => rfl
  | succ c ih =>
    simp only [Memory.readN, h a (Nat.le_refl a) (by omega)]
    congr 1
    exact ih (a + 1) fun b h1 h2 => h b (by omega) (by omega)

theorem Memory.readN_write_run (pre bs : List Byte) (m : List Host.Cell) (a : Nat) :
    Memory.readN (Memory.write m a (pre ++ bs)) (a + pre.length) bs.length = bs := by
  induction bs generalizing pre with
  | nil => rfl
  | cons b bs ih =>
    simp only [List.length_cons, Memory.readN]
    congr 1
    · rw [Memory.read_write_in m a pre.length (pre ++ b :: bs) (by simp)]
      simp
    · have := ih (pre ++ [b])
      simp only [List.append_assoc, List.singleton_append, List.length_append, List.length_singleton] at this
      rw [← Nat.add_assoc] at this
      exact this

/-- The run that was written reads back. -/
theorem Memory.readN_write (m : List Host.Cell) (a : Nat) (bs : List Byte) :
    Memory.readN (Memory.write m a bs) a bs.length = bs := by
  simpa using Memory.readN_write_run [] bs m a

theorem leBytes_length (n v : Nat) : (leBytes n v).length = n := by
  induction n generalizing v with
  | zero => rfl
  | succ n ih => simp [leBytes, ih]

/-- The little-endian bytes of a number give it back, as far as they reach. -/
theorem leNat_leBytes (n v : Nat) : leNat (leBytes n v) = v % 2 ^ (8 * n) := by
  induction n generalizing v with
  | zero => simp [leBytes, leNat, Nat.mod_one]
  | succ n ih =>
    have e : 2 ^ (8 * (n + 1)) = 256 * 2 ^ (8 * n) := by rw [Nat.mul_succ, Nat.pow_add]; omega
    simp only [leBytes, leNat, ih, BitVec.toNat_ofNat, e, Nat.mod_mul]

end Sys2Proof.Machine
end

