-- ==== Sys2Proof/Laws/State.lean ====
section
/-!
SUPPORT. One law per field of State for each named update: what the update leaves as it was, and what it gives the field it writes.
-/
namespace Sys2Proof.Machine

/-! ## Entries of vectors -/

theorem vset_get {α : Type} {n : Nat} (v : Vector α n) (i : Fin n) (x : α) : (vset v i x)[i] = x := by simp [vset]

theorem vset_get_ne {α : Type} {n : Nat} (v : Vector α n) (i j : Fin n) (x : α) (h : j ≠ i) : (vset v i x)[j] = v[j] := by
  have hv : i.val ≠ j.val := fun e => h (Fin.ext e.symm)
  simp [vset, hv]

theorem vupd_get {α : Type} {n : Nat} (v : Vector α n) (i : Fin n) (f : α → α) : (vupd v i f)[i] = f v[i] := by simp [vupd]

theorem vupd_get_ne {α : Type} {n : Nat} (v : Vector α n) (i j : Fin n) (f : α → α) (h : j ≠ i) : (vupd v i f)[j] = v[j] :=
  vset_get_ne v i j (f v[i]) h

/-! ## State.updChan -/

@[simp] theorem State.updChan_time (s : State) (c : ChanId) (f : Chan → Chan) : (s.updChan c f).time = s.time := rfl
@[simp] theorem State.updChan_dev (s : State) (c : ChanId) (f : Chan → Chan) : (s.updChan c f).dev = s.dev := rfl
@[simp] theorem State.updChan_hg (s : State) (c : ChanId) (f : Chan → Chan) : (s.updChan c f).hg = s.hg := rfl
@[simp] theorem State.updChan_ev (s : State) (c : ChanId) (f : Chan → Chan) : (s.updChan c f).ev = s.ev := rfl
@[simp] theorem State.updChan_pw (s : State) (c : ChanId) (f : Chan → Chan) : (s.updChan c f).pw = s.pw := rfl
@[simp] theorem State.updChan_ms (s : State) (c : ChanId) (f : Chan → Chan) : (s.updChan c f).ms = s.ms := rfl
@[simp] theorem State.updChan_log (s : State) (c : ChanId) (f : Chan → Chan) : (s.updChan c f).log = s.log := rfl
@[simp] theorem State.updChan_ports (s : State) (c : ChanId) (f : Chan → Chan) : (s.updChan c f).ports = s.ports := rfl
@[simp] theorem State.updChan_mir (s : State) (c : ChanId) (f : Chan → Chan) : (s.updChan c f).mir = s.mir := rfl
@[simp] theorem State.updChan_hash (s : State) (c : ChanId) (f : Chan → Chan) : (s.updChan c f).hash = s.hash := rfl
@[simp] theorem State.updChan_upd (s : State) (c : ChanId) (f : Chan → Chan) : (s.updChan c f).upd = s.upd := rfl
@[simp] theorem State.updChan_cis (s : State) (c : ChanId) (f : Chan → Chan) : (s.updChan c f).cis = s.cis := rfl
@[simp] theorem State.updChan_pak (s : State) (c : ChanId) (f : Chan → Chan) : (s.updChan c f).pak = s.pak := rfl
@[simp] theorem State.updChan_boot (s : State) (c : ChanId) (f : Chan → Chan) : (s.updChan c f).boot = s.boot := rfl
@[simp] theorem State.updChan_kv (s : State) (c : ChanId) (f : Chan → Chan) : (s.updChan c f).kv = s.kv := rfl
@[simp] theorem State.updChan_lev (s : State) (c : ChanId) (f : Chan → Chan) : (s.updChan c f).lev = s.lev := rfl
@[simp] theorem State.updChan_spdm (s : State) (c : ChanId) (f : Chan → Chan) : (s.updChan c f).spdm = s.spdm := rfl
@[simp] theorem State.updChan_fuse (s : State) (c : ChanId) (f : Chan → Chan) : (s.updChan c f).fuse = s.fuse := rfl
@[simp] theorem State.updChan_pke (s : State) (c : ChanId) (f : Chan → Chan) : (s.updChan c f).pke = s.pke := rfl
@[simp] theorem State.updChan_cores (s : State) (c : ChanId) (f : Chan → Chan) : (s.updChan c f).cores = s.cores := rfl
@[simp] theorem State.updChan_mbox (s : State) (c : ChanId) (f : Chan → Chan) : (s.updChan c f).mbox = s.mbox := rfl
@[simp] theorem State.updChan_spi (s : State) (c : ChanId) (f : Chan → Chan) : (s.updChan c f).spi = s.spi := rfl
@[simp] theorem State.updChan_rill (s : State) (c : ChanId) (f : Chan → Chan) : (s.updChan c f).rill = s.rill := rfl
@[simp] theorem State.updChan_mem (s : State) (c : ChanId) (f : Chan → Chan) : (s.updChan c f).mem = s.mem := rfl
@[simp] theorem State.updChan_free (s : State) (c : ChanId) (f : Chan → Chan) : (s.updChan c f).free = s.free := rfl
@[simp] theorem State.updChan_pending (s : State) (c : ChanId) (f : Chan → Chan) : (s.updChan c f).pending = s.pending := rfl

/-! ## State.updPort -/

@[simp] theorem State.updPort_time (s : State) (p : PortId) (f : Port → Port) : (s.updPort p f).time = s.time := rfl
@[simp] theorem State.updPort_dev (s : State) (p : PortId) (f : Port → Port) : (s.updPort p f).dev = s.dev := rfl
@[simp] theorem State.updPort_hg (s : State) (p : PortId) (f : Port → Port) : (s.updPort p f).hg = s.hg := rfl
@[simp] theorem State.updPort_ev (s : State) (p : PortId) (f : Port → Port) : (s.updPort p f).ev = s.ev := rfl
@[simp] theorem State.updPort_pw (s : State) (p : PortId) (f : Port → Port) : (s.updPort p f).pw = s.pw := rfl
@[simp] theorem State.updPort_ms (s : State) (p : PortId) (f : Port → Port) : (s.updPort p f).ms = s.ms := rfl
@[simp] theorem State.updPort_log (s : State) (p : PortId) (f : Port → Port) : (s.updPort p f).log = s.log := rfl
@[simp] theorem State.updPort_chans (s : State) (p : PortId) (f : Port → Port) : (s.updPort p f).chans = s.chans := rfl
@[simp] theorem State.updPort_mir (s : State) (p : PortId) (f : Port → Port) : (s.updPort p f).mir = s.mir := rfl
@[simp] theorem State.updPort_hash (s : State) (p : PortId) (f : Port → Port) : (s.updPort p f).hash = s.hash := rfl
@[simp] theorem State.updPort_upd (s : State) (p : PortId) (f : Port → Port) : (s.updPort p f).upd = s.upd := rfl
@[simp] theorem State.updPort_cis (s : State) (p : PortId) (f : Port → Port) : (s.updPort p f).cis = s.cis := rfl
@[simp] theorem State.updPort_pak (s : State) (p : PortId) (f : Port → Port) : (s.updPort p f).pak = s.pak := rfl
@[simp] theorem State.updPort_boot (s : State) (p : PortId) (f : Port → Port) : (s.updPort p f).boot = s.boot := rfl
@[simp] theorem State.updPort_kv (s : State) (p : PortId) (f : Port → Port) : (s.updPort p f).kv = s.kv := rfl
@[simp] theorem State.updPort_lev (s : State) (p : PortId) (f : Port → Port) : (s.updPort p f).lev = s.lev := rfl
@[simp] theorem State.updPort_spdm (s : State) (p : PortId) (f : Port → Port) : (s.updPort p f).spdm = s.spdm := rfl
@[simp] theorem State.updPort_fuse (s : State) (p : PortId) (f : Port → Port) : (s.updPort p f).fuse = s.fuse := rfl
@[simp] theorem State.updPort_pke (s : State) (p : PortId) (f : Port → Port) : (s.updPort p f).pke = s.pke := rfl
@[simp] theorem State.updPort_cores (s : State) (p : PortId) (f : Port → Port) : (s.updPort p f).cores = s.cores := rfl
@[simp] theorem State.updPort_mbox (s : State) (p : PortId) (f : Port → Port) : (s.updPort p f).mbox = s.mbox := rfl
@[simp] theorem State.updPort_spi (s : State) (p : PortId) (f : Port → Port) : (s.updPort p f).spi = s.spi := rfl
@[simp] theorem State.updPort_rill (s : State) (p : PortId) (f : Port → Port) : (s.updPort p f).rill = s.rill := rfl
@[simp] theorem State.updPort_mem (s : State) (p : PortId) (f : Port → Port) : (s.updPort p f).mem = s.mem := rfl
@[simp] theorem State.updPort_free (s : State) (p : PortId) (f : Port → Port) : (s.updPort p f).free = s.free := rfl
@[simp] theorem State.updPort_pending (s : State) (p : PortId) (f : Port → Port) : (s.updPort p f).pending = s.pending := rfl

/-! ## State.updCore -/

@[simp] theorem State.updCore_time (s : State) (k : CoreId) (f : Core → Core) : (s.updCore k f).time = s.time := rfl
@[simp] theorem State.updCore_dev (s : State) (k : CoreId) (f : Core → Core) : (s.updCore k f).dev = s.dev := rfl
@[simp] theorem State.updCore_hg (s : State) (k : CoreId) (f : Core → Core) : (s.updCore k f).hg = s.hg := rfl
@[simp] theorem State.updCore_ev (s : State) (k : CoreId) (f : Core → Core) : (s.updCore k f).ev = s.ev := rfl
@[simp] theorem State.updCore_pw (s : State) (k : CoreId) (f : Core → Core) : (s.updCore k f).pw = s.pw := rfl
@[simp] theorem State.updCore_ms (s : State) (k : CoreId) (f : Core → Core) : (s.updCore k f).ms = s.ms := rfl
@[simp] theorem State.updCore_log (s : State) (k : CoreId) (f : Core → Core) : (s.updCore k f).log = s.log := rfl
@[simp] theorem State.updCore_chans (s : State) (k : CoreId) (f : Core → Core) : (s.updCore k f).chans = s.chans := rfl
@[simp] theorem State.updCore_ports (s : State) (k : CoreId) (f : Core → Core) : (s.updCore k f).ports = s.ports := rfl
@[simp] theorem State.updCore_mir (s : State) (k : CoreId) (f : Core → Core) : (s.updCore k f).mir = s.mir := rfl
@[simp] theorem State.updCore_hash (s : State) (k : CoreId) (f : Core → Core) : (s.updCore k f).hash = s.hash := rfl
@[simp] theorem State.updCore_upd (s : State) (k : CoreId) (f : Core → Core) : (s.updCore k f).upd = s.upd := rfl
@[simp] theorem State.updCore_cis (s : State) (k : CoreId) (f : Core → Core) : (s.updCore k f).cis = s.cis := rfl
@[simp] theorem State.updCore_pak (s : State) (k : CoreId) (f : Core → Core) : (s.updCore k f).pak = s.pak := rfl
@[simp] theorem State.updCore_boot (s : State) (k : CoreId) (f : Core → Core) : (s.updCore k f).boot = s.boot := rfl
@[simp] theorem State.updCore_kv (s : State) (k : CoreId) (f : Core → Core) : (s.updCore k f).kv = s.kv := rfl
@[simp] theorem State.updCore_lev (s : State) (k : CoreId) (f : Core → Core) : (s.updCore k f).lev = s.lev := rfl
@[simp] theorem State.updCore_spdm (s : State) (k : CoreId) (f : Core → Core) : (s.updCore k f).spdm = s.spdm := rfl
@[simp] theorem State.updCore_fuse (s : State) (k : CoreId) (f : Core → Core) : (s.updCore k f).fuse = s.fuse := rfl
@[simp] theorem State.updCore_pke (s : State) (k : CoreId) (f : Core → Core) : (s.updCore k f).pke = s.pke := rfl
@[simp] theorem State.updCore_mbox (s : State) (k : CoreId) (f : Core → Core) : (s.updCore k f).mbox = s.mbox := rfl
@[simp] theorem State.updCore_spi (s : State) (k : CoreId) (f : Core → Core) : (s.updCore k f).spi = s.spi := rfl
@[simp] theorem State.updCore_rill (s : State) (k : CoreId) (f : Core → Core) : (s.updCore k f).rill = s.rill := rfl
@[simp] theorem State.updCore_mem (s : State) (k : CoreId) (f : Core → Core) : (s.updCore k f).mem = s.mem := rfl
@[simp] theorem State.updCore_free (s : State) (k : CoreId) (f : Core → Core) : (s.updCore k f).free = s.free := rfl
@[simp] theorem State.updCore_pending (s : State) (k : CoreId) (f : Core → Core) : (s.updCore k f).pending = s.pending := rfl

/-! ## State.updTarget -/

@[simp] theorem State.updTarget_time (s : State) (t : Target) (f : TargetUpd → TargetUpd) : (s.updTarget t f).time = s.time := rfl
@[simp] theorem State.updTarget_dev (s : State) (t : Target) (f : TargetUpd → TargetUpd) : (s.updTarget t f).dev = s.dev := rfl
@[simp] theorem State.updTarget_hg (s : State) (t : Target) (f : TargetUpd → TargetUpd) : (s.updTarget t f).hg = s.hg := rfl
@[simp] theorem State.updTarget_ev (s : State) (t : Target) (f : TargetUpd → TargetUpd) : (s.updTarget t f).ev = s.ev := rfl
@[simp] theorem State.updTarget_pw (s : State) (t : Target) (f : TargetUpd → TargetUpd) : (s.updTarget t f).pw = s.pw := rfl
@[simp] theorem State.updTarget_ms (s : State) (t : Target) (f : TargetUpd → TargetUpd) : (s.updTarget t f).ms = s.ms := rfl
@[simp] theorem State.updTarget_log (s : State) (t : Target) (f : TargetUpd → TargetUpd) : (s.updTarget t f).log = s.log := rfl
@[simp] theorem State.updTarget_chans (s : State) (t : Target) (f : TargetUpd → TargetUpd) : (s.updTarget t f).chans = s.chans := rfl
@[simp] theorem State.updTarget_ports (s : State) (t : Target) (f : TargetUpd → TargetUpd) : (s.updTarget t f).ports = s.ports := rfl
@[simp] theorem State.updTarget_mir (s : State) (t : Target) (f : TargetUpd → TargetUpd) : (s.updTarget t f).mir = s.mir := rfl
@[simp] theorem State.updTarget_hash (s : State) (t : Target) (f : TargetUpd → TargetUpd) : (s.updTarget t f).hash = s.hash := rfl
@[simp] theorem State.updTarget_cis (s : State) (t : Target) (f : TargetUpd → TargetUpd) : (s.updTarget t f).cis = s.cis := rfl
@[simp] theorem State.updTarget_pak (s : State) (t : Target) (f : TargetUpd → TargetUpd) : (s.updTarget t f).pak = s.pak := rfl
@[simp] theorem State.updTarget_boot (s : State) (t : Target) (f : TargetUpd → TargetUpd) : (s.updTarget t f).boot = s.boot := rfl
@[simp] theorem State.updTarget_kv (s : State) (t : Target) (f : TargetUpd → TargetUpd) : (s.updTarget t f).kv = s.kv := rfl
@[simp] theorem State.updTarget_lev (s : State) (t : Target) (f : TargetUpd → TargetUpd) : (s.updTarget t f).lev = s.lev := rfl
@[simp] theorem State.updTarget_spdm (s : State) (t : Target) (f : TargetUpd → TargetUpd) : (s.updTarget t f).spdm = s.spdm := rfl
@[simp] theorem State.updTarget_fuse (s : State) (t : Target) (f : TargetUpd → TargetUpd) : (s.updTarget t f).fuse = s.fuse := rfl
@[simp] theorem State.updTarget_pke (s : State) (t : Target) (f : TargetUpd → TargetUpd) : (s.updTarget t f).pke = s.pke := rfl
@[simp] theorem State.updTarget_cores (s : State) (t : Target) (f : TargetUpd → TargetUpd) : (s.updTarget t f).cores = s.cores := rfl
@[simp] theorem State.updTarget_mbox (s : State) (t : Target) (f : TargetUpd → TargetUpd) : (s.updTarget t f).mbox = s.mbox := rfl
@[simp] theorem State.updTarget_spi (s : State) (t : Target) (f : TargetUpd → TargetUpd) : (s.updTarget t f).spi = s.spi := rfl
@[simp] theorem State.updTarget_rill (s : State) (t : Target) (f : TargetUpd → TargetUpd) : (s.updTarget t f).rill = s.rill := rfl
@[simp] theorem State.updTarget_mem (s : State) (t : Target) (f : TargetUpd → TargetUpd) : (s.updTarget t f).mem = s.mem := rfl
@[simp] theorem State.updTarget_free (s : State) (t : Target) (f : TargetUpd → TargetUpd) : (s.updTarget t f).free = s.free := rfl
@[simp] theorem State.updTarget_pending (s : State) (t : Target) (f : TargetUpd → TargetUpd) : (s.updTarget t f).pending = s.pending := rfl

/-! ## State.touchGranules -/

@[simp] theorem State.touchGranules_time (s : State) (a n : Nat) : (s.touchGranules a n).time = s.time := rfl
@[simp] theorem State.touchGranules_dev (s : State) (a n : Nat) : (s.touchGranules a n).dev = s.dev := rfl
@[simp] theorem State.touchGranules_hg (s : State) (a n : Nat) : (s.touchGranules a n).hg = s.hg := rfl
@[simp] theorem State.touchGranules_ev (s : State) (a n : Nat) : (s.touchGranules a n).ev = s.ev := rfl
@[simp] theorem State.touchGranules_pw (s : State) (a n : Nat) : (s.touchGranules a n).pw = s.pw := rfl
@[simp] theorem State.touchGranules_ms (s : State) (a n : Nat) : (s.touchGranules a n).ms = s.ms := rfl
@[simp] theorem State.touchGranules_log (s : State) (a n : Nat) : (s.touchGranules a n).log = s.log := rfl
@[simp] theorem State.touchGranules_chans (s : State) (a n : Nat) : (s.touchGranules a n).chans = s.chans := rfl
@[simp] theorem State.touchGranules_ports (s : State) (a n : Nat) : (s.touchGranules a n).ports = s.ports := rfl
@[simp] theorem State.touchGranules_mir (s : State) (a n : Nat) : (s.touchGranules a n).mir = s.mir := rfl
@[simp] theorem State.touchGranules_hash (s : State) (a n : Nat) : (s.touchGranules a n).hash = s.hash := rfl
@[simp] theorem State.touchGranules_upd (s : State) (a n : Nat) : (s.touchGranules a n).upd = s.upd := rfl
@[simp] theorem State.touchGranules_cis (s : State) (a n : Nat) : (s.touchGranules a n).cis = s.cis := rfl
@[simp] theorem State.touchGranules_pak (s : State) (a n : Nat) : (s.touchGranules a n).pak = s.pak := rfl
@[simp] theorem State.touchGranules_boot (s : State) (a n : Nat) : (s.touchGranules a n).boot = s.boot := rfl
@[simp] theorem State.touchGranules_kv (s : State) (a n : Nat) : (s.touchGranules a n).kv = s.kv := rfl
@[simp] theorem State.touchGranules_lev (s : State) (a n : Nat) : (s.touchGranules a n).lev = s.lev := rfl
@[simp] theorem State.touchGranules_spdm (s : State) (a n : Nat) : (s.touchGranules a n).spdm = s.spdm := rfl
@[simp] theorem State.touchGranules_fuse (s : State) (a n : Nat) : (s.touchGranules a n).fuse = s.fuse := rfl
@[simp] theorem State.touchGranules_pke (s : State) (a n : Nat) : (s.touchGranules a n).pke = s.pke := rfl
@[simp] theorem State.touchGranules_mbox (s : State) (a n : Nat) : (s.touchGranules a n).mbox = s.mbox := rfl
@[simp] theorem State.touchGranules_spi (s : State) (a n : Nat) : (s.touchGranules a n).spi = s.spi := rfl
@[simp] theorem State.touchGranules_rill (s : State) (a n : Nat) : (s.touchGranules a n).rill = s.rill := rfl
@[simp] theorem State.touchGranules_mem (s : State) (a n : Nat) : (s.touchGranules a n).mem = s.mem := rfl
@[simp] theorem State.touchGranules_free (s : State) (a n : Nat) : (s.touchGranules a n).free = s.free := rfl
@[simp] theorem State.touchGranules_pending (s : State) (a n : Nat) : (s.touchGranules a n).pending = s.pending := rfl

/-! ## State.store -/

@[simp] theorem State.store_time (s : State) (a : Nat) (bs : List Byte) : (s.store a bs).time = s.time := rfl
@[simp] theorem State.store_dev (s : State) (a : Nat) (bs : List Byte) : (s.store a bs).dev = s.dev := rfl
@[simp] theorem State.store_hg (s : State) (a : Nat) (bs : List Byte) : (s.store a bs).hg = s.hg := rfl
@[simp] theorem State.store_ev (s : State) (a : Nat) (bs : List Byte) : (s.store a bs).ev = s.ev := rfl
@[simp] theorem State.store_pw (s : State) (a : Nat) (bs : List Byte) : (s.store a bs).pw = s.pw := rfl
@[simp] theorem State.store_ms (s : State) (a : Nat) (bs : List Byte) : (s.store a bs).ms = s.ms := rfl
@[simp] theorem State.store_log (s : State) (a : Nat) (bs : List Byte) : (s.store a bs).log = s.log := rfl
@[simp] theorem State.store_chans (s : State) (a : Nat) (bs : List Byte) : (s.store a bs).chans = s.chans := rfl
@[simp] theorem State.store_ports (s : State) (a : Nat) (bs : List Byte) : (s.store a bs).ports = s.ports := rfl
@[simp] theorem State.store_mir (s : State) (a : Nat) (bs : List Byte) : (s.store a bs).mir = s.mir := rfl
@[simp] theorem State.store_hash (s : State) (a : Nat) (bs : List Byte) : (s.store a bs).hash = s.hash := rfl
@[simp] theorem State.store_upd (s : State) (a : Nat) (bs : List Byte) : (s.store a bs).upd = s.upd := rfl
@[simp] theorem State.store_cis (s : State) (a : Nat) (bs : List Byte) : (s.store a bs).cis = s.cis := rfl
@[simp] theorem State.store_pak (s : State) (a : Nat) (bs : List Byte) : (s.store a bs).pak = s.pak := rfl
@[simp] theorem State.store_boot (s : State) (a : Nat) (bs : List Byte) : (s.store a bs).boot = s.boot := rfl
@[simp] theorem State.store_kv (s : State) (a : Nat) (bs : List Byte) : (s.store a bs).kv = s.kv := rfl
@[simp] theorem State.store_lev (s : State) (a : Nat) (bs : List Byte) : (s.store a bs).lev = s.lev := rfl
@[simp] theorem State.store_spdm (s : State) (a : Nat) (bs : List Byte) : (s.store a bs).spdm = s.spdm := rfl
@[simp] theorem State.store_fuse (s : State) (a : Nat) (bs : List Byte) : (s.store a bs).fuse = s.fuse := rfl
@[simp] theorem State.store_pke (s : State) (a : Nat) (bs : List Byte) : (s.store a bs).pke = s.pke := rfl
@[simp] theorem State.store_mbox (s : State) (a : Nat) (bs : List Byte) : (s.store a bs).mbox = s.mbox := rfl
@[simp] theorem State.store_spi (s : State) (a : Nat) (bs : List Byte) : (s.store a bs).spi = s.spi := rfl
@[simp] theorem State.store_rill (s : State) (a : Nat) (bs : List Byte) : (s.store a bs).rill = s.rill := rfl
@[simp] theorem State.store_free (s : State) (a : Nat) (bs : List Byte) : (s.store a bs).free = s.free := rfl
@[simp] theorem State.store_pending (s : State) (a : Nat) (bs : List Byte) : (s.store a bs).pending = s.pending := rfl

/-! ## State.erase -/

@[simp] theorem State.erase_time (s : State) (a n : Nat) : (s.erase a n).time = s.time := rfl
@[simp] theorem State.erase_dev (s : State) (a n : Nat) : (s.erase a n).dev = s.dev := rfl
@[simp] theorem State.erase_hg (s : State) (a n : Nat) : (s.erase a n).hg = s.hg := rfl
@[simp] theorem State.erase_ev (s : State) (a n : Nat) : (s.erase a n).ev = s.ev := rfl
@[simp] theorem State.erase_pw (s : State) (a n : Nat) : (s.erase a n).pw = s.pw := rfl
@[simp] theorem State.erase_ms (s : State) (a n : Nat) : (s.erase a n).ms = s.ms := rfl
@[simp] theorem State.erase_log (s : State) (a n : Nat) : (s.erase a n).log = s.log := rfl
@[simp] theorem State.erase_chans (s : State) (a n : Nat) : (s.erase a n).chans = s.chans := rfl
@[simp] theorem State.erase_ports (s : State) (a n : Nat) : (s.erase a n).ports = s.ports := rfl
@[simp] theorem State.erase_mir (s : State) (a n : Nat) : (s.erase a n).mir = s.mir := rfl
@[simp] theorem State.erase_hash (s : State) (a n : Nat) : (s.erase a n).hash = s.hash := rfl
@[simp] theorem State.erase_upd (s : State) (a n : Nat) : (s.erase a n).upd = s.upd := rfl
@[simp] theorem State.erase_cis (s : State) (a n : Nat) : (s.erase a n).cis = s.cis := rfl
@[simp] theorem State.erase_pak (s : State) (a n : Nat) : (s.erase a n).pak = s.pak := rfl
@[simp] theorem State.erase_boot (s : State) (a n : Nat) : (s.erase a n).boot = s.boot := rfl
@[simp] theorem State.erase_kv (s : State) (a n : Nat) : (s.erase a n).kv = s.kv := rfl
@[simp] theorem State.erase_lev (s : State) (a n : Nat) : (s.erase a n).lev = s.lev := rfl
@[simp] theorem State.erase_spdm (s : State) (a n : Nat) : (s.erase a n).spdm = s.spdm := rfl
@[simp] theorem State.erase_fuse (s : State) (a n : Nat) : (s.erase a n).fuse = s.fuse := rfl
@[simp] theorem State.erase_pke (s : State) (a n : Nat) : (s.erase a n).pke = s.pke := rfl
@[simp] theorem State.erase_mbox (s : State) (a n : Nat) : (s.erase a n).mbox = s.mbox := rfl
@[simp] theorem State.erase_spi (s : State) (a n : Nat) : (s.erase a n).spi = s.spi := rfl
@[simp] theorem State.erase_rill (s : State) (a n : Nat) : (s.erase a n).rill = s.rill := rfl
@[simp] theorem State.erase_free (s : State) (a n : Nat) : (s.erase a n).free = s.free := rfl
@[simp] theorem State.erase_pending (s : State) (a n : Nat) : (s.erase a n).pending = s.pending := rfl

/-! ## State.advanceTo -/

@[simp] theorem State.advanceTo_dev (s : State) (t : Nat) : (s.advanceTo t).dev = s.dev := rfl
@[simp] theorem State.advanceTo_hg (s : State) (t : Nat) : (s.advanceTo t).hg = s.hg := rfl
@[simp] theorem State.advanceTo_ev (s : State) (t : Nat) : (s.advanceTo t).ev = s.ev := rfl
@[simp] theorem State.advanceTo_pw (s : State) (t : Nat) : (s.advanceTo t).pw = s.pw := rfl
@[simp] theorem State.advanceTo_ms (s : State) (t : Nat) : (s.advanceTo t).ms = s.ms := rfl
@[simp] theorem State.advanceTo_log (s : State) (t : Nat) : (s.advanceTo t).log = s.log := rfl
@[simp] theorem State.advanceTo_chans (s : State) (t : Nat) : (s.advanceTo t).chans = s.chans := rfl
@[simp] theorem State.advanceTo_ports (s : State) (t : Nat) : (s.advanceTo t).ports = s.ports := rfl
@[simp] theorem State.advanceTo_mir (s : State) (t : Nat) : (s.advanceTo t).mir = s.mir := rfl
@[simp] theorem State.advanceTo_hash (s : State) (t : Nat) : (s.advanceTo t).hash = s.hash := rfl
@[simp] theorem State.advanceTo_upd (s : State) (t : Nat) : (s.advanceTo t).upd = s.upd := rfl
@[simp] theorem State.advanceTo_cis (s : State) (t : Nat) : (s.advanceTo t).cis = s.cis := rfl
@[simp] theorem State.advanceTo_pak (s : State) (t : Nat) : (s.advanceTo t).pak = s.pak := rfl
@[simp] theorem State.advanceTo_boot (s : State) (t : Nat) : (s.advanceTo t).boot = s.boot := rfl
@[simp] theorem State.advanceTo_kv (s : State) (t : Nat) : (s.advanceTo t).kv = s.kv := rfl
@[simp] theorem State.advanceTo_lev (s : State) (t : Nat) : (s.advanceTo t).lev = s.lev := rfl
@[simp] theorem State.advanceTo_spdm (s : State) (t : Nat) : (s.advanceTo t).spdm = s.spdm := rfl
@[simp] theorem State.advanceTo_fuse (s : State) (t : Nat) : (s.advanceTo t).fuse = s.fuse := rfl
@[simp] theorem State.advanceTo_pke (s : State) (t : Nat) : (s.advanceTo t).pke = s.pke := rfl
@[simp] theorem State.advanceTo_cores (s : State) (t : Nat) : (s.advanceTo t).cores = s.cores := rfl
@[simp] theorem State.advanceTo_mbox (s : State) (t : Nat) : (s.advanceTo t).mbox = s.mbox := rfl
@[simp] theorem State.advanceTo_spi (s : State) (t : Nat) : (s.advanceTo t).spi = s.spi := rfl
@[simp] theorem State.advanceTo_rill (s : State) (t : Nat) : (s.advanceTo t).rill = s.rill := rfl
@[simp] theorem State.advanceTo_mem (s : State) (t : Nat) : (s.advanceTo t).mem = s.mem := rfl
@[simp] theorem State.advanceTo_free (s : State) (t : Nat) : (s.advanceTo t).free = s.free := rfl
@[simp] theorem State.advanceTo_pending (s : State) (t : Nat) : (s.advanceTo t).pending = s.pending := rfl

/-! ## State.drawn -/

@[simp] theorem State.drawn_time (s : State) : (s.drawn).time = s.time := rfl
@[simp] theorem State.drawn_dev (s : State) : (s.drawn).dev = s.dev := rfl
@[simp] theorem State.drawn_hg (s : State) : (s.drawn).hg = s.hg := rfl
@[simp] theorem State.drawn_ev (s : State) : (s.drawn).ev = s.ev := rfl
@[simp] theorem State.drawn_pw (s : State) : (s.drawn).pw = s.pw := rfl
@[simp] theorem State.drawn_ms (s : State) : (s.drawn).ms = s.ms := rfl
@[simp] theorem State.drawn_log (s : State) : (s.drawn).log = s.log := rfl
@[simp] theorem State.drawn_chans (s : State) : (s.drawn).chans = s.chans := rfl
@[simp] theorem State.drawn_ports (s : State) : (s.drawn).ports = s.ports := rfl
@[simp] theorem State.drawn_mir (s : State) : (s.drawn).mir = s.mir := rfl
@[simp] theorem State.drawn_hash (s : State) : (s.drawn).hash = s.hash := rfl
@[simp] theorem State.drawn_upd (s : State) : (s.drawn).upd = s.upd := rfl
@[simp] theorem State.drawn_cis (s : State) : (s.drawn).cis = s.cis := rfl
@[simp] theorem State.drawn_pak (s : State) : (s.drawn).pak = s.pak := rfl
@[simp] theorem State.drawn_boot (s : State) : (s.drawn).boot = s.boot := rfl
@[simp] theorem State.drawn_kv (s : State) : (s.drawn).kv = s.kv := rfl
@[simp] theorem State.drawn_lev (s : State) : (s.drawn).lev = s.lev := rfl
@[simp] theorem State.drawn_spdm (s : State) : (s.drawn).spdm = s.spdm := rfl
@[simp] theorem State.drawn_fuse (s : State) : (s.drawn).fuse = s.fuse := rfl
@[simp] theorem State.drawn_pke (s : State) : (s.drawn).pke = s.pke := rfl
@[simp] theorem State.drawn_cores (s : State) : (s.drawn).cores = s.cores := rfl
@[simp] theorem State.drawn_mbox (s : State) : (s.drawn).mbox = s.mbox := rfl
@[simp] theorem State.drawn_spi (s : State) : (s.drawn).spi = s.spi := rfl
@[simp] theorem State.drawn_rill (s : State) : (s.drawn).rill = s.rill := rfl
@[simp] theorem State.drawn_mem (s : State) : (s.drawn).mem = s.mem := rfl
@[simp] theorem State.drawn_pending (s : State) : (s.drawn).pending = s.pending := rfl

/-! ## State.raise -/

@[simp] theorem State.raise_time (s : State) (e : Nat) : (s.raise e).time = s.time := rfl
@[simp] theorem State.raise_dev (s : State) (e : Nat) : (s.raise e).dev = s.dev := rfl
@[simp] theorem State.raise_hg (s : State) (e : Nat) : (s.raise e).hg = s.hg := rfl
@[simp] theorem State.raise_pw (s : State) (e : Nat) : (s.raise e).pw = s.pw := rfl
@[simp] theorem State.raise_ms (s : State) (e : Nat) : (s.raise e).ms = s.ms := rfl
@[simp] theorem State.raise_log (s : State) (e : Nat) : (s.raise e).log = s.log := rfl
@[simp] theorem State.raise_chans (s : State) (e : Nat) : (s.raise e).chans = s.chans := rfl
@[simp] theorem State.raise_ports (s : State) (e : Nat) : (s.raise e).ports = s.ports := rfl
@[simp] theorem State.raise_mir (s : State) (e : Nat) : (s.raise e).mir = s.mir := rfl
@[simp] theorem State.raise_hash (s : State) (e : Nat) : (s.raise e).hash = s.hash := rfl
@[simp] theorem State.raise_upd (s : State) (e : Nat) : (s.raise e).upd = s.upd := rfl
@[simp] theorem State.raise_cis (s : State) (e : Nat) : (s.raise e).cis = s.cis := rfl
@[simp] theorem State.raise_pak (s : State) (e : Nat) : (s.raise e).pak = s.pak := rfl
@[simp] theorem State.raise_boot (s : State) (e : Nat) : (s.raise e).boot = s.boot := rfl
@[simp] theorem State.raise_kv (s : State) (e : Nat) : (s.raise e).kv = s.kv := rfl
@[simp] theorem State.raise_lev (s : State) (e : Nat) : (s.raise e).lev = s.lev := rfl
@[simp] theorem State.raise_spdm (s : State) (e : Nat) : (s.raise e).spdm = s.spdm := rfl
@[simp] theorem State.raise_fuse (s : State) (e : Nat) : (s.raise e).fuse = s.fuse := rfl
@[simp] theorem State.raise_pke (s : State) (e : Nat) : (s.raise e).pke = s.pke := rfl
@[simp] theorem State.raise_cores (s : State) (e : Nat) : (s.raise e).cores = s.cores := rfl
@[simp] theorem State.raise_mbox (s : State) (e : Nat) : (s.raise e).mbox = s.mbox := rfl
@[simp] theorem State.raise_spi (s : State) (e : Nat) : (s.raise e).spi = s.spi := rfl
@[simp] theorem State.raise_rill (s : State) (e : Nat) : (s.raise e).rill = s.rill := rfl
@[simp] theorem State.raise_mem (s : State) (e : Nat) : (s.raise e).mem = s.mem := rfl
@[simp] theorem State.raise_free (s : State) (e : Nat) : (s.raise e).free = s.free := rfl
@[simp] theorem State.raise_pending (s : State) (e : Nat) : (s.raise e).pending = s.pending := rfl

/-! ## State.logRec -/

@[simp] theorem State.logRec_time (s : State) (k : LogKind) (e c : Nat) (o : Origin) (b : List LogField) : (s.logRec k e c o b).time = s.time := rfl
@[simp] theorem State.logRec_dev (s : State) (k : LogKind) (e c : Nat) (o : Origin) (b : List LogField) : (s.logRec k e c o b).dev = s.dev := rfl
@[simp] theorem State.logRec_hg (s : State) (k : LogKind) (e c : Nat) (o : Origin) (b : List LogField) : (s.logRec k e c o b).hg = s.hg := rfl
@[simp] theorem State.logRec_ev (s : State) (k : LogKind) (e c : Nat) (o : Origin) (b : List LogField) : (s.logRec k e c o b).ev = s.ev := rfl
@[simp] theorem State.logRec_pw (s : State) (k : LogKind) (e c : Nat) (o : Origin) (b : List LogField) : (s.logRec k e c o b).pw = s.pw := rfl
@[simp] theorem State.logRec_ms (s : State) (k : LogKind) (e c : Nat) (o : Origin) (b : List LogField) : (s.logRec k e c o b).ms = s.ms := rfl
@[simp] theorem State.logRec_chans (s : State) (k : LogKind) (e c : Nat) (o : Origin) (b : List LogField) : (s.logRec k e c o b).chans = s.chans := rfl
@[simp] theorem State.logRec_ports (s : State) (k : LogKind) (e c : Nat) (o : Origin) (b : List LogField) : (s.logRec k e c o b).ports = s.ports := rfl
@[simp] theorem State.logRec_mir (s : State) (k : LogKind) (e c : Nat) (o : Origin) (b : List LogField) : (s.logRec k e c o b).mir = s.mir := rfl
@[simp] theorem State.logRec_hash (s : State) (k : LogKind) (e c : Nat) (o : Origin) (b : List LogField) : (s.logRec k e c o b).hash = s.hash := rfl
@[simp] theorem State.logRec_upd (s : State) (k : LogKind) (e c : Nat) (o : Origin) (b : List LogField) : (s.logRec k e c o b).upd = s.upd := rfl
@[simp] theorem State.logRec_cis (s : State) (k : LogKind) (e c : Nat) (o : Origin) (b : List LogField) : (s.logRec k e c o b).cis = s.cis := rfl
@[simp] theorem State.logRec_pak (s : State) (k : LogKind) (e c : Nat) (o : Origin) (b : List LogField) : (s.logRec k e c o b).pak = s.pak := rfl
@[simp] theorem State.logRec_boot (s : State) (k : LogKind) (e c : Nat) (o : Origin) (b : List LogField) : (s.logRec k e c o b).boot = s.boot := rfl
@[simp] theorem State.logRec_kv (s : State) (k : LogKind) (e c : Nat) (o : Origin) (b : List LogField) : (s.logRec k e c o b).kv = s.kv := rfl
@[simp] theorem State.logRec_lev (s : State) (k : LogKind) (e c : Nat) (o : Origin) (b : List LogField) : (s.logRec k e c o b).lev = s.lev := rfl
@[simp] theorem State.logRec_spdm (s : State) (k : LogKind) (e c : Nat) (o : Origin) (b : List LogField) : (s.logRec k e c o b).spdm = s.spdm := rfl
@[simp] theorem State.logRec_fuse (s : State) (k : LogKind) (e c : Nat) (o : Origin) (b : List LogField) : (s.logRec k e c o b).fuse = s.fuse := rfl
@[simp] theorem State.logRec_pke (s : State) (k : LogKind) (e c : Nat) (o : Origin) (b : List LogField) : (s.logRec k e c o b).pke = s.pke := rfl
@[simp] theorem State.logRec_cores (s : State) (k : LogKind) (e c : Nat) (o : Origin) (b : List LogField) : (s.logRec k e c o b).cores = s.cores := rfl
@[simp] theorem State.logRec_mbox (s : State) (k : LogKind) (e c : Nat) (o : Origin) (b : List LogField) : (s.logRec k e c o b).mbox = s.mbox := rfl
@[simp] theorem State.logRec_spi (s : State) (k : LogKind) (e c : Nat) (o : Origin) (b : List LogField) : (s.logRec k e c o b).spi = s.spi := rfl
@[simp] theorem State.logRec_rill (s : State) (k : LogKind) (e c : Nat) (o : Origin) (b : List LogField) : (s.logRec k e c o b).rill = s.rill := rfl
@[simp] theorem State.logRec_mem (s : State) (k : LogKind) (e c : Nat) (o : Origin) (b : List LogField) : (s.logRec k e c o b).mem = s.mem := rfl
@[simp] theorem State.logRec_free (s : State) (k : LogKind) (e c : Nat) (o : Origin) (b : List LogField) : (s.logRec k e c o b).free = s.free := rfl
@[simp] theorem State.logRec_pending (s : State) (k : LogKind) (e c : Nat) (o : Origin) (b : List LogField) : (s.logRec k e c o b).pending = s.pending := rfl

/-! ## State.logMeas -/

@[simp] theorem State.logMeas_time (s : State) (k : LogKind) (b : List LogField) : (s.logMeas k b).time = s.time := rfl
@[simp] theorem State.logMeas_dev (s : State) (k : LogKind) (b : List LogField) : (s.logMeas k b).dev = s.dev := rfl
@[simp] theorem State.logMeas_hg (s : State) (k : LogKind) (b : List LogField) : (s.logMeas k b).hg = s.hg := rfl
@[simp] theorem State.logMeas_ev (s : State) (k : LogKind) (b : List LogField) : (s.logMeas k b).ev = s.ev := rfl
@[simp] theorem State.logMeas_pw (s : State) (k : LogKind) (b : List LogField) : (s.logMeas k b).pw = s.pw := rfl
@[simp] theorem State.logMeas_ms (s : State) (k : LogKind) (b : List LogField) : (s.logMeas k b).ms = s.ms := rfl
@[simp] theorem State.logMeas_chans (s : State) (k : LogKind) (b : List LogField) : (s.logMeas k b).chans = s.chans := rfl
@[simp] theorem State.logMeas_ports (s : State) (k : LogKind) (b : List LogField) : (s.logMeas k b).ports = s.ports := rfl
@[simp] theorem State.logMeas_mir (s : State) (k : LogKind) (b : List LogField) : (s.logMeas k b).mir = s.mir := rfl
@[simp] theorem State.logMeas_hash (s : State) (k : LogKind) (b : List LogField) : (s.logMeas k b).hash = s.hash := rfl
@[simp] theorem State.logMeas_upd (s : State) (k : LogKind) (b : List LogField) : (s.logMeas k b).upd = s.upd := rfl
@[simp] theorem State.logMeas_cis (s : State) (k : LogKind) (b : List LogField) : (s.logMeas k b).cis = s.cis := rfl
@[simp] theorem State.logMeas_pak (s : State) (k : LogKind) (b : List LogField) : (s.logMeas k b).pak = s.pak := rfl
@[simp] theorem State.logMeas_boot (s : State) (k : LogKind) (b : List LogField) : (s.logMeas k b).boot = s.boot := rfl
@[simp] theorem State.logMeas_kv (s : State) (k : LogKind) (b : List LogField) : (s.logMeas k b).kv = s.kv := rfl
@[simp] theorem State.logMeas_lev (s : State) (k : LogKind) (b : List LogField) : (s.logMeas k b).lev = s.lev := rfl
@[simp] theorem State.logMeas_spdm (s : State) (k : LogKind) (b : List LogField) : (s.logMeas k b).spdm = s.spdm := rfl
@[simp] theorem State.logMeas_fuse (s : State) (k : LogKind) (b : List LogField) : (s.logMeas k b).fuse = s.fuse := rfl
@[simp] theorem State.logMeas_pke (s : State) (k : LogKind) (b : List LogField) : (s.logMeas k b).pke = s.pke := rfl
@[simp] theorem State.logMeas_cores (s : State) (k : LogKind) (b : List LogField) : (s.logMeas k b).cores = s.cores := rfl
@[simp] theorem State.logMeas_mbox (s : State) (k : LogKind) (b : List LogField) : (s.logMeas k b).mbox = s.mbox := rfl
@[simp] theorem State.logMeas_spi (s : State) (k : LogKind) (b : List LogField) : (s.logMeas k b).spi = s.spi := rfl
@[simp] theorem State.logMeas_rill (s : State) (k : LogKind) (b : List LogField) : (s.logMeas k b).rill = s.rill := rfl
@[simp] theorem State.logMeas_mem (s : State) (k : LogKind) (b : List LogField) : (s.logMeas k b).mem = s.mem := rfl
@[simp] theorem State.logMeas_free (s : State) (k : LogKind) (b : List LogField) : (s.logMeas k b).free = s.free := rfl
@[simp] theorem State.logMeas_pending (s : State) (k : LogKind) (b : List LogField) : (s.logMeas k b).pending = s.pending := rfl

/-! ## What an update writes -/

@[simp] theorem State.advanceTo_time (s : State) (t : Nat) : (s.advanceTo t).time = max s.time t := rfl
@[simp] theorem State.drawn_free (s : State) : s.drawn.free = s.free + 1 := rfl
@[simp] theorem State.store_mem (s : State) (a : Nat) (bs : List Byte) : (s.store a bs).mem = Memory.write s.mem a bs := rfl
@[simp] theorem State.erase_mem (s : State) (a n : Nat) : (s.erase a n).mem = Memory.clear s.mem a n := rfl

/-! ## Units -/

@[simp] theorem State.chan_updChan (s : State) (c : ChanId) (f : Chan → Chan) : (s.updChan c f).chan c = f (s.chan c) :=
  vupd_get s.chans c f

theorem State.chan_updChan_ne (s : State) (d c : ChanId) (f : Chan → Chan) (h : d ≠ c) : (s.updChan c f).chan d = s.chan d :=
  vupd_get_ne s.chans c d f h

@[simp] theorem State.port_updPort (s : State) (p : PortId) (f : Port → Port) : (s.updPort p f).port p = f (s.port p) :=
  vupd_get s.ports p f

theorem State.port_updPort_ne (s : State) (q p : PortId) (f : Port → Port) (h : q ≠ p) : (s.updPort p f).port q = s.port q :=
  vupd_get_ne s.ports p q f h

@[simp] theorem State.core_updCore (s : State) (k : CoreId) (f : Core → Core) : (s.updCore k f).core k = f (s.core k) :=
  vupd_get s.cores k f

theorem State.core_updCore_ne (s : State) (j k : CoreId) (f : Core → Core) (h : j ≠ k) : (s.updCore k f).core j = s.core j :=
  vupd_get_ne s.cores k j f h

@[simp] theorem State.updChan_port (s : State) (c : ChanId) (f : Chan → Chan) (p0 : PortId) : (s.updChan c f).port p0 = s.port p0 := rfl
@[simp] theorem State.updChan_core (s : State) (c : ChanId) (f : Chan → Chan) (k0 : CoreId) : (s.updChan c f).core k0 = s.core k0 := rfl
@[simp] theorem State.updPort_chan (s : State) (p : PortId) (f : Port → Port) (c0 : ChanId) : (s.updPort p f).chan c0 = s.chan c0 := rfl
@[simp] theorem State.updPort_core (s : State) (p : PortId) (f : Port → Port) (k0 : CoreId) : (s.updPort p f).core k0 = s.core k0 := rfl
@[simp] theorem State.updCore_chan (s : State) (k : CoreId) (f : Core → Core) (c0 : ChanId) : (s.updCore k f).chan c0 = s.chan c0 := rfl
@[simp] theorem State.updCore_port (s : State) (k : CoreId) (f : Core → Core) (p0 : PortId) : (s.updCore k f).port p0 = s.port p0 := rfl
@[simp] theorem State.updTarget_chan (s : State) (t : Target) (f : TargetUpd → TargetUpd) (c0 : ChanId) : (s.updTarget t f).chan c0 = s.chan c0 := rfl
@[simp] theorem State.updTarget_port (s : State) (t : Target) (f : TargetUpd → TargetUpd) (p0 : PortId) : (s.updTarget t f).port p0 = s.port p0 := rfl
@[simp] theorem State.updTarget_core (s : State) (t : Target) (f : TargetUpd → TargetUpd) (k0 : CoreId) : (s.updTarget t f).core k0 = s.core k0 := rfl
@[simp] theorem State.touchGranules_chan (s : State) (a n : Nat) (c0 : ChanId) : (s.touchGranules a n).chan c0 = s.chan c0 := rfl
@[simp] theorem State.touchGranules_port (s : State) (a n : Nat) (p0 : PortId) : (s.touchGranules a n).port p0 = s.port p0 := rfl
@[simp] theorem State.store_chan (s : State) (a : Nat) (bs : List Byte) (c0 : ChanId) : (s.store a bs).chan c0 = s.chan c0 := rfl
@[simp] theorem State.store_port (s : State) (a : Nat) (bs : List Byte) (p0 : PortId) : (s.store a bs).port p0 = s.port p0 := rfl
@[simp] theorem State.erase_chan (s : State) (a n : Nat) (c0 : ChanId) : (s.erase a n).chan c0 = s.chan c0 := rfl
@[simp] theorem State.erase_port (s : State) (a n : Nat) (p0 : PortId) : (s.erase a n).port p0 = s.port p0 := rfl
@[simp] theorem State.advanceTo_chan (s : State) (t : Nat) (c0 : ChanId) : (s.advanceTo t).chan c0 = s.chan c0 := rfl
@[simp] theorem State.advanceTo_port (s : State) (t : Nat) (p0 : PortId) : (s.advanceTo t).port p0 = s.port p0 := rfl
@[simp] theorem State.advanceTo_core (s : State) (t : Nat) (k0 : CoreId) : (s.advanceTo t).core k0 = s.core k0 := rfl
@[simp] theorem State.drawn_chan (s : State) (c0 : ChanId) : (s.drawn).chan c0 = s.chan c0 := rfl
@[simp] theorem State.drawn_port (s : State) (p0 : PortId) : (s.drawn).port p0 = s.port p0 := rfl
@[simp] theorem State.drawn_core (s : State) (k0 : CoreId) : (s.drawn).core k0 = s.core k0 := rfl
@[simp] theorem State.raise_chan (s : State) (e : Nat) (c0 : ChanId) : (s.raise e).chan c0 = s.chan c0 := rfl
@[simp] theorem State.raise_port (s : State) (e : Nat) (p0 : PortId) : (s.raise e).port p0 = s.port p0 := rfl
@[simp] theorem State.raise_core (s : State) (e : Nat) (k0 : CoreId) : (s.raise e).core k0 = s.core k0 := rfl
@[simp] theorem State.logRec_chan (s : State) (k : LogKind) (e c : Nat) (o : Origin) (b : List LogField) (c0 : ChanId) : (s.logRec k e c o b).chan c0 = s.chan c0 := rfl
@[simp] theorem State.logRec_port (s : State) (k : LogKind) (e c : Nat) (o : Origin) (b : List LogField) (p0 : PortId) : (s.logRec k e c o b).port p0 = s.port p0 := rfl
@[simp] theorem State.logRec_core (s : State) (k : LogKind) (e c : Nat) (o : Origin) (b : List LogField) (k0 : CoreId) : (s.logRec k e c o b).core k0 = s.core k0 := rfl
@[simp] theorem State.logMeas_chan (s : State) (k : LogKind) (b : List LogField) (c0 : ChanId) : (s.logMeas k b).chan c0 = s.chan c0 := rfl
@[simp] theorem State.logMeas_port (s : State) (k : LogKind) (b : List LogField) (p0 : PortId) : (s.logMeas k b).port p0 = s.port p0 := rfl
@[simp] theorem State.logMeas_core (s : State) (k : LogKind) (b : List LogField) (k0 : CoreId) : (s.logMeas k b).core k0 = s.core k0 := rfl

end Sys2Proof.Machine
end

