-- ==== Sys2Proof/Laws/Ops.lean ====
section
/-!
SUPPORT. What each shared operation of Machine/Ops.lean can do, said once: the fields it may write, and with what.
-/
namespace Sys2Proof.Machine

/-! ## Folds -/

/-- What every step of a fold keeps, the fold keeps. -/
theorem State.foldl_keeps {α β : Type} (g : State → β) (f : State → α → State) (h : ∀ s a, g (f s a) = g s) (l : List α) (s : State) :
    g (l.foldl f s) = g s := by
  induction l generalizing s with
  | nil => rfl
  | cons a l ih => rw [List.foldl_cons, ih, h]

/-- A property that every step of a fold keeps holds after it. -/
theorem State.foldl_inv {α : Type} (P : State → Prop) (f : State → α → State) (h : ∀ s a, P s → P (f s a)) (l : List α) (s : State)
    (hs : P s) : P (l.foldl f s) := by
  induction l generalizing s with
  | nil => exact hs
  | cons a l ih => exact ih _ (h s a hs)

/-! ## Events -/

/-- An event below 1,536 that is raised is pending; the others stay as they were (R531). -/
theorem State.raise_pending_bit (s : State) (e i : Nat) (h : e < 1536) :
    (s.raise e).isPending i = (s.isPending i || decide (i = e)) := by
  unfold State.isPending State.raise
  simp only [BitVec.getLsbD_or, BitVec.getLsbD_ofNat, Nat.testBit_two_pow]
  by_cases hi : i = e
  · subst hi
    simp [h]
  · have : ¬ e = i := fun x => hi x.symm
    simp [hi, this]

theorem State.raiseAll_eq (s : State) (es : List Nat) : s.raiseAll es = { s with ev := (s.raiseAll es).ev } := by
  unfold State.raiseAll
  induction es generalizing s with
  | nil => rfl
  | cons e es ih =>
    rw [List.foldl_cons, ih]
    rfl

theorem State.raiseIf_eq (s : State) (b : Bool) (e : Nat) : s.raiseIf b e = { s with ev := (s.raiseIf b e).ev } := by
  unfold State.raiseIf
  split <;> rfl

/-! ## The log -/

theorem State.logIt_eq (s : State) (k : LogKind) (e c : Nat) (b : List LogField) :
    s.logIt k e c b = { s with log := (s.logIt k e c b).log } := rfl

theorem State.logLimitedAs_eq (s : State) (limit src : Nat) (k : LogKind) (e c : Nat) (o : Origin) (b : List LogField) :
    s.logLimitedAs limit src k e c o b = { s with log := (s.logLimitedAs limit src k e c o b).log } := by
  unfold State.logLimitedAs
  dsimp only
  split <;> rfl

theorem State.logLimited_eq (s : State) (limit src : Nat) (k : LogKind) (e c : Nat) (b : List LogField) :
    s.logLimited limit src k e c b = { s with log := (s.logLimited limit src k e c b).log } :=
  s.logLimitedAs_eq limit src k e c s.origin b

/-- Raising an event and logging it writes EVENTS' pending bits and the log. -/
theorem State.raiseLog_eq (s : State) (e : Nat) (b : List LogField) :
    s.raiseLog e b = { s with ev := (s.raise e).ev, log := (s.raiseLog e b).log } := rfl

theorem State.raiseLog1_eq (s : State) (e key : Nat) (b : List LogField) :
    s.raiseLog1 e key b = { s with ev := (s.raise e).ev, log := (s.raiseLog1 e key b).log } := by
  unfold State.raiseLog1
  rw [State.logLimited_eq]
  rfl

/-! ## Mode -/

/-- A change of mode that R34 lists writes the mode, its cause and one record; any other changes nothing (R35). -/
theorem State.setMode_cases (s : State) (m : DevMode) (cause : Nat) :
    (s.dev.mode.mayBecome m = true ∧
      s.setMode m cause = { s with dev := { s.dev with mode := m, cause := cause }, log := (s.setMode m cause).log }) ∨
    (s.dev.mode.mayBecome m = false ∧ s.setMode m cause = s) := by
  unfold State.setMode
  dsimp only
  split
  · rename_i h
    exact .inl ⟨h, rfl⟩
  · rename_i h
    exact .inr ⟨by simpa using h, rfl⟩

/-! ## Channels -/

theorem State.dropPrefetch_eq (s : State) (c : ChanId) (f : Nat → Bool) :
    s.dropPrefetch c f = { s with ports := (s.dropPrefetch c f).ports } := rfl

@[simp] theorem Chan.entered_state (ch : Chan) (st : ChanState) (now : Nat) : (ch.entered st now).state = st := rfl

/-- A channel's record that enters a state changes in its state and its scrub pass. -/
theorem Chan.entered_eq (ch : Chan) (st : ChanState) (now : Nat) :
    ch.entered st now = { ch with state := st, scrub := (ch.entered st now).scrub } := rfl

/-- A fill that is cut off writes its channel, the engines' marks, EVENTS' pending bits and the log. -/
theorem State.fillAbort_eq (s : State) (c : ChanId) :
    s.fillAbort c = { s with chans := (s.fillAbort c).chans, hash := (s.fillAbort c).hash, ev := (s.fillAbort c).ev,
                             log := (s.fillAbort c).log } := rfl

theorem State.fillAbort_chan_ne (s : State) (c d : ChanId) (h : d ≠ c) : (s.fillAbort c).chan d = s.chan d :=
  State.chan_updChan_ne s d c (fun ch => { ch with fillNext := none }) h

@[simp] theorem State.fillAbort_chan_state (s : State) (c : ChanId) : ((s.fillAbort c).chan c).state = (s.chan c).state := by
  have h := State.chan_updChan s c fun ch => { ch with fillNext := none }
  exact (congrArg Chan.state h :)

/-- The copy of a channel's state writes memory and the reservations of its granule. -/
theorem State.copyState_eq (s : State) (c : ChanId) (st : ChanState) :
    s.copyState c st = { s with cores := (s.copyState c st).cores, mem := (s.copyState c st).mem } := rfl

theorem State.copyState_chans (s : State) (c : ChanId) (st : ChanState) : (s.copyState c st).chans = s.chans := rfl

/-- Entering a state writes channels, port buffers and the log, and where it cuts a fill off the engines' marks and an event. -/
theorem State.enterChan_eq (s : State) (c : ChanId) (st : ChanState) :
    s.enterChan c st =
      { s with chans := (s.enterChan c st).chans, ports := (s.enterChan c st).ports, log := (s.enterChan c st).log,
               ev := (s.enterChan c st).ev, hash := (s.enterChan c st).hash } := by
  unfold State.enterChan
  dsimp only
  split <;> split <;> rfl

theorem State.enterChan_chan_ne (s : State) (c d : ChanId) (st : ChanState) (h : d ≠ c) : (s.enterChan c st).chan d = s.chan d := by
  have hu := State.chan_updChan_ne s d c (fun ch => ch.entered st s.time) h
  unfold State.enterChan
  dsimp only
  split <;> split
  all_goals first
    | exact hu
    | exact (State.fillAbort_chan_ne _ c d h).trans hu

@[simp] theorem State.enterChan_chan_state (s : State) (c : ChanId) (st : ChanState) : ((s.enterChan c st).chan c).state = st := by
  have hs := congrArg Chan.state (State.chan_updChan s c fun ch => ch.entered st s.time)
  unfold State.enterChan
  dsimp only
  split <;> split
  all_goals first
    | exact hs
    | exact (State.fillAbort_chan_state _ c).trans hs

theorem State.setChan_cases (s : State) (c : ChanId) (st : ChanState) :
    s.setChan c st = s ∨ s.setChan c st = (s.enterChan c st).copyState c st := by
  unfold State.setChan
  dsimp only
  split
  · exact .inl rfl
  · exact .inr rfl

/-- A change of a channel's state writes channels, port buffers, the log, the copy in memory, and where it cuts a fill off the engines'
marks and an event; nothing where it is in that state or the freeze form holds it. -/
theorem State.setChan_eq (s : State) (c : ChanId) (st : ChanState) :
    s.setChan c st =
      { s with chans := (s.setChan c st).chans, ports := (s.setChan c st).ports, log := (s.setChan c st).log,
               ev := (s.setChan c st).ev, hash := (s.setChan c st).hash, cores := (s.setChan c st).cores, mem := (s.setChan c st).mem } := by
  rcases State.setChan_cases s c st with e | e
  · rw [e]
  · rw [e, State.copyState_eq, State.enterChan_eq]

/-- The other channels are as they were. -/
theorem State.setChan_chan_ne (s : State) (c d : ChanId) (st : ChanState) (h : d ≠ c) : (s.setChan c st).chan d = s.chan d := by
  rcases State.setChan_cases s c st with e | e
  · rw [e]
  · rw [e]
    exact State.enterChan_chan_ne s c d st h

/-- The channel's state afterwards: the new one, or as it was where the freeze form holds it. -/
theorem State.setChan_chan_state (s : State) (c : ChanId) (st : ChanState) :
    ((s.setChan c st).chan c).state = st ∨ s.setChan c st = s := by
  rcases State.setChan_cases s c st with e | e
  · exact .inr e
  · rw [e]
    exact .inl (State.enterChan_chan_state s c st)

/-! ## Memory -/

/-- A store of bytes and an erase keep the canonical form, and every byte outside the run reads as before. -/
theorem State.store_wf (s : State) (a : Nat) (bs : List Byte) (h : Memory.wf s.mem = true) : Memory.wf (s.store a bs).mem = true :=
  Memory.wf_write s.mem a bs h

theorem State.erase_wf (s : State) (a n : Nat) (h : Memory.wf s.mem = true) : Memory.wf (s.erase a n).mem = true :=
  Memory.wf_clear s.mem a n h

theorem State.store_byte_out (s : State) (a b : Nat) (bs : List Byte) (h : b < a ∨ a + bs.length ≤ b) :
    (s.store a bs).byte b = s.byte b := Memory.read_write_out s.mem a b bs h

/-- Entering a state leaves memory as it was. -/
theorem State.enterChan_mem (s : State) (c : ChanId) (st : ChanState) : (s.enterChan c st).mem = s.mem := by
  rw [State.enterChan_eq]

/-- A change of a channel's state keeps the memory's canonical form. -/
theorem State.setChan_wf (s : State) (c : ChanId) (st : ChanState) (h : Memory.wf s.mem = true) :
    Memory.wf (s.setChan c st).mem = true := by
  rcases State.setChan_cases s c st with e | e
  · rw [e]
    exact h
  · rw [e]
    refine State.store_wf _ _ _ ?_
    rw [State.enterChan_mem]
    exact h

/-- Every byte but the copy of the state in the descriptor reads as before. -/
theorem State.setChan_byte_out (s : State) (c : ChanId) (st : ChanState) (a : Nat)
    (h : a ≠ s.mir.chtBase.toNat + c.val * 0x100) : (s.setChan c st).byte a = s.byte a := by
  rcases State.setChan_cases s c st with e | e
  · rw [e]
  · rw [e, State.copyState, State.store_byte_out]
    · rw [State.byte, State.byte, State.enterChan_mem]
    · rw [State.enterChan_eq]
      have h1 : (leBytes 1 st.num).length = 1 := rfl
      rw [h1]
      show a < s.mir.chtBase.toNat + c.val * 0x100 ∨ s.mir.chtBase.toNat + c.val * 0x100 + 1 ≤ a
      omega

/-- The memory of reset has the canonical form: nothing is listed. -/
theorem State.reset_wf : Memory.wf State.reset.mem = true := rfl

end Sys2Proof.Machine
end

