-- ==== Sys2Proof/Laws/Access.lean ====
section
/-!
SUPPORT. What the operations that many commands share can do: register access by a half, requests and object writes, host commands,
refusals, Pakor frames.
-/
namespace Sys2Proof.Machine

/-! ## Bus errors and register access (R19, R30) -/

/-- A bus error writes its core's record, EVENTS' pending bits and the log. -/
theorem State.busError_eq (s : State) (k : CoreId) (addr : Nat) (c : Code) :
    s.busError k addr c =
      { s with cores := (s.busError k addr c).cores, ev := (s.busError k addr c).ev, log := (s.busError k addr c).log } := by
  unfold State.busError
  dsimp only
  rw [State.raiseLog1_eq]
  rfl

theorem State.busEnd_cases (s : State) (k : CoreId) (addr : Nat) (r : State × Code) :
    (r.2 = .ok ∧ s.busEnd k addr r = r.1) ∨ (r.2 ≠ .ok ∧ s.busEnd k addr r = s.busError k addr r.2) := by
  unfold State.busEnd
  split
  · exact .inl ⟨‹_›, rfl⟩
  · exact .inr ⟨‹_›, rfl⟩

/-- A half's access acts where the domain is on and the steward's rule lets it, and is a bus error of its core otherwise. -/
theorem State.halfBus_cases (s : State) (h : Half) (addr dom : Nat) (st : Bool) (f : State → State) :
    ((s.domOn dom = true ∧ (st = true → s.isSteward h = true)) ∧ s.halfBus h addr dom st f = f s) ∨
    ((s.domOn dom = false ∨ (st = true ∧ s.isSteward h = false)) ∧
      ∃ c, s.halfBus h addr dom st f = s.busError (halfCore h) addr c) := by
  unfold State.halfBus
  cases hd : s.domOn dom <;> cases st <;> cases hs : s.isSteward h <;> simp [Code.first, Code.rank]

theorem State.halfBus_acts (s : State) (h : Half) (addr dom : Nat) (st : Bool) (f : State → State) (hd : s.domOn dom = true)
    (hs : st = true → s.isSteward h = true) : s.halfBus h addr dom st f = f s := by
  rcases State.halfBus_cases s h addr dom st f with ⟨-, e⟩ | ⟨hn | ⟨h1, h2⟩, -⟩
  · exact e
  · rw [hd] at hn
    cases hn
  · rw [hs h1] at h2
    cases h2

/-! ## Requests and object writes (R11, R481, R503) -/

theorem State.asked_cases (s : State) (who : Requester) (f : State → State) :
    (s.answers who = true ∧ s.asked who f = f s) ∨ (s.answers who = false ∧ s.asked who f = s) := by
  unfold State.asked
  cases h : s.answers who
  · exact .inr ⟨rfl, rfl⟩
  · exact .inl ⟨rfl, rfl⟩

/-- An answer writes the last code and the count of refusals. -/
theorem State.answer_eq (s : State) (c : Code) : s.answer c = { s with rill := (s.answer c).rill } := rfl

@[simp] theorem State.answer_lastCode (s : State) (c : Code) : (s.answer c).rill.lastCode = c := rfl

/-- A refusal writes the log and the answer. -/
theorem State.refuse_eq (s : State) (op : ModeOp) (c : Code) :
    s.refuse op c = { s with log := (s.refuse op c).log, rill := (s.refuse op c).rill } := by
  unfold State.refuse
  split <;> rfl

@[simp] theorem State.refuse_lastCode (s : State) (op : ModeOp) (c : Code) : (s.refuse op c).rill.lastCode = c := rfl

/-- An object write does nothing where nothing answers, is refused with the first of its refusals, or acts and answers the act's code. -/
theorem State.objWrite_cases (s : State) (who : Requester) (op : ModeOp) (acc : Access) (p : Bool) (index sub : Nat)
    (c : Option ChanId) (own : List Code) (act : State → State × Code) :
    (s.answers who = false ∧ s.objWrite who op acc p index sub c own act = s) ∨
    (∃ code, Code.first (s.writeRefusals who acc p index sub c ++ own) = some code ∧
      s.objWrite who op acc p index sub c own act = s.refuse op code) ∨
    (Code.first (s.writeRefusals who acc p index sub c ++ own) = none ∧
      s.objWrite who op acc p index sub c own act = (act s).1.answer (act s).2) := by
  unfold State.objWrite State.asked
  split
  · cases h : Code.first (s.writeRefusals who acc p index sub c ++ own) with
    | some code => exact .inr (.inl ⟨code, rfl, by simp only [h]⟩)
    | none => exact .inr (.inr ⟨rfl, by simp only [h]⟩)
  · rename_i h
    exact .inl ⟨by simpa using h, rfl⟩

/-! ## Host commands (R77, R79, R82) -/

/-- A command's framing lets it act, ends a continuous read, or makes another command of it (R77). -/
theorem State.hostFrame_cases (s : State) (tx : HostTx) (noOpcode : Bool) (f : State → State) :
    ((s.chan tx.chan).contRead = true ∧ noOpcode = false ∧
      s.hostFrame tx noOpcode f = s.updChan tx.chan fun ch => { ch with contRead := false }) ∨
    s.hostFrame tx noOpcode f = s.misread tx ∨
    ((s.chan tx.chan).contRead = noOpcode ∧ tx.framing = (s.chan tx.chan).protocol ∧ s.hostFrame tx noOpcode f = f s) := by
  unfold State.hostFrame
  dsimp only
  split
  · rename_i h
    exact .inl ⟨h.1, by simpa using h.2, rfl⟩
  · rename_i h
    split
    · exact .inr (.inl rfl)
    · rename_i h2
      rw [not_or, not_not] at h2
      refine .inr (.inr ⟨?_, h2.2, rfl⟩)
      cases h3 : (s.chan tx.chan).contRead <;> cases noOpcode <;> simp_all

/-- A host command is ignored where the channel is not served or its port held in reset; else the clock is measured, and outside deep
power-down its framing decides. -/
theorem State.hostOp_cases (s : State) (tx : HostTx) (dpdOk noOpcode : Bool) (f : State → State) :
    (((s.chan tx.chan).state.served = false ∨ (s.port tx.port).hreset = true) ∧
      s.hostOp tx dpdOk noOpcode f = s.updPort tx.port fun p => { p with dq := [] }) ∨
    (((s.chan tx.chan).state.served = true ∧ (s.port tx.port).hreset = false) ∧
      (s.hostOp tx dpdOk noOpcode f = s.hostMeasure tx ∨
        s.hostOp tx dpdOk noOpcode f = (s.hostMeasure tx).hostFrame tx noOpcode f)) := by
  unfold State.hostOp
  split
  · rename_i h
    exact .inl ⟨by simpa using h, rfl⟩
  · rename_i h
    refine .inr ⟨by simpa using h, ?_⟩
    dsimp only
    split
    · exact .inl rfl
    · exact .inr rfl

/-- A state-changing command acts or counts a partial byte. -/
theorem State.stateCmd_eq (s : State) (tx : HostTx) (dpdOk : Bool) (f : State → State) :
    s.stateCmd tx dpdOk f = s.hostCmd tx dpdOk fun s => if tx.whole then f s else s.partialByte tx := rfl

/-! ## Pakor frames (R280-R282) -/

theorem State.quiet_eq (s : State) : s.quiet = { s with pak := s.quiet.pak, rill := s.quiet.rill } := rfl
theorem State.send_eq (s : State) (type dst : Nat) (body : List Byte) :
    s.send type dst body = { s with pak := (s.send type dst body).pak } := by
  have h : ∀ (ps : List (List Byte × Nat)) (n : Nat) (s : State), ∃ p : Pakor,
      ps.foldl (fun s x => s.sendFrame type dst (x.2 + 1 == n) x.1) s = { s with pak := p } := by
    intro ps n
    induction ps with
    | nil => exact fun s => ⟨s.pak, rfl⟩
    | cons x ps ih =>
      intro s
      obtain ⟨p, hp⟩ := ih (s.sendFrame type dst (x.2 + 1 == n) x.1)
      exact ⟨p, by rw [List.foldl_cons, hp]; rfl⟩
  obtain ⟨p, hp⟩ := h (framePieces 4096 body).zipIdx (framePieces 4096 body).length s
  show List.foldl _ _ _ = _
  unfold State.send
  dsimp only
  rw [hp]
theorem State.updLink_eq (s : State) (l : LinkId) (f : Link → Link) : s.updLink l f = { s with pak := (s.updLink l f).pak } := rfl

/-- A received frame is dropped, fails its tag, is ignored as a copy, acts, or is sent on. -/
theorem State.frame_cases (s : State) (f : FrameIn) (type : Nat) (payload : List Byte) (seq : Option Nat) (act : State → State) :
    (∃ t, t = s.quiet ∧ (s.frame f type payload seq act = t.dropFrame f.link ∨ s.frame f type payload seq act = t.tagFail f.link)) ∨
    ∃ t, t = s.quiet.updLink f.link (fun k => { k with rxCounter := k.rxCounter + 1 }) ∧
      (s.frame f type payload seq act = t ∨ s.frame f type payload seq act = act t.received ∨
        s.frame f type payload seq act = act ((t.noteSeq f seq).forward f type payload (LinkId.onward f.link)).received ∨
        s.frame f type payload seq act = t.forward f type payload (t.outLink f.dst)) := by
  unfold State.frame
  dsimp only
  split
  · exact .inl ⟨_, rfl, .inl rfl⟩
  · split
    · exact .inl ⟨_, rfl, .inr rfl⟩
    · refine .inr ⟨_, rfl, ?_⟩
      split
      · split
        · exact .inr (.inr (.inl rfl))
        · exact .inl rfl
      · split
        · exact .inr (.inl rfl)
        · exact .inr (.inr (.inr rfl))

end Sys2Proof.Machine
end

