-- ==== Sys2Proof/Laws/Brixxel.lean ====
section
/-!
SUPPORT. Laws of the Brixxel core: cells, pushes and drops, what stays when results land, and what the issue of an instruction can
do.
-/
namespace Sys2Proof.Machine

/-! ## Units -/

@[simp] theorem State.updCore_updCore (s : State) (k : CoreId) (f g : Core → Core) :
    (s.updCore k f).updCore k g = s.updCore k fun q => g (f q) := by
  simp [State.updCore, vupd]

/-- A change of one core is a new entry for it. -/
theorem State.updCore_eq (s : State) (k : CoreId) (f : Core → Core) :
    s.updCore k f = { s with cores := vset s.cores k (f (s.core k)) } := rfl

/-! ## The data stack -/

@[simp] theorem Core.setCell_depth (q : Core) (p : Nat) (v : Word) : (q.setCell p v).depth = q.depth := by
  unfold Core.setCell; split <;> rfl

theorem Core.setCell_eq (q : Core) (p : Nat) (v : Word) : q.setCell p v = { q with dstack := (q.setCell p v).dstack } := by
  unfold Core.setCell; split <;> rfl

theorem Core.cell_setCell (q : Core) (p i : Nat) (v : Word) (h : p < 64) :
    (q.setCell p v).cell i = if i = p then v else q.cell i := by
  unfold Core.setCell Core.cell
  simp only [h, dif_pos]
  by_cases hi : i < 64
  · simp only [hi, dif_pos, Vector.getElem_set, eq_comm]
  · have : i ≠ p := by omega
    simp [hi, this]

@[simp] theorem Core.push_depth (q : Core) (v : Word) : (q.push v).depth = q.depth + 1 := by
  simp [Core.push]

theorem Core.push_eq (q : Core) (v : Word) : q.push v = { q with dstack := (q.push v).dstack, depth := q.depth + 1 } := by
  unfold Core.push
  conv_lhs => rw [Core.setCell_eq]

@[simp] theorem Core.drop_depth (q : Core) (n : Nat) : (q.drop n).depth = q.depth - n := rfl

/-- What S_i is after a push, within the stack's size. -/
theorem Core.S_push (q : Core) (v : Word) (i : Nat) (h : q.depth < 64) (hi : i ≤ q.depth) :
    (q.push v).S i = if i = 0 then v else q.S (i - 1) := by
  have e : (q.push v).S i = (q.setCell q.depth v).cell (q.depth - i) := by
    simp only [Core.S, Core.push_depth]
    have : q.depth + 1 - 1 - i = q.depth - i := by omega
    rw [this]
    rfl
  rw [e, Core.cell_setCell _ _ _ _ h]
  by_cases h0 : i = 0
  · simp [h0]
  · have h1 : q.depth - i ≠ q.depth := by omega
    have h2 : q.depth - 1 - (i - 1) = q.depth - i := by omega
    simp [h0, h1, Core.S, h2]

theorem Core.S_drop (q : Core) (n i : Nat) : (q.drop n).S i = q.S (n + i) := by
  have : q.depth - n - 1 - i = q.depth - 1 - (n + i) := by omega
  simp only [Core.S, Core.drop_depth, this]
  rfl

/-! ## Landing -/

theorem Core.landOne_eq (q : Core) (p : Pend) : q.landOne p = { q with dstack := (q.landOne p).dstack, acc := (q.landOne p).acc } := by
  unfold Core.landOne
  split
  · split
    · conv_lhs => rw [Core.setCell_eq]
      unfold Core.setCell
      split <;> rfl
    · rfl
  · rfl

theorem Core.landFold_eq (l : List Pend) (q : Core) :
    l.foldl Core.landOne q = { q with dstack := (l.foldl Core.landOne q).dstack, acc := (l.foldl Core.landOne q).acc } := by
  induction l generalizing q with
  | nil => rfl
  | cons p l ih =>
    have h := Core.landOne_eq q p
    have hi := ih (q.landOne p)
    simp only [List.foldl_cons]
    rw [hi, h]

/-- Landing results changes cells, accumulators and the list of pending results alone. -/
theorem Core.landDue_eq (q : Core) :
    q.landDue = { q with dstack := q.landDue.dstack, acc := q.landDue.acc, pend := q.landDue.pend } := by
  unfold Core.landDue
  have h := Core.landFold_eq (q.pend.filter fun p => p.left == 0) q
  simp only
  rw [h]

theorem Core.landAll_eq (q : Core) : q.landAll = { q with dstack := q.landAll.dstack, acc := q.landAll.acc, pend := [] } := by
  unfold Core.landAll
  have h := Core.landFold_eq ((List.range 4).flatMap fun i => q.pend.filter fun p => p.left == i) q
  simp only
  rw [h]

/-- Settling a link changes the return stack's entries alone, given that an entry was pushed. -/
theorem Core.settleLink_eq (q : Core) (long : Bool) :
    q.settleLink long = { q with rstack := (q.settleLink long).rstack, rdepth := (q.settleLink long).rdepth } := by
  unfold Core.settleLink
  split
  · split <;> rfl
  · rfl

theorem Core.settleLink_rdepth (q : Core) (long : Bool) (h : q.rdepth ≤ 32) : (q.settleLink long).rdepth ≤ 32 := by
  unfold Core.settleLink
  split
  · split
    · simp only [Core.rpush, Core.rdrop]
      omega
    · exact h
  · exact h

/-- The core that an instruction finds differs from the core before it in cells, accumulators, pending results and the settled return
entry; its stacks' limits and data depth are the same, and it waits no more. -/
theorem State.found_eq (s : State) (k : CoreId) (long : Bool) :
    s.found k long =
      { s.core k with waiting := false, dstack := (s.found k long).dstack, acc := (s.found k long).acc, pend := (s.found k long).pend,
                      rstack := (s.found k long).rstack, rdepth := (s.found k long).rdepth } := by
  unfold State.found
  have h1 := Core.settleLink_eq ({ s.core k with waiting := false }.landDue) long
  have h2 := Core.landDue_eq { s.core k with waiting := false }
  rw [h1, h2]

theorem State.found_sized (s : State) (k : CoreId) (long : Bool) (h : (s.core k).sized = true) : (s.found k long).sized = true := by
  have he := State.found_eq s k long
  have hr : (s.found k long).rdepth ≤ 32 := by
    unfold State.found
    apply Core.settleLink_rdepth
    rw [Core.landDue_eq]
    simp only [Core.sized, Bool.and_eq_true, decide_eq_true_eq] at h
    exact h.1.1.2
  simp only [Core.sized, Bool.and_eq_true, decide_eq_true_eq] at h ⊢
  rw [he]
  exact ⟨⟨⟨h.1.1.1, hr⟩, h.1.2⟩, h.2⟩

/-! ## Issue -/

/-- What `executes` says is that no cause of R471 applies. -/
theorem BOp.cause_none (s : State) (k : CoreId) (o : BOp)
    (h : s.executes k o.isLong o.need o.pops o.pushes o.rneed o.rpushes o.control o.sup = true) :
    o.cause (s.found k o.isLong) false false = none := by
  simp only [State.executes, Bool.and_eq_true, Bool.or_eq_true, decide_eq_true_eq, Bool.not_eq_true', Bool.and_eq_false_iff] at h
  obtain ⟨⟨⟨⟨⟨⟨⟨⟨⟨-, -⟩, h1⟩, h2⟩, h3⟩, h4⟩, h5⟩, h6⟩, h7⟩, h8⟩ := h
  simp only [BOp.cause, h1, Bool.true_and]
  have e2 : (!o.isLong || (s.found k o.isLong).right ((s.found k o.isLong).pc + 2).toNat 2) = true := by
    rcases h2 with h2 | h2
    · simp [h2]
    · rw [h2, Bool.or_true]
  have e3 : (o.control && (s.found k o.isLong).slot.isSome) = false := by
    rcases h3 with h3 | h3 <;> simp [h3]
  have e4 : (o.sup && (s.found k o.isLong).ext) = false := by
    rcases h4 with h4 | h4 <;> simp [h4]
  have e5 : ¬ (s.found k o.isLong).depth < o.need := by omega
  have e7 : ¬ (s.found k o.isLong).rdepth < o.rneed := by omega
  have e6 : (decide (o.pops < o.pushes) && decide ((s.found k o.isLong).dmax < (s.found k o.isLong).depth - o.pops + o.pushes)) = false := by
    rcases h6 with h6 | h6
    · have : ¬ o.pops < o.pushes := by omega
      simp [this]
    · have : ¬ (s.found k o.isLong).dmax < (s.found k o.isLong).depth - o.pops + o.pushes := by omega
      simp [this]
  have e8 : (decide (0 < o.rpushes) && decide ((s.found k o.isLong).rmax < (s.found k o.isLong).rdepth + o.rpushes)) = false := by
    rcases h8 with h8 | h8
    · simp [h8]
    · have : ¬ (s.found k o.isLong).rmax < (s.found k o.isLong).rdepth + o.rpushes := by omega
      simp [this]
  simp only [e2, e3, e4, e5, e6, e7, e8, Bool.not_true, Bool.false_eq_true, if_false]

/-- An instruction that the core executes runs its act on the core past it. -/
theorem State.issue_executes (s : State) (k : CoreId) (o : BOp) (addr : Core → Word) (align data : Core → Bool)
    (act : Core → State → Host.Outcome State Fault Refusal)
    (h : s.executes k o.isLong o.need o.pops o.pushes o.rneed o.rpushes o.control o.sup = true)
    (ha : align (s.found k o.isLong) = false) (hd : data (s.found k o.isLong) = false) :
    s.issue k o addr align data act = act (s.found k o.isLong) (s.updCore k fun _ => (s.found k o.isLong).advance o) := by
  have hc := BOp.cause_none s k o h
  simp only [State.executes, Bool.and_eq_true, Bool.not_eq_true'] at h
  have hr : (!(s.core k).runs || s.stalls k) = false := by simp [h.1.1.1.1.1.1.1.1.1, h.1.1.1.1.1.1.1.1.2]
  have hq : (s.core k).atIssue o = s.found k o.isLong := rfl
  simp only [State.issue, hr, Bool.false_eq_true, if_false, hq, ha, hd, hc]

/-- An instruction that works on its core's registers alone, where the core executes it. -/
theorem State.plain_executes (s : State) (k : CoreId) (o : BOp) (f : Core → Core)
    (h : s.executes k o.isLong o.need o.pops o.pushes o.rneed o.rpushes o.control o.sup = true) :
    s.plain k o f = .next (s.updCore k fun _ => f ((s.found k o.isLong).advance o)) := by
  rw [State.plain, State.issue_executes s k o _ _ _ _ h rfl rfl]
  simp

/-- An instruction for which a cause of R471 applies traps. -/
theorem State.issue_traps (s : State) (k : CoreId) (o : BOp) (addr : Core → Word) (align data : Core → Bool)
    (act : Core → State → Host.Outcome State Fault Refusal) (c : Cause) (hr : (s.core k).runs = true) (hw : s.stalls k = false)
    (hc : o.cause (s.found k o.isLong) (align (s.found k o.isLong)) (data (s.found k o.isLong)) = some c) :
    s.issue k o addr align data act =
      .next ((s.updCore k fun _ => s.found k o.isLong).trap k (trapOf o c (s.found k o.isLong) (addr (s.found k o.isLong)))) := by
  have hq : (s.core k).atIssue o = s.found k o.isLong := rfl
  simp [State.issue, hr, hw, hq, hc]

/-- The core past an instruction differs from the one that found it in the pc, the slot and the pending results alone. -/
theorem Core.advance_eq (q : Core) (o : BOp) :
    q.advance o = { q with pc := q.following o.len, slot := none, pend := q.pend.map Pend.nearer } := rfl

end Sys2Proof.Machine
end

