-- ==== Sys2Proof/Machine/Codeword.lean ====
section
/-!
DEFINITION. What stands on the Cistern's NAND itself (R245): codewords, unit headers, BCH parity and the nonces of their seals, all of
which the state determines from the content, the erase sequences and the key. State holds the content in plaintext; no access of the
block shows a codeword.
-/
namespace Sys2Proof.Machine

/-! ## GF(2^15) and the BCH code (R245) -/

/-- Multiplication by x in GF(2^15) with x^15 + x + 1. -/
def bchX (a : Nat) : Nat := if a.testBit 14 then ((a * 2) % 2 ^ 15) ^^^ 3 else a * 2

/-- The product, over `n` bits of the second factor. -/
def bchMulN : Nat → Nat → Nat → Nat
  | 0, _, _ => 0
  | n + 1, a, b => (if b.testBit 0 then a else 0) ^^^ bchMulN n (bchX a) (b / 2)

/-- The product. -/
def bchMul (a b : Nat) : Nat := bchMulN 15 a b

/-- The `i`th power of the primitive element. -/
def bchPow : Nat → Nat
  | 0 => 1
  | i + 1 => bchX (bchPow i)

/-- The conjugates of an element: its squares, `n` of them. -/
def conjugates : Nat → Nat → List Nat
  | 0, _ => []
  | n + 1, a => a :: conjugates n (bchMul a a)

/-- A polynomial over the field, lowest coefficient first, times X + r. -/
def timesRoot (p : List Nat) (r : Nat) : List Nat := List.zipWith (fun a b => a ^^^ b) (0 :: p) (p.map (bchMul r) ++ [0])

/-- The minimal polynomial of the `i`th power, its coefficients the bits of a number. -/
def minimalPoly (i : Nat) : Nat := ((conjugates 15 (bchPow i)).foldl timesRoot [1]).foldr (fun a n => 2 * n + a % 2) 0

/-- The product of two polynomials over GF(2), `n` bits of the second. -/
def polyMul : Nat → Nat → Nat → Nat
  | 0, _, _ => 0
  | n + 1, a, b => (if b.testBit 0 then a else 0) ^^^ polyMul n (2 * a) (b / 2)

/-- The generator of the code that corrects 120 bits: the minimal polynomials of the odd powers below 240. -/
def bchGenerator : Nat := (List.range 120).foldl (fun g i => polyMul 16 g (minimalPoly (2 * i + 1))) 1

/-- The bits of parity. -/
def bchBits : Nat := 1800

/-- The remainder of a polynomial, its bits the highest first, after shifting it by the bits of parity. -/
def bchRemainder (g : Nat) (bits : List Bool) : Nat :=
  bits.foldl (fun r b =>
    let top := r.testBit (bchBits - 1) != b
    let r := (r * 2) % 2 ^ bchBits
    if top then r ^^^ (g % 2 ^ bchBits) else r) 0

/-- The 225 bytes of parity over the first bytes of a codeword; bits stand from bit 7 of a byte down (DESIGN CHOICE, log entry 154). -/
def bchParity (bs : List Byte) : List Byte :=
  beBytes 225 (bchRemainder bchGenerator (bs.flatMap fun b => (List.range 8).map fun i => b.getLsbD (7 - i)))

/-! ## Codewords (R245) -/

/-- The catalogue entry that has a unit at a place, and the unit's number within it. -/
def State.unitOwner (s : State) (t u : Nat) : Option (CatEntry × Nat) :=
  s.cis.catalogue.findSome? fun e => (e.unitAt t u).map fun n => (e, n)

/-- The 2,048 bytes of a unit: of the entry that it belongs to, else of the page as programmed. -/
def State.unitPlain (s : State) (t row word : Nat) : List Byte :=
  match s.unitOwner t (row * 8 + word) with
  | some x => let d := (x.1.container.drop (x.2 * 2048)).take 2048; d ++ List.replicate (2048 - d.length) 0
  | none => ((padPage (s.pageData t row)).drop (word * 2048)).take 2048

/-- The unit header: owner's catalogue handle, unit number, erase sequence, reserved. -/
def State.unitHeader (s : State) (t row word : Nat) : List Byte :=
  let x := s.unitOwner t (row * 8 + word)
  leBytes 4 ((x.map fun y => y.1.handle).getD 0) ++ leBytes 4 ((x.map fun y => y.2).getD 0) ++ leBytes 4 (s.blockSeq t row) ++ leBytes 4 0

/-- The nonce of a unit's seal: 0x04, target, row, codeword, the block's erase sequence. -/
def State.unitNonce (s : State) (t row word : Nat) : List Byte :=
  0x04 :: (leBytes 1 t ++ leBytes 4 row ++ leBytes 1 word ++ leBytes 5 (s.blockSeq t row))

/-- A codeword of 2,305 bytes: sealed data, tag, header, parity over the 2,080 bytes before it. -/
def State.codeword (s : State) (t row word : Nat) : List Byte :=
  let h := s.unitHeader t row word
  let x := gcmSealWith h (s.kslot (handleSlot s.cis.key)).bytes (s.unitNonce t row word) (s.unitPlain t row word)
  let b := x.1 ++ x.2 ++ h
  b ++ bchParity b

/-- A written page of a part with `spare` bytes of spare area: eight codewords, then 0xFF. -/
def State.nandPage (s : State) (t row spare : Nat) : List Byte :=
  let b := (List.range 8).flatMap (s.codeword t row)
  b ++ List.replicate (16384 + spare - b.length) 0xFF

end Sys2Proof.Machine
end

