-- ==== Sys2Proof/Machine/Frames.lean ====
section
/-!
DEFINITION. What a Pakor link carries (R279, R281): the bytes of a frame, its seal and its CRC, which the state determines from the
frame, the link's key and its counter. State keeps the frames sent with their payloads in plaintext.
-/
namespace Sys2Proof.Machine

/-- The types of link set-up, the only ones that go unsealed (R279, R280). -/
def setupType (type : Nat) : Bool := decide (type ≤ 3)

/-- Bytes 0x00 to 0x0F of a frame, the additional data of its seal (R279). -/
def frameHeader (f : FrameOut) (counter : Nat) : List Byte :=
  leBytes 1 f.type ++ leBytes 1 (b2n (! setupType f.type) + 2 * b2n f.last) ++ leBytes 1 f.src ++ leBytes 1 f.dst
  ++ leBytes 2 f.payload.length ++ leBytes 1 f.hops ++ leBytes 1 0 ++ leBytes 8 counter

/-- The nonce of a frame sent on a link (R281): 0x05, the direction, zeros, the counter. -/
def State.frameNonce (s : State) (l : LinkId) (counter : Nat) : List Byte :=
  [0x05, if s.devNumber < (s.link l).peer then 0 else 1, 0, 0] ++ leBytes 8 counter

/-- The bytes of a frame on a link under a counter: header, payload (sealed with its tag, but in link set-up), CRC-32C (R278, R279). -/
def State.frameBytes (s : State) (l : LinkId) (counter : Nat) (f : FrameOut) : List Byte :=
  let h := frameHeader f counter
  let b := if setupType f.type then h ++ f.payload
    else
      let x := gcmSealWith h (s.kslot (handleSlot (s.link l).keyTx)).bytes (s.frameNonce l counter) f.payload
      h ++ x.1 ++ x.2
  b ++ leBytes 4 (crc32c b).toNat

end Sys2Proof.Machine
end

