-- ==== Sys2Proof/Machine/Sealing.lean ====
section
/-!
DEFINITION. What stands in mirror DRAM itself (R111, R115, R116): the sealed sectors, their tags and the counter lines, all of which
the state determines from the content, the versions and epochs it was sealed under, and the keys. State holds the content in
plaintext; no access of the block shows a sealed byte, a tag or a counter line.
-/
namespace Sys2Proof.Machine

/-! ## Nonces (R115), their fields little-endian (R5) -/

/-- The nonce of a protected sector: 0x01, the sector index, the page version, the line epoch. -/
def sectorNonce (sector version epoch : Nat) : List Byte := 0x01 :: (leBytes 4 sector ++ leBytes 3 version ++ leBytes 4 epoch)

/-- The nonce of a counter line: 0x02, the line index, zeros, the line epoch. -/
def lineNonce (line epoch : Nat) : List Byte := 0x02 :: (leBytes 4 line ++ leBytes 3 0 ++ leBytes 4 epoch)

/-- The nonce of a staging sector: 0x03, the sector index, the 56-bit write counter. -/
def stagingNonce (sector counter : Nat) : List Byte :=
  0x03 :: (leBytes 4 sector ++ leBytes 3 (counter / 2 ^ 32) ++ leBytes 4 counter)

/-! ## Counter lines (R116) -/

/-- Bytes 0 to 239 of a counter line: 64 page versions of 24 bits, little-endian, then zeros. -/
def State.counterLine (s : State) (line : Nat) : List Byte :=
  ((List.range 64).flatMap fun i => leBytes 3 (s.pageVersion (64 * line + i))) ++ List.replicate 48 0

/-- The key that a handle names. -/
def State.mirrorKey (s : State) (hd : Word) : List Byte := (s.kslot (handleSlot hd)).bytes

/-- A counter line as DRAM holds it: bytes 0 to 239 sealed, the tag in bytes 240 to 255. -/
def State.sealedLine (s : State) (line : Nat) : List Byte :=
  let x := gcmSeal (s.mirrorKey (s.lineKey line)) (lineNonce line (s.lineEpoch line)) (s.counterLine line)
  x.1 ++ x.2

/-! ## Sectors (R115) -/

/-- The plaintext of a sector. -/
def State.sectorPlain (s : State) (sector : Nat) : List Byte := s.bytes (dramBase + sector * 512) 512

/-- A sector as DRAM holds it, and its tag: none before the first write since training. -/
def State.sealedSector (s : State) (sector : Nat) : Option (List Byte × List Byte) :=
  if sector * 512 < s.mir.protectedMib * mib then
    (s.sealOf (sector / 8)).map fun x =>
      gcmSeal (s.mirrorKey x.key) (sectorNonce sector x.version x.epoch) (s.sectorPlain sector)
  else
    (s.mir.stageSeals.find? fun x => x.1 == sector).map fun x =>
      gcmSeal (s.mirrorKey s.mir.keyStage) (stagingNonce sector x.2) (s.sectorPlain sector)

/-! ## The layout (R111) -/

/-- The end of the tag region: 16 bytes for each sector of the data area. -/
def Mirror.tagEnd (m : Mirror) : Nat := m.stagingEndMib * mib + m.stagingEndMib * mib / 512 * 16

/-- The end of the counter region: a line of 256 bytes for each 256 KiB of protected space. -/
def Mirror.counterEnd (m : Mirror) : Nat := m.tagEnd + m.protectedMib * 4 * 256

/-- The bytes that DRAM holds from an offset's 512-byte sector, 16-byte tag or 256-byte line; none where nothing has been sealed, and in
the unused tail. -/
def State.dramUnit (s : State) (o : Nat) : Option (List Byte) :=
  let data := s.mir.stagingEndMib * mib
  if o < data then (s.sealedSector (o / 512)).map fun x => x.1
  else if o < s.mir.tagEnd then (s.sealedSector ((o - data) / 16)).map fun x => x.2
  else if o < s.mir.counterEnd then (if s.mir.ready then some (s.sealedLine ((o - s.mir.tagEnd) / 256)) else none)
  else none

end Sys2Proof.Machine
end

