-- ==== Sys2Proof/Tests/Slice0.lean ====
section
/-!
SUPPORT. The model's own tests: well-formedness refuses what its checks name, worked examples of spec/ come out, and for each statement
with hypotheses a state and operands that meet them.
-/
namespace Sys2Proof.Tests
set_option Elab.async false
open Machine

/-! ## Small states -/

/-- A device that runs mission firmware in GUARD: everything powered, Indigo steward, every core released. -/
def live : State :=
  { State.reset with
    time := 1000000
    dev := { Device.reset with mode := .guard, cause := 4 }
    hg := { Headgate.reset with steward := some .indigo, claims := ⟨.steward, .shadow⟩, planRun := true, puen := true, puenSettled := true }
    pw := { PwrClk.reset with domOn := BitVec.allOnes 39, rootLock := true }
    boot := { Boot.reset with phase := .running, slot := 0 }
    cores := Vector.replicate 12 { Core.reset with released := true } }

/-- `live` with channel 0 as given. -/
def chan0 (f : Chan → Chan) : State := live.updChan 0 f

/-- `live` with port 0 as given. -/
def port0 (f : Port → Port) : State := live.updPort 0 f

/-- `live` with core 0 as given. -/
def core0 (f : Core → Core) : State := live.updCore 0 f

/-- A whole host transaction on chip select 0 of port 0 at 50 MHz. -/
def tx0 : HostTx := ⟨0, 0, 20000, true, .p1S, false⟩

/-- A board management controller on the I3C bus. -/
def bmc : Requester := ⟨0x10, true⟩

/-! ## Host reads and the emulated state -/

def served : State :=
  let s := chan0 fun c => { c with state := .released, desc := { c.desc with leafCount := 1, mirrorExtent := 4096 } }
  ({ s with mir := { s.mir with ready := true } }).sealPage 0

def read0 : HostReadOp := ⟨tx0, 0, false, false, 0, 4, 0, none, false, false⟩

theorem test_witness_host_reads :
    (served.chan 0).state.served = true ∧ (served.port 0).hreset = false ∧ (served.chan 0).dpd = false ∧
    (served.chan 0).contRead = read0.noOpcode ∧ tx0.framing = (served.chan 0).protocol ∧
    (served.servingChan 0).readListed .read false read0.fourByte (served.port 0).hostIo = true ∧ served.extends_ 0 .read = false ∧
    read0.fault = none ∧ read0.linkEcc = false ∧ read0.pinEcc = false ∧
    (served.dramLeaves 0 (served.servingChan 0) read0).all (fun l => ! served.leafFails (served.servingChan 0) l) = true ∧
    (served.servingChan 0).readListed .octalDtr false read0.fourByte (served.port 0).hostIo = false ∧
    fastKind (served.chan 0).protocol = some .fast111 ∧ (served.chan 0).contRead ≠ { read0 with noOpcode := true }.noOpcode := by
  decide +kernel

theorem test_witness_unserved_read : (live.chan 0).state.served = false ∧ (live.chan 0).dpd = false := by decide +kernel

theorem test_witness_prefetch :
    (let s := served.updPort 0 fun p => { p with fetchDue := some ⟨0, 0⟩ }
     (s.port tx0.port).fetchDue = some ⟨tx0.chan, 0⟩ ∧ (s.chan 0).state.served = true ∧ (s.chan 0).faulted.contains 0 = false ∧
     (s.chan 0).lost.contains 0 = false ∧ s.leafFails (s.chan 0) 0 = false) := by decide +kernel

theorem test_witness_held_read :
    ((port0 fun p => { p with held := some ⟨read0, .read, 0, 1000, 0⟩ }).port 0).held = some ⟨read0, .read, 0, 1000, 0⟩ ∧
    read0.tx.port = tx0.port := by decide +kernel

theorem test_witness_emulated_state :
    (served.chan 0).state.served = true ∧ (served.port 0).hreset = false ∧ (served.chan 0).contRead = false ∧
    tx0.framing = (served.chan 0).protocol ∧ tx0.whole = true ∧ (served.chan 0).dpd = false ∧
    (let ch := (chan0 fun c => { c with state := .released, wel := true }).chan 0
     ch.gated = false ∧ ch.wel = true ∧ ch.wpBlocks tx0 ⟨[], none, some 8, none, none, false⟩ = false ∧
     ch.wpBlocks tx0 ⟨[], none, none, none, none, false⟩ = false) ∧
    ((chan0 fun c => { c with state := .released, resetArmed := true }).chan 0).resetArmed = true := by decide +kernel
/-! ## Table, probing, mirror, Weir, updates -/

def enabled (t : State) (f : Chan → Chan) : State := t.updChan 0 fun c => f { c with desc := { c.desc with enable := true, leafCount := 1, mirrorExtent := 4096 } }

theorem test_witness_channel_table :
    live.domOn 23 = true ∧ live.isSteward .indigo = true ∧ (∀ c : ChanId, (live.chan c).state = .absent) ∧ live.mir.invals.length < 8 ∧
    ¬ (∀ c : ChanId, (served.chan c).state = .absent) ∧
    (let s := { live with mir := { live.mir with invals := [⟨0, 0⟩] } }
     s.nextInval = some ⟨0, 0⟩ ∧ (∀ c : ChanId, (s.target (.chan c)).invalDue = false ∧ (s.target (.chan c)).edit = none ∧ (s.target (.chan c)).editsDue = []) ∧ s.invalFailure 0 0 = some (1, .badRange)) := by
  decide +kernel

/-- A descriptor of generation 1 in the table, its channel disabled. -/
def table1 : State := { live with mir := { live.mir with invals := [⟨0, 1⟩] } }.store 0x11000000
  [0x00, 0x00, 1, 0, 0, 3, 4, 0, 0, 0, 0, 0, 0xFF]

theorem test_witness_reload :
    (let st : Staged := ⟨Desc.none, [], 7, 0, none⟩
     let s := chan0 fun c => { c with staged := some st }
     (s.chan 0).staged = some st ∧ s.inFlight 0 = false ∧ st.genAfter.getD (descOf (s.descBytes 0)).gen ≠ st.gen ∧
     (s.updPort 0 fun p => { p with held := some ⟨read0, .read, 0, 0, 0⟩ }).inFlight 0 = true) ∧
    (let st : Staged := ⟨Desc.none, [], 0, 0, none⟩
     let s := chan0 fun c => { c with staged := some st }
     s.inFlight 0 = false ∧ st.genAfter.getD (descOf (s.descBytes 0)).gen = st.gen ∧ (s.target (.chan 0)).state ≠ 5) := by decide +kernel

theorem test_witness_probing :
    (let s := chan0 fun c => { c with state := .probing, probe := some ⟨1, 8, .m111, .c25⟩ }
     (s.chan 0).probe = some ⟨1, 8, .m111, .c25⟩ ∧ s.probeTurn 0 = true ∧ s.higherWaits 0 3 = false ∧ (s.chan 0).gaveUp = false ∧ (s.chan 0).cal.cause = 0 ∧ s.dev.form ≠ .freeze) ∧
    (let s := chan0 fun c => { c with probe := some ⟨2, 8, .m111, .c25⟩, cal := { c.cal with cause := 3 } }
     (s.chan 0).cal.cause ≠ 0 ∧ (s.chan 0).cal.cause ≠ 4) ∧
    (let s := chan0 fun c => { c with cal := { c.cal with valid := true } }
     s.dev.mode = .guard ∧ (s.chan 0).cal.valid = true ∧ s.flashIdle 0 = true ∧ 7 < (s.chan 0).clk.minWindow ∧ (s.chan 0).clk.minWindow ≤ 8) ∧
    live.domOn 15 = true ∧ live.domOn 16 = true := by decide +kernel

theorem test_witness_mirror_fills :
    live.mir.training = none ∧ (live.chan 0).state ≠ .quarantined ∧ ((chan0 fun c => { c with state := .quarantined }).chan 0).state = .quarantined ∧
    live.mir.pinLoad = none ∧ (live.chan 0).leafSealed 65535 = false ∧ (served.chan 0).leafSealed 0 = true ∧
    (let s := enabled { live with mir := { live.mir with ready := true } } fun c => { c with state := .filling, fillNext := some 0 }
     (s.chan 0).state = .filling ∧ s.mir.ready = true ∧ 0 < (s.chan 0).desc.leafCount ∧ s.rangeFree 0 0 4096 = true) ∧
    0 < ((some 1 : Option Nat).getD 0) := by decide +kernel

theorem test_witness_reseal :
    (let s := { live with mir := { live.mir with reseal := some 0, keyNext := 1, ready := true } }
     s.mir.keyNext ≠ 0 ∧ 0 < s.mir.lines ∧ ∀ d : ChanId, s.opIn d .timed = none) ∧
    ({ live with mir := { live.mir with reseal := some 99999999 } }).mir.lines ≤ 99999999 := by decide +kernel

theorem test_witness_mirror_repairs :
    (let s := enabled live fun c => { c with state := .released, faulted := [0] }
     (s.chan 0).faulted.contains 0 = true ∧ (s.chan 0).lost.contains 0 = false ∧ s.refillSource 0 0 .flash = true ∧
     s.rangeFree 0 0 4096 = true ∧ s.faultLeaves 0 ⟨.line, 0⟩ = [0] ∧ s.faultLeaves 0 ⟨.line, 1⟩ = []) ∧
    (let s := enabled live fun c => { c with state := .released, scrub := some ⟨0, 5, true, false⟩ }
     s.scrubbing 0 = true ∧ 0 < (s.chan 0).desc.leafCount ∧ (s.leafRegion 0 0).byDigest = true) ∧
    live.domOn 23 = true ∧ live.isSteward .indigo = true ∧ live.dev.form ≠ .freeze := by decide +kernel

/-- A program of channel 0 in flight. -/
def op0 (ph : WeirPhase) (cls : WeirClass) : WeirOp :=
  ⟨.program, 2, 0, 256, [0], cls, ph, 0, 4000, 0, false, 0, false, 0, none, false, false, false, false⟩

theorem test_witness_weir_accepts :
    (let s := enabled live fun c => { c with state := .released, wel := true }
     let ch := s.chan 0
     ch.state.served = true ∧ (s.port 0).hreset = false ∧ ch.dpd = false ∧ tx0.whole = true ∧ ch.staged = none ∧
     (s.target (.chan 0)).stream = 0 ∧ s.opensStream 0 .program [0] = false ∧ ch.contRead = false ∧ tx0.framing = ch.protocol ∧ (! fourByteOp 2 || ch.has4) = true ∧
     (! fourByteOp 0x12 || ch.has4) = false ∧ (∀ c : ChanId, (s.chan c).fits = true) ∧ ch.actsOn .program [0] = true ∧
     (s.weirJudge 0 .program [0]).cls = .refused ∧ (s.weirJudge 0 .chip [0]).cls = .refused) ∧
    (let s := enabled live fun c => { c with state := .released, wel := true, desc := { c.desc with defaultClass := 2, leafCount := 1, mirrorExtent := 4096 } }
     (s.weirJudge 0 .program [0]).cls = .shadowed ∧ s.rangeFree 0 0 256 = true) ∧
    (served.chan 0).actsOn .program [0] = false := by decide +kernel

theorem test_witness_weir_runs :
    (let s := chan0 fun c => { c with op := some (op0 .timed .refused) }
     s.opIn 0 .timed = some (op0 .timed .refused) ∧ (op0 .timed .refused).hostSusp = false) ∧
    (let s := chan0 fun c => { c with op := some (op0 .waitFlash .journaled) }
     s.waitingOrder 0 = some 0 ∧ s.dev.freeze = false ∧ s.waitingOrder (ChanId.sibling 0) = none) ∧
    (let s := chan0 fun c => { c with op := some (op0 .running .journaled) }
     s.opIn 0 .running = some (op0 .running .journaled) ∧ (op0 .running .journaled).executes = true ∧ (op0 .running .journaled).timedOut = false ∧
     (op0 .running .journaled).suspendable = true) ∧
    (let s := chan0 fun c => { c with op := some (op0 .readback .journaled) }
     s.opIn 0 .readback = some (op0 .readback .journaled) ∧ s.rangeFree 0 0 256 = true) ∧
    (let s := chan0 fun c => { c with mutCount := 1 }
     (s.chan 0).mutCount ≠ 0 ∧ (s.chan 0).staged = none ∧ s.hg.steward.isSome = true) := by decide +kernel

/-- An open energy gate: an estimate of 1 s. -/
def gated : State := { live with ms := { live.ms with valid := true, holdupMs := 1000 } }

/-- `gated` with the update of a target as given. -/
def update0 (t : Target) (f : TargetUpd → TargetUpd) : State := gated.updTarget t f

theorem test_witness_update_steps :
    gated.mayStart (.journal (JRec.of .commit 0)) = true ∧ live.mayStart (.journal (JRec.of .commit 0)) = false ∧
    (let s := update0 (.chan 0) fun u => { u with state := 4, landing := some 0 }
     (s.target (.chan 0)).landing = some 0 ∧ (s.target (.chan 0)).state = 4 ∧ s.commitWaits (.chan 0) = false ∧
     (s.target (.chan 0)).commit = 0 ∧ s.mayAbandon (.chan 0) = true) ∧
    (let s := update0 (.chan 0) fun u => { u with state := 7 }
     (s.target (.chan 0)).state = 7 ∧ s.recWaits (.chan 0) .retired = false ∧ (s.target (.chan 0)).supersedes = 0) := by decide +kernel

theorem test_witness_verification_stage :
    (let v : Verification := ⟨.chan 0, .update, 0, List.replicate 8 0, 6, none, [], none, none⟩
     let s := { live with upd := { live.upd with vers := ⟨[v], []⟩ } }
     s.verOf .indigo (.chan 0) = some v ∧ v.result = none ∧ v.stage = 6 ∧ (s.target (.chan 0)).state ≠ 5) := by decide +kernel

theorem test_witness_mission_update :
    (let s := { update0 .mission (fun u => { u with state := 3, verified := true, golden := true }) with dev := { live.dev with mode := .update } }
     (s.target .mission).state = 3 ∧ (s.target .mission).verified = true ∧ (s.target .mission).golden = true ∧ s.dev.mode = .update ∧
     s.commitWaits .mission = false ∧ s.quiet.mayStart (.journal (JRec.of .commit Target.mission.code)) = true) := by decide +kernel

theorem test_witness_floor_request : floorTarget 1 = some (.chan 0) ∧ floorTarget 0x41 = some .mission ∧ floorTarget 0x42 = none := by
  decide +kernel
/-! ## PLDM, recovery, hash engines, Cistern, Pakor -/

/-- A session of the I3C endpoint in PROVISION, authorised by the empty trust list. -/
def withSession (s : State) : State :=
  { s with
    fuse := { s.fuse with shadowPriv := vset s.fuse.shadowPriv 0 3 }
    spdm := { s.spdm with sessions := [⟨1, 0x10, false, true, false, false, 0, 0, 0, [], [], [], [], []⟩] } }

/-- `live` with an online Cistern of one NAND target. -/
def stocked : State :=
  { live with cis := { live.cis with
      state := 2, ready := true, targets := vset live.cis.targets 0 ⟨true, 0, 0, 0⟩, pagesPerBlock := 64, blocksPerTarget := 1000 } }

/-- A requester of the cascade, authorised where it comes from. -/
def cascade : Requester := ⟨0x300, true⟩

theorem test_witness_pldm :
    endpointTransport bmc.endpoint ≤ 1 ∧ live.answers bmc = true ∧ live.authorised bmc = false ∧
    (withSession live).authorised bmc = true ∧ (withSession live).pldmMode = true ∧ (withSession live).upd.pldm = .idle ∧
    (let s := enabled { withSession stocked with upd := { live.upd with pldm := .readyXfer } } fun c => { c with state := .released }
     s.pldmTarget 0 = some (.chan 0) ∧ s.updateComponentCode bmc 0 8192 = .ok ∧ s.dev.form ≠ .freeze) ∧
    live.pldmReserve (.chan 0) 8192 = none := by
  decide +kernel

theorem test_witness_pldm_data :
    (let s := { update0 (.chan 0) (fun u => { u with state := 1, expect := 2 }) with
       upd := { (update0 (.chan 0) (fun u => { u with state := 1, expect := 2 })).upd with
         pldm := .download, pldmComp := some (.chan 0), pldmReq := some (0, 1, 5, 3) } }
     s.upd.pldmComp = some (.chan 0) ∧ s.upd.pldmReq = some (0, 1, 5, 3) ∧ (s.target (.chan 0)).container.length + 1 < (s.target (.chan 0)).expect ∧
     s.dev.mode ≠ .recover ∧ s.mayAbandon (.chan 0) = true ∧ s.pldmAll.all s.mayCancel = true) := by decide +kernel

theorem test_witness_recovery :
    (let s := (update0 (.chan 0) fun u => { u with recState := 1, recUntil := some 7 }).updChan 0 fun c => { c with state := .held }
     (s.target (.chan 0)).recState = 1 ∧ (s.target (.chan 0)).recLocal = false ∧ (s.target (.chan 0)).recUntil = some 7 ∧ (s.chan 0).state = .held ∧
     s.dev.form ≠ .freeze ∧ s.mirrorSource 0 = false ∧ s.quiet.localCopies 0 = [] ∧ s.quiet.peerSource 0 = false ∧ s.uploadOpen 0 = false) ∧
    (let s := (update0 (.chan 0) fun u => { u with recState := 1 }).updChan 0 fun c => { c with state := .repairing }
     (s.target (.chan 0)).recState = 1 ∧ (s.target (.chan 0)).recLocal = false ∧ s.mirrorSource 0 = true) ∧
    (let s := { (update0 (.chan 0) fun u => { u with recState := 1, recLocal := true, recUntil := some 7 }) with
       cis := { stocked.cis with orphans := [⟨0, 7, 0, 0, [3]⟩] } }
     s.quiet.peerSource 0 = true ∧ (s.target (.chan 0)).recLocal = true) ∧
    (let v : Half → Code → Verification := fun _ c => ⟨.chan 0, .update, 0, [], 10, none, [], none, some c⟩
     let s := update0 (.chan 0) fun u => { u with state := 2 }
     let s := { s with upd := { s.upd with vers := ⟨[v .indigo .ok], [v .amber .verifyFail]⟩ } }
     (s.target (.chan 0)).state = 2 ∧ s.recoveringUpload 0 = false ∧ s.halfResults (.chan 0) = some ⟨.ok, .verifyFail⟩ ∧
     Both.code ⟨.ok, .verifyFail⟩ ≠ .ok ∧ Both.code ⟨.ok, .ok⟩ = .ok ∧ (s.target (.chan 0)).commit = 0) ∧
    (let s := { update0 (.chan 0) (fun u => { u with state := 1, route := some .upload, expect := 8, container := [1] }) with
       fuse := { live.fuse with shadowPriv := vset live.fuse.shadowPriv 0 3 } }
     (s.target (.chan 0)).continues 1 8 = true ∧ (s.target (.chan 0)).container.length + [(2 : Byte)].length ≤ 8) ∧
    (let s := update0 (.chan 0) fun u => { u with state := 1, route := some .upload, idleAt := some 9 }
     s.uploadOpen 0 = true ∧ (s.target (.chan 0)).idleAt = some 9 ∧ s.mayAbandon (.chan 0) = true) ∧
    (let h : ShardHead := ⟨1, 0, 0, 1, 0, 4, 1, 1, 16384, 0, 7, [0]⟩
     agreedHead [(h, [])] = some h.common ∧ goodShards h [(h, [])] = [] ∧ (goodShards h [(h, [])]).length < h.k ∧ h.ownerId ≠ live.deviceId) ∧
    (let s := update0 (.chan 0) fun u => { u with stream := 1, state := 1, idleAt := some 9 }
     (s.target (.chan 0)).stream = 1 ∧ (s.target (.chan 0)).idleAt = some 9) := by decide +kernel

theorem test_witness_hash_engines :
    (let s := { live with hash := { live.hash with enable := true, queue := ⟨[⟨0, 1, 0, 0x11000000, 4096, 0x11001000, 0, false, 0⟩], []⟩,
                                                    engines := vset live.hash.engines 7 { Engine.reset with kat := true, fails := 7 } } }
     s.hashOn .indigo = true ∧ (s.hash.queue.get .indigo).length < 64 ∧ s.hashJobOk (s.bytes 0 32) = false ∧
     s.hash.queue.get .indigo ≠ [] ∧ (∃ e ∈ Half.indigo.engines, s.engineFree e = true) ∧ (s.hash.engines[(7 : Fin 16)]).kat = true ∧
     8 ≤ (s.hash.engines[(7 : Fin 16)]).fails + 1 ∧ (s.hash.engines[(0 : Fin 16)]).fails + 1 < 8) := by decide +kernel

theorem test_witness_cistern :
    live.domOn 25 = true ∧ live.isSteward .indigo = true ∧ live.isSteward .amber = false ∧
    (let c : CisCmd := ⟨3, 0, 0, 0, 0, 0, 63999, 0, 0, 0, 0, 0, 0, 0⟩
     stocked.cisCmdOk c = true ∧ stocked.cisCmdOk { c with row := 64000 } = false) ∧
    ModeOp.golden.permitted live.dev.mode = true ∧ live.cis.state ≠ 2 ∧ live.fillUnderWay 31 = false ∧ live.fillRetired .indigo 0 = false ∧
    live.isPresent 31 = false := by decide +kernel

/-- `live` with link 0 as given. -/
def link0 (f : Link → Link) : State := { live with pak := { live.pak with enableA := true, links := vset live.pak.links 0 (f Link.idle) } }

theorem test_witness_pakor_links :
    (let s := link0 fun k => { k with step := 3 }
     s.linkEnabled 0 = true ∧ (s.link 0).step = 3 ∧ s.pak.posConflict = false ∧ (s.link 0).retryAt = none) ∧
    (let s := link0 fun k => { k with session := true, step := 5 }
     (s.link 0).session = true ∧ (s.link 0).step = 5) ∧
    modeAdmits 1 = true ∧ live.pak.queue.length < 64 ∧ live.maySend = false ∧ live.domOn 27 = true := by decide +kernel

theorem test_witness_pakor_frames :
    (let s := link0 fun k => { k with session := true, state := .up }
     let f : FrameIn := ⟨0, 1, 0, 1, true, true, true⟩
     f.hops ≠ 0 ∧ (s.link f.link).session = true ∧ s.pak.posConflict = false ∧ f.dst = s.devNumber ∧ f.src ≠ s.devNumber ∧
     s.pak.segMaster ≠ 1 ∧ s.pak.segMaster = 0xFF ∧ s.grantCode ⟨1, 1, 0, 1, 0, 4096, 1, 1, 4096, 0, 0, [0, 0]⟩ ≠ .ok) := by decide +kernel
/-! ## Headgate, supply, tamper, start-up -/

/-- The release plan with output 0 in use, under the grants of both halves. -/
def planned : State :=
  { live with hg := { live.hg with
      planActive := vset live.hg.planActive 0 { PlanEntry.unused with used := true, ignoreLoad := true }, grants := ⟨1, 1⟩ } }

theorem test_witness_release : planned.outReleased 0 = false ∧ planned.mayRelease 0 = true ∧ live.mayRelease 0 = false ∧
    (planned.releaseOne 0).outReleased 0 = true := by decide +kernel

theorem test_witness_grant :
    (let s := { planned with hg := { planned.hg with grants := ⟨0, 0⟩ } }
     let e := s.hg.planActive[(0 : OutId)]
     e.used = true ∧ e.chanMask = 0 ∧ s.dev.mode = .guard ∧ s.hg.warm = false ∧ s.hg.planGen.get .indigo = s.hg.planActiveGen ∧
     (s.hg.holds.get .indigo).getLsbD 0 = false) := by decide +kernel

theorem test_witness_sense :
    (let e : PlanEntry := { PlanEntry.unused with used := true, holdOnSenseLoss := true, senseMask := 1, senseLevel := 1 }
     let s := { live with hg := { live.hg with planActive := vset live.hg.planActive 0 e, out := 1 } }
     s.outReleased 0 = true ∧ e.holdOnSenseLoss = true ∧ s.senseUnmetAt e = some 0 ∧ s.senseMetAt { e with senseLevel := 0 } = some 0) ∧
    (let e : PlanEntry := { PlanEntry.unused with used := true, ignoreLoad := true, senseMask := 1, senseLevel := 1, senseTimeoutMs := 1 }
     let s := { live with hg := { planned.hg with planActive := vset live.hg.planActive 0 e } }
     s.outReleased 0 = false ∧ ((s.conditions 0).filter fun p => ! p.2).map (fun p => p.1) = [10] ∧ s.hg.timedOut.getLsbD 0 = false) ∧
    live.hg.senseLevel.getLsbD 31 ≠ true := by decide +kernel

theorem test_witness_load_sensing_and_plan :
    ({ live with hg := { live.hg with loadSensing := true } }).hg.loadSensing = true ∧ live.hg.puen = true ∧
    live.domOn 1 = true ∧ ({ live with hg := { live.hg with staging := some (0, live.hg.planStage) } }).hg.staging = some (0, live.hg.planStage) := by
  decide +kernel

theorem test_witness_vpost_and_confirm :
    live.hg.vpostBusy.get .indigo ≤ live.time ∧ live.boot.trial = false ∧
    (let s := { live with dev := { live.dev with mode := .update }, hg := { live.hg with confirm := some 5 } }
     s.hg.confirm = some 5 ∧ s.dev.mode = .update) := by decide +kernel

theorem test_witness_stewardship :
    State.reset.hg.steward = none ∧ live.hg.steward = some (Half.other .amber) ∧ live.hg.steward = some .indigo ∧
    live.hg.claims.get (Half.other .indigo) = .shadow ∧ live.isSteward .indigo = true ∧
    ({ live with hg := { live.hg with claims := ⟨.steward, .restarting⟩ } }).hg.claims.get .amber = .restarting := by decide +kernel

theorem test_witness_supply :
    (let s := { live with dev := { live.dev with freeze := true, freezeClear := some 3 }, ms := { live.ms with pwrok := true } }
     s.dev.freeze = true ∧ s.dev.freezeClear = some 3 ∧ s.supplyBad = false ∧ s.ms.pwrok = true ∧ s.ms.acfail = false) := by decide +kernel

theorem test_witness_measurement :
    live.domOn 29 = true ∧ live.stewardCore 0 = true ∧ live.ms.huStep = none ∧
    (let s := { live with ms := { live.ms with huStep := some 0 } }
     s.ms.huStep = some 0 ∧ live.stepDue = false) := by decide +kernel

theorem test_witness_tamper :
    live.sensorMasked 0 = false ∧ live.lev.latched = false ∧ live.dev.mode ≠ .service ∧
    ({ live with lev := { live.lev with mask := 1 } }).sensorMasked 0 = true ∧ live.lev.selftest = none ∧ live.dev.mode ≠ .quarantine := by
  decide +kernel

/-- What both halves read of Sill's region with `e` added to its CRC: right reads where `e` is its syndrome. -/
def crcBoth (e : DWord) : CrcReads := Both.rep (Vector.replicate 3 e)

/-- Reads with nothing added to a matching CRC match, and none of three with bit 0 wrong does. -/
theorem test_crc_reads (e : DWord) : ((crcBoth e).indigo.toList.map fun x => e ^^^ x == 0).any id = true ∧
    ((crcBoth (e ^^^ 1)).indigo.toList.map fun x => e ^^^ x == 0).any id = false := by
  have h : (e ^^^ (e ^^^ 1) == 0) = false := by rw [← BitVec.xor_assoc, BitVec.xor_self, BitVec.zero_xor]; decide
  refine ⟨by simp [crcBoth, Both.rep], ?_⟩
  show ([e ^^^ 1, e ^^^ 1, e ^^^ 1].map fun x => e ^^^ x == 0).any id = false
  simp only [List.map_cons, List.map_nil, h, List.any_cons, List.any_nil]; rfl

/-- Whatever stands in Sill's region, there are reads that pass the self-check, and reads that stop it. -/
theorem test_witness_self_check (s : State) (e : DWord) (h : s.sillSyndrome = e) :
    s.crcStop (crcBoth e) = 0 ∧ s.crcStop (crcBoth (e ^^^ 1)) = 2 := by
  have r (l : Vector (BitVec 64) 3) : s.readsMatch l = l.toList.map fun x => e ^^^ x == 0 := by subst h; rfl
  have c (x : CrcReads) : s.crcStop x = (match (s.readsMatch x.indigo).any id, (s.readsMatch x.amber).any id with
    | true, true => 0
    | false, false => 2
    | _, _ => 1) := rfl
  have d (x : DWord) : (crcBoth x).amber = (crcBoth x).indigo := rfl
  constructor <;> rw [c, r, r, d] <;> simp only [test_crc_reads e]

theorem test_witness_start_up :
    State.reset.boot.phase = .held ∧ State.reset.dev.mode ≠ .dormant ∧
    (let s := { State.reset with boot := { Boot.reset with phase := .fuses } }
     s.dev.mode = .cold ∧ s.quiet.loadBootFuses.redirectsBad = false ∧ s.quiet.loadBootFuses.lifecycle = .raw) ∧
    (let s := { State.reset with boot := { Boot.reset with phase := .fuses },
                                 fuse := { State.reset.fuse with priv := vset State.reset.fuse.priv 0 ⟨⟨3, 3⟩, FuseWord.blank⟩ } }
     s.quiet.loadBootFuses.redirectsBad = false ∧ s.quiet.loadBootFuses.lifecycle ≠ .raw) ∧
    (let s := { State.reset with boot := { Boot.reset with phase := .accepted, accepted := some (⟨0, none, false⟩, 0) } }
     s.trialBootWaits = false) := by decide +kernel
/-! ## Restarts, key vault, big-number engine, SPDM, fuses -/

theorem test_witness_restarts :
    (let s := { live with dev := { live.dev with mode := .update }, boot := { live.boot with warmAsked := true } }
     s.dev.mode = .update ∧ s.boot.warmAsked = true ∧ s.boot.phase = .running) ∧
    (let s := { live with dev := { live.dev with dormantSeq := true }, hg := { live.hg with out := 1 } }
     s.outReleased 0 = true ∧ s.dormantTurn 0 = some 0) ∧
    (let s := { live with dev := { live.dev with mode := .dormant } }
     s.wakeEnabled .pin = true) := by decide +kernel

/-- A key-vault command of GENERATE's form. -/
def kv0 : KvCmd :=
  { owner := 0, length := 256, parent := 0, dest := 0x40, usage := 1, target := 0, src := 0, srcLen := 0, dst := 0, dstLen := 0, rsvZero := true }

/-- `live` with a 256-bit KDF key in slot 8. -/
def keyed : State :=
  { live with kv := { live.kv with
      slots := vset live.kv.slots 8 { KvSlot.emptyAt 1 with state := .inUse, bits := 256, value := 5, dest := 0x40, usage := 1 } } }

theorem test_witness_key_vault :
    live.domOn 6 = true ∧ live.domOn 31 = true ∧ live.kv.busy.get .indigo = false ∧ kv0.rsvZero = true ∧
    live.mayOwn .indigo kv0.owner = .ok ∧ kvLengthOk kv0.length = true ∧ live.freeKslot = some 8 ∧ keyed.freeKslot = some 9 ∧
    (keyed.useHandle .indigo 0x08000001 needKdf).2 = .ok ∧ (keyed.useHandle .indigo 0x08000002 needKdf).2 = .badRange ∧
    handleSlot 0x08000001 = 8 ∧ keyed.loadedBelow 8 = false ∧ (keyed.useHandle .indigo 0x08000001 needWrap).2 = .deniedAccess ∧
    live.kv.rootLock = false ∧ live.kv.testSecret = false := by decide +kernel

/-- `live` with an open job of class 0 on Indigo's engine, slot 1 one word of 64 bits. -/
def job0 : State :=
  live.updEng .indigo fun e =>
    { e with enable := true, job := some ⟨0, live.time, 1, false, false, false, false, false⟩, slotCfg := vset e.slotCfg 1 0x00010000 }

theorem test_witness_big_numbers :
    job0.domOn (Half.pkeDomain .indigo) = true ∧ (job0.eng .indigo).job.isSome = true ∧ (job0.eng .indigo).enable = true ∧
    (job0.eng .indigo).queue = [] ∧ (job0.eng .indigo).wipeUntil ≤ job0.time ∧ job0.pkeWindow .indigo = true ∧
    live.pkeWindow .indigo = false ∧ (live.eng .indigo).job = none ∧ (live.eng .indigo).outLive = 0 := by decide +kernel

/-- A CHALLENGE of slot 0 whose answer waits for the engine. -/
def wait0 : SignWait := ⟨1, 0, [], [], [], false, [], 0⟩

/-- `live` with the connection of endpoint 0x10 negotiated and a session of it finished. -/
def attested : State :=
  { live with spdm := { live.spdm with
      sessions := [⟨1, 0x10, true, true, true, false, 0, 0, 0, [], [], [], [], []⟩], waiting := [(bmc, wait0)] } }

theorem test_witness_spdm :
    live.answers bmc = true ∧ (live.conn 0x10).negotiated < 3 ∧ live.dev.form ≠ .tamper ∧ live.boot.secretBad = false ∧
    live.spdm.sessions.length < 4 ∧ (attested.session 1).isSome = true ∧ attested.spdm.waiting = [(bmc, wait0)] ∧
    (attested.conn 0x10).deferred = 0 ∧ (attested.conn 0x10).ack = none := by decide +kernel

theorem test_witness_fuses :
    live.domOn 30 = true ∧ live.isSteward .indigo = true ∧ live.fuseBusy = false ∧ live.burnStop true = none ∧
    (let s := { live with fuse := { live.fuse with cmdData := 0x80000001, shadowPriv := vset live.fuse.shadowPriv 0 1 } }
     s.lifecycle = .test ∧ s.programMainCode 511 s.fuse.cmdData = none ∧ s.lockCell 1 = false ∧ s.freeSpare.isSome = true ∧ s.freeEntry.isSome = true) ∧
    ({ live with fuse := { live.fuse with bootLoaded := true } }).fuse.allLoaded = false := by decide +kernel
/-! ## Brixxel -/

/-- Core 0 at an address in its own code with the data stack given, S0 first. -/
def stack0 (l : List Word) (f : Core → Core) : State :=
  core0 fun q => f (l.reverse.foldl (fun (q : Core) v => q.push v) { q with pc := 0x10000100 })

theorem test_witness_brixxel_plain :
    ((stack0 [1, 2, 3] id).core 0).sized = true ∧ (stack0 [] id).executesPlain 0 false 0 0 1 = true ∧
    (stack0 [1] id).executesPlain 0 false 1 1 2 = true ∧ (stack0 [1, 2, 3] id).executesPlain 0 false 3 3 3 = true ∧
    (stack0 [1, 2] id).executesPlain 0 false 2 2 1 = true ∧ (stack0 [1] id).executesPlain 0 true 1 1 1 = true ∧
    (stack0 [] id).executesPlain 0 false 1 1 0 = false := by decide +kernel

theorem test_witness_brixxel_limits :
    (stack0 (List.replicate 59 7) id).executesPlain 0 false 0 0 1 = true ∧ (stack0 (List.replicate 60 7) id).executesPlain 0 false 0 0 1 = false ∧
    (stack0 (List.replicate 63 7) id).executesPlain 0 false 63 0 0 = true ∧
    (stack0 (List.replicate 60 7) id).upTo 0 false = true := by decide +kernel

theorem test_witness_brixxel_control :
    (stack0 [] id).executes 0 false 0 0 0 0 1 true false = true ∧ (stack0 [2] id).executes 0 false 1 1 0 0 0 true false = true ∧
    (stack0 [] fun q => { q with rdepth := 1 }).executes 0 false 0 0 0 1 0 true false = true ∧
    (stack0 [] id).executes 0 false 0 0 0 0 0 true true = true ∧ (stack0 [] id).upTo 0 false = true ∧
    ((stack0 [] id).found 0 false).slot = none := by decide +kernel

theorem test_witness_brixxel_memory :
    (let s := stack0 [0x11000000, 9] id
     s.executesPlain 0 false 1 1 1 = true ∧ s.executesPlain 0 false 2 2 0 = true ∧ s.sramAccess 0 false (s.found 0 false) 0x11000000 4 = true ∧
     s.sramAccess 0 true (s.found 0 false) 0x11000003 1 = true ∧ s.sramAccess 0 true (s.found 0 false) 0x11000002 4 = false) := by decide +kernel

theorem test_witness_brixxel_traps :
    ((stack0 [] fun q => { q with ext := true, regions := q.regions }).core 0).ext = true ∧
    (Parcels.mk 0x7E00 none).reserved = true ∧
    ((stack0 [] fun q => { q with slot := some ⟨none, false⟩ }).found 0 false).slot.isSome = true := by decide +kernel
/-! ## Rill, mailboxes, the management port, events, power -/

/-- A READ of the device mode. -/
def read200 : RillReq :=
  { version := 1, op := 1, tag := 7, device := 0xFF, index := 0x0200, sub := 1, status := 0, flags := 0, rsv := 0, offset := 0, length := 0,
    total := 0, data := [] }

theorem test_witness_rill :
    endpointTransport bmc.endpoint ≤ 1 ∧ live.cosigWaits bmc = false ∧ live.waitingOf bmc.endpoint = [] ∧ live.ownDevice read200.device = true ∧
    ((read200.cleared bmc.endpoint).formOk) = true ∧ extIndex read200.index = false ∧
    live.quiet.readRefusals bmc 0x0200 1 = [] ∧ live.quiet.readRefusals bmc 0x0200 0xF0 ≠ [] ∧ live.quiet.transfersOf bmc.key < 4 ∧
    live.mctpAnswers = true := by decide +kernel

theorem test_witness_mailboxes :
    live.domOn 28 = true ∧ live.homeOn 9 = true ∧ (∃ k : CoreId, live.homeCore 9 k = true) ∧ (∃ k : CoreId, live.homeCore 9 k = false) ∧
    live.portAnswers = true ∧ live.responder = true ∧ (live.box 9).inFull = false := by decide +kernel

theorem test_witness_register_write :
    live.busRefusal 0 true 0x11000000 = none ∧ areaOf 0x11000000 = some (.sram 4) ∧ (live.busRefusal 0 true 0xFFFFFFFC).isSome = true := by
  decide +kernel

/-- The doorbell transaction of the worked example of 18 (R513): mailbox 9, mask 1, CRC 0xC6E5. -/
def ring9 : SpiTx := { bits := 0, bytes := [0x09, 0, 0, 0, 1, 0xC6, 0xE5], busy := 0 }

theorem test_witness_spi : live.portAnswers = true ∧ ring9.bits = 0 ∧ ring9.bytes.length = 7 ∧ ring9.crcCodes 0x21 5 = [] ∧
    live.boxRefusals 9 false = [] ∧ State.reset.portAnswers = false := by decide +kernel

/-- 18, worked example: IN bit 0 of mailbox 9 sets, MISO's first byte is 0x82 (the responder in mode 2), the code is OK. -/
theorem test_spi_doorbell_example :
    (match execDoorbellSet ring9 live with
      | .next t => (t.box 9).inBits == 1 && t.spi.miso.headD 0 == 0x82 && t.spi.lastCode == .ok
      | _ => false) = true := by decide +kernel

theorem test_witness_events :
    live.eventToucher 0 1 = true ∧ live.eventWriter 0 1 = true ∧ routeOk 0 = true ∧ (live.core 0).runs = true ∧ (live.core 0).waiting = false ∧
    (live.core 0).pend = [] ∧ live.takeable 0 = false := by decide +kernel

theorem test_witness_watchdogs :
    coreGroup 0 = 0 ∧ coreGroup 11 = 3 ∧ (live.pw.wdogs[(0 : Fin 4)]).armed = false ∧
    (let s := { live with pw := { live.pw with wdogs := vset live.pw.wdogs 0 ⟨true, 1, 5⟩, timers := vset live.pw.timers 7 ⟨true, true, 1, 0⟩ } }
     (s.pw.wdogs[(0 : Fin 4)]).armed = true ∧ Half.indigo.group = 0 ∧ (s.pw.timers[(7 : Fin 8)]).enable = true) := by decide +kernel

theorem test_witness_power :
    live.maySwitch 0 24 = true ∧ live.switchRefusal 24 true = none ∧ live.domWill 24 = true ∧ live.pw.queue.length < 8 ∧
    live.maySwitch 0 23 = true ∧ (live.switchRefusal 23 false).isSome = true ∧ live.switchRefusal 24 false = none := by decide +kernel

/-! ## The whole machine -/

theorem test_witness_front_command : ({ live with pending := [.handover] }).pending = .handover :: [] := by decide +kernel

/-- A POWER_ON_RESET in SERVICE leaves SERVICE; a DORMANT entry there does not. -/
theorem test_service_is_left_by_power_on_reset :
    (let s : State := { live with dev := { live.dev with mode := .service }, pending := [.powerOnReset true] }
     match step s with
      | .next t => t.dev.mode == .cold
      | _ => false) = true ∧
    (let s : State := { live with dev := { live.dev with mode := .service, dormantSeq := true }, pending := [.dormantEntry] }
     match step s with
      | .next t => t.dev.mode == .service
      | _ => false) = true := by decide +kernel

theorem test_reset_is_canonical_and_sized : Memory.wf State.reset.mem = true ∧ ∀ k : CoreId, (State.reset.core k).sized = true := by
  decide +kernel

theorem test_live_is_canonical_and_sized : Memory.wf live.mem = true ∧ ∀ k : CoreId, (live.core k).sized = true := by decide +kernel

theorem test_witness_handover : live.isSteward .indigo = true ∧ live.hg.claims.get (Half.other .indigo) = .shadow ∧ live.hg.epoch ≠ 0xFFFFFFFF ∧
    ¬ (live.isSteward .amber = true ∧ live.hg.claims.get (Half.other .amber) = .shadow) := by decide +kernel
/-! ## Well-formedness: for each check an ill-formed command, which it refuses, beside one at its bound -/

/-- A sealed frame for this device. -/
def frame0 : FrameIn := ⟨0, 1, 0, 255, true, true, true⟩

/-- A Cistern command with op 1. -/
def cis1 : CisCmd := ⟨1, 255, 65535, 255, 255, 65535, 0xFFFFFFFF, 0xFFFFFFFF, 0xFFFFFFFF, 255, 255, 65535, 0xFFFFFFFF, 0xFFFFFFFF⟩

theorem test_wf_endpoint : wellFormed (.getVersion ⟨0x31F, true⟩ []) = true ∧ wellFormed (.getVersion ⟨0x320, true⟩ []) = false ∧
    wellFormed (.getVersion ⟨0x202, true⟩ []) = false ∧ wellFormed (.mctpAssemblyFail 0x1FF) = true := by decide +kernel

theorem test_wf_host_clock : wellFormed (.writeEnable { tx0 with sckPs := 1 }) = true ∧ wellFormed (.writeEnable { tx0 with sckPs := 0 }) = false := by decide +kernel

theorem test_wf_host_address : wellFormed (.hostRead { read0 with addr := 0xFFFFFFFF }) = true ∧
    wellFormed (.hostRead { read0 with addr := 0x100000000 }) = false := by decide +kernel

theorem test_wf_opcode : wellFormed (.erase4K tx0 0x21 0) = true ∧ wellFormed (.erase4K tx0 0x22 0) = false ∧
    wellFormed (.chipErase tx0 0xC7) = true ∧ wellFormed (.programEraseSuspend tx0 0x7A) = false := by decide +kernel

theorem test_wf_wait_field : wellFormed (.writeRegisters tx0 ⟨[], none, some 255, none, none, false⟩) = true ∧
    wellFormed (.writeRegisters tx0 ⟨[], none, some 256, none, none, false⟩) = false := by decide +kernel

theorem test_wf_program_data : wellFormed (.pageProgram tx0 2 0 (List.replicate 256 0)) = true ∧
    wellFormed (.pageProgram tx0 2 0 (List.replicate 257 0)) = false := by decide +kernel

theorem test_wf_rill_frame : wellFormed (.rillRead bmc read200) = true ∧ wellFormed (.rillRead bmc { read200 with index := 0x10000 }) = false ∧
    wellFormed (.rillRead bmc { read200 with data := List.replicate 1025 0 }) = false := by decide +kernel

theorem test_wf_pakor_frame : wellFormed (.leave frame0) = true ∧ wellFormed (.leave { frame0 with hops := 256 }) = false := by decide +kernel

theorem test_wf_beacon_and_claim : wellFormed (.beacon frame0 ⟨255, 0, 255, 255, 0, 0, 0, 0xFFFFFFFF⟩) = true ∧
    wellFormed (.beacon frame0 ⟨256, 0, 0, 0, 0, 0, 0, 0⟩) = false ∧ wellFormed (.claim frame0 ⟨false, 0, 255, 0, 0⟩) = true ∧
    wellFormed (.claim frame0 ⟨false, 0, 256, 0, 0⟩) = false := by decide +kernel

theorem test_wf_shards : wellFormed (.shardOffer frame0 0xFFFFFFFF ⟨1, 1, 0, 1, 255, 0, 0, 0, 0, 0, 0, []⟩) = true ∧
    wellFormed (.shardOffer frame0 0 ⟨1, 1, 0, 1, 256, 0, 0, 0, 0, 0, 0, []⟩) = false ∧
    wellFormed (.shardData frame0 0 0 [0]) = false ∧ wellFormed (.shardReq frame0 0 0 0 0 256) = false := by decide +kernel

theorem test_wf_cistern : wellFormed (.cisternRead .indigo cis1) = true ∧ wellFormed (.cisternProgram .indigo cis1) = false ∧
    wellFormed (.cisternRead .indigo { cis1 with pages := 65536 }) = false := by decide +kernel

theorem test_wf_send : wellFormed (.pakorQpush .indigo ⟨255, 0, 0, 0, 0, 0, 65535⟩) = true ∧
    wellFormed (.pakorQpush .indigo ⟨256, 0, 0, 0, 0, 0, 0⟩) = false := by decide +kernel

theorem test_wf_key_vault : wellFormed (.generate .indigo kv0) = true ∧ wellFormed (.generate .indigo { kv0 with length := 65536 }) = false := by
  decide +kernel

theorem test_wf_burn : wellFormed (.fuseLock .indigo 0 ⟨1, 1, none⟩) = true ∧ wellFormed (.fuseLock .indigo 0 ⟨0, 1, none⟩) = false := by decide +kernel

theorem test_wf_mailboxes : wellFormed (.mboxInboundPost 0 (.port 65535) false) = true ∧ wellFormed (.mboxInboundPost 0 (.port 65536) false) = false ∧
    wellFormed (.mboxInboundPost 0 (.rill bmc (List.replicate 257 0)) false) = false ∧ wellFormed (.mboxOutAck 0 (.rill ⟨0x320, false⟩) false) = false := by
  decide +kernel

theorem test_wf_disturbance : wellFormed (.disturbanceEnd 0 .sag 0 0xFFFFFFFF 65535 65535) = true ∧
    wellFormed (.disturbanceEnd 0 .sag 0 0 65536 0) = false := by decide +kernel

theorem test_wf_pick : wellFormed (.pick 0 62) = true ∧ wellFormed (.pick 0 63) = false := by decide +kernel

theorem test_wf_leaf_data : wellFormed (.fillLeaf 0 (List.replicate 4096 0)) = true ∧ wellFormed (.fillLeaf 0 (List.replicate 4097 0)) = false := by
  decide +kernel

theorem test_wf_object_key : wellFormed (.notify 0x10 0xFFFF 0xFF) = true ∧ wellFormed (.notify 0x10 0x10000 0) = false := by decide +kernel

theorem test_wf_handshake : wellFormed (.handshake frame0 (List.replicate 4096 0) []) = true ∧
    wellFormed (.handshake frame0 (List.replicate 4097 0) []) = false := by decide +kernel

theorem test_wf_reserved_encoding : wellFormed (.emulateTrap 0 ⟨0x7E00, none⟩) = true ∧ wellFormed (.emulateTrap 0 ⟨0x0360, none⟩) = false := by
  decide +kernel

theorem test_wf_register_address : wellFormed (.registerWrite 0 0x40000078 0) = true ∧ wellFormed (.registerWrite 0 0x40000079 0) = false := by
  decide +kernel

theorem test_wf_plain_fields : wellFormed (.requestUpdate bmc 0xFFFFFFFF) = true ∧ wellFormed (.requestUpdate bmc 0x100000000) = false ∧
    wellFormed (.linkTest frame0 0xFFFFFF true) = true ∧ wellFormed (.linkTest frame0 0x1000000 true) = false ∧
    wellFormed (.finish bmc 0x100000000 [] []) = false ∧ wellFormed (.getCosig bmc (List.replicate 65537 0)) = false := by decide +kernel
/-! ## Witnesses of single clauses: the hypotheses that the theorems above leave open -/

/-- A state with a stored object. -/
def stored (s : State) (index sub : Nat) (v : List Byte) : State := { s with rill := { s.rill with store := [(index * 256 + sub, v)] } }

/-- A real part of 16 MiB that has a 4-byte mode and suspends. -/
def part0 : SfdpInfo :=
  { density := 0x1000000, pageSize := 256, modes := [⟨.m111, .c25⟩], strobe888 := false, quadBit := none, fourByteOnly := false, suspend := true,
    suspendLat := 20000, typProgram := none, typErase4k := none, typErase32k := none, typErase64k := none, typChip := none, multiplier := none,
    statusMap := none, wipAt := (5, 0), welAt := (5, 1), protectAt := none, volatileBits := [], fourByteOps := false, fourByteMode := true,
    continuous := none, opcodes := [], nativeWaits := [], smallestErase := 4096 }

theorem test_witness_four_byte_mode :
    ((((chan0 fun c => { c with info := some part0 }).chan 0).info.map fun i => i.fourByteMode).getD false) = true ∧
    (((live.chan 0).info.map fun i => i.fourByteMode).getD false) = false := by decide +kernel

theorem test_witness_probe_steps : ∀ n ∈ ([1, 2, 3, 4, 5, 6, 7] : List Nat),
    (let s := chan0 fun c => { c with state := .probing, probe := some ⟨n, 1, .m111, .c25⟩ }
     (s.chan 0).probe = some ⟨n, 1, .m111, .c25⟩ ∧ s.probeTurn 0 = true ∧ s.higherWaits 0 3 = false ∧ (s.chan 0).gaveUp = false) := by
  decide +kernel

/-- A channel that fills one leaf, 0, with `n` leaves in. -/
def filling (n : Nat) : State := enabled { live with mir := { live.mir with ready := true } } fun c => { c with state := .filling, fillNext := some n }

theorem test_witness_fill :
    (let s := filling 0
     (∀ c : ChanId, (s.chan c).fits = true) ∧ (s.chan 0).state = .filling ∧ s.fillTurn 0 = true ∧ s.higherWaits 0 3 = false ∧
     (s.chan 0).gaveUp = false ∧ s.mir.ready = true ∧ (s.chan 0).fillNext = some 0 ∧ 0 < (s.chan 0).desc.leafCount ∧ s.rangeFree 0 0 4096 = true) ∧
    (let s := filling 1
     (∀ c : ChanId, (s.chan c).fits = true) ∧ 0 < (s.chan 0).fillNext.getD 0 ∧ 0 < (s.chan 0).desc.leafCount ∧ s.digestFree 0 0 = true) ∧
    ({ live with mir := { live.mir with training := some (2, 2) } }).mir.ready = false := by decide +kernel

theorem test_witness_fill_done :
    (let v : Verification := ⟨.chan 0, .fill, 0, [1], 5, none, [], none, none⟩
     let s := (filling 1).updChan 0 fun c => { c with fillDig := Both.rep [(0, 7)] }
     let s := { s with upd := { s.upd with vers := Both.rep [v] } }
     (s.chan 0).fillNext = some (s.chan 0).desc.leafCount ∧ s.dev.mode.running = true ∧ s.hg.warm = false ∧ s.dev.form ≠ .freeze ∧
     (s.chan 0).staged = none ∧ (s.chan 0).gen < 65536 ∧ s.verdictOf .indigo 0 = none ∧ s.verdictOf .amber 0 = none ∧
     ∀ h ∈ ([.indigo, .amber] : List Half), s.verOf h (.chan 0) = some v ∧ (s.chan 0).digestsIn h = true ∧ s.mayNotPost h 0 = false) := by decide +kernel

theorem test_witness_pin_load :
    (let s := { served with mir := { served.mir with pinLoad := some (0, 0, 3) } }
     s.mir.pinLoad = some (0, 0, 3)) ∧
    (let s := { served with mir := { served.mir with reseal := some 0, keyNext := 1 } }
     s.mir.heldDigests = [] ∧ (∀ d : ChanId, s.opIn d .timed = none) ∧ s.mir.keyNext ≠ 0 ∧ 0 < s.mir.lines) := by decide +kernel

/-- For every leaf and reference there is an engine's error with which they match, and one with which they do not. -/
theorem test_witness_leaf_matches (ref : Digest) (data : List Byte) :
    (∃ off, leafMatches ref data off = true) ∧ ∃ off, leafMatches ref data off = false := by
  refine ⟨⟨sha384 (leafBytes data) ^^^ ref, ?_⟩, ⟨sha384 (leafBytes data) ^^^ ~~~ ref, ?_⟩⟩ <;>
    rw [leafMatches, ← BitVec.xor_assoc, BitVec.xor_self, BitVec.zero_xor]
  · simp
  · rw [beq_eq_false_iff_ne]; intro h; have := congrArg (fun v => v.getLsbD 0) h; simp at this

/-- A channel of one leaf under scrub. -/
def scrubbed : State := enabled live fun c => { c with state := .released, scrub := some ⟨0, 5, true, false⟩ }

theorem test_witness_scrub_and_repair :
    scrubbed.scrubbing 0 = true ∧ (scrubbed.chan 0).scrub = some ⟨0, 5, true, false⟩ ∧ 0 < (scrubbed.chan 0).desc.leafCount ∧
    scrubbed.higherWaits 0 5 = false ∧ (scrubbed.chan 0).gaveUp = false ∧ (scrubbed.flashRef 0 0).isSome = true ∧
    (let r : Repair := ⟨0, 4096, false, 1, 0, none, false⟩
     let s := enabled live fun c => { c with state := .repairing, repair := some r, noSourceAt := some 9 }
     (s.chan 0).repair = some r ∧ s.higherWaits 0 4 = false ∧ (r.waits && s.dev.freeze) = false ∧ (s.target (.chan 0)).state ≠ 5 ∧
     (s.chan 0).badUnits = [] ∧ (s.chan 0).lost = [] ∧ (s.chan 0).noSourceAt = some 9) ∧
    (let s := enabled live fun c => { c with state := .released, faulted := [0] }
     s.chanAtOffset (64 * 0 * 4096) = some 0 ∧ 64 * 0 - (s.chan 0).desc.mirrorPage < (s.chan 0).desc.leafCount) := by decide +kernel

theorem test_witness_weir_clauses :
    (let s := enabled live fun c => { c with state := .released, wel := true, desc := { c.desc with defaultClass := 1, leafCount := 1, mirrorExtent := 4096 } }
     (s.weirJudge 0 .program [0]).cls = .journaled) ∧
    (let s := enabled live fun c => { c with op := some (op0 .readback .journaled) }
     s.opIn 0 .readback = some (op0 .readback .journaled) ∧ (∀ c : ChanId, (s.chan c).fits = true) ∧ s.rangeFree 0 0 256 = true ∧
     ∀ l ∈ leavesOf 0 256, l < (s.chan 0).desc.leafCount) ∧
    (∀ ph ∈ ([.recovery, .busyPoll] : List WeirPhase), (chan0 fun c => { c with op := some (op0 ph .journaled) }).opIn 0 ph = some (op0 ph .journaled)) ∧
    (let s := enabled live fun c => { c with state := .released, info := some part0, op := some { op0 .running .journaled with suspLat := some 9 } }
     (s.chan 0).canSuspend = true ∧ (s.chan 0).inner = none ∧ ((s.chan 0).op.map fun o => o.suspendable) = some true ∧
     s.repairOn 0 = false ∧ s.repairOn (ChanId.sibling 0) = false) ∧
    (let s := enabled live fun c => { c with touched := [0] }
     (∀ c : ChanId, (s.chan c).fits = true) ∧ (s.chan 0).touched.contains 0 = true ∧ s.digestFree 0 0 = true) := by decide +kernel

/-- Indigo's verification of a channel at a stage. -/
def judging (kind : VerKind) (stage : Nat) : State × Verification :=
  let v : Verification := ⟨.chan 0, kind, 0, [1], stage, none, [], none, none⟩
  let s := (filling 1).updChan 0 fun c => { c with fillDig := Both.rep [(0, 7)] }
  ({ s with upd := { s.upd with vers := ⟨[v], []⟩ } }, v)

theorem test_witness_stages : ∀ n ∈ ([1, 2, 3, 4, 5, 6, 7, 8, 9] : List Nat), ∀ k ∈ ([.fill, .update] : List VerKind),
    (let x := judging k n
     x.1.verOf .indigo (.chan 0) = some x.2 ∧ x.2.result = none ∧ (x.1.target (.chan 0)).state ≠ 5 ∧
     (x.2.onEngine = true → x.1.quiet.engineTurn .indigo x.2 = true) ∧ (x.1.chan 0).digestsIn .indigo = true) := by decide +kernel

theorem test_witness_commit_steps :
    (let s := update0 (.chan 0) fun u => { u with state := 3, verified := true, idleAt := some 9 }
     (s.target (.chan 0)).idleAt = some 9 ∧ (s.target (.chan 0)).state = 3 ∧ (s.target (.chan 0)).verified = true ∧ (s.target (.chan 0)).golden = false) ∧
    (let s := update0 (.chan 0) fun u => { u with state := 5, switchUnits := [0] }
     (s.target (.chan 0)).switchUnits = [0] ∧ s.higherWaits 0 4 = false ∧ ((s.target (.chan 0)).switchWaits && s.dev.freeze) = false ∧
     s.recWaits (.chan 0) .switched = false ∧ s.quiet.mayStart (.journal (JRec.of .switched 0)) = true) ∧
    (let s := update0 (.chan 0) fun u => { u with state := 6, supersedes := 4 }
     (s.target (.chan 0)).state = 6 ∧ s.recWaits (.chan 0) .retired = false ∧ (s.target (.chan 0)).supersedes ≠ 0 ∧
     (s.target (.chan 0)).atStart = false ∧ s.quiet.mayStart (.journal (JRec.of .retired 0)) = true) ∧
    (let s := update0 (.chan 0) fun u => { u with state := 7 }
     s.floorSkipped (.chan 0) = true) ∧
    (let s := { gated with upd := { gated.upd with waiting := [.journal (JRec.of .abandon 0)], journal := [JRec.of .intent 0] } }
     s.upd.waiting = [.journal (JRec.of .abandon 0)] ∧ s.gateOpen journalUs = true ∧ s.upd.journal ≠ [] ∧ s.upd.journal.length < 200) := by
  decide +kernel

theorem test_witness_extension_and_requests :
    (let s := update0 .extension fun u => { u with state := 3, verified := true, golden := true, activate := true }
     (s.target .extension).activate = true ∧ s.commitWaits .extension = false ∧
     s.quiet.mayStart (.journal (JRec.of .commit Target.extension.code)) = true) ∧
    (let s := { withSession live with fuse := { (withSession live).fuse with shadowPriv := vset (withSession live).fuse.shadowPriv 1 0x10 } }
     s.takesWrite bmc .rwa false 0x0B02 1 none (s.revokeRefusals 1) = true ∧ s.ownerRevoked 1 = false ∧ s.dev.freeze = false) ∧
    (let s := stored (withSession live) 0x0A10 1 [2]
     floorTarget 1 = some (.chan 0) ∧ s.floorPolicy (.chan 0) = 2 ∧ s.takesWrite bmc .rwa false 0x0A11 1 none [] = true ∧
     s.floorFull (.chan 0) = false) := by decide +kernel

theorem test_witness_hash_clauses :
    (let s := { live with hash := { live.hash with done := ⟨[(3, .ok)], []⟩, engines := vset live.hash.engines 2 { Engine.reset with fenced := true, retryAt := some 9, job := some ⟨0, 1, 0, 0x11000000, 4096, 0x11001000, 0, false, 0⟩ } } }
     s.hashOn .indigo = true ∧ s.hash.lostPush.get .indigo = false ∧ s.hash.done.get .indigo = [(3, .ok)] ∧
     (s.hash.engines[(2 : Fin 16)]).retryAt = some 9 ∧ (s.hash.engines[(2 : Fin 16)]).fenced = true ∧
     (s.hash.engines[(2 : Fin 16)]).retired = false ∧ (s.hash.engines[(2 : Fin 16)]).job.isSome = true) := by decide +kernel

theorem test_witness_cistern_clauses :
    (let c : CisCmd := ⟨3, 0, 0, 0, 0, 0, 63999, 0, 0, 0, 0, 0, 0, 0⟩
     let s := { stocked with cis := { stocked.cis with queue := [c], done := [(1, .ok)] } }
     s.nextCis = some c ∧ s.cis.lostPush = false ∧ s.cis.done = [(1, .ok)]) ∧
    (let e : CatEntry := ⟨1, 0, 0, 0, 0, .localCopy, [], [], true⟩
     let s := { stocked with cis := { stocked.cis with committing := true, commits := [.add e none], patrolOn := true, orphans := [⟨1, 7, 0, 0, [3]⟩] } }
     s.cis.committing = true ∧ s.cis.commits = [.add e none] ∧ s.catalogueReadable = true ∧ s.cis.orphans = [⟨1, 7, 0, 0, [3]⟩]) ∧
    (let s := { stored live 0x0401 1 [1] with cis := { live.cis with state := 1 } }
     let o : InitOutcome := ⟨1, 1, true, 1000, 64, []⟩
     s.cis.state = 1 ∧ o.match_ = true ∧ o.fitted &&& o.trained ≠ 0 ∧ s.pget 0x0401 1 [] ≠ []) ∧
    (let s := { stocked with cis := { stocked.cis with peers := vset stocked.cis.peers 3 { (stocked.peer 3) with absentSince := some 5 } } }
     (s.peer 3).absentSince = some 5 ∧ s.isPresent 3 = false) := by decide +kernel

theorem test_witness_pakor_clauses :
    (let s := { link0 (fun k => { k with step := 4, state := .training, peerMode := 1, hsStep := 0, retryAt := some 5 }) with boot := { live.boot with secretBad := true } }
     let f : FrameIn := ⟨0, 1, 0, 1, false, true, true⟩
     (s.link 0).step = 4 ∧ s.admitted = true ∧ modeAdmits (s.link 0).peerMode = true ∧ s.pak.posConflict = false ∧ f.hops ≠ 0 ∧ f.isSealed = false ∧
     s.boot.secretBad = true ∧ (s.link 0).retryAt = some 5) ∧
    (let h : ShardHead := ⟨1, 0, 0, 1, 0, 4, 1, 1, 16384, 0, 7, [0]⟩
     let x : Transfer := ⟨5, 1, 0, h, [], false, 0, 0, false⟩
     let s := link0 fun k => { k with session := true, state := .up }
     let s := { s with pak := { s.pak with incoming := [x], outgoing := [x], isSeg := true, beaconRun := true } }
     s.outTransfer 1 5 = some x ∧ s.pak.incoming.find? (fun y => y.peer == 1 && y.number == 5) = some x ∧ x.data.length < x.head.shardLength ∧
     s.pak.isSeg = true ∧ s.pak.beaconRun = true ∧ s.pak.isCas = false) := by decide +kernel

theorem test_witness_measurement_clauses :
    (let s := stored { live with ms := { live.ms with run := true, calFail := false } } 0x0510 1 []
     s.classified 0 = (s.nominal 0 != 0)) ∧
    DisturbClass.dropout.meets 12000 0 10 = true ∧ DisturbClass.sag.meets 12000 10799 999 = false ∧
    (let s := stored live 0x0530 1 [1]
     s.psuPolled 0 = true ∧ live.psuPolled 0 = false) ∧
    (let s := { live with ms := { live.ms with bus1Current := true } }
     s.busPower 48000 5000 = some 240000 ∧ s.peakPower 48000 5000 = some 240000 ∧ s.stepMa ⟨[], 2000, false⟩ = some 2000 ∧ live.busPower 48000 5000 = none) ∧
    (withSession live).takesWrite bmc .wo false 0x0534 1 none [] = true := by decide +kernel

theorem test_witness_reset_requests :
    live.answers bmc = true ∧ (withSession live).dormantCode bmc = .ok ∧
    (let s := { live with dev := { live.dev with dormantSeq := true } }
     s.hg.out = 0 ∧ s.dev.mode = .guard) := by decide +kernel

/-- The keys that slot 0 answers with in slots 2 and 3, the connection of the board management controller negotiated, a session open. -/
def talking : State :=
  let key (i : Fin 128) (s : State) : State :=
    { s with kv := { s.kv with slots := vset s.kv.slots i { KvSlot.emptyAt 1 with state := .inUse, bits := 256, value := 5 } } }
  let s := key 2 (key 3 live)
  let x : Session := ⟨1, 0x10, true, true, true, false, 0, 0, 0, (List.finRange 128).take 8, [], [], [], []⟩
  { s with spdm := { s.spdm with checked := true, sessions := [x], conns := [{ SpdmConn.fresh 0x10 with negotiated := 3, deferred := 0x83, chunks := [1], cosigKind := some 1 }] } }

theorem test_witness_spdm_clauses :
    talking.answers bmc = true ∧ (talking.conn 0x10).ack = none ∧ (talking.conn 0x10).negotiated = 3 ∧ (talking.conn 0x10).deferred ≠ 0 ∧
    (talking.conn 0x10).chunks ≠ [] ∧ (talking.conn 0x10).cosigKind = some 1 ∧ talking.roomForSession = true ∧ talking.verifyingForRelease = false ∧
    ModeOp.attest.permitted talking.dev.mode = true ∧ 0 ∈ (((talking.spdmTaken 0x10 false).checkIdentity).issueAlias 0).certSlots ∧
    ((talking.session 1).map fun x => (x.finished, x.mutualAuth, x.cosigDone, decide (8 ≤ x.slots.length))) = some (true, true, false, true) ∧
    cosigForm ([0x13, 0xFE, 0, 0] : List Byte) 1 = false := by decide +kernel
/-! ## Worked examples of spec/ -/

/-- 18 R508: the check value over "123456789". -/
theorem test_crc16_check_value : crc16 (ascii "123456789") = 0x29B1 := by decide +kernel

/-- 18, worked example: the CRC over bytes 1 to 6 of DOORBELL_SET. -/
theorem test_crc16_doorbell : crc16 [0x21, 0x09, 0, 0, 0, 1] = 0xC6E5 := by decide +kernel

/-- 16 R467, worked example: 13,312.5 rounds to even as 0x3400, and with round 1 to 0x3401. -/
theorem test_fstoh_rounding : roundShift 0x1A00400000000000 47 2 = 0x3400 ∧ roundShift 0x1A00400000000000 47 1 = 0x3401 := by decide +kernel

/-- 16 R467, worked example: FSTOH 0 pushes 0x3400 from A0. -/
theorem test_fstoh_example :
    (match execFstoh 0 0 (stack0 [] fun q => { q with acc := vset q.acc 0 0x1A00400000000000, round := 2 }) with
      | .next t => (t.core 0).S 0
      | _ => 0) = 0x3400 := by decide +kernel

/-- 16 R454: LITU 0xE0000 pushes 0xE000_0000. -/
theorem test_litu_example :
    (match execLitu 0 0xE0000 (stack0 [] id) with
      | .next t => ((t.core 0).S 0, (t.core 0).pc)
      | _ => (0, 0)) = (0xE0000000, 0x10000104) := by decide +kernel

/-- 16 R454: the parcels of LDW 3 and of LITU 0xE0000 are not reserved encodings. -/
theorem test_listed_encodings : (Parcels.mk 0x0360 none).reserved = false ∧ (Parcels.mk 0xE005 (some 0)).reserved = false := by decide +kernel

/-- 11 R329, worked example: 22.17 ms. -/
theorem test_holdup_example : holdupUs 20000 54000 48000 248400 / 10 = 2217 := by decide +kernel

/-- 10 R302, worked example: 28.20 ns at 4,700 ps/m is 300 cm. -/
theorem test_cable_example : live.cableCm 0 2820 = 300 := by decide +kernel

/-- 00 R11, worked example: the session check ranks before the state check. -/
theorem test_refusal_order_example : Code.first [.refusedState, .deniedAuth] = some .deniedAuth := by decide +kernel

/-- 03 R59: port 4 serves channels 8 and 9. -/
theorem test_port_serves_two_channels : chanOf 4 0 = 8 ∧ chanOf 4 1 = 9 ∧ ChanId.port 8 = 4 ∧ ChanId.port 9 = 4 := by decide +kernel

/-- 07 R179: SHA-384 of three bytes as FIPS 180-4 lists it. -/
theorem test_sha384_abc : digestBytes (sha384 (ascii "abc")) =
    [0xcb, 0x00, 0x75, 0x3f, 0x45, 0xa3, 0x5e, 0x8b, 0xb5, 0xa0, 0x3d, 0x69, 0x9a, 0xc6, 0x50, 0x07, 0x27, 0x2c, 0x32, 0xab, 0x0e, 0xde,
     0xd1, 0x63, 0x1a, 0x8b, 0x60, 0x5a, 0x43, 0xff, 0x5b, 0xed, 0x80, 0x86, 0x07, 0x2b, 0xa1, 0xe7, 0xcc, 0x23, 0x58, 0xba, 0xec, 0xa1,
     0x34, 0xc8, 0x25, 0xa7] := by decide +kernel

/-- 02 R56: the epoch saturates, and only Indigo's claim wins there. -/
theorem test_saturated_epoch : claimWins .indigo 0xFFFFFFFF 0xFFFFFFFF = true ∧ claimWins .amber 0xFFFFFFFF 5 = false ∧
    claimWins .amber 6 5 = true ∧ claimWins .amber 5 5 = false := by decide +kernel

/-- 02 R35: a device in QUARANTINE or SERVICE is in no other mode next but by a power-on reset. -/
theorem test_modes_that_stand : ∀ m ∈ ([.cold, .hold, .guard, .update, .recover, .service, .dormant] : List DevMode),
    DevMode.quarantine.mayBecome m = false ∧ DevMode.service.mayBecome m = false := by decide +kernel
end Sys2Proof.Tests
end

section
/-!
PROOF. O56: every step keeps the memory in its canonical form. `State.Keeps s₀ s` says that `s` has the commands that wait in `s₀` and
that its memory is canonical if that of `s₀` is. Each function of the machine has one lemma: from a state that keeps `s₀` it answers one
that does. Its proof follows the function's own branches, calls and updates in their order (`if c then (s.raise e).store a b else s` has
`hs.raise.store.ite hs`), and only the functions that write the memory speak of the memory.
-/
namespace Sys2Proof.Machine

/-- `t` keeps what no command may lose of `s`: the commands that wait, and the canonical form of the memory. -/
structure State.Keeps (s t : State) : Prop where
  queue : t.pending = s.pending
  canonical : s.memoryCanonical → t.memoryCanonical

/-- An outcome that is a next state answers one that keeps it. -/
def State.OutcomeKeeps (s : State) (r : Host.Outcome State Fault Refusal) : Prop := ∀ t, r = .next t → s.Keeps t

section
variable {s₀ s : State}

theorem State.Keeps.refl (s : State) : s.Keeps s := ⟨rfl, id⟩

/-- An update that writes neither memory nor the queue. -/
theorem State.Keeps.upd (hs : s₀.Keeps s) {time dev hg ev pw ms log chans ports mir hash upd cis pak boot kv lev spdm fuse pke cores
    mbox spi rill free} :
    s₀.Keeps ⟨time, dev, hg, ev, pw, ms, log, chans, ports, mir, hash, upd, cis, pak, boot, kv, lev, spdm, fuse, pke, cores, mbox, spi,
      rill, s.mem, free, s.pending⟩ :=
  ⟨hs.queue, hs.canonical⟩

/-- An update that leaves memory canonical where it was. -/
theorem State.Keeps.updMem {t : State} (hs : s₀.Keeps s) (hm : Memory.wf s.mem = true → Memory.wf t.mem = true)
    (hq : t.pending = s.pending := by rfl) : s₀.Keeps t :=
  ⟨hq.trans hs.queue, fun h => hm (hs.canonical h)⟩

theorem State.Keeps.ite {c : Prop} {_ : Decidable c} {t u : State} (ht : s₀.Keeps t) (hu : s₀.Keeps u) : s₀.Keeps (if c then t else u) := by
  split
  · exact ht
  · exact hu

theorem State.Keeps.iteFst {α : Type} {c : Prop} {_ : Decidable c} {p q : State × α} (hp : s₀.Keeps p.1) (hq : s₀.Keeps q.1) :
    s₀.Keeps (if c then p else q).1 := by
  split
  · exact hp
  · exact hq

theorem State.Keeps.iteSnd {α : Type} {c : Prop} {_ : Decidable c} {p q : α × State} (hp : s₀.Keeps p.2) (hq : s₀.Keeps q.2) :
    s₀.Keeps (if c then p else q).2 := by
  split
  · exact hp
  · exact hq

theorem State.Keeps.iteSndFst {α β : Type} {c : Prop} {_ : Decidable c} {p q : α × State × β} (hp : s₀.Keeps p.2.1) (hq : s₀.Keeps q.2.1) :
    s₀.Keeps (if c then p else q).2.1 := by
  split
  · exact hp
  · exact hq

theorem State.Keeps.foldl {α : Type} {f : State → α → State} {l : List α} (hs : s₀.Keeps s) (hf : ∀ t a, s₀.Keeps t → s₀.Keeps (f t a)) :
    s₀.Keeps (l.foldl f s) :=
  State.foldl_inv (fun t => s₀.Keeps t) f hf l s hs

theorem State.Keeps.next (hs : s₀.Keeps s) : s₀.OutcomeKeeps (.next s) := by
  rintro t ⟨⟩
  exact hs

theorem State.OutcomeKeeps.fault {r : Fault} : s₀.OutcomeKeeps (.fault r) := fun _ h => nomatch h

theorem State.OutcomeKeeps.refused {r : Refusal} : s₀.OutcomeKeeps (.refused r) := fun _ h => nomatch h

theorem State.OutcomeKeeps.ite {c : Prop} {_ : Decidable c} {p q : Host.Outcome State Fault Refusal} (hp : s₀.OutcomeKeeps p)
    (hq : s₀.OutcomeKeeps q) : s₀.OutcomeKeeps (if c then p else q) := by
  split
  · exact hp
  · exact hq

theorem State.OutcomeKeeps.afterExec {o : Host.Outcome State Fault Refusal} (ho : s₀.OutcomeKeeps o) (hs : s₀.Keeps s) :
    s₀.Keeps (afterExec o s) := by
  cases o with
  | next t => exact ho t rfl
  | fault r => exact hs
  | refused r => exact hs

/-- A register's write is one of the list's, or the one for an offset that is none of theirs. -/
theorem State.Keeps.regs {l : List (Nat × State × Code)} {o : Nat} {d : State × Code} (hd : s₀.Keeps d.1)
    (hl : l.Forall fun x => s₀.Keeps x.2.1) : s₀.Keeps ((regAt l o).getD d).1 := by
  unfold regAt
  cases hx : l.find? fun p => p.1 == o with
  | none => exact hd
  | some x => exact (List.forall_iff_forall_mem.1 hl) x (List.mem_of_find?_eq_some hx)

/-! ### Ops -/

theorem State.Keeps.updChan (hs : s₀.Keeps s) {c : ChanId} {f : Chan → Chan} : s₀.Keeps (s.updChan c f) := hs.upd

theorem State.Keeps.updPort (hs : s₀.Keeps s) {p : PortId} {f : Port → Port} : s₀.Keeps (s.updPort p f) := hs.upd

theorem State.Keeps.updCore (hs : s₀.Keeps s) {k : CoreId} {f : Core → Core} : s₀.Keeps (s.updCore k f) := hs.upd

theorem State.Keeps.updTarget (hs : s₀.Keeps s) {t : Target} {f : TargetUpd → TargetUpd} : s₀.Keeps (s.updTarget t f) := hs.upd

theorem State.Keeps.store (hs : s₀.Keeps s) {a : Nat} {bs : List Byte} : s₀.Keeps (s.store a bs) := hs.updMem (s.store_wf a bs)

theorem State.Keeps.erase (hs : s₀.Keeps s) {a n : Nat} : s₀.Keeps (s.erase a n) := hs.updMem (s.erase_wf a n)

theorem State.Keeps.advanceTo (hs : s₀.Keeps s) {t : Nat} : s₀.Keeps (s.advanceTo t) := hs.upd

theorem State.Keeps.drawn (hs : s₀.Keeps s) : s₀.Keeps s.drawn := hs.upd

theorem State.Keeps.raise (hs : s₀.Keeps s) {e : Nat} : s₀.Keeps (s.raise e) := hs.upd

theorem State.Keeps.raiseIf (hs : s₀.Keeps s) {b : Bool} {e : Nat} : s₀.Keeps (s.raiseIf b e) := hs.raise.ite hs

theorem State.Keeps.logRec (hs : s₀.Keeps s) {kind : LogKind} {event code : Nat} {origin : Origin} {body : List LogField} :
    s₀.Keeps (s.logRec kind event code origin body) := hs.upd

theorem State.Keeps.logIt (hs : s₀.Keeps s) {kind : LogKind} {event code : Nat} {body : List LogField} :
    s₀.Keeps (s.logIt kind event code body) := hs.logRec

theorem State.Keeps.logMeas (hs : s₀.Keeps s) {kind : LogKind} {body : List LogField} : s₀.Keeps (s.logMeas kind body) := hs.upd

theorem State.Keeps.logLimitedAs (hs : s₀.Keeps s) {limit src : Nat} {kind : LogKind} {event code : Nat} {origin : Origin}
    {body : List LogField} : s₀.Keeps (s.logLimitedAs limit src kind event code origin body) := hs.upd.logRec.ite hs.upd

theorem State.Keeps.logLimited (hs : s₀.Keeps s) {limit src : Nat} {kind : LogKind} {event code : Nat} {body : List LogField} :
    s₀.Keeps (s.logLimited limit src kind event code body) := hs.logLimitedAs

theorem State.Keeps.raiseLog (hs : s₀.Keeps s) {e : Nat} {body : List LogField} : s₀.Keeps (s.raiseLog e body) := hs.raise.logIt

theorem State.Keeps.raiseLog1 (hs : s₀.Keeps s) {e key : Nat} {body : List LogField} : s₀.Keeps (s.raiseLog1 e key body) :=
  hs.raise.logLimited

theorem State.Keeps.setMode (hs : s₀.Keeps s) {m : DevMode} {cause : Nat} : s₀.Keeps (s.setMode m cause) := hs.upd.logIt.ite hs

theorem State.Keeps.dropPrefetch (hs : s₀.Keeps s) {c : ChanId} {f : Nat → Bool} : s₀.Keeps (s.dropPrefetch c f) := hs.updPort

theorem State.Keeps.fillAbort (hs : s₀.Keeps s) {c : ChanId} : s₀.Keeps (s.fillAbort c) := hs.updChan.upd.raiseLog

theorem State.Keeps.copyState (hs : s₀.Keeps s) {c : ChanId} {st : ChanState} : s₀.Keeps (s.copyState c st) := hs.store

theorem State.Keeps.enterChan (hs : s₀.Keeps s) {c : ChanId} {st : ChanState} : s₀.Keeps (s.enterChan c st) :=
  have h₁ := (hs.updChan.ite hs.updChan.dropPrefetch).logIt
  h₁.fillAbort.ite h₁

theorem State.Keeps.setChan (hs : s₀.Keeps s) {c : ChanId} {st : ChanState} : s₀.Keeps (s.setChan c st) := hs.ite hs.enterChan.copyState

/-! ### Store -/

theorem State.Keeps.storeAppend (hs : s₀.Keeps s) {rec : List Byte} : s₀.Keeps (s.storeAppend rec) := hs.store.upd

theorem State.Keeps.storeValue (hs : s₀.Keeps s) {index sub : Nat} {v : List Byte} : s₀.Keeps (s.storeValue index sub v) :=
  hs.storeAppend.upd

theorem State.Keeps.storeCompact (hs : s₀.Keeps s) : s₀.Keeps s.storeCompact :=
  (hs.erase.upd.foldl fun _ _ h => h.storeValue).storeAppend.erase

theorem State.Keeps.storeHeader (hs : s₀.Keeps s) : s₀.Keeps s.storeHeader := hs.storeAppend.ite hs

theorem State.Keeps.storePut (hs : s₀.Keeps s) {index sub : Nat} {v : List Byte} : s₀.Keeps (s.storePut index sub v) :=
  hs.upd.storeHeader.storeValue.ite hs.upd.storeHeader.storeCompact

theorem State.Keeps.answer (hs : s₀.Keeps s) {c : Code} : s₀.Keeps (s.answer c) := hs.upd

theorem State.Keeps.pldmTell (hs : s₀.Keeps s) {t : Target} {command result : Nat} : s₀.Keeps (s.pldmTell t command result) := hs.upd.ite hs

theorem State.Keeps.vput (hs : s₀.Keeps s) {index sub : Nat} {v : List Byte} : s₀.Keeps (s.vput index sub v) := hs.upd

theorem State.Keeps.opRefused (hs : s₀.Keeps s) {op : ModeOp} : s₀.Keeps (s.opRefused op) := hs.logIt

/-! ### Access -/

theorem State.Keeps.asked (hs : s₀.Keeps s) {who : Requester} {f : State → State} (hf : ∀ t, s₀.Keeps t → s₀.Keeps (f t)) :
    s₀.Keeps (s.asked who f) := (hf _ hs).ite hs

theorem State.Keeps.dropRequester (hs : s₀.Keeps s) {key : Nat} : s₀.Keeps (s.dropRequester key) := hs.upd

theorem State.Keeps.refuse (hs : s₀.Keeps s) {op : ModeOp} {c : Code} : s₀.Keeps (s.refuse op c) := (hs.opRefused.ite hs).answer

theorem State.Keeps.objWrite (hs : s₀.Keeps s) {who : Requester} {op : ModeOp} {acc : Access} {p : Bool} {index sub : Nat}
    {c : Option ChanId} {own : List Code} {act : State → State × Code} (hact : ∀ t, s₀.Keeps t → s₀.Keeps (act t).1) :
    s₀.Keeps (s.objWrite who op acc p index sub c own act) := hs.asked (fun _ h => by split; exacts [h.refuse, (hact _ h).answer])

theorem State.Keeps.busError (hs : s₀.Keeps s) {k : CoreId} {addr : Nat} {c : Code} : s₀.Keeps (s.busError k addr c) := hs.updCore.raiseLog1

theorem State.Keeps.busEnd (hs : s₀.Keeps s) {k : CoreId} {addr : Nat} {r : State × Code} (hr : s₀.Keeps r.1) :
    s₀.Keeps (s.busEnd k addr r) := hr.ite hs.busError

theorem State.Keeps.halfBus (hs : s₀.Keeps s) {h : Half} {addr dom : Nat} {stewardOnly : Bool} {f : State → State}
    (hf : ∀ t, s₀.Keeps t → s₀.Keeps (f t)) : s₀.Keeps (s.halfBus h addr dom stewardOnly f) := by
  unfold State.halfBus
  split
  · exact hs.busError
  exact hf _ hs

/-! ### Personality -/

theorem State.Keeps.writeTraces (hs : s₀.Keeps s) : s₀.Keeps s.writeTraces := hs.ite hs.erase.store

theorem State.Keeps.buildPins (hs : s₀.Keeps s) {c : ChanId} : s₀.Keeps (s.buildPins c) := hs.updChan.raiseLog.ite hs.updChan

theorem State.Keeps.closeTrace (hs : s₀.Keeps s) {c : ChanId} : s₀.Keeps (s.closeTrace c) := hs.ite hs.upd.updChan.writeTraces.buildPins

theorem State.Keeps.personalityReset (hs : s₀.Keeps s) {c : ChanId} : s₀.Keeps (s.personalityReset c) := hs.closeTrace.updChan.raiseLog

/-! ### Headgate -/

theorem State.Keeps.clearVerdicts (hs : s₀.Keeps s) {c : ChanId} : s₀.Keeps (s.clearVerdicts c) := hs.upd

theorem State.Keeps.startVer (hs : s₀.Keeps s) {t : Target} {k : VerKind} {gen : Nat} {container : List Byte} :
    s₀.Keeps (s.startVer t k gen container) := hs.upd

theorem State.Keeps.verifyChan (hs : s₀.Keeps s) {c : ChanId} : s₀.Keeps (s.verifyChan c) := hs.ite hs.startVer

theorem State.Keeps.chanAsserted (hs : s₀.Keeps s) {c : ChanId} : s₀.Keeps (s.chanAsserted c) := by
  unfold State.chanAsserted
  split
  · exact hs.setChan.verifyChan
  · exact hs.setChan.ite hs
  exact hs

theorem State.Keeps.outEvent (hs : s₀.Keeps s) {h : OutId} {change cause : Nat} : s₀.Keeps (s.outEvent h change cause) := hs.raiseLog

theorem State.Keeps.assertOne (hs : s₀.Keeps s) {cause : Nat} {h : OutId} : s₀.Keeps (s.assertOne cause h) :=
  hs.ite (hs.upd.foldl fun _ _ h => h.clearVerdicts.chanAsserted).outEvent

theorem State.Keeps.assertSet (hs : s₀.Keeps s) {set : DWord} {cause : Nat} : s₀.Keeps (s.assertSet set cause) :=
  hs.foldl fun _ _ h => h.assertOne

theorem State.Keeps.assertAll (hs : s₀.Keeps s) {cause : Nat} : s₀.Keeps (s.assertAll cause) := hs.assertSet

theorem State.Keeps.puenLow (hs : s₀.Keeps s) : s₀.Keeps s.puenLow := hs.assertAll.upd

theorem State.Keeps.chanReleased (hs : s₀.Keeps s) {c : ChanId} : s₀.Keeps (s.chanReleased c) :=
  hs.personalityReset.setChan.ite hs.personalityReset

theorem State.Keeps.releaseOne (hs : s₀.Keeps s) {h : OutId} : s₀.Keeps (s.releaseOne h) :=
  (hs.upd.foldl fun _ _ h => h.chanReleased).outEvent.setMode.ite (hs.upd.foldl fun _ _ h => h.chanReleased).outEvent

theorem State.Keeps.holdSet (hs : s₀.Keeps s) {half : Half} {h : OutId} : s₀.Keeps (s.holdSet half h) := hs.upd.assertSet

theorem State.Keeps.holdClear (hs : s₀.Keeps s) {half : Half} {h : OutId} : s₀.Keeps (s.holdClear half h) := hs.upd

theorem State.Keeps.holdWrite (hs : s₀.Keeps s) {half : Half} {h : OutId} {set : Bool} : s₀.Keeps (s.holdWrite half h set) :=
  hs.ite (hs.holdSet.ite hs.holdClear)

theorem State.Keeps.setInvert (hs : s₀.Keeps s) {v : Word} : s₀.Keeps (s.setInvert v) := hs.upd

theorem State.Keeps.senseChange (hs : s₀.Keeps s) {i : SenseId} {level : Bool} : s₀.Keeps (s.senseChange i level) :=
  hs.ite hs.upd.raise.logLimited

theorem State.Keeps.senseLoss (hs : s₀.Keeps s) {h : OutId} : s₀.Keeps (s.senseLoss h) := by
  unfold State.senseLoss
  refine hs.ite ?_
  split
  · exact hs
  exact hs.advanceTo.upd.assertSet

theorem State.Keeps.senseLossClear (hs : s₀.Keeps s) {h : OutId} : s₀.Keeps (s.senseLossClear h) := by
  unfold State.senseLossClear
  split
  · exact hs
  exact hs.advanceTo.upd

theorem State.Keeps.senseTimeout (hs : s₀.Keeps s) {h : OutId} : s₀.Keeps (s.senseTimeout h) := hs.ite hs.upd.outEvent

theorem State.Keeps.enterHold (hs : s₀.Keeps s) : s₀.Keeps s.enterHold := hs.upd

theorem State.Keeps.loadSensingDone (hs : s₀.Keeps s) {h1 h2 h3 : DWord} : s₀.Keeps (s.loadSensingDone h1 h2 h3) :=
  hs.ite (hs.upd.foldl fun _ _ h => h.ite h.outEvent)

theorem State.Keeps.puenSettle (hs : s₀.Keeps s) : s₀.Keeps s.puenSettle := hs.advanceTo.upd.ite hs

theorem State.Keeps.vpostCode (hs : s₀.Keeps s) {h : Half} {c : Code} : s₀.Keeps (s.vpostCode h c) := hs.upd

theorem State.Keeps.vpostStore (hs : s₀.Keeps s) {h : Half} {value : Word} : s₀.Keeps (s.vpostStore h value).1 :=
  hs.vpostCode.iteFst (hs.vpostCode.iteFst (hs.vpostCode.iteFst hs.upd))

/-! ### Pke -/

theorem State.Keeps.updEng (hs : s₀.Keeps s) {h : Half} {f : Pke → Pke} : s₀.Keeps (s.updEng h f) := hs.upd

theorem State.Keeps.setSlot (hs : s₀.Keeps s) {h : Half} {i v : Nat} : s₀.Keeps (s.setSlot h i v) := by
  unfold State.setSlot
  split
  · exact hs.store.updEng
  exact hs

theorem State.Keeps.pkeError (hs : s₀.Keeps s) {h : Half} : s₀.Keeps (s.pkeError h) := by
  unfold State.pkeError
  split
  · exact hs.raiseLog
  exact hs.updEng.raiseLog

theorem State.Keeps.pkeSpend (hs : s₀.Keeps s) {h : Half} {n : Nat} : s₀.Keeps (s.pkeSpend h n) := hs.updEng

theorem State.Keeps.pkeMac (hs : s₀.Keeps s) {h : Half} {f : PkeFields} : s₀.Keeps (pkeMac h f s) :=
  hs.pkeError.ite (hs.setSlot.updEng.ite hs.setSlot).pkeSpend

theorem State.Keeps.pkeVmac (hs : s₀.Keeps s) {h : Half} {f : PkeFields} : s₀.Keeps (pkeVmac h f s) :=
  hs.pkeError.ite (hs.store.updEng.ite hs.store).pkeSpend

theorem State.Keeps.pkeInit (hs : s₀.Keeps s) {h : Half} {param : Nat} : s₀.Keeps (pkeInit h param s) := hs.updEng.pkeSpend

theorem State.Keeps.pkeAbsorb (hs : s₀.Keeps s) {h : Half} {slot off n : Nat} : s₀.Keeps (pkeAbsorb h slot off n s) := by
  unfold Machine.pkeAbsorb
  split
  · exact hs.pkeError
  exact hs.updEng.pkeSpend

theorem State.Keeps.pkeSqueeze (hs : s₀.Keeps s) {h : Half} {slot off n : Nat} : s₀.Keeps (pkeSqueeze h slot off n s) := by
  unfold Machine.pkeSqueeze
  split
  · exact hs.pkeError
  exact hs.store.updEng.pkeSpend

theorem State.Keeps.pkeSample (hs : s₀.Keeps s) {h : Half} {slot mode : Nat} : s₀.Keeps (pkeSample h slot mode s) := by
  unfold Machine.pkeSample
  split
  · exact hs.pkeError
  refine hs.pkeError.ite ?_
  exact .pkeSpend (by split; exacts [hs.updEng.store, hs.updEng.updEng])

theorem State.Keeps.pkeSponge (hs : s₀.Keeps s) {h : Half} {hi lo : Word} : s₀.Keeps (pkeSponge h hi lo s) := by
  unfold Machine.pkeSponge
  refine hs.pkeError.ite ?_
  split
  · exact hs.pkeError.ite hs.pkeInit
  · exact hs.pkeError.ite hs.pkeAbsorb
  · exact hs.pkeError.ite hs.pkeSqueeze
  · exact hs.pkeError.ite hs.pkeSample
  exact hs.pkeError

theorem State.Keeps.wipeSlot (hs : s₀.Keeps s) {h : Half} {i : Nat} : s₀.Keeps (s.wipeSlot h i) := by
  unfold State.wipeSlot
  split
  · exact hs.erase.updEng
  exact hs

theorem State.Keeps.pkeWipe (hs : s₀.Keeps s) {h : Half} {keep : BitVec 256} : s₀.Keeps (s.pkeWipe h keep) :=
  hs.updMem (Memory.wf_filter s.mem _)

theorem State.Keeps.pkeEndJob (hs : s₀.Keeps s) {h : Half} {overrun : Bool} : s₀.Keeps (pkeEndJob h overrun s) := by
  unfold Machine.pkeEndJob
  dsimp only
  split
  · exact hs
  exact hs.pkeWipe.updEng.raise.raiseIf

theorem State.Keeps.pkeAbortAs (hs : s₀.Keeps s) {h : Half} {code : Code} : s₀.Keeps (pkeAbortAs h code s) :=
  hs.pkeWipe.updEng.raiseIf.raiseIf

theorem State.Keeps.pkeFault (hs : s₀.Keeps s) {h : Half} : s₀.Keeps (pkeFault h s) := hs.pkeAbortAs.upd

theorem State.Keeps.pkeOpen (hs : s₀.Keeps s) {h : Half} {hi : Word} : s₀.Keeps (pkeOpen h hi s) := by
  unfold Machine.pkeOpen
  dsimp only
  split
  · exact hs.pkeError.ite ((hs.foldl fun _ _ h => h.wipeSlot).updEng.raiseLog.ite (hs.foldl fun _ _ h => h.wipeSlot).updEng).pkeSpend
  exact hs.pkeError

theorem State.Keeps.pkeClose (hs : s₀.Keeps s) {h : Half} {hi : Word} : s₀.Keeps (pkeClose h hi s) := by
  unfold Machine.pkeClose
  dsimp only
  split
  · exact hs.pkeError
  exact
    have h₁ := hs.pkeSpend.updEng.raiseIf
    hs.pkeError.ite (hs.pkeSpend.updEng.ite (h₁.pkeEndJob.updEng.ite h₁.pkeFault))

theorem State.Keeps.pkeExec1 (hs : s₀.Keeps s) {h : Half} {hi lo : Word} : s₀.Keeps (pkeExec1 h hi lo s) := by
  unfold Machine.pkeExec1
  split
  · exact hs.pkeMac
  · exact hs.pkeVmac
  · exact hs.pkeOpen
  · exact hs.pkeClose
  · exact hs.pkeSponge
  exact hs.pkeError

theorem State.Keeps.pkeRun (hs : s₀.Keeps s) {h : Half} {n : Nat} : s₀.Keeps (pkeRun h n s) := by
  induction n generalizing s with
  | zero => exact hs
  | succ n ih =>
    unfold pkeRun
    refine hs.ite ?_
    split
    · exact hs
    · exact ih hs.updEng.pkeExec1

theorem State.Keeps.pkePush (hs : s₀.Keeps s) {h : Half} {hi lo : Word} : s₀.Keeps (pkePush h hi lo s) :=
  hs.halfBus (fun _ h => h.updEng.updEng.raise.ite h.updEng.updEng.pkeRun)

theorem State.Keeps.pkeJobEnd (hs : s₀.Keeps s) {h : Half} : s₀.Keeps (pkeJobEnd h s) := by
  unfold Machine.pkeJobEnd
  split
  · exact hs
  exact hs.ite hs.advanceTo.pkeEndJob.pkeRun

theorem State.Keeps.pkeJobOverrun (hs : s₀.Keeps s) {h : Half} : s₀.Keeps (pkeJobOverrun h s) := by
  unfold Machine.pkeJobOverrun
  split
  · exact hs
  exact hs.ite (hs.advanceTo.updEng.raise.ite hs.advanceTo.pkeFault)

theorem State.Keeps.readOut (hs : s₀.Keeps s) {h : Half} {a slot word : Nat} : s₀.Keeps (s.readOut h a slot word).2 :=
  hs.raise.iteSnd (hs.updEng.wipeSlot.updEng.iteSnd hs.updEng)

theorem State.Keeps.opRead (hs : s₀.Keeps s) {h : Half} {a : Nat} : s₀.Keeps (s.opRead h a).2 := by
  unfold State.opRead
  refine hs.raiseLog1.iteSnd ?_
  split
  · exact hs.readOut.iteSnd hs
  exact hs

theorem State.Keeps.slotCfgWrite (hs : s₀.Keeps s) {h : Half} {slot : Fin 256} {v : Word} : s₀.Keeps (s.slotCfgWrite h slot v).1 :=
  hs.iteFst (hs.iteFst hs.updEng)

/-! ### Steward -/

theorem State.Keeps.quarantineFreeze (hs : s₀.Keeps s) {cause : Nat} : s₀.Keeps (s.quarantineFreeze cause) := hs.upd.setMode.ite hs

theorem State.Keeps.disagreement (hs : s₀.Keeps s) : s₀.Keeps s.disagreement := hs.upd.storePut.quarantineFreeze.ite hs.upd.storePut

theorem State.Keeps.makeSteward (hs : s₀.Keeps s) {h : Half} {e : Word} : s₀.Keeps (s.makeSteward h e) := hs.upd

theorem State.Keeps.stewardLost (hs : s₀.Keeps s) {h : Half} : s₀.Keeps (s.stewardLost h) := (hs.makeSteward.ite hs.upd).disagreement

theorem State.Keeps.dropHash (hs : s₀.Keeps s) {h : Half} : s₀.Keeps (s.dropHash h) := hs.upd

theorem State.Keeps.resetCores (hs : s₀.Keeps s) {h : Half} : s₀.Keeps (s.resetCores h) := hs.upd

theorem State.Keeps.disarmWdog (hs : s₀.Keeps s) {g : Fin 4} : s₀.Keeps (s.disarmWdog g) := hs.upd

theorem State.Keeps.halfRestart (hs : s₀.Keeps s) {h : Half} : s₀.Keeps (s.halfRestart h) :=
  (hs.upd.stewardLost.ite hs.upd).resetCores.dropHash.disarmWdog.pkeAbortAs.upd

theorem State.Keeps.claim (hs : s₀.Keeps s) {h : Half} {c : Claim} {e : Word} : s₀.Keeps (s.claim h c e) := by
  unfold State.claim
  dsimp only
  split
  · split
    · exact hs.upd.makeSteward
    exact hs.upd.ite (hs.upd.makeSteward.disagreement.halfRestart.ite hs.upd.disagreement.halfRestart)
  exact hs.upd.stewardLost.ite hs.upd

theorem State.Keeps.yieldTo (hs : s₀.Keeps s) {h : Half} : s₀.Keeps (s.yieldTo h) := hs.upd.makeSteward.ite hs

theorem State.Keeps.releaseCores (hs : s₀.Keeps s) {h : Half} : s₀.Keeps (s.releaseCores h) := hs.upd

theorem State.Keeps.halfReturn (hs : s₀.Keeps s) {h : Half} : s₀.Keeps (s.halfReturn h) := hs.releaseCores.claim.ite hs

theorem State.Keeps.conflict (hs : s₀.Keeps s) {c : ChanId} : s₀.Keeps (s.conflict c) :=
  hs.upd.disagreement.setChan.ite (hs.clearVerdicts.upd.updChan.startVer.ite hs.clearVerdicts.upd.verifyChan)

theorem State.Keeps.noteGolden (hs : s₀.Keeps s) {c : ChanId} : s₀.Keeps (s.noteGolden c) := hs.ite hs.upd

theorem State.Keeps.needRecovery (hs : s₀.Keeps s) {c : ChanId} : s₀.Keeps (s.needRecovery c) := hs.updTarget.ite hs

theorem State.Keeps.afterPost (hs : s₀.Keeps s) {c : ChanId} : s₀.Keeps (s.afterPost c) :=
  hs.conflict.ite ((hs.upd.setChan.noteGolden.ite hs.upd).ite ((hs.upd.needRecovery.ite hs.upd).ite hs))

theorem State.Keeps.vpost (hs : s₀.Keeps s) {h : Half} {value : Word} : s₀.Keeps (s.vpost h value) :=
  hs.vpostStore.afterPost.ite hs.vpostStore

theorem State.Keeps.postVerdict (hs : s₀.Keeps s) {h : Half} {c : ChanId} {root : Digest} {code : Code} :
    s₀.Keeps (s.postVerdict h c root code) := hs.upd.vpost

theorem State.Keeps.dormantRequest (hs : s₀.Keeps s) {who : Requester} : s₀.Keeps (s.dormantRequest who) := by
  unfold State.dormantRequest
  split
  · exact hs.upd.answer
  · exact hs.opRefused.answer
  exact hs.answer

theorem State.Keeps.dormantAssert (hs : s₀.Keeps s) {h : OutId} : s₀.Keeps (s.dormantAssert h) := by
  unfold State.dormantAssert
  refine hs.ite ?_
  split
  · exact hs
  exact hs.advanceTo.assertSet

/-! ### Supply -/

theorem State.Keeps.measStart (hs : s₀.Keeps s) : s₀.Keeps s.measStart := hs.drawn.upd.raiseIf

theorem State.Keeps.measCtl (hs : s₀.Keeps s) {v : Word} : s₀.Keeps (s.measCtl v) := (hs.measStart.ite hs).upd

theorem State.Keeps.freezeStart (hs : s₀.Keeps s) : s₀.Keeps s.freezeStart := hs.upd.ite hs.upd.logMeas

theorem State.Keeps.freezeClearing (hs : s₀.Keeps s) : s₀.Keeps s.freezeClearing := hs.upd.ite hs

theorem State.Keeps.pwrokChange (hs : s₀.Keeps s) {on : Bool} : s₀.Keeps (s.pwrokChange on) :=
  hs.ite (hs.upd.raise.freezeClearing.ite (hs.upd.raise.ite hs.upd.raise.freezeStart))

theorem State.Keeps.freezeEnd (hs : s₀.Keeps s) : s₀.Keeps s.freezeEnd := by
  unfold State.freezeEnd
  split
  · exact hs.ite hs.advanceTo.upd
  exact hs

theorem State.Keeps.windowTrip (hs : s₀.Keeps s) {bus : Fin 2} {t : BusTrip} : s₀.Keeps (s.windowTrip bus t) := by
  unfold State.windowTrip
  split
  · exact hs.upd.freezeClearing.ite hs
  · exact hs.raise
  exact hs.raise.upd.freezeStart.ite hs.raise

theorem State.Keeps.disturbEnd (hs : s₀.Keeps s) {i : Fin 18} {c : DisturbClass} {start durUs ext mean : Nat} :
    s₀.Keeps (s.disturbEnd i c start durUs ext mean) := hs.ite (hs.upd.ite hs).raise.logLimitedAs

theorem State.Keeps.testStep (hs : s₀.Keeps s) : s₀.Keeps s.testStep := by
  unfold State.testStep
  split
  · exact hs
  exact hs.upd

theorem State.Keeps.huCtlWrite (hs : s₀.Keeps s) {k : CoreId} {v : Word} : s₀.Keeps (s.huCtlWrite k v).1 :=
  hs.iteFst (hs.iteFst (hs.testStep.ite hs))

theorem State.Keeps.stepDone (hs : s₀.Keeps s) {f : HuStep} : s₀.Keeps (s.stepDone f) := by
  unfold State.stepDone
  split
  · exact hs
  exact hs.advanceTo.upd.raise.ite hs.advanceTo.upd.drawn.upd.raise

theorem State.Keeps.holdupEstimate (hs : s₀.Keeps s) {busMv busMa : Nat} : s₀.Keeps (s.holdupEstimate busMv busMa) := by
  unfold State.holdupEstimate
  refine hs.ite ?_
  dsimp only
  split
  · exact hs.upd.raiseIf.upd
  exact hs.upd.raiseIf.drawn.upd.raiseIf

theorem State.Keeps.psuAnswer (hs : s₀.Keeps s) {i : Fin 4} {a : PsuAnswer} : s₀.Keeps (s.psuAnswer i a) :=
  hs.upd.raiseIf.ite (hs.upd.ite hs.upd.raise.logRec)

theorem State.Keeps.psuTry (hs : s₀.Keeps s) {i : Fin 4} {n : Nat} {lost : Bool} {a : PsuAnswer} : s₀.Keeps (s.psuTry i n lost a) :=
  hs.upd.raise.ite hs.psuAnswer

theorem State.Keeps.psuClearObj (hs : s₀.Keeps s) {who : Requester} {psu : Nat} : s₀.Keeps (s.psuClearObj who psu) :=
  hs.objWrite (fun _ h => h)

theorem State.Keeps.planTake (hs : s₀.Keeps s) : s₀.Keeps s.planTake := hs.upd

theorem State.Keeps.planCheck (hs : s₀.Keeps s) : s₀.Keeps s.planCheck := hs.planTake.ite hs

theorem State.Keeps.execPlanStageGenWrite (hs : s₀.Keeps s) {half : Half} {gen : Word16} :
    s₀.OutcomeKeeps (execPlanStageGenWrite half gen s) := (hs.halfBus (fun _ h => h.upd.planCheck)).next

theorem State.Keeps.planGenWrite (hs : s₀.Keeps s) {half : Half} {gen : Word16} : s₀.Keeps (s.planGenWrite half gen) := hs.upd.planCheck

theorem State.Keeps.planTimeout (hs : s₀.Keeps s) : s₀.Keeps s.planTimeout := by
  unfold State.planTimeout
  split
  · exact hs
  exact hs.advanceTo.upd.storePut.answer

/-! ### Hash -/

theorem State.Keeps.hashPush (hs : s₀.Keeps s) {h : Half} {addr : Nat} : s₀.Keeps (s.hashPush h addr) :=
  hs.upd.raiseLog.ite (hs.upd.raiseLog.ite hs.upd)

theorem State.Keeps.hashPop (hs : s₀.Keeps s) {h : Half} : s₀.Keeps (s.hashPop h) := by
  unfold State.hashPop
  refine hs.upd.ite ?_
  split
  · exact hs.upd
  exact hs.upd

theorem State.Keeps.updEngine (hs : s₀.Keeps s) {e : Fin 16} {f : Engine → Engine} : s₀.Keeps (s.updEngine e f) := hs.upd

theorem State.Keeps.yieldJob (hs : s₀.Keeps s) {e : Fin 16} : s₀.Keeps (s.yieldJob e) := by
  unfold State.yieldJob
  dsimp only
  split
  · exact hs.ite hs.updEngine.upd
  exact hs

theorem State.Keeps.startJob (hs : s₀.Keeps s) {h : Half} : s₀.Keeps (s.startJob h) := by
  unfold State.startJob
  split
  · exact hs.upd.updEngine
  exact hs

theorem State.Keeps.hashDispatch (hs : s₀.Keeps s) {h : Half} : s₀.Keeps (s.hashDispatch h) := by
  unfold State.hashDispatch
  refine hs.ite ?_
  split
  · exact hs.yieldJob.startJob
  exact hs.startJob

theorem State.Keeps.hashDone (hs : s₀.Keeps s) {e : Fin 16} {ns : Nat} : s₀.Keeps (s.hashDone e ns) := by
  unfold State.hashDone
  dsimp only
  split
  · exact hs
  exact hs.advanceTo.store.updEngine.upd

theorem State.Keeps.chargeFill (hs : s₀.Keeps s) {h : Half} {p : PortId} : s₀.Keeps (s.chargeFill h p) := hs.updEngine

theorem State.Keeps.fillTime (hs : s₀.Keeps s) {h : Half} {p : PortId} {ns : Nat} : s₀.Keeps (s.fillTime h p ns) := hs.updEngine

theorem State.Keeps.chargeBest (hs : s₀.Keeps s) {h : Half} {n : Nat} : s₀.Keeps (s.chargeBest h n) := by
  unfold State.chargeBest
  split
  · exact hs.updEngine
  exact hs

theorem State.Keeps.leafJob (hs : s₀.Keeps s) {e : Fin 16} {ns : Nat} : s₀.Keeps (s.leafJob e ns) := hs.updEngine

theorem State.Keeps.markFill (hs : s₀.Keeps s) {p : PortId} {on : Bool} : s₀.Keeps (s.markFill p on) := hs.foldl fun _ _ h => h.updEngine

theorem State.Keeps.fence (hs : s₀.Keeps s) {e : Fin 16} : s₀.Keeps (s.fence e) := hs.updEngine.raiseLog.ite hs.upd.updEngine.raiseLog

theorem State.Keeps.judgeEngine (hs : s₀.Keeps s) {med : Nat} {e : Fin 16} : s₀.Keeps (s.judgeEngine med e) :=
  hs.ite ((hs.updEngine.fence.ite hs.updEngine).ite hs.updEngine)

theorem State.Keeps.medianWindow (hs : s₀.Keeps s) {h : Half} : s₀.Keeps (s.medianWindow h) :=
  ((hs.advanceTo.upd.foldl fun _ _ h => h.judgeEngine).ite hs.advanceTo.upd).foldl fun _ _ h => h.updEngine

theorem State.Keeps.execHashFenceRetry (hs : s₀.Keeps s) {e : Fin 16} : s₀.OutcomeKeeps (execHashFenceRetry e s) :=
  State.Keeps.next (by dsimp only; split; exacts [hs.ite hs.advanceTo.updEngine, hs])

theorem State.Keeps.fenceRetryDone (hs : s₀.Keeps s) {e : Fin 16} {digestOk : Bool} {ns : Nat} :
    s₀.Keeps (s.fenceRetryDone e digestOk ns) :=
  hs.ite (hs.updEngine.raiseLog.ite ((hs.ite hs.raiseLog).updEngine.raiseLog.ite (hs.ite hs.raiseLog).updEngine))

/-! ### KeyVault -/

theorem State.Keeps.setKslot (hs : s₀.Keeps s) {i : Fin 128} {v : KvSlot} : s₀.Keeps (s.setKslot i v) := hs.upd

theorem State.Keeps.destroySlot (hs : s₀.Keeps s) {i : Fin 128} {st : SlotState} : s₀.Keeps (s.destroySlot i st) :=
  hs.ite (hs.setKslot.raise.ite hs.setKslot)

theorem State.Keeps.orphanSlot (hs : s₀.Keeps s) {i : Fin 128} : s₀.Keeps (s.orphanSlot i) := hs.destroySlot.upd

theorem State.Keeps.useHandle (hs : s₀.Keeps s) {h : Half} {hd : Word} {n : KvNeed} : s₀.Keeps (s.useHandle h hd n).1 :=
  hs.iteFst (hs.iteFst (hs.iteFst (hs.orphanSlot.iteFst hs)))

theorem State.Keeps.consumerCheck (hs : s₀.Keeps s) {hd : Word} {n : KvNeed} : s₀.Keeps (s.consumerCheck hd n).1 :=
  hs.iteFst (hs.iteFst hs.useHandle)

theorem State.Keeps.sweepPasses (hs : s₀.Keeps s) {n : Nat} : s₀.Keeps (s.sweepPasses n) := by
  induction n generalizing s with
  | zero => exact hs
  | succ n ih =>
    unfold State.sweepPasses
    split
    · exact hs
    · exact ih (hs.foldl fun _ _ h => h.orphanSlot.ite h)

theorem State.Keeps.kvSweep (hs : s₀.Keeps s) : s₀.Keeps s.kvSweep := hs.sweepPasses.raiseIf

theorem State.Keeps.kvZeroise (hs : s₀.Keeps s) : s₀.Keeps s.kvZeroise := (hs.foldl fun _ _ h => h.destroySlot).raise

theorem State.Keeps.kvOff (hs : s₀.Keeps s) {event : Bool} : s₀.Keeps (s.kvOff event) := hs.upd.raiseIf

theorem State.Keeps.lockSlot (hs : s₀.Keeps s) {i : Fin 128} : s₀.Keeps (s.lockSlot i) := hs.setKslot

theorem State.Keeps.kvEnd (hs : s₀.Keeps s) {h : Half} {op : Nat} {c : Code} {hd : Word} : s₀.Keeps (s.kvEnd h op c hd) :=
  hs.upd.raiseIf.raiseLog1.ite (hs.upd.raiseIf.raiseLog.ite hs.upd.raiseIf)

theorem State.Keeps.kvCreate (hs : s₀.Keeps s) {h : Half} {cmd : KvCmd} {bits value : Nat} {dest usage : BitVec 8}
    {parent : Option (Fin 128)} {bound : Bool} : s₀.Keeps (s.kvCreate h cmd bits value dest usage parent bound).1 := by
  unfold State.kvCreate
  split
  · exact hs.setKslot
  exact hs

theorem State.Keeps.kvRun (hs : s₀.Keeps s) {h : Half} {op : Nat} {cmd : KvCmd} {act : State → KvDone}
    (hact : ∀ t, s₀.Keeps t → s₀.Keeps (act t).1) : s₀.Keeps (s.kvRun h op cmd act) :=
  hs.halfBus (fun _ h => h.raiseLog.ite (h.kvEnd.ite (hact _ h).kvEnd))

theorem State.Keeps.kvGenerate (hs : s₀.Keeps s) {h : Half} {cmd : KvCmd} : s₀.Keeps (s.kvGenerate h cmd).1 := hs.iteFst hs.kvCreate.upd

theorem State.Keeps.execGenerate (hs : s₀.Keeps s) {half : Half} {cmd : KvCmd} : s₀.OutcomeKeeps (execGenerate half cmd s) :=
  (hs.kvRun (fun _ h => h.kvGenerate)).next

theorem State.Keeps.kvDerive (hs : s₀.Keeps s) {h : Half} {cmd : KvCmd} : s₀.Keeps (s.kvDerive h cmd).1 := by
  unfold State.kvDerive
  dsimp only
  split
  · exact hs.useHandle
  exact hs.kvCreate

theorem State.Keeps.execDerive (hs : s₀.Keeps s) {half : Half} {cmd : KvCmd} : s₀.OutcomeKeeps (execDerive half cmd s) :=
  (hs.kvRun (fun _ h => h.kvDerive)).next

theorem State.Keeps.kvExtract (hs : s₀.Keeps s) {h : Half} {cmd : KvCmd} : s₀.Keeps (s.kvExtract h cmd).1 := by
  unfold State.kvExtract
  refine State.Keeps.iteFst ?_ ?_
  · exact (hs.iteFst hs.useHandle).useHandle
  · exact hs.kvCreate

theorem State.Keeps.execExtract (hs : s₀.Keeps s) {half : Half} {cmd : KvCmd} : s₀.OutcomeKeeps (execExtract half cmd s) :=
  (hs.kvRun (fun _ h => h.kvExtract)).next

theorem State.Keeps.kvExpand (hs : s₀.Keeps s) {h : Half} {cmd : KvCmd} : s₀.Keeps (s.kvExpand h cmd).1 := by
  unfold State.kvExpand
  dsimp only
  split
  · exact hs.useHandle
  exact hs.kvCreate

theorem State.Keeps.execExpand (hs : s₀.Keeps s) {half : Half} {cmd : KvCmd} : s₀.OutcomeKeeps (execExpand half cmd s) :=
  (hs.kvRun (fun _ h => h.kvExpand)).next

theorem State.Keeps.kvInvalidate (hs : s₀.Keeps s) {h : Half} {cmd : KvCmd} : s₀.Keeps (s.kvInvalidate h cmd).1 := by
  unfold State.kvInvalidate
  dsimp only
  split
  · exact hs.useHandle
  exact hs.iteFst hs.destroySlot

theorem State.Keeps.execInvalidate (hs : s₀.Keeps s) {half : Half} {cmd : KvCmd} : s₀.OutcomeKeeps (execInvalidate half cmd s) :=
  (hs.kvRun (fun _ h => h.kvInvalidate)).next

theorem State.Keeps.kvLoadPke (hs : s₀.Keeps s) {h : Half} {cmd : KvCmd} : s₀.Keeps (s.kvLoadPke h cmd).1 := by
  unfold State.kvLoadPke
  exact State.Keeps.iteFst hs.useHandle hs.setSlot.updEng

theorem State.Keeps.execLoadPke (hs : s₀.Keeps s) {half : Half} {cmd : KvCmd} : s₀.OutcomeKeeps (execLoadPke half cmd s) :=
  (hs.kvRun (fun _ h => h.kvLoadPke)).next

theorem State.Keeps.kvStorePke (hs : s₀.Keeps s) {h : Half} {cmd : KvCmd} : s₀.Keeps (s.kvStorePke h cmd).1 :=
  hs.raiseIf.iteFst hs.kvCreate.wipeSlot.updEng

theorem State.Keeps.execStorePke (hs : s₀.Keeps s) {half : Half} {cmd : KvCmd} : s₀.OutcomeKeeps (execStorePke half cmd s) :=
  (hs.kvRun (fun _ h => h.kvStorePke)).next

theorem State.Keeps.kvHmac (hs : s₀.Keeps s) {h : Half} {cmd : KvCmd} : s₀.Keeps (s.kvHmac h cmd).1 := by
  unfold State.kvHmac
  exact State.Keeps.iteFst hs.useHandle hs.chargeBest.store

theorem State.Keeps.execHmac (hs : s₀.Keeps s) {half : Half} {cmd : KvCmd} : s₀.OutcomeKeeps (execHmac half cmd s) :=
  (hs.kvRun (fun _ h => h.kvHmac)).next

theorem State.Keeps.kvWrap (hs : s₀.Keeps s) {h : Half} {cmd : KvCmd} : s₀.Keeps (s.kvWrap h cmd).1 := by
  unfold State.kvWrap
  exact State.Keeps.iteFst hs.useHandle.useHandle hs.store

theorem State.Keeps.execWrap (hs : s₀.Keeps s) {half : Half} {cmd : KvCmd} : s₀.OutcomeKeeps (execWrap half cmd s) :=
  (hs.kvRun (fun _ h => h.kvWrap)).next

theorem State.Keeps.kvUnwrap (hs : s₀.Keeps s) {h : Half} {cmd : KvCmd} : s₀.Keeps (s.kvUnwrap h cmd).1 := by
  unfold State.kvUnwrap
  dsimp only
  split
  · exact hs.useHandle
  split
  · exact hs.raise
  exact hs.iteFst hs.kvCreate

theorem State.Keeps.execUnwrap (hs : s₀.Keeps s) {half : Half} {cmd : KvCmd} : s₀.OutcomeKeeps (execUnwrap half cmd s) :=
  (hs.kvRun (fun _ h => h.kvUnwrap)).next

theorem State.Keeps.setRootLock (hs : s₀.Keeps s) : s₀.Keeps s.setRootLock := hs.ite hs.lockSlot.lockSlot.upd.raise

theorem State.Keeps.setTestSecret (hs : s₀.Keeps s) : s₀.Keeps s.setTestSecret := hs.ite (hs.ite hs.setKslot).upd.raise

theorem State.Keeps.loadSlot0 (hs : s₀.Keeps s) : s₀.Keeps s.loadSlot0 := hs.setKslot

theorem State.Keeps.sillSlot (hs : s₀.Keeps s) {i p : Fin 128} {label : String} {ctx : List Byte} {bits : Nat} {dest usage : BitVec 8} :
    s₀.Keeps (s.sillSlot i p label ctx bits dest usage) := hs.setKslot

theorem State.Keeps.sillDevice (hs : s₀.Keeps s) {sillMeas : Digest} : s₀.Keeps (s.sillDevice sillMeas) := hs.sillSlot.sillSlot.sillSlot

theorem State.Keeps.sillAlias (hs : s₀.Keeps s) {missionMeas : Digest} : s₀.Keeps (s.sillAlias missionMeas) := hs.sillSlot.sillSlot.sillSlot

theorem State.Keeps.sillCistern (hs : s₀.Keeps s) : s₀.Keeps s.sillCistern := hs.sillSlot

theorem State.Keeps.kvWarm (hs : s₀.Keeps s) : s₀.Keeps s.kvWarm := (hs.foldl fun _ _ h => h.ite (h.lockSlot.ite h.destroySlot)).upd.raise

theorem State.Keeps.dropSessionSlots (hs : s₀.Keeps s) {x : Session} : s₀.Keeps (s.dropSessionSlots x) :=
  hs.foldl fun _ _ h => h.destroySlot

/-! ### Identity -/

theorem State.Keeps.signed (hs : s₀.Keeps s) : s₀.Keeps s.signed := hs.upd

/-! ### Fuse -/

theorem State.Keeps.setMain (hs : s₀.Keeps s) {w : Fin 512} {v : FuseWord} : s₀.Keeps (s.setMain w v) := by
  unfold State.setMain
  split
  · exact hs.upd
  exact hs.upd

theorem State.Keeps.loadShadow (hs : s₀.Keeps s) {w : Fin 512} : s₀.Keeps (s.loadShadow w) := hs.upd

theorem State.Keeps.loadPrivShadow (hs : s₀.Keeps s) {p : Fin 64} : s₀.Keeps (s.loadPrivShadow p) := hs.upd

theorem State.Keeps.weakFound (hs : s₀.Keeps s) : s₀.Keeps s.weakFound := hs.upd.raise

theorem State.Keeps.senseMain (hs : s₀.Keeps s) {w : Nat} : s₀.Keeps (s.senseMain w) :=
  hs.loadShadow.raiseIf.ite hs.loadShadow.raiseIf.weakFound

theorem State.Keeps.sensePriv (hs : s₀.Keeps s) {p : Nat} : s₀.Keeps (s.sensePriv p) :=
  hs.loadPrivShadow.raiseIf.ite hs.loadPrivShadow.raiseIf.weakFound

theorem State.Keeps.checkRegions (hs : s₀.Keeps s) {ns : List Nat} : s₀.Keeps (s.checkRegions ns) := hs.foldl fun _ _ h => h.upd.raiseIf

theorem State.Keeps.loadBootFuses (hs : s₀.Keeps s) : s₀.Keeps s.loadBootFuses :=
  (((hs.upd.foldl fun _ _ h => h.sensePriv).foldl fun _ _ h => h.sensePriv).foldl fun _ _ h => h.senseMain).checkRegions.upd

theorem State.Keeps.fuseAlarm (hs : s₀.Keeps s) {cond : Bool} {bit event : Nat} : s₀.Keeps (s.fuseAlarm cond bit event) :=
  hs.upd.logRec.ite hs

theorem State.Keeps.loadRestFuses (hs : s₀.Keeps s) : s₀.Keeps s.loadRestFuses :=
  hs.ite (hs.foldl fun _ _ h => h.senseMain).checkRegions.upd.fuseAlarm.fuseAlarm.raise

theorem State.Keeps.fuseEnd (hs : s₀.Keeps s) {c : Code} {weak : Bool} {burned failed ns : Nat} :
    s₀.Keeps (s.fuseEnd c weak burned failed ns) := hs.upd

theorem State.Keeps.fuseRefuse (hs : s₀.Keeps s) {c : Code} : s₀.Keeps (s.fuseRefuse c) := (hs.ite hs.upd).raiseLog

theorem State.Keeps.setReadRegs (hs : s₀.Keeps s) {secret both : Bool} {loose tight weak : Word} :
    s₀.Keeps (s.setReadRegs secret both loose tight weak) := hs.upd

theorem State.Keeps.fuseSense (hs : s₀.Keeps s) {both priv : Bool} {w : Nat} : s₀.Keeps (s.fuseSense both priv w) :=
  hs.fuseRefuse.ite (hs.fuseRefuse.ite hs.setReadRegs.raiseIf.raiseIf.fuseEnd)

theorem State.Keeps.execFuseRead (hs : s₀.Keeps s) {half : Half} {priv : Bool} {word : BitVec 9} :
    s₀.OutcomeKeeps (execFuseRead half priv word s) := (hs.halfBus (fun _ h => h.fuseSense)).next

theorem State.Keeps.execFuseMargin (hs : s₀.Keeps s) {half : Half} {priv : Bool} {word : BitVec 9} :
    s₀.OutcomeKeeps (execFuseMargin half priv word s) := (hs.halfBus (fun _ h => h.fuseSense)).next

theorem State.Keeps.burnMain (hs : s₀.Keeps s) {w : Nat} {set mask : Word} {b : BurnOutcome} : s₀.Keeps (s.burnMain w set mask b).1 :=
  hs.setMain.loadShadow

theorem State.Keeps.burnPriv (hs : s₀.Keeps s) {p : Nat} {set mask : Word} {b : BurnOutcome} : s₀.Keeps (s.burnPriv p set mask b).1 :=
  hs.upd.loadPrivShadow

theorem State.Keeps.burnEnd (hs : s₀.Keeps s) {r : BurnResult} {ns : Nat} : s₀.Keeps (s.burnEnd r ns).1 :=
  (hs.fuseEnd.weakFound.ite hs.fuseEnd).raise

theorem State.Keeps.burnStop (hs : s₀.Keeps s) {busy : Bool} {r : State × Code} (hr : s.burnStop busy = some r) : s₀.Keeps r.1 := by
  unfold State.burnStop at hr
  split at hr
  · cases hr
    exact hs.fuseRefuse
  split at hr
  · cases hr
    exact hs.fuseRefuse
  split at hr
  · cases hr
    exact hs.fuseEnd.raise
  · cases hr

theorem State.Keeps.stepEvents (hs : s₀.Keeps s) {priv : Bool} {w : Nat} {set : Word} : s₀.Keeps (s.stepEvents priv w set) :=
  hs.ite ((hs.raise.ite (hs.raise.ite hs.raise)).ite hs.raiseIf)

theorem State.Keeps.fuseProgram (hs : s₀.Keeps s) {busy priv : Bool} {w : Nat} {mask : Word} {b : BurnOutcome} :
    s₀.Keeps (s.fuseProgram busy priv w mask b).1 := by
  unfold State.fuseProgram
  split
  · exact hs.fuseRefuse
  split
  · exact hs.burnStop ‹_›
  exact ((hs.burnPriv.iteFst hs.burnMain).stepEvents.ite (hs.burnPriv.iteFst hs.burnMain)).burnEnd

theorem State.Keeps.execFuseProgram (hs : s₀.Keeps s) {half : Half} {priv : Bool} {word : BitVec 9} {burn : BurnOutcome} :
    s₀.OutcomeKeeps (execFuseProgram half priv word burn s) := (hs.halfBus (fun _ h => h.fuseProgram)).next

theorem State.Keeps.fuseReburn (hs : s₀.Keeps s) {priv : Bool} {w : Nat} {mask : Word} {b : BurnOutcome} :
    s₀.Keeps (s.fuseReburn priv w mask b).1 := by
  unfold State.fuseReburn
  split
  · exact hs.fuseRefuse
  split
  · exact hs.burnStop ‹_›
  exact (hs.burnPriv.iteFst hs.burnMain).burnEnd

theorem State.Keeps.execFuseReburn (hs : s₀.Keeps s) {half : Half} {priv : Bool} {word : BitVec 9} {burn : BurnOutcome} :
    s₀.OutcomeKeeps (execFuseReburn half priv word burn s) := (hs.halfBus (fun _ h => h.fuseReburn)).next

theorem State.Keeps.fuseLock (hs : s₀.Keeps s) {busy : Bool} {n : Nat} {b : BurnOutcome} : s₀.Keeps (s.fuseLock busy n b).1 := by
  unfold State.fuseLock
  refine hs.fuseRefuse.iteFst ?_
  refine (hs.fuseRefuse.iteFst hs.fuseEnd).iteFst ?_
  refine hs.fuseRefuse.iteFst ?_
  split
  · exact hs.fuseEnd.raiseLog.raise
  split
  · exact hs.burnStop ‹_›
  exact hs.burnPriv.raiseIf.burnEnd

theorem State.Keeps.execFuseLock (hs : s₀.Keeps s) {half : Half} {region : BitVec 9} {burn : BurnOutcome} :
    s₀.OutcomeKeeps (execFuseLock half region burn s) := (hs.halfBus (fun _ h => h.fuseLock)).next

theorem State.Keeps.burnSpare (hs : s₀.Keeps s) {sp : Fin 128} {v : Word} {b : BurnOutcome} : s₀.Keeps (s.burnSpare sp v b).1 := hs.upd

theorem State.Keeps.fuseRedirect (hs : s₀.Keeps s) {w : Nat} {v : Word} {b : BurnOutcome} : s₀.Keeps (s.fuseRedirect w v b).1 := by
  unfold State.fuseRedirect
  refine hs.fuseRefuse.iteFst ?_
  refine hs.fuseRefuse.iteFst ?_
  split
  · split
    · exact hs.burnStop ‹_›
    exact hs.burnSpare.burnEnd.iteFst hs.burnSpare.burnPriv.raiseIf.burnEnd
  exact hs.fuseRefuse.raise

theorem State.Keeps.execFuseRedirect (hs : s₀.Keeps s) {half : Half} {word : BitVec 9} {burn : BurnOutcome} :
    s₀.OutcomeKeeps (execFuseRedirect half word burn s) := (hs.halfBus (fun _ h => h.fuseRedirect)).next

theorem State.Keeps.burnRun (hs : s₀.Keeps s) {w : Nat} {vals : List Word} {b : BurnOutcome} : s₀.Keeps (s.burnRun w vals b).1 := by
  induction vals generalizing s w b with
  | nil => exact hs
  | cons v vs ih => exact ih hs.burnMain

theorem State.Keeps.genSecret (hs : s₀.Keeps s) {b : BurnOutcome} : s₀.Keeps (s.genSecret b).1 := by
  unfold State.genSecret
  refine hs.fuseRefuse.iteFst ?_
  refine hs.fuseRefuse.iteFst ?_
  split
  · exact hs.burnStop ‹_›
  exact hs.burnRun.burnRun.drawn.burnEnd

theorem State.Keeps.execGenSecret (hs : s₀.Keeps s) {half : Half} {burn : BurnOutcome} : s₀.OutcomeKeeps (execGenSecret half burn s) :=
  (hs.halfBus (fun _ h => h.genSecret)).next

theorem State.Keeps.fuseReloadWord (hs : s₀.Keeps s) {priv : Bool} {w : Nat} : s₀.Keeps (s.fuseReloadWord priv w) :=
  hs.fuseRefuse.ite (hs.fuseRefuse.ite (hs.loadPrivShadow.ite hs.loadShadow).fuseEnd)

theorem State.Keeps.execFuseReload (hs : s₀.Keeps s) {half : Half} {priv : Bool} {word : BitVec 9} :
    s₀.OutcomeKeeps (execFuseReload half priv word s) := (hs.halfBus (fun _ h => h.fuseReloadWord)).next

theorem State.Keeps.overrideWrite (hs : s₀.Keeps s) {v : Word} : s₀.Keeps (s.overrideWrite v) := hs.upd.raise.ite hs

theorem State.Keeps.dropOverrides (hs : s₀.Keeps s) : s₀.Keeps s.dropOverrides := hs.upd.foldl fun _ _ h => h.loadShadow

theorem State.Keeps.overrideAddr (hs : s₀.Keeps s) {v : Word} : s₀.Keeps (s.overrideAddr v) := (hs.dropOverrides.ite hs).upd

theorem State.Keeps.programRun (hs : s₀.Keeps s) {w : Nat} {x2 : List Word} {x3 : BurnOutcome} : s₀.Keeps (s.programRun w x2 x3).1 := by
  induction x2 generalizing s w x3 with
  | nil => exact hs
  | cons v vs ih => exact (ih hs.fuseProgram).iteFst hs.fuseProgram

theorem State.Keeps.ownerDigestWrite (hs : s₀.Keeps s) {who : Requester} {slot : Fin 4} {d : Digest} {b : BurnOutcome} :
    s₀.Keeps (s.ownerDigestWrite who slot d b).1 :=
  hs.iteFst (hs.fuseRefuse.iteFst (hs.opRefused.iteFst (hs.fuseRefuse.iteFst (hs.iteFst (hs.iteFst hs.programRun)))))

theorem State.Keeps.ownerDigestObj (hs : s₀.Keeps s) {who : Requester} {slot : Fin 4} {d : Digest} {b : BurnOutcome} :
    s₀.Keeps (s.ownerDigestObj who slot d b) := hs.asked (fun _ h => h.ownerDigestWrite.answer)

theorem State.Keeps.lockRequest (hs : s₀.Keeps s) {who : Requester} {ownerKey : Bool} {n : Nat} {b : BurnOutcome} :
    s₀.Keeps (s.lockRequest who ownerKey n b).1 := hs.iteFst (hs.opRefused.iteFst (hs.iteFst hs.fuseLock))

theorem State.Keeps.ownerLockObj (hs : s₀.Keeps s) {who : Requester} {slot : Fin 4} {b : BurnOutcome} :
    s₀.Keeps (s.ownerLockObj who slot b) := hs.asked (fun _ h => (h.lockRequest.vput.ite h.lockRequest).answer)

theorem State.Keeps.sealRegion (hs : s₀.Keeps s) {n : Nat} : s₀.Keeps (s.sealRegion n).1 :=
  hs.fuseProgram.drawn.fuseLock.drawn.iteFst hs.fuseProgram.drawn

/-! ### Dram -/

theorem State.Keeps.setEpoch (hs : s₀.Keeps s) {l e : Nat} : s₀.Keeps (s.setEpoch l e) := hs.store

theorem State.Keeps.resealCheck (hs : s₀.Keeps s) {version epoch : Nat} : s₀.Keeps (s.resealCheck version epoch) := hs.upd.raiseLog.ite hs

theorem State.Keeps.sealPage (hs : s₀.Keeps s) {p : Nat} : s₀.Keeps (s.sealPage p) := hs.upd.setEpoch.resealCheck

theorem State.Keeps.pinCopy (hs : s₀.Keeps s) {c : ChanId} {leaf : Nat} : s₀.Keeps (s.pinCopy c leaf) := by
  unfold State.pinCopy
  split
  · exact hs.store
  exact hs

theorem State.Keeps.mirrorWrite (hs : s₀.Keeps s) {c : ChanId} {a : Nat} {bs : List Byte} : s₀.Keeps (s.mirrorWrite c a bs) :=
  hs.ite ((hs.store.foldl fun _ _ h => h.sealPage).foldl fun _ _ h => h.pinCopy).dropPrefetch

theorem State.Keeps.writeDigest (hs : s₀.Keeps s) {c : ChanId} {leaf : Nat} {d : Digest} : s₀.Keeps (s.writeDigest c leaf d) :=
  hs.store.foldl fun _ _ h => h.sealPage

theorem State.Keeps.putLeafDigest (hs : s₀.Keeps s) {c : ChanId} {leaf : Nat} {d : Digest} : s₀.Keeps (s.putLeafDigest c leaf d) :=
  hs.writeDigest.ite hs.upd.raiseLog

theorem State.Keeps.retryDigests (hs : s₀.Keeps s) : s₀.Keeps s.retryDigests := hs.upd.foldl fun _ _ h => h.writeDigest.ite h.upd

theorem State.Keeps.sealStaging (hs : s₀.Keeps s) {i : Nat} : s₀.Keeps (s.sealStaging i) := hs.upd

theorem State.Keeps.stagingWrite (hs : s₀.Keeps s) {o : Nat} {bs : List Byte} : s₀.Keeps (s.stagingWrite o bs) :=
  hs.store.foldl fun _ _ h => h.sealStaging

theorem State.Keeps.faultChan (hs : s₀.Keeps s) {f : MirrorFault} {c : ChanId} : s₀.Keeps (s.faultChan f c) :=
  (hs.updChan.ite hs.updChan.updChan).dropPrefetch

theorem State.Keeps.mirrorFault (hs : s₀.Keeps s) {c : ChanId} {f : MirrorFault} : s₀.Keeps (s.mirrorFault c f) :=
  (hs.upd.foldl fun _ _ h => h.faultChan).updChan.raiseLog.ite (hs.upd.foldl fun _ _ h => h.faultChan).updChan.raiseLog.raiseLog

theorem State.Keeps.startFill (hs : s₀.Keeps s) {c : ChanId} : s₀.Keeps (s.startFill c) := hs.ite hs.setChan.updChan.verifyChan

/-! ### ChannelTable -/

theorem State.Keeps.ruleMissEvent (hs : s₀.Keeps s) {c : ChanId} {a : Nat} : s₀.Keeps (s.ruleMissEvent c a) := hs.raiseLog1

theorem State.Keeps.invalDone (hs : s₀.Keeps s) {c : ChanId} {cause : BitVec 3} {code : Code} : s₀.Keeps (s.invalDone c cause code) :=
  hs.upd

theorem State.Keeps.invalReject (hs : s₀.Keeps s) {c : ChanId} {cause : BitVec 3} {code : Code} : s₀.Keeps (s.invalReject c cause code) :=
  hs.invalDone.raiseLog

theorem State.Keeps.chtBaseWrite (hs : s₀.Keeps s) {v : Word} : s₀.Keeps (s.chtBaseWrite v) := hs.raiseLog.ite hs.upd

theorem State.Keeps.chtInvalWrite (hs : s₀.Keeps s) {v : Word} : s₀.Keeps (s.chtInvalWrite v) := hs.invalReject.ite hs.upd

theorem State.Keeps.recache (hs : s₀.Keeps s) {c : ChanId} : s₀.Keeps (s.recache c) := hs.updChan

theorem State.Keeps.closeLoads (hs : s₀.Keeps s) : s₀.Keeps s.closeLoads := hs.foldl fun _ _ h => by split; exacts [h.updChan.ite h, h]

theorem State.Keeps.takeInval (hs : s₀.Keeps s) {loadPs : Nat} : s₀.Keeps (s.takeInval loadPs) := by
  unfold State.takeInval
  split
  · exact hs
  dsimp only
  split
  · exact hs.upd.invalReject
  exact hs.upd.updChan

theorem State.Keeps.startProbing (hs : s₀.Keeps s) {c : ChanId} : s₀.Keeps (s.startProbing c) := hs.ite hs.setChan.updChan

theorem State.Keeps.probeIfReady (hs : s₀.Keeps s) {c : ChanId} : s₀.Keeps (s.probeIfReady c) := hs.startProbing.ite hs

theorem State.Keeps.toAbsent (hs : s₀.Keeps s) {c : ChanId} : s₀.Keeps (s.toAbsent c) := hs.ite hs.setChan.updChan

theorem State.Keeps.putInForce (hs : s₀.Keeps s) {c : ChanId} {st : Staged} : s₀.Keeps (s.putInForce c st) :=
  have h₁ := hs.updChan.recache.recache.clearVerdicts.dropPrefetch
  (h₁.verifyChan.ite h₁).invalDone.raiseLog

theorem State.Keeps.afterReload (hs : s₀.Keeps s) {c : ChanId} {wasOn : Bool} : s₀.Keeps (s.afterReload c wasOn) :=
  hs.probeIfReady.ite (hs.toAbsent.ite hs)

theorem State.Keeps.descReload (hs : s₀.Keeps s) {c : ChanId} : s₀.Keeps (s.descReload c) := by
  unfold State.descReload
  split
  · exact hs
  exact hs.ite (hs.advanceTo.updChan.invalReject.ite hs.advanceTo.putInForce.afterReload)

/-! ### Journal -/

theorem State.Keeps.rewriteFlash (hs : s₀.Keeps s) {base size : Nat} {b : List Byte} : s₀.Keeps (s.rewriteFlash base size b) :=
  hs.erase.store

theorem State.Keeps.putRec (hs : s₀.Keeps s) {r : JRec} : s₀.Keeps (s.putRec r) := hs.store.upd

theorem State.Keeps.rawAppend (hs : s₀.Keeps s) {r : JRec} : s₀.Keeps (s.rawAppend r) := hs.putRec.upd

theorem State.Keeps.journalCompact (hs : s₀.Keeps s) : s₀.Keeps s.journalCompact :=
  (hs.erase.upd.foldl fun _ _ h => h.putRec).rawAppend.erase

theorem State.Keeps.compactIfDue (hs : s₀.Keeps s) : s₀.Keeps s.compactIfDue := hs.journalCompact.ite hs

theorem State.Keeps.bankHeader (hs : s₀.Keeps s) : s₀.Keeps s.bankHeader := hs.rawAppend.ite hs

theorem State.Keeps.noteRec (hs : s₀.Keeps s) {r : JRec} {seq : Nat} : s₀.Keeps (s.noteRec r seq) := by
  unfold State.noteRec
  split
  · exact hs.updTarget
  · exact hs.updTarget
  exact hs

theorem State.Keeps.appendRec (hs : s₀.Keeps s) {r : JRec} : s₀.Keeps (s.appendRec r) := hs.bankHeader.rawAppend.noteRec.compactIfDue

theorem State.Keeps.gateWait (hs : s₀.Keeps s) {g : GateStep} : s₀.Keeps (s.gateWait g) := hs.upd.logLimited

theorem State.Keeps.delayStep (hs : s₀.Keeps s) {g : GateStep} : s₀.Keeps (s.delayStep g) := hs.upd

theorem State.Keeps.queueStep (hs : s₀.Keeps s) {g : GateStep} : s₀.Keeps (s.queueStep g) := (hs.ite hs.gateWait).delayStep

theorem State.Keeps.gatedAppend (hs : s₀.Keeps s) {r : JRec} : s₀.Keeps (s.gatedAppend r) := hs.appendRec.ite hs.queueStep

theorem State.Keeps.reserve (hs : s₀.Keeps s) {t : Target} {size : Nat} {u : State} (hu : s.reserve t size = some u) : s₀.Keeps u := by
  unfold State.reserve at hu
  split at hu
  · split at hu
    · cases hu
      exact hs.updTarget
    · cases hu
  · cases hu

theorem State.Keeps.writeIntent (hs : s₀.Keeps s) {t : Target} {b : List Byte} : s₀.Keeps (s.writeIntent t b) := hs.gatedAppend

theorem State.Keeps.setUpd (hs : s₀.Keeps s) {t : Target} {st : Nat} : s₀.Keeps (s.setUpd t st) := hs.updTarget

/-! ### Port -/

theorem State.Keeps.sckCheck (hs : s₀.Keeps s) {tx : HostTx} : s₀.Keeps (s.sckCheck tx) := hs.ite hs.updChan.updPort.raiseLog

theorem State.Keeps.hostMeasure (hs : s₀.Keeps s) {tx : HostTx} : s₀.Keeps (s.hostMeasure tx) := hs.updPort.sckCheck.updChan

theorem State.Keeps.unknownCmd (hs : s₀.Keeps s) {tx : HostTx} {opcode : Nat} : s₀.Keeps (s.unknownCmd tx opcode) := hs.updPort.raiseLog1

theorem State.Keeps.misread (hs : s₀.Keeps s) {tx : HostTx} : s₀.Keeps (s.misread tx) := hs.unknownCmd.drawn

theorem State.Keeps.hostFrame (hs : s₀.Keeps s) {tx : HostTx} {noOpcode : Bool} {f : State → State}
    (hf : ∀ t, s₀.Keeps t → s₀.Keeps (f t)) : s₀.Keeps (s.hostFrame tx noOpcode f) := hs.updChan.ite (hs.misread.ite (hf _ hs))

theorem State.Keeps.hostOp (hs : s₀.Keeps s) {tx : HostTx} {dpdOk noOpcode : Bool} {f : State → State}
    (hf : ∀ t, s₀.Keeps t → s₀.Keeps (f t)) : s₀.Keeps (s.hostOp tx dpdOk noOpcode f) :=
  hs.updPort.ite (hs.hostMeasure.ite (hs.hostMeasure.hostFrame (fun _ h => hf _ h)))

theorem State.Keeps.hostCmd (hs : s₀.Keeps s) {tx : HostTx} {dpdOk : Bool} {f : State → State} (hf : ∀ t, s₀.Keeps t → s₀.Keeps (f t)) :
    s₀.Keeps (s.hostCmd tx dpdOk f) := hs.hostOp (fun _ h => hf _ h)

theorem State.Keeps.partialByte (hs : s₀.Keeps s) {tx : HostTx} : s₀.Keeps (s.partialByte tx) := hs.updPort.raiseLog

theorem State.Keeps.stateCmd (hs : s₀.Keeps s) {tx : HostTx} {dpdOk : Bool} {f : State → State} (hf : ∀ t, s₀.Keeps t → s₀.Keeps (f t)) :
    s₀.Keeps (s.stateCmd tx dpdOk f) := hs.hostCmd (fun _ h => (hf _ h).ite h.partialByte)

theorem State.Keeps.drive (hs : s₀.Keeps s) {p : PortId} {bs : List Byte} : s₀.Keeps (s.drive p bs) := hs.updPort

theorem State.Keeps.closeNative (hs : s₀.Keeps s) {c : ChanId} : s₀.Keeps (s.closeNative c) := hs.closeTrace.updChan.raiseLog.ite hs

theorem State.Keeps.readExtend (hs : s₀.Keeps s) {c : ChanId} : s₀.Keeps (s.readExtend c) := hs.updPort.updChan.raiseLog

theorem State.Keeps.readUnderrun (hs : s₀.Keeps s) {c : ChanId} : s₀.Keeps (s.readUnderrun c) := hs.updPort.updChan.raiseLog

theorem State.Keeps.deliver (hs : s₀.Keeps s) {c : ChanId} {bs : List (Bool × Byte)} : s₀.Keeps (s.deliver c bs) :=
  hs.drive.updChan.ite hs.drive.updChan.readUnderrun

theorem State.Keeps.serveRead (hs : s₀.Keeps s) {c : ChanId} {ch : Chan} {op : HostReadOp} {k : ReadKind} :
    s₀.Keeps (s.serveRead c ch op k) := by
  unfold State.serveRead
  refine hs.deliver.ite ?_
  split
  · exact hs.updPort
  exact hs.deliver.ite (hs.readExtend.deliver.ite hs.deliver)

theorem State.Keeps.traceRead (hs : s₀.Keeps s) {c : ChanId} {ch : Chan} {op : HostReadOp} {k : ReadKind} :
    s₀.Keeps (s.traceRead c ch op k) := hs.ite (hs.updChan.updChan.raiseLog.ite hs.updChan)

theorem State.Keeps.readFault (hs : s₀.Keeps s) {c : ChanId} {ch : Chan} {op : HostReadOp} : s₀.Keeps (s.readFault c ch op) := by
  unfold State.readFault
  dsimp only
  split
  · exact (hs.raiseLog.ite hs).mirrorFault.ite (hs.raiseLog.ite hs)
  · exact (hs.raiseLog.ite hs).mirrorFault
  exact hs.raiseLog.ite hs

theorem State.Keeps.pinEcc (hs : s₀.Keeps s) {c : ChanId} {ch : Chan} {op : HostReadOp} : s₀.Keeps (s.pinEcc c ch op) := by
  unfold State.pinEcc
  split
  · exact hs.updChan.raiseLog.ite hs
  exact hs

theorem State.Keeps.pinHits (hs : s₀.Keeps s) {c : ChanId} {ch : Chan} {op : HostReadOp} : s₀.Keeps (s.pinHits c ch op) := hs.updChan

theorem State.Keeps.fillBuffer (hs : s₀.Keeps s) {c : ChanId} {ch : Chan} {leaf : Nat} : s₀.Keeps (s.fillBuffer c ch leaf) :=
  hs.store.updPort

theorem State.Keeps.streamed (hs : s₀.Keeps s) {c : ChanId} {ch : Chan} {op : HostReadOp} : s₀.Keeps (s.streamed c ch op) := by
  unfold State.streamed
  split
  · exact hs
  exact hs.ite ((hs.ite hs.fillBuffer).ite (hs.ite hs.fillBuffer).updPort)

theorem State.Keeps.hostRead (hs : s₀.Keeps s) {k : ReadKind} {quad : Bool} {opcode : Nat} {op : HostReadOp} :
    s₀.Keeps (s.hostRead k quad opcode op) :=
  hs.hostOp (fun _ h => h.unknownCmd.ite h.updChan.pinEcc.traceRead.readFault.pinHits.serveRead.streamed)

theorem State.Keeps.execFastRead (hs : s₀.Keeps s) {op : HostReadOp} : s₀.OutcomeKeeps (execFastRead op s) :=
  State.Keeps.next (by split; exacts [hs.hostRead, hs.hostCmd (fun _ h => h.unknownCmd)])

theorem State.Keeps.holdLimit (hs : s₀.Keeps s) {p : PortId} : s₀.Keeps (s.holdLimit p) := by
  unfold State.holdLimit
  split
  · exact hs
  exact hs.advanceTo.updPort.deliver

theorem State.Keeps.resumeRead (hs : s₀.Keeps s) {c : ChanId} {leaf : Nat} : s₀.Keeps (s.resumeRead c leaf) := by
  unfold State.resumeRead
  split
  · exact hs
  exact hs.updPort.readExtend.deliver.ite hs

theorem State.Keeps.prefetchDone (hs : s₀.Keeps s) {p : PortId} {c : ChanId} {leaf : Nat} {fault : Option MirrorFault} :
    s₀.Keeps (s.prefetchDone p c leaf fault) := by
  unfold State.prefetchDone
  refine hs.ite ?_
  refine hs.updPort.ite ?_
  split
  · exact hs.updPort.mirrorFault
  exact hs.updPort.mirrorFault.ite hs.updPort.fillBuffer

theorem State.Keeps.regWrite (hs : s₀.Keeps s) {tx : HostTx} {w : RegWrite} : s₀.Keeps (s.regWrite tx w) := by
  unfold State.regWrite
  refine hs.ite ?_
  refine .ite ?_ ?_
  · exact .raiseLog (by split; exacts [hs.updChan.closeNative.updChan, hs.updChan])
  split
  · exact hs.updChan.closeNative.updChan
  exact hs.updChan

theorem State.Keeps.addrMode (hs : s₀.Keeps s) {tx : HostTx} {opcode : Nat} {four : Bool} : s₀.Keeps (s.addrMode tx opcode four) :=
  hs.stateCmd (fun _ h => h.updChan.ite h.unknownCmd)

theorem State.Keeps.portReset (hs : s₀.Keeps s) {p : PortId} : s₀.Keeps (s.portReset p) := hs.updPort.personalityReset.personalityReset

/-! ### Weir -/

theorem State.Keeps.streamOpen (hs : s₀.Keeps s) {c : ChanId} : s₀.Keeps (s.streamOpen c) := by
  unfold State.streamOpen
  split
  · exact hs.updTarget
  exact (hs.reserve ‹_›).updTarget.setChan.writeIntent

theorem State.Keeps.streamTouch (hs : s₀.Keeps s) {c : ChanId} {leaves : List Nat} : s₀.Keeps (s.streamTouch c leaves) :=
  hs.updTarget.ite hs

theorem State.Keeps.stageLeaf (hs : s₀.Keeps s) {c : ChanId} {leaf : Nat} : s₀.Keeps (s.stageLeaf c leaf) := by
  unfold State.stageLeaf
  dsimp only
  split
  · exact hs
  exact hs.ite hs.stagingWrite.updTarget

theorem State.Keeps.streamApply (hs : s₀.Keeps s) {c : ChanId} {k : WeirKind} {base len addr : Nat} {data : List Byte} :
    s₀.Keeps (s.streamApply c k base len addr data) := by
  unfold State.streamApply
  dsimp only
  split
  · exact hs.foldl fun _ _ h => h.stageLeaf
  exact ((hs.foldl fun _ _ h => h.stageLeaf).dropPrefetch.foldl fun _ _ h => h.stagingWrite).ite (hs.foldl
    fun _ _ h => h.stageLeaf).dropPrefetch.stagingWrite

theorem State.Keeps.weirDeny (hs : s₀.Keeps s) {c : ChanId} {opcode : Byte} {addr len : Nat} {j : Judged} :
    s₀.Keeps (s.weirDeny c opcode addr len j) := hs.raise.updChan.logLimited.updChan.ite hs.raise.updChan.logLimited

theorem State.Keeps.shadowApply (hs : s₀.Keeps s) {c : ChanId} {k : WeirKind} {base len addr : Nat} {data : List Byte} :
    s₀.Keeps (s.shadowApply c k base len addr data) := hs.mirrorWrite.updChan

theorem State.Keeps.weirApply (hs : s₀.Keeps s) {c : ChanId} {k : WeirKind} {opcode : Byte} {base len addr : Nat} {data : List Byte}
    {j : Judged} : s₀.Keeps (s.weirApply c k opcode base len addr data j) :=
  .updChan (by split; exacts [hs.raiseLog.ite hs.shadowApply, hs.streamApply, hs.weirDeny, by split; exacts [hs.raiseLog, hs]])

theorem State.Keeps.weirMiss (hs : s₀.Keeps s) {c : ChanId} {leaves : List Nat} : s₀.Keeps (s.weirMiss c leaves) := by
  unfold State.weirMiss
  split
  · exact hs.ruleMissEvent
  exact hs

theorem State.Keeps.underServing (hs : s₀.Keeps s) {c : ChanId} {f : State → State} (hf : ∀ t, s₀.Keeps t → s₀.Keeps (f t)) :
    s₀.Keeps (s.underServing c f) := by
  unfold State.underServing
  split
  · exact hf _ hs
  exact (hf _ hs.updChan).updChan

theorem State.Keeps.weirAct (hs : s₀.Keeps s) {tx : HostTx} {k : WeirKind} {opcode : Byte} {addr : Nat} {data : List Byte} :
    s₀.Keeps (s.weirAct tx k opcode addr data) :=
  hs.ite (hs.updChan.underServing (fun _ h => (h.streamOpen.ite h).streamTouch.weirMiss.weirApply))

theorem State.Keeps.weirCmd (hs : s₀.Keeps s) {tx : HostTx} {k : WeirKind} {opcode : Byte} {addr : Nat} {data : List Byte} :
    s₀.Keeps (s.weirCmd tx k opcode addr data) := hs.stateCmd (fun _ h => h.unknownCmd.ite h.weirAct)

theorem State.Keeps.execWeirRefusalEnd (hs : s₀.Keeps s) {c : ChanId} : s₀.OutcomeKeeps (execWeirRefusalEnd c s) :=
  State.Keeps.next (by split; exacts [hs.advanceTo.updChan.ite hs, hs])

theorem State.Keeps.execShadowedDurationEnd (hs : s₀.Keeps s) {c : ChanId} : s₀.OutcomeKeeps (execShadowedDurationEnd c s) :=
  State.Keeps.next (by split; exacts [hs.advanceTo.updChan.ite hs, hs])

theorem State.Keeps.retryHeld (hs : s₀.Keeps s) {c : ChanId} : s₀.Keeps (s.retryHeld c) := by
  unfold State.retryHeld
  split
  · exact hs.shadowApply.updChan.ite hs
  exact hs

theorem State.Keeps.flashStart (hs : s₀.Keeps s) {c : ChanId} : s₀.Keeps (s.flashStart c) := by
  unfold State.flashStart
  split
  · exact hs
  exact hs.ite hs.updChan

theorem State.Keeps.statusPoll (hs : s₀.Keeps s) {c : ChanId} {busy : Bool} : s₀.Keeps (s.statusPoll c busy) := by
  unfold State.statusPoll
  refine hs.ite ?_
  split
  · exact hs.updChan.ite hs.updChan
  exact hs.updChan

theorem State.Keeps.flashFailEvent (hs : s₀.Keeps s) {c : ChanId} {o : WeirOp} {offset : Nat} {readBack : Bool} :
    s₀.Keeps (s.flashFailEvent c o offset readBack) := hs.raiseLog

theorem State.Keeps.readbackDone (hs : s₀.Keeps s) {c : ChanId} {rb : Readback} : s₀.Keeps (s.readbackDone c rb) := by
  unfold State.readbackDone
  split
  · exact hs
  exact
    (hs.ite hs.updChan.raiseLog).ite (hs.mirrorWrite.updChan.flashFailEvent.ite hs.mirrorWrite.updChan)

theorem State.Keeps.flashTimeout (hs : s₀.Keeps s) {c : ChanId} : s₀.Keeps (s.flashTimeout c) := by
  unfold State.flashTimeout
  split
  · exact hs.ite hs.advanceTo.updChan.raiseLog
  exact hs

theorem State.Keeps.execFlashTimeoutReset (hs : s₀.Keeps s) {c : ChanId} : s₀.OutcomeKeeps (execFlashTimeoutReset c s) :=
  State.Keeps.next (by split; exacts [hs.ite hs.advanceTo.updChan, hs])

theorem State.Keeps.execFlashResetRecoveryEnd (hs : s₀.Keeps s) {c : ChanId} : s₀.OutcomeKeeps (execFlashResetRecoveryEnd c s) :=
  State.Keeps.next (by split; exacts [hs.advanceTo.updChan, hs])

theorem State.Keeps.execFlashBusyGiveUp (hs : s₀.Keeps s) {c : ChanId} : s₀.OutcomeKeeps (execFlashBusyGiveUp c s) :=
  State.Keeps.next (by split; exacts [hs.advanceTo.updChan.flashFailEvent, hs])

theorem State.Keeps.suspendEvent (hs : s₀.Keeps s) {c : ChanId} : s₀.Keeps (s.suspendEvent c) := hs.raiseLog

theorem State.Keeps.weirSuspend (hs : s₀.Keeps s) {c : ChanId} {opcode : Byte} : s₀.Keeps (s.weirSuspend c opcode) := by
  unfold State.weirSuspend
  dsimp only
  split
  · exact hs.ite (hs.updChan.updChan.ite hs.updChan).suspendEvent
  exact hs

theorem State.Keeps.execSuspendLatencyEnd (hs : s₀.Keeps s) {c : ChanId} : s₀.OutcomeKeeps (execSuspendLatencyEnd c s) :=
  State.Keeps.next (by split; exacts [hs.advanceTo.updChan, hs])

theorem State.Keeps.weirResume (hs : s₀.Keeps s) {c : ChanId} {opcode : Byte} : s₀.Keeps (s.weirResume c opcode) := by
  unfold State.weirResume
  dsimp only
  split
  · exact hs.ite (hs.updChan.updChan.ite hs.updChan).suspendEvent
  exact hs

theorem State.Keeps.mutableLeaf (hs : s₀.Keeps s) {c : ChanId} {leaf : Nat} : s₀.Keeps (s.mutableLeaf c leaf) :=
  hs.ite hs.updChan.chargeFill.putLeafDigest

theorem State.Keeps.repostDigest (hs : s₀.Keeps s) : s₀.Keeps s.repostDigest := hs.upd

theorem State.Keeps.digestCheck (hs : s₀.Keeps s) {off : Digest} : s₀.Keeps (s.digestCheck off) := by
  unfold State.digestCheck
  split
  · exact hs.advanceTo.upd.ite hs.advanceTo.upd.raiseLog
  exact hs

theorem State.Keeps.mutableRecompute (hs : s₀.Keeps s) {c : ChanId} : s₀.Keeps (s.mutableRecompute c) :=
  hs.ite hs.advanceTo.store.updChan.repostDigest.logMeas

/-! ### Mirror -/

theorem State.Keeps.sealLines (hs : s₀.Keeps s) : s₀.Keeps s.sealLines := hs.upd.erase.raiseLog.ite hs

theorem State.Keeps.train (hs : s₀.Keeps s) : s₀.Keeps s.train := hs.ite hs.upd

theorem State.Keeps.trainDone (hs : s₀.Keeps s) {o : TrainOutcome} : s₀.Keeps (s.trainDone o) := by
  unfold State.trainDone
  split
  · exact hs
  exact
    have h₁ := hs.upd.ite hs.upd.raiseLog
    hs.upd.ite (h₁.logIt.quarantineFreeze.ite h₁.sealLines)

theorem State.Keeps.fillLeaf (hs : s₀.Keeps s) {c : ChanId} {data : List Byte} : s₀.Keeps (s.fillLeaf c data) := by
  unfold State.fillLeaf
  dsimp only
  split
  · exact hs
  exact
    have h₁ := (hs.markFill.ite hs).chargeFill.chargeFill
    have h₂ := (h₁.updChan.ite h₁.mirrorWrite).updChan
    hs.ite (hs.raiseLog.ite (h₂.markFill.raiseLog.ite h₂))

theorem State.Keeps.fillDigests (hs : s₀.Keeps s) {c : ChanId} {leaf : Nat} {off : Both Digest} {ns : Both Nat} :
    s₀.Keeps (s.fillDigests c leaf off ns) :=
  have h₁ := hs.ite hs.fillTime.fillTime.updChan
  h₁.ite ((h₁.ite h₁.putLeafDigest).ite h₁.raiseLog.raiseLog.updChan.markFill.conflict)

theorem State.Keeps.endVer (hs : s₀.Keeps s) {h : Half} {t : Target} : s₀.Keeps (s.endVer h t) := hs.upd

theorem State.Keeps.verdictRecord (hs : s₀.Keeps s) {h : Half} {t : Target} {gen : Nat} {code : Code} {g : Option CheckGroup}
    {m : List Byte} {bad : Option Nat} : s₀.Keeps (s.verdictRecord h t gen code g m bad) := hs.logIt

theorem State.Keeps.rewriteDigests (hs : s₀.Keeps s) {c : ChanId} {m : List Byte} : s₀.Keeps (s.rewriteDigests c m) :=
  (hs.foldl fun _ _ h => h.putLeafDigest).updChan

theorem State.Keeps.postResult (hs : s₀.Keeps s) {h : Half} {c : ChanId} {m : List Byte} {root : Digest} {g : Option CheckGroup} :
    s₀.Keeps (s.postResult h c m root g) := by
  unfold State.postResult
  dsimp only
  split
  · exact hs.endVer.updChan.postVerdict
  exact hs.endVer.verdictRecord.postVerdict

theorem State.Keeps.postInternal (hs : s₀.Keeps s) {h : Half} {c : ChanId} {m : List Byte} : s₀.Keeps (s.postInternal h c m) :=
  hs.endVer.verdictRecord.postVerdict

theorem State.Keeps.verdictWaits (hs : s₀.Keeps s) {h : Half} {c : ChanId} {m : List Byte} {root : Digest} :
    s₀.Keeps (s.verdictWaits h c m root) := hs.upd

theorem State.Keeps.fillVerdict (hs : s₀.Keeps s) {h : Half} {c : ChanId} {reject : Bool} : s₀.Keeps (s.fillVerdict h c reject) := by
  unfold State.fillVerdict
  split
  · exact hs.ite (hs.postInternal.ite (hs.verdictWaits.ite hs.postResult))
  exact hs

theorem State.Keeps.fillDone (hs : s₀.Keeps s) {c : ChanId} {reject : Both Bool} : s₀.Keeps (s.fillDone c reject) :=
  hs.ite hs.fillVerdict.fillVerdict

theorem State.Keeps.refillFail (hs : s₀.Keeps s) {c : ChanId} {leaf : Nat} : s₀.Keeps (s.refillFail c leaf) :=
  hs.updChan.raiseLog.setChan.needRecovery.ite hs.updChan.raiseLog

theorem State.Keeps.refillPut (hs : s₀.Keeps s) {c : ChanId} {leaf : Nat} {data : List Byte} : s₀.Keeps (s.refillPut c leaf data) :=
  (hs.mirrorWrite.updChan.raiseLog.raiseLog.ite hs.mirrorWrite.updChan.raiseLog).updChan.resumeRead

theorem State.Keeps.refillDone (hs : s₀.Keeps s) {c : ChanId} {leaf : Nat} {src : Source} {data : List Byte} :
    s₀.Keeps (s.refillDone c leaf src data) :=
  have h₁ := hs.chargeBest.chargeBest
  hs.ite (hs.refillFail.ite (hs.ite (hs.raiseLog.ite (hs.refillPut.ite (h₁.refillPut.ite h₁.updChan)))))

theorem State.Keeps.pageRefill (hs : s₀.Keeps s) {p : Nat} {x : PageIn} : s₀.Keeps (s.pageRefill p x) := by
  unfold State.pageRefill
  split
  · exact hs.refillDone
  exact hs

theorem State.Keeps.pageFault (hs : s₀.Keeps s) {p : Nat} : s₀.Keeps (s.pageFault p) := by
  unfold State.pageFault
  split
  · exact hs.mirrorFault
  exact hs

theorem State.Keeps.resealLine (hs : s₀.Keeps s) {bad : List Nat} : s₀.Keeps (s.resealLine bad) := by
  unfold State.resealLine
  split
  · exact hs
  exact hs.ite ((hs.upd.setEpoch.foldl fun _ _ h => h.pageFault).retryDigests.foldl fun _ _ h => h.retryHeld)

theorem State.Keeps.execMirrorResealDone (hs : s₀.Keeps s) : s₀.OutcomeKeeps (execMirrorResealDone s) :=
  State.Keeps.next (by split; exacts [hs.ite hs.upd.raiseLog, hs])

theorem State.Keeps.startRepairFrom (hs : s₀.Keeps s) {c : ChanId} {source unit len : Nat} :
    s₀.Keeps (s.startRepairFrom c source unit len) := hs.updChan

theorem State.Keeps.startRepair (hs : s₀.Keeps s) {c : ChanId} {unit len : Nat} : s₀.Keeps (s.startRepair c unit len) := hs.startRepairFrom

theorem State.Keeps.scrubMismatch (hs : s₀.Keeps s) {c : ChanId} {leaf : Nat} : s₀.Keeps (s.scrubMismatch c leaf) :=
  hs.raiseLog.setChan.startRepair

theorem State.Keeps.scrubTransient (hs : s₀.Keeps s) {c : ChanId} {leaf : Nat} : s₀.Keeps (s.scrubTransient c leaf) := hs.logIt

theorem State.Keeps.scrubJudge (hs : s₀.Keeps s) {c : ChanId} {leaf : Nat} {r : ScrubRead} : s₀.Keeps (s.scrubJudge c leaf r) := by
  unfold State.scrubJudge
  split
  · exact hs.mirrorFault
  · exact hs
  exact
    have h₁ := hs.chargeBest.chargeBest.chargeBest
    have h₂ := h₁.chargeBest.chargeBest
    hs.chargeBest.ite ((h₁.scrubTransient.ite h₁.scrubMismatch).ite ((h₂.scrubTransient.ite h₂.scrubMismatch).ite h₂.conflict))

theorem State.Keeps.scrubPassEnd (hs : s₀.Keeps s) {c : ChanId} : s₀.Keeps (s.scrubPassEnd c) := hs.updChan.raiseLog

theorem State.Keeps.scrubLate (hs : s₀.Keeps s) {c : ChanId} {x : Scrub} : s₀.Keeps (s.scrubLate c x) := hs.ite hs.updChan.upd.raiseLog

theorem State.Keeps.scrubNext (hs : s₀.Keeps s) {c : ChanId} {x : Scrub} : s₀.Keeps (s.scrubNext c x) :=
  hs.upd.updChan.scrubPassEnd.ite hs.upd.updChan

theorem State.Keeps.scrubLeaf (hs : s₀.Keeps s) {c : ChanId} {r : ScrubRead} : s₀.Keeps (s.scrubLeaf c r) := by
  unfold State.scrubLeaf
  split
  · exact hs
  exact hs.ite hs.scrubLate.advanceTo.scrubNext.scrubJudge

theorem State.Keeps.repairEnds (hs : s₀.Keeps s) {c : ChanId} : s₀.Keeps (s.repairEnds c) := by
  unfold State.repairEnds
  dsimp only
  split
  · exact hs.updChan.updChan.startRepairFrom
  exact hs.updChan.setChan.ite hs.updChan

theorem State.Keeps.repairRecord (hs : s₀.Keeps s) {c : ChanId} {r : Repair} {before after : List Digest} :
    s₀.Keeps (s.repairRecord c r before after) := hs.logMeas

theorem State.Keeps.repairFails (hs : s₀.Keeps s) {c : ChanId} {r : Repair} : s₀.Keeps (s.repairFails c r) :=
  hs.updChan.ite hs.updChan.raiseLog.needRecovery

theorem State.Keeps.repairDone (hs : s₀.Keeps s) {c : ChanId} {flashFail : Bool} {before back : List Byte} {off : Both Digest} :
    s₀.Keeps (s.repairDone c flashFail before back off) := by
  unfold State.repairDone
  split
  · exact hs
  exact
    have h₁ := (hs.dropPrefetch.raiseLog.ite hs.dropPrefetch).chargeBest.chargeBest
    hs.ite (h₁.repairFails.ite h₁.repairRecord.updChan.raiseLog.repairEnds)

theorem State.Keeps.execRepairRetry (hs : s₀.Keeps s) {c : ChanId} : s₀.OutcomeKeeps (execRepairRetry c s) :=
  State.Keeps.next (by split; exacts [hs.advanceTo.updChan, hs])

theorem State.Keeps.noSourceLog (hs : s₀.Keeps s) {c : ChanId} : s₀.Keeps (s.noSourceLog c) := hs.logIt.updChan

theorem State.Keeps.execNoSourceReport (hs : s₀.Keeps s) {c : ChanId} : s₀.OutcomeKeeps (execNoSourceReport c s) :=
  State.Keeps.next (by split; exacts [hs.advanceTo.noSourceLog.ite hs, hs])

theorem State.Keeps.chanCmdEnd (hs : s₀.Keeps s) {c : ChanId} {code : Code} : s₀.Keeps (s.chanCmdEnd c code) := hs.upd

theorem State.Keeps.chanCmd (hs : s₀.Keeps s) {c : ChanId} {cmd : Nat} {ok : Bool} {act : State → State}
    (hact : ∀ t, s₀.Keeps t → s₀.Keeps (act t)) : s₀.Keeps (s.chanCmd c cmd ok act) := (hact _ hs).chanCmdEnd.ite hs.chanCmdEnd.raiseLog

theorem State.Keeps.cmdFill (hs : s₀.Keeps s) {c : ChanId} : s₀.Keeps (s.cmdFill c) := hs.chanCmd (fun _ h => h.startFill)

theorem State.Keeps.cmdUpdating (hs : s₀.Keeps s) {c : ChanId} : s₀.Keeps (s.cmdUpdating c) := hs.chanCmd (fun _ h => h.setChan)

theorem State.Keeps.cmdUpdateEnded (hs : s₀.Keeps s) {c : ChanId} : s₀.Keeps (s.cmdUpdateEnded c) := hs.chanCmd (fun _ h => h.setChan)

theorem State.Keeps.cmdQuarantined (hs : s₀.Keeps s) {c : ChanId} : s₀.Keeps (s.cmdQuarantined c) := hs.chanCmd (fun _ h => h.setChan)

theorem State.Keeps.cmdScrub (hs : s₀.Keeps s) {c : ChanId} : s₀.Keeps (s.cmdScrub c) := hs.chanCmd (fun _ h => h.updChan)

theorem State.Keeps.cmdRepair (hs : s₀.Keeps s) {c : ChanId} {unit len : Nat} : s₀.Keeps (s.cmdRepair c unit len) :=
  hs.chanCmd (fun _ h => h.setChan.startRepair)

theorem State.Keeps.pinLoadWrite (hs : s₀.Keeps s) {v : Word} : s₀.Keeps (s.pinLoadWrite v) :=
  hs.upd.chanCmdEnd.ite (hs.upd.chanCmdEnd.ite hs.upd)

theorem State.Keeps.pinLoadDone (hs : s₀.Keeps s) {fault : Option MirrorFault} : s₀.Keeps (s.pinLoadDone fault) := by
  unfold State.pinLoadDone
  split
  · exact hs
  dsimp only
  split
  · exact hs.upd.mirrorFault.chanCmdEnd
  exact
    have h₁ := hs.upd.store.chanCmdEnd
    have h₂ := h₁.updChan
    (h₂.raiseLog.ite h₂).ite h₁

/-! ### Verify -/

theorem State.Keeps.updVer (hs : s₀.Keeps s) {h : Half} {t : Target} {f : Verification → Verification} : s₀.Keeps (s.updVer h t f) := hs.upd

theorem State.Keeps.finishVer (hs : s₀.Keeps s) {h : Half} {v : Verification} {g : Option CheckGroup} : s₀.Keeps (s.finishVer h v g) := by
  unfold State.finishVer
  split
  · exact (hs.updChan.ite hs).postResult
  · exact (hs.updChan.ite hs).postResult
  dsimp only
  split
  · exact hs.updVer.verdictRecord
  exact hs.updVer

theorem State.Keeps.finishFault (hs : s₀.Keeps s) {h : Half} {v : Verification} : s₀.Keeps (s.finishFault h v) := by
  unfold State.finishFault
  split
  · exact hs.postInternal
  · exact hs.postInternal
  exact hs

theorem State.Keeps.nextStage (hs : s₀.Keeps s) {h : Half} {v : Verification} {f : Verification → Verification} :
    s₀.Keeps (s.nextStage h v f) := hs.updVer

theorem State.Keeps.loadStage (hs : s₀.Keeps s) {h : Half} {t : Target} {m : List Byte} : s₀.Keeps (s.loadStage h t m) := hs.store

theorem State.Keeps.fillLeaves (hs : s₀.Keeps s) {h : Half} {v : Verification} : s₀.Keeps (s.fillLeaves h v) := by
  unfold State.fillLeaves
  split
  · exact hs.nextStage.ite hs
  exact hs

theorem State.Keeps.updateLeaf (hs : s₀.Keeps s) {h : Half} {v : Verification} {w : StageWork} : s₀.Keeps (s.updateLeaf h v w) := by
  unfold State.updateLeaf
  refine hs.ite ?_
  refine (hs.nextStage.ite hs.finishVer).ite ?_
  split
  · exact hs
  exact hs.leafJob.updVer

theorem State.Keeps.verdictStage (hs : s₀.Keeps s) {h : Half} {v : Verification} : s₀.Keeps (s.verdictStage h v) := hs.ite hs.finishVer

theorem State.Keeps.verStage (hs : s₀.Keeps s) {h : Half} {v : Verification} {w : StageWork} : s₀.Keeps (s.verStage h v w) := by
  unfold State.verStage
  refine hs.finishFault.ite ?_
  refine hs.ite ?_
  split
  · split
    · exact hs.loadStage.nextStage
    exact hs.finishVer
  · exact hs.nextStage.ite hs.finishVer
  · refine hs.finishVer.ite ?_
    split
    · exact hs.nextStage
    exact hs.nextStage
  · split
    · exact hs.verdictRecord.nextStage
    exact hs.nextStage
  · exact hs.fillLeaves.ite hs.updateLeaf
  · exact hs.nextStage
  · exact hs.nextStage
  · exact hs.nextStage
  exact hs.verdictStage

theorem State.Keeps.revokeAccepted (hs : s₀.Keeps s) {slot : Nat} : s₀.Keeps (s.revokeAccepted slot) := hs.vput

theorem State.Keeps.revoke (hs : s₀.Keeps s) {slot : Nat} {b : BurnOutcome} : s₀.Keeps (s.revoke slot b).1 := by
  unfold State.revoke
  refine hs.revokeAccepted.iteFst ?_
  dsimp only
  split
  · exact hs.fuseProgram.vput.revokeAccepted
  · exact hs.fuseProgram
  exact hs.fuseProgram.revokeAccepted

theorem State.Keeps.revokeObj (hs : s₀.Keeps s) {who : Requester} {slot : Nat} {b : BurnOutcome} : s₀.Keeps (s.revokeObj who slot b) :=
  hs.objWrite (fun _ h => h.revoke)

theorem State.Keeps.burnStep (hs : s₀.Keeps s) {t : Target} {i : Nat} {b : BurnOutcome} : s₀.Keeps (s.burnStep t i b).1 := by
  unfold State.burnStep
  split
  · exact hs.fuseProgram
  exact hs.fuseProgram

theorem State.Keeps.floorRun (hs : s₀.Keeps s) {t : Target} {v : Nat} {b : BurnOutcome} {n : Nat} : s₀.Keeps (s.floorRun t v b n) := by
  induction n generalizing s b with
  | zero => exact hs
  | succ n ih =>
    unfold State.floorRun
    split
    · exact hs
    · exact hs.queueStep.ite ((ih hs.burnStep).ite hs.burnStep.delayStep)

theorem State.Keeps.advanceFloor (hs : s₀.Keeps s) {t : Target} {b : BurnOutcome} : s₀.Keeps (s.advanceFloor t b) :=
  hs.logIt.ite (hs.ite hs.floorRun)

theorem State.Keeps.settleFloor (hs : s₀.Keeps s) {t : Target} : s₀.Keeps (s.settleFloor t) := hs.ite hs.upd

theorem State.Keeps.requestFloor (hs : s₀.Keeps s) {t : Target} {b : BurnOutcome} : s₀.Keeps (s.requestFloor t b) :=
  hs.upd.advanceFloor.settleFloor

theorem State.Keeps.svnAdvanceObj (hs : s₀.Keeps s) {who : Requester} {sub : Byte} {b : BurnOutcome} :
    s₀.Keeps (s.svnAdvanceObj who sub b) := by
  unfold State.svnAdvanceObj
  split
  · exact hs.objWrite (fun _ h => h)
  exact hs.objWrite (fun _ h => h.vput.requestFloor)

/-! ### Allotter -/

theorem State.Keeps.quiet (hs : s₀.Keeps s) : s₀.Keeps s.quiet := hs.upd

theorem State.Keeps.sendFrame (hs : s₀.Keeps s) {type dst : Nat} {last : Bool} {payload : List Byte} :
    s₀.Keeps (s.sendFrame type dst last payload) := hs.upd

theorem State.Keeps.send (hs : s₀.Keeps s) {type dst : Nat} {payload : List Byte} : s₀.Keeps (s.send type dst payload) :=
  hs.foldl fun _ _ h => h.sendFrame

theorem State.Keeps.sendShard (hs : s₀.Keeps s) {dst number : Nat} {data : List Byte} : s₀.Keeps (s.sendShard dst number data) :=
  hs.foldl fun _ _ h => h.sendFrame

theorem State.Keeps.updPeer (hs : s₀.Keeps s) {d : Nat} {f : PeerStat → PeerStat} : s₀.Keeps (s.updPeer d f) := hs.upd

theorem State.Keeps.putSets (hs : s₀.Keeps s) {t : Target} {f : List GoldenSet → List GoldenSet} : s₀.Keeps (s.putSets t f) := hs.upd

theorem State.Keeps.updSet (hs : s₀.Keeps s) {t : Target} {id : Nat} {f : GoldenSet → GoldenSet} : s₀.Keeps (s.updSet t id f) := hs.putSets

theorem State.Keeps.nextCommit (hs : s₀.Keeps s) : s₀.Keeps s.nextCommit := hs.ite (hs.upd.ite (hs.ite hs.queueStep))

theorem State.Keeps.catChange (hs : s₀.Keeps s) {c : CatChange} : s₀.Keeps (s.catChange c) := hs.upd.nextCommit

theorem State.Keeps.takeHandle (hs : s₀.Keeps s) : s₀.Keeps (s.takeHandle).2 := hs.upd

theorem State.Keeps.offer (hs : s₀.Keeps s) {dst set : Nat} {h : ShardHead} {data : List Byte} {probe : Bool} :
    s₀.Keeps (s.offer dst set h data probe) := hs.send.upd

theorem State.Keeps.pumpLoc (hs : s₀.Keeps s) {t : Target} {id : Nat} {l : ShardLoc} : s₀.Keeps (s.pumpLoc t id l) := by
  unfold State.pumpLoc
  split
  · exact hs
  split
  · exact hs
  exact hs.ite (hs.takeHandle.catChange.drawn.ite (hs.offer.ite hs))

theorem State.Keeps.pumpSet (hs : s₀.Keeps s) {t : Target} {g : GoldenSet} : s₀.Keeps (s.pumpSet t g) := hs.foldl fun _ _ h => h.pumpLoc

theorem State.Keeps.pump (hs : s₀.Keeps s) : s₀.Keeps s.pump := hs.foldl fun _ _ h => h.foldl fun _ _ h2 => h2.pumpSet

theorem State.Keeps.placeShards (hs : s₀.Keeps s) {t : Target} {id : Nat} : s₀.Keeps (s.placeShards t id) := by
  unfold State.placeShards
  split
  · exact hs
  exact hs.updSet.upd.pump

theorem State.Keeps.deferGolden (hs : s₀.Keeps s) {t : Target} {b : List Byte} : s₀.Keeps (s.deferGolden t b) := hs.upd

theorem State.Keeps.putGolden (hs : s₀.Keeps s) {t : Target} {b : List Byte} : s₀.Keeps (s.putGolden t b) :=
  hs.takeHandle.putSets.catChange.drawn

theorem State.Keeps.goldenWrite (hs : s₀.Keeps s) {t : Target} {b : List Byte} : s₀.Keeps (s.goldenWrite t b) :=
  hs.raiseLog.ite (hs.deferGolden.ite (hs.putGolden.ite hs.raiseLog))

theorem State.Keeps.runPending (hs : s₀.Keeps s) {w : Target × List Byte} : s₀.Keeps (s.runPending w) := by
  unfold State.runPending
  split
  · split
    · exact hs.goldenWrite
    exact hs
  exact hs.goldenWrite

theorem State.Keeps.runPendings (hs : s₀.Keeps s) : s₀.Keeps s.runPendings := (hs.upd.foldl fun _ _ h => h.runPending).ite hs

theorem State.Keeps.freeSet (hs : s₀.Keeps s) {t : Target} {g : GoldenSet} : s₀.Keeps (s.freeSet t g) :=
  hs.putSets.upd.ite hs.putSets.upd.catChange

theorem State.Keeps.dispose (hs : s₀.Keeps s) {t : Target} : s₀.Keeps (s.dispose t) := (hs.foldl fun _ _ h => h.freeSet).ite hs

theorem State.Keeps.startLanding (hs : s₀.Keeps s) {c : ChanId} : s₀.Keeps (s.startLanding c) := by
  unfold State.startLanding
  dsimp only
  split
  · exact hs.setUpd.updTarget.holdSet.ite hs.setUpd
  exact hs.setUpd

theorem State.Keeps.applied (hs : s₀.Keeps s) {t : Target} : s₀.Keeps (s.applied t) := hs.upd.pldmTell.ite hs

theorem State.Keeps.updProceed (hs : s₀.Keeps s) {t : Target} : s₀.Keeps (s.updProceed t) := by
  unfold State.updProceed
  refine .ite ?_ hs
  dsimp only
  split
  · exact hs.applied.startLanding.ite hs.applied
  exact hs.applied

theorem State.Keeps.updDurable (hs : s₀.Keeps s) {t : Target} {root : Digest} : s₀.Keeps (s.updDurable t root) :=
  hs.updTarget.updProceed.ite hs

theorem State.Keeps.setDurable (hs : s₀.Keeps s) {t : Target} {g : GoldenSet} : s₀.Keeps (s.setDurable t g) :=
  .dispose (by split; exacts [hs.updDurable.freeSet.updSet.raiseLog, hs.updDurable])

theorem State.Keeps.goldenPut (hs : s₀.Keeps s) {c : ChanId} {f : Nat × Nat × Nat × Nat × Nat} : s₀.Keeps (s.goldenPut c f) :=
  hs.store.updChan.repostDigest

theorem State.Keeps.goldenSync (hs : s₀.Keeps s) {c : ChanId} : s₀.Keeps (s.goldenSync c) := by
  unfold State.goldenSync
  split
  · exact hs.goldenPut.ite hs
  exact hs

theorem State.Keeps.refreshSet (hs : s₀.Keeps s) {t : Target} {g0 : GoldenSet} : s₀.Keeps (s.refreshSet t g0) := by
  unfold State.refreshSet
  split
  · exact hs
  refine hs.ite ?_
  refine .ite ?_ ?_
  · exact .setDurable (.logIt (by split; exacts [hs.updSet.raise, hs.updSet]))
  exact .logIt (by split; exacts [hs.updSet.raise, hs.updSet])

theorem State.Keeps.rebuildCheck (hs : s₀.Keeps s) : s₀.Keeps s.rebuildCheck := hs.upd.ite (hs.upd.ite hs.upd.raiseLog)

theorem State.Keeps.refreshSets (hs : s₀.Keeps s) : s₀.Keeps s.refreshSets :=
  (hs.foldl fun _ _ h => h.foldl fun _ _ h2 => h2.refreshSet).rebuildCheck.foldl fun _ _ h => h.goldenSync

theorem State.Keeps.entryIn (hs : s₀.Keeps s) {e : CatEntry} {ack : Option (Nat × Nat)} : s₀.Keeps (s.entryIn e ack) := by
  unfold State.entryIn
  split
  · exact hs.send
  · exact hs.foldl fun _ _ h => h.placeShards
  · exact hs.foldl fun _ _ h => h.updSet
  exact hs

theorem State.Keeps.applyChange (hs : s₀.Keeps s) {c : CatChange} : s₀.Keeps (s.applyChange c) := by
  unfold State.applyChange
  dsimp only
  split
  · exact hs.upd.entryIn
  exact hs.upd

theorem State.Keeps.writeCopies (hs : s₀.Keeps s) {l : List CatEntry} {okA okB : Bool} : s₀.Keeps (s.writeCopies l okA okB) := hs.upd

theorem State.Keeps.commitDone (hs : s₀.Keeps s) {okA okB : Bool} : s₀.Keeps (s.commitDone okA okB) := by
  unfold State.commitDone
  split
  · exact (hs.upd.writeCopies.applyChange.ite hs.upd.writeCopies.raiseLog).refreshSets.nextCommit
  exact hs

theorem State.Keeps.orphanWhere (hs : s₀.Keeps s) {gone : CatEntry → Bool} : s₀.Keeps (s.orphanWhere gone) := hs.upd

theorem State.Keeps.orphan (hs : s₀.Keeps s) {d : Nat} : s₀.Keeps (s.orphan d) := hs.orphanWhere

theorem State.Keeps.orphanAbsent (hs : s₀.Keeps s) : s₀.Keeps s.orphanAbsent := hs.orphanWhere

theorem State.Keeps.abortTransfers (hs : s₀.Keeps s) {sel : Transfer → Bool} : s₀.Keeps (s.abortTransfers sel) :=
  hs.upd.foldl fun _ _ h => h.raiseLog

theorem State.Keeps.placeAgain (hs : s₀.Keeps s) {t : Transfer} : s₀.Keeps (s.placeAgain t) := by
  unfold State.placeAgain
  split
  · exact hs
  exact hs.updSet.placeShards

theorem State.Keeps.peerAbsent (hs : s₀.Keeps s) {d : Nat} : s₀.Keeps (s.peerAbsent d) := by
  unfold State.peerAbsent
  exact (hs.updPeer.raiseLog.abortTransfers.orphan.foldl fun _ _ h => h.placeAgain).refreshSets

theorem State.Keeps.reprotect (hs : s₀.Keeps s) {d : Nat} {has : List (Nat × Nat)} : s₀.Keeps (s.reprotect d has) := by
  unfold State.reprotect
  exact ((hs.foldl fun _ _ h => h.updSet).upd.raiseLog.ite (hs.foldl fun _ _ h => h.updSet)).pump.refreshSets

theorem State.Keeps.peerJoined (hs : s₀.Keeps s) {d : Nat} {id : Digest} {same : Bool} : s₀.Keeps (s.peerJoined d id same) :=
  hs.updPeer.upd.send.refreshSets.ite hs.updPeer.upd.send.reprotect

theorem State.Keeps.reencode (hs : s₀.Keeps s) {t : Target} {g : GoldenSet} : s₀.Keeps (s.reencode t g) :=
  hs.takeHandle.putSets.raiseLog.placeShards

theorem State.Keeps.replaceWait (hs : s₀.Keeps s) {d : Nat} : s₀.Keeps (s.replaceWait d) := by
  unfold State.replaceWait
  split
  · exact hs
  exact hs.ite (hs.advanceTo.updPeer.ite (hs.advanceTo.updPeer.upd.foldl fun _ _ h => h.reencode).refreshSets)

/-! ### Cistern -/

theorem State.Keeps.cisternInit (hs : s₀.Keeps s) : s₀.Keeps s.cisternInit := hs.upd

theorem State.Keeps.requestShards (hs : s₀.Keeps s) {t : Target} {g : GoldenSet} : s₀.Keeps (s.requestShards t g) :=
  hs.foldl fun _ _ h => h.send

theorem State.Keeps.startRebuild (hs : s₀.Keeps s) : s₀.Keeps s.startRebuild :=
  hs.ite (hs.opRefused.answer.ite (hs.upd.raiseLog.foldl fun _ _ h => h.requestShards).rebuildCheck)

theorem State.Keeps.cisternInitDone (hs : s₀.Keeps s) {o : InitOutcome} : s₀.Keeps (s.cisternInitDone o) :=
  have h₁ := hs.upd.ite hs.upd
  have h₂ := (h₁.upd.ite h₁.upd).upd
  hs.ite (hs.upd.raiseLog.refreshSets.ite (h₂.raiseLog.ite h₂).raiseLog.orphanAbsent.refreshSets.runPendings.startRebuild)

theorem State.Keeps.cisternPush (hs : s₀.Keeps s) {c : CisCmd} : s₀.Keeps (s.cisternPush c) :=
  hs.upd.raiseLog.ite (hs.upd.raiseLog.ite hs.upd)

theorem State.Keeps.cisternQpush (hs : s₀.Keeps s) {half : Half} {c : CisCmd} : s₀.Keeps (s.cisternQpush half c) :=
  hs.halfBus (fun _ h => h.cisternPush)

theorem State.Keeps.cisternPop (hs : s₀.Keeps s) : s₀.Keeps s.cisternPop := by
  unfold State.cisternPop
  refine hs.upd.ite ?_
  split
  · exact hs.upd
  exact hs.upd

theorem State.Keeps.execCisternEccMaxRead (hs : s₀.Keeps s) {half : Half} : s₀.OutcomeKeeps (execCisternEccMaxRead half s) :=
  (hs.halfBus (fun _ h => h.upd)).next

theorem State.Keeps.rewriteBlock (hs : s₀.Keeps s) {t row : Nat} : s₀.Keeps (s.rewriteBlock t row) := hs.upd.drawn

theorem State.Keeps.writeBad (hs : s₀.Keeps s) : s₀.Keeps s.writeBad := hs.upd

theorem State.Keeps.retireBlock (hs : s₀.Keeps s) {t row : Nat} : s₀.Keeps (s.retireBlock t row) :=
  have h₁ := hs.rewriteBlock.upd.writeBad.raiseLog
  have h₂ := h₁.raiseLog.ite h₁
  hs.ite (h₂.upd.raiseLog.ite h₂)

theorem State.Keeps.codewordRead (hs : s₀.Keeps s) {c : CisCmd} {w : WordRead} : s₀.Keeps (s.codewordRead c w) :=
  hs.retireBlock.ite (hs.rewriteBlock.ite hs)

theorem State.Keeps.cisRead (hs : s₀.Keeps s) {c : CisCmd} {o : CisOutcome} : s₀.Keeps (s.cisRead c o) :=
  have h₁ := hs.upd.raiseLog.ite hs.upd
  have h₂ := h₁.raiseLog.ite h₁
  have h₃ := h₂.raiseLog.ite h₂
  (h₃.foldl fun _ _ h => h.codewordRead).refreshSets.startRebuild.ite (h₃.foldl fun _ _ h => h.codewordRead)

theorem State.Keeps.cisFetch (hs : s₀.Keeps s) {c : CisCmd} : s₀.Keeps (s.cisFetch c) := hs.foldl fun _ _ h => h.stagingWrite

theorem State.Keeps.cisStore (hs : s₀.Keeps s) {c : CisCmd} : s₀.Keeps (s.cisStore c) := hs.foldl fun _ _ h => h.upd

theorem State.Keeps.cisErase (hs : s₀.Keeps s) {c : CisCmd} : s₀.Keeps (s.cisErase c) := hs.upd

theorem State.Keeps.coderPut (hs : s₀.Keeps s) {c : CisCmd} {x : Nat × List Byte} : s₀.Keeps (s.coderPut c x) := hs.stagingWrite

theorem State.Keeps.cisEncode (hs : s₀.Keeps s) {c : CisCmd} : s₀.Keeps (s.cisEncode c) := hs.foldl fun _ _ h => h.coderPut

theorem State.Keeps.cisDecode (hs : s₀.Keeps s) {c : CisCmd} : s₀.Keeps (s.cisDecode c) := hs.foldl fun _ _ h => h.coderPut

theorem State.Keeps.cisParameter (hs : s₀.Keeps s) {c : CisCmd} : s₀.Keeps (s.cisParameter c) := hs.upd.stagingWrite

theorem State.Keeps.cisServe (hs : s₀.Keeps s) {c : CisCmd} {o : CisOutcome} : s₀.Keeps (s.cisServe c o).1 := by
  unfold State.cisServe
  dsimp only
  split
  · exact (hs.ite hs.cisFetch).cisRead
  · exact hs.cisRead
  · exact hs.retireBlock.iteFst hs.cisStore
  · exact hs.retireBlock.iteFst hs.cisErase
  · exact hs.raiseLog.iteFst hs.cisEncode
  · exact hs.raiseLog.iteFst hs.cisDecode
  exact hs.cisParameter

theorem State.Keeps.cisCmdDone (hs : s₀.Keeps s) {o : CisOutcome} : s₀.Keeps (s.cisCmdDone o) := by
  unfold State.cisCmdDone
  split
  · exact hs
  exact hs.upd.cisServe.upd

theorem State.Keeps.patrolPass (hs : s₀.Keeps s) : s₀.Keeps s.patrolPass := hs.ite hs.advanceTo.upd.raiseLog

theorem State.Keeps.goldenCmd (hs : s₀.Keeps s) {t : Target} {b : List Byte} : s₀.Keeps (s.goldenCmd t b) := by
  unfold State.goldenCmd
  refine hs.opRefused.answer.ite ?_
  refine hs.goldenWrite.ite ?_
  split
  · exact hs.upd.runPending.ite hs
  exact hs.runPending.ite hs.answer

theorem State.Keeps.moveShard (hs : s₀.Keeps s) {t : Target} {id lag : Nat} {l : ShardLoc} : s₀.Keeps (s.moveShard t id lag l) := by
  unfold State.moveShard
  split
  · exact hs
  split
  · exact hs.updSet.ite hs
  exact hs

theorem State.Keeps.judgePeer (hs : s₀.Keeps s) {d : Nat} : s₀.Keeps (s.judgePeer d) :=
  (hs.updPeer.raiseLog.foldl fun _ _ h => h.foldl fun _ _ h2 => h2.moveShard).pump.ite (hs.updPeer.raiseLog.ite hs)

theorem State.Keeps.probePeer (hs : s₀.Keeps s) {d : Nat} : s₀.Keeps (s.probePeer d) := hs.ite hs.offer

theorem State.Keeps.laggardWindow (hs : s₀.Keeps s) : s₀.Keeps s.laggardWindow :=
  (((hs.advanceTo.foldl fun _ _ h => h.updPeer.judgePeer).ite hs.advanceTo).foldl fun _ _ h => h.probePeer).upd

theorem State.Keeps.orphanExpired (hs : s₀.Keeps s) : s₀.Keeps s.orphanExpired := by
  unfold State.orphanExpired
  split
  · exact hs
  exact hs.advanceTo.upd.raiseLog.catChange

theorem State.Keeps.remapFill (hs : s₀.Keeps s) : s₀.Keeps s.remapFill := hs.ite ((hs.upd.ite hs).upd.ite (hs.upd.ite hs)).raiseLog

/-! ### Levee -/

theorem State.Keeps.endSession (hs : s₀.Keeps s) {id : Nat} : s₀.Keeps (s.endSession id) := by
  unfold State.endSession
  split
  · exact hs
  exact hs.upd.dropSessionSlots.dropRequester

theorem State.Keeps.endSessions (hs : s₀.Keeps s) : s₀.Keeps s.endSessions := hs.foldl fun _ _ h => h.endSession

theorem State.Keeps.restartCores (hs : s₀.Keeps s) {sel : CoreId → Bool} {on : Bool} : s₀.Keeps (s.restartCores sel on) := hs.upd

theorem State.Keeps.dropTransfers (hs : s₀.Keeps s) : s₀.Keeps s.dropTransfers := hs.upd

theorem State.Keeps.mgmtRestart (hs : s₀.Keeps s) : s₀.Keeps s.mgmtRestart := hs.restartCores.endSessions.dropTransfers.upd

theorem State.Keeps.measRestart (hs : s₀.Keeps s) : s₀.Keeps s.measRestart := hs.restartCores.upd

theorem State.Keeps.countTampers (hs : s₀.Keeps s) : s₀.Keeps s.countTampers := hs.ite hs.storePut.upd

theorem State.Keeps.quarantineAll (hs : s₀.Keeps s) : s₀.Keeps s.quarantineAll := hs.foldl fun _ _ h => h.ite h.setChan

theorem State.Keeps.tamperZeroise (hs : s₀.Keeps s) : s₀.Keeps s.tamperZeroise :=
  have h₁ := hs.upd.kvZeroise.ite hs.upd
  have h₂ := h₁.pkeAbortAs.ite h₁
  (h₂.pkeAbortAs.ite h₂).upd

theorem State.Keeps.debugOff (hs : s₀.Keeps s) : s₀.Keeps s.debugOff := hs.upd

theorem State.Keeps.tamperResponse (hs : s₀.Keeps s) {n : Sensor} : s₀.Keeps (s.tamperResponse n) :=
  have h₁ :=
    (hs.puenLow.tamperZeroise.debugOff.ite hs.upd.setMode.quarantineAll.puenLow.tamperZeroise.restartCores.dropTransfers).raise.logIt
  h₁.countTampers.ite h₁

theorem State.Keeps.detect (hs : s₀.Keeps s) {n : Sensor} : s₀.Keeps (s.detect n) :=
  hs.upd.raise.raise.ite (hs.upd.raise.upd.ite hs.upd.raise.upd.tamperResponse)

theorem State.Keeps.leveeCtl (hs : s₀.Keeps s) {k : CoreId} {v : Word} : s₀.Keeps (s.leveeCtl k v).1 :=
  hs.iteFst (hs.iteFst (hs.iteFst hs.upd))

theorem State.Keeps.selftestDone (hs : s₀.Keeps s) {passed : BitVec 14} : s₀.Keeps (s.selftestDone passed) := by
  unfold State.selftestDone
  split
  · exact hs
  exact hs.advanceTo.upd.raiseIf

/-! ### Session -/

theorem State.Keeps.updSession (hs : s₀.Keeps s) {id : Nat} {f : Session → Session} : s₀.Keeps (s.updSession id f) := hs.upd

theorem State.Keeps.newKey (hs : s₀.Keeps s) {v : List Byte} {dest usage : BitVec 8} {parent : Option (Fin 128)} :
    s₀.Keeps (s.newKey v dest usage parent).2 := by
  unfold State.newKey
  split
  · exact hs.raise
  exact hs.setKslot

theorem State.Keeps.addKey (hs : s₀.Keeps s) {id : Nat} {v : List Byte} {dest usage : BitVec 8} {parent : Option Nat} :
    s₀.Keeps (s.addKey id v dest usage parent) := by
  unfold State.addKey
  split
  · exact hs
  exact hs.newKey.updSession

theorem State.Keeps.expandKey (hs : s₀.Keeps s) {id src : Nat} {label : String} {ctx : List Byte} {len : Nat} {dest usage : BitVec 8} :
    s₀.Keeps (s.expandKey id src label ctx len dest usage) := by
  unfold State.expandKey
  split
  · exact hs
  exact hs.addKey

theorem State.Keeps.exchangeKeys (hs : s₀.Keeps s) {id : Nat} {shared : List Byte} : s₀.Keeps (s.exchangeKeys id shared) := hs.addKey.addKey

theorem State.Keeps.handshakeKeys (hs : s₀.Keeps s) {id : Nat} {own : Bool} {th : List Byte} : s₀.Keeps (s.handshakeKeys id own th) :=
  hs.expandKey.expandKey.expandKey.expandKey.expandKey.expandKey

theorem State.Keeps.appKeys (hs : s₀.Keeps s) {id : Nat} {own : Bool} {th : List Byte} : s₀.Keeps (s.appKeys id own th) :=
  .expandKey (.expandKey (.expandKey (.expandKey (by split; exacts [hs.expandKey.addKey, hs.expandKey]))))

theorem State.Keeps.secureOut (hs : s₀.Keeps s) {x : Session} {m : List Byte} : s₀.Keeps (s.secureOut x m) := hs.updSession.upd

/-! ### Reply -/

theorem State.Keeps.secureRill (hs : s₀.Keeps s) {r : RillReq} : s₀.Keeps (s.secureRill r) := by
  unfold State.secureRill
  split
  · exact hs.secureOut
  exact hs

theorem State.Keeps.windowReply (hs : s₀.Keeps s) {r : RillReq} : s₀.Keeps (s.windowReply r) := hs.upd

theorem State.Keeps.emit (hs : s₀.Keeps s) {e : Nat} {r : RillReq} : s₀.Keeps (s.emit e r) :=
  hs.upd.windowReply.ite (hs.upd.secureRill.ite (hs.upd.send.ite hs.upd))

theorem State.Keeps.flush (hs : s₀.Keeps s) {e n : Nat} : s₀.Keeps (s.flush e n) := by
  induction n generalizing s with
  | zero => exact hs
  | succ n ih =>
    unfold State.flush
    split
    · exact hs
    split
    · exact ih hs.upd.emit
    · exact hs.ite hs.upd.emit

theorem State.Keeps.flushAll (hs : s₀.Keeps s) {e : Nat} : s₀.Keeps (s.flushAll e) := hs.flush

theorem State.Keeps.enqueue (hs : s₀.Keeps s) {key : Nat} {o : Outstanding} : s₀.Keeps (s.enqueue key o) := hs.upd.flushAll

theorem State.Keeps.replyTo (hs : s₀.Keeps s) {who : Requester} {f r : RillReq} : s₀.Keeps (s.replyTo who f r) := hs.enqueue

theorem State.Keeps.replyCode (hs : s₀.Keeps s) {who : Requester} {f : RillReq} {c : Code} : s₀.Keeps (s.replyCode who f c) :=
  hs.answer.replyTo

theorem State.Keeps.settle (hs : s₀.Keeps s) {e : Nat} {p : Outstanding → Bool} {reply : RillReq → RillReq} :
    s₀.Keeps (s.settle e p reply) := hs.upd.flushAll

theorem State.Keeps.settleForward (hs : s₀.Keeps s) {fw : Forwarded} {reply : RillReq → RillReq} : s₀.Keeps (s.settleForward fw reply) :=
  hs.upd.settle

/-! ### Pakor -/

theorem State.Keeps.updLink (hs : s₀.Keeps s) {l : LinkId} {f : Link → Link} : s₀.Keeps (s.updLink l f) := hs.upd

theorem State.Keeps.dropHandshake (hs : s₀.Keeps s) {l : LinkId} : s₀.Keeps (s.dropHandshake l) := (hs.foldl fun _ _ h => h.destroySlot).upd

theorem State.Keeps.endLinkSession (hs : s₀.Keeps s) {l : LinkId} : s₀.Keeps (s.endLinkSession l) :=
  hs.dropHandshake.updLink.foldl fun _ _ h => h.destroySlot

theorem State.Keeps.sendSetup (hs : s₀.Keeps s) {l : LinkId} {m : List Byte} : s₀.Keeps (s.sendSetup l m) := hs.upd

theorem State.Keeps.startHandshake (hs : s₀.Keeps s) {l : LinkId} : s₀.Keeps (s.startHandshake l) := hs.ite hs.updLink.sendSetup

theorem State.Keeps.syncHealth (hs : s₀.Keeps s) : s₀.Keeps s.syncHealth := (hs.ite hs.upd).ite hs.upd

theorem State.Keeps.moveCas (hs : s₀.Keeps s) {d : Nat} : s₀.Keeps (s.moveCas d) := hs.ite (hs.foldl fun _ _ h => h.settleForward).upd

theorem State.Keeps.setCasMaster (hs : s₀.Keeps s) {d : Nat} : s₀.Keeps (s.setCasMaster d) := hs.moveCas.ite hs.moveCas.raiseLog

theorem State.Keeps.islandMaster (hs : s₀.Keeps s) : s₀.Keeps s.islandMaster := hs.moveCas.upd

theorem State.Keeps.islandOver (hs : s₀.Keeps s) : s₀.Keeps s.islandOver := hs.upd.moveCas

theorem State.Keeps.islandCheck (hs : s₀.Keeps s) : s₀.Keeps s.islandCheck :=
  (hs.ite hs.setCasMaster).ite ((hs.upd.islandMaster.ite hs.upd.islandMaster.raiseLog).ite (hs.upd.islandOver.raiseLog.ite hs.upd))

theorem State.Keeps.linkFailed (hs : s₀.Keeps s) {l : LinkId} {st : LinkState} : s₀.Keeps (s.linkFailed l st) := hs.dropHandshake.updLink

theorem State.Keeps.trainStep (hs : s₀.Keeps s) {l : LinkId} {step : Nat} {ok : Bool} : s₀.Keeps (s.trainStep l step ok) :=
  hs.ite ((hs.updLink.startHandshake.ite hs.updLink).ite hs.linkFailed)

theorem State.Keeps.execPakorTrainRetry (hs : s₀.Keeps s) {l : LinkId} : s₀.OutcomeKeeps (execPakorTrainRetry l s) :=
  State.Keeps.next (by split; exacts [hs.advanceTo.updLink, hs])

theorem State.Keeps.crcRetrain (hs : s₀.Keeps s) {l : LinkId} {worse : Fin 2} : s₀.Keeps (s.crcRetrain l worse) :=
  hs.endLinkSession.updLink.updLink.raiseLog.ite hs.endLinkSession.updLink

theorem State.Keeps.sendHoldings (hs : s₀.Keeps s) {d : Nat} : s₀.Keeps (s.sendHoldings d) := hs.send

theorem State.Keeps.sendCmdOut (hs : s₀.Keeps s) {c : SendCmd} : s₀.Keeps (s.sendCmdOut c) := hs.send.upd

theorem State.Keeps.drainSend (hs : s₀.Keeps s) : s₀.Keeps s.drainSend := (hs.upd.foldl fun _ _ h => h.sendCmdOut).ite hs

theorem State.Keeps.linkUp (hs : s₀.Keeps s) {l : LinkId} {oneLane : Bool} : s₀.Keeps (s.linkUp l oneLane) :=
  hs.ite ((hs.updLink.raiseLog.upd.ite hs.updLink.raiseLog).syncHealth.foldl fun _ _ h => h.sendHoldings).islandCheck.drainSend

theorem State.Keeps.linkDown (hs : s₀.Keeps s) {l : LinkId} : s₀.Keeps (s.linkDown l) :=
  (hs.endLinkSession.updLink.raiseLog.ite hs.endLinkSession.updLink).syncHealth.islandCheck

theorem State.Keeps.linksDown (hs : s₀.Keeps s) : s₀.Keeps s.linksDown := hs.foldl fun _ _ h => h.linkDown

theorem State.Keeps.dropFrame (hs : s₀.Keeps s) {l : LinkId} : s₀.Keeps (s.dropFrame l) := hs.updLink

theorem State.Keeps.tagFail (hs : s₀.Keeps s) {l : LinkId} : s₀.Keeps (s.tagFail l) :=
  hs.updLink.ite hs.updLink.endLinkSession.updLink.startHandshake.raiseLog.syncHealth

theorem State.Keeps.forward (hs : s₀.Keeps s) {f : FrameIn} {type : Nat} {payload : List Byte} {l : LinkId} :
    s₀.Keeps (s.forward f type payload l) := hs.upd.ite hs

theorem State.Keeps.updSeen (hs : s₀.Keeps s) {d : Nat} {f : Member → Member} : s₀.Keeps (s.updSeen d f) := by
  unfold State.updSeen
  split
  · exact hs.upd
  exact hs

theorem State.Keeps.noteSeq (hs : s₀.Keeps s) {f : FrameIn} {seq : Option Nat} : s₀.Keeps (s.noteSeq f seq) := hs.updSeen.ite hs

theorem State.Keeps.received (hs : s₀.Keeps s) : s₀.Keeps s.received := hs.ite hs.upd.drawn

theorem State.Keeps.frame (hs : s₀.Keeps s) {f : FrameIn} {type : Nat} {payload : List Byte} {seq : Option Nat} {act : State → State}
    (hact : ∀ t, s₀.Keeps t → s₀.Keeps (act t)) : s₀.Keeps (s.frame f type payload seq act) :=
  hs.quiet.dropFrame.ite (hs.quiet.tagFail.ite (((hact _ hs.quiet.updLink.noteSeq.forward.received).ite hs.quiet.updLink).ite ((hact _
    hs.quiet.updLink.received).ite hs.quiet.updLink.forward)))

theorem State.Keeps.setupFrame (hs : s₀.Keeps s) {f : FrameIn} {act : State → State} (hact : ∀ t, s₀.Keeps t → s₀.Keeps (act t)) :
    s₀.Keeps (s.setupFrame f act) := hs.quiet.dropFrame.ite (hact _ hs.quiet)

theorem State.Keeps.posConflict (hs : s₀.Keeps s) : s₀.Keeps s.posConflict := (hs.foldl fun _ _ h => h.endLinkSession.updLink).upd.raiseLog

theorem State.Keeps.laneOne (hs : s₀.Keeps s) {l : LinkId} {device : Nat} {same : Bool} {mode : Nat} {id : Digest} :
    s₀.Keeps (s.laneOne l device same mode id) := hs.updLink.ite (hs.updLink.ite hs.raiseLog)

theorem State.Keeps.hello (hs : s₀.Keeps s) {l : LinkId} {device : Nat} {lane : Fin 2} {same : Bool} {mode : Nat} {id : Digest}
    {ringOk : Bool} : s₀.Keeps (s.hello l device lane same mode id ringOk) :=
  have h₁ := hs.updSeen.updLink.ite hs.updSeen.laneOne
  hs.ite (hs.posConflict.ite (h₁.ite h₁.updLink.raiseLog))

theorem State.Keeps.stepDown (hs : s₀.Keeps s) {equal : Bool} : s₀.Keeps (s.stepDown equal) :=
  (hs.upd.raiseLog.ite hs.upd).raiseLog.foldl fun _ _ h => h.sendHoldings

theorem State.Keeps.setSegMaster (hs : s₀.Keeps s) {d epoch : Nat} : s₀.Keeps (s.setSegMaster d epoch) :=
  (hs.upd.raiseLog.ite hs.upd).islandCheck

theorem State.Keeps.segRival (hs : s₀.Keeps s) {d epoch : Nat} : s₀.Keeps (s.segRival d epoch) :=
  (hs.upd.ite hs).ite ((hs.stepDown.ite hs).setSegMaster.ite hs)

theorem State.Keeps.casRival (hs : s₀.Keeps s) {d epoch : Nat} : s₀.Keeps (s.casRival d epoch) :=
  ((hs.upd.ite hs).upd.ite (hs.upd.ite hs)).ite ((((hs.upd.ite hs).upd.raiseLog.ite (hs.upd.ite hs).upd).raiseLog.ite (hs.upd.ite
    hs)).upd.setCasMaster.ite (hs.upd.ite hs))

theorem State.Keeps.memberJoins (hs : s₀.Keeps s) {d : Nat} : s₀.Keeps (s.memberJoins d) := by
  unfold State.memberJoins
  split
  · exact hs
  exact hs.ite hs.updSeen.raiseLog.peerJoined.startRebuild

theorem State.Keeps.memberGone (hs : s₀.Keeps s) {d : Nat} {declared : Bool} : s₀.Keeps (s.memberGone d declared) :=
  (hs.updSeen.upd.raiseLog.ite hs.updSeen).peerAbsent.islandCheck

theorem State.Keeps.takeView (hs : s₀.Keeps s) {master : Nat} {members : Word} : s₀.Keeps (s.takeView master members) :=
  hs.upd.foldl fun _ _ h => h.memberGone.ite h

theorem State.Keeps.beacon (hs : s₀.Keeps s) {src : Nat} {b : Beacon} : s₀.Keeps (s.beacon src b) :=
  have h₁ := hs.updSeen.memberJoins
  have h₂ := h₁.segRival.ite h₁
  have h₃ := h₂.casRival.ite h₂
  hs.posConflict.ite (h₃.upd.ite (h₃.upd.takeView.ite h₃.upd)).islandCheck

theorem State.Keeps.nextSeq (hs : s₀.Keeps s) : s₀.Keeps s.nextSeq := hs.upd

theorem State.Keeps.beaconOut (hs : s₀.Keeps s) : s₀.Keeps s.beaconOut := hs.advanceTo.ite hs.advanceTo.send.nextSeq

theorem State.Keeps.pakorBus (hs : s₀.Keeps s) {half : Half} {off : Nat} {stewardOnly : Bool} {f : State → State}
    (hf : ∀ t, s₀.Keeps t → s₀.Keeps (f t)) : s₀.Keeps (s.pakorBus half off stewardOnly f) := hs.halfBus (fun _ h => hf _ h)

theorem State.Keeps.beaconRefresh (hs : s₀.Keeps s) : s₀.Keeps s.beaconRefresh := hs.syncHealth.upd

theorem State.Keeps.declareStale (hs : s₀.Keeps s) : s₀.Keeps s.declareStale :=
  hs.foldl fun _ _ h => by split; exacts [h.memberGone.ite h, h]

theorem State.Keeps.claimSegment (hs : s₀.Keeps s) : s₀.Keeps s.claimSegment := by
  unfold State.claimSegment
  refine hs.ite ?_
  split
  · exact hs
  exact hs.advanceTo.setSegMaster.upd.send.nextSeq.declareStale

theorem State.Keeps.claimCascade (hs : s₀.Keeps s) : s₀.Keeps s.claimCascade := hs.ite hs.upd.setCasMaster.upd.send.nextSeq

theorem State.Keeps.shardOffer (hs : s₀.Keeps s) {src number : Nat} {h : ShardHead} : s₀.Keeps (s.shardOffer src number h) := by
  unfold State.shardOffer
  dsimp only
  split
  · exact hs.send.upd
  · exact hs.send.raiseLog
  exact hs.send

theorem State.Keeps.dropOut (hs : s₀.Keeps s) {t : Transfer} : s₀.Keeps (s.dropOut t) := hs.upd

theorem State.Keeps.skipMember (hs : s₀.Keeps s) {t : Transfer} : s₀.Keeps (s.skipMember t) := by
  unfold State.skipMember
  split
  · exact hs
  exact hs.updSet.placeShards

theorem State.Keeps.shardGrant (hs : s₀.Keeps s) {src number : Nat} {c : Code} : s₀.Keeps (s.shardGrant src number c) := by
  unfold State.shardGrant
  split
  · exact hs
  split
  · exact hs.upd.updPeer.sendShard
  · exact hs.dropOut.skipMember
  exact hs.dropOut

theorem State.Keeps.shardWhole (hs : s₀.Keeps s) {t : Transfer} : s₀.Keeps (s.shardWhole t) :=
  hs.upd.send.ite (hs.upd.send.ite hs.upd.takeHandle.catChange.drawn)

theorem State.Keeps.shardData (hs : s₀.Keeps s) {src number offset : Nat} {data : List Byte} :
    s₀.Keeps (s.shardData src number offset data) := by
  unfold State.shardData
  split
  · exact hs
  exact hs.ite (hs.upd.shardWhole.ite hs.upd)

theorem State.Keeps.shardAck (hs : s₀.Keeps s) {src number : Nat} {c : Code} : s₀.Keeps (s.shardAck src number c) := by
  unfold State.shardAck
  split
  · exact hs
  dsimp only
  split
  · exact hs.dropOut.updPeer.updSet.refreshSets.pump
  exact hs.dropOut.updPeer.pump

theorem State.Keeps.shardReq (hs : s₀.Keeps s) {src : Nat} {ownerId : Digest} {target svn : Nat} {root : Digest} {index : Nat} :
    s₀.Keeps (s.shardReq src ownerId target svn root index) := by
  unfold State.shardReq
  dsimp only
  split
  · exact hs.sendShard.send
  exact hs.send

theorem State.Keeps.transferStall (hs : s₀.Keeps s) {number : Nat} {outgoing : Bool} : s₀.Keeps (s.transferStall number outgoing) := by
  unfold State.transferStall
  dsimp only
  split
  · exact hs
  exact hs.advanceTo.abortTransfers.placeAgain.ite hs.advanceTo.abortTransfers

theorem State.Keeps.pakorPush (hs : s₀.Keeps s) {c : SendCmd} : s₀.Keeps (s.pakorPush c) :=
  hs.upd.raiseLog.ite (hs.upd.raiseLog.ite hs.upd.drainSend)

theorem State.Keeps.execPakorRxpop (hs : s₀.Keeps s) {half : Half} : s₀.OutcomeKeeps (execPakorRxpop half s) :=
  (hs.pakorBus (fun _ h => h.upd)).next

theorem State.Keeps.pakorPop (hs : s₀.Keeps s) : s₀.Keeps s.pakorPop := by
  unfold State.pakorPop
  refine hs.upd.ite ?_
  split
  · exact hs.upd
  exact hs.upd

/-! ### Restart -/

theorem State.Keeps.fullReset (hs : s₀.Keeps s) {aonKept : Bool} {cause : Nat} {phase : BootPhase} :
    s₀.Keeps (s.fullReset aonKept cause phase) := by
  refine State.Keeps.upd (State.Keeps.foldl (hs.updMem (Memory.wf_filter s.mem _)) fun _ _ h => ?_)
  exact h.ite h.logRec

theorem State.Keeps.internalReset (hs : s₀.Keeps s) {cause : Nat} : s₀.Keeps (s.internalReset cause) := hs.fullReset

/-! ### Update -/

theorem State.Keeps.updateModeEnds (hs : s₀.Keeps s) : s₀.Keeps s.updateModeEnds := hs.ite (hs.setMode.ite hs.setMode.upd)

theorem State.Keeps.endVers (hs : s₀.Keeps s) {t : Target} : s₀.Keeps (s.endVers t) := hs.endVer.endVer

theorem State.Keeps.chanUpdEnds (hs : s₀.Keeps s) {c : ChanId} : s₀.Keeps (s.chanUpdEnds c) := by
  unfold State.chanUpdEnds
  split
  · exact hs.setChan
  · exact hs.ite hs.setChan
  exact hs

theorem State.Keeps.updEnd (hs : s₀.Keeps s) {t : Target} {code : Code} : s₀.Keeps (s.updEnd t code) := by
  unfold State.updEnd
  dsimp only
  split
  · exact hs.endVers.updTarget.chanUpdEnds
  exact hs.endVers.updTarget

theorem State.Keeps.landImage (hs : s₀.Keeps s) {c : ChanId} {b : List Byte} {page : Nat} : s₀.Keeps (s.landImage c b page) :=
  hs.foldl fun _ _ h => h.store.sealPage

theorem State.Keeps.putField (hs : s₀.Keeps s) {c : ChanId} {off : Nat} {bs : List Byte} : s₀.Keeps (s.putField c off bs) := hs.store

theorem State.Keeps.placePins (hs : s₀.Keeps s) {c : ChanId} : s₀.Keeps (s.placePins c) := by
  unfold State.placePins
  refine hs.putField.ite ?_
  split
  · exact hs.store.putField
  exact hs

theorem State.Keeps.restoreDesc (hs : s₀.Keeps s) {c : ChanId} : s₀.Keeps (s.restoreDesc c) := hs.putField.repostDigest

theorem State.Keeps.invalidate (hs : s₀.Keeps s) {c : ChanId} {g : Nat} : s₀.Keeps (s.invalidate c g) :=
  hs.updTarget.chtInvalWrite.ite hs.updTarget

theorem State.Keeps.newGeneration (hs : s₀.Keeps s) {c : ChanId} {k : EditKind} : s₀.Keeps (s.newGeneration c k) :=
  hs.updTarget.putField.repostDigest.invalidate

theorem State.Keeps.editImage (hs : s₀.Keeps s) {c : ChanId} {r : JRec} : s₀.Keeps (s.editImage c r) :=
  .newGeneration (.foldl (.putField (.putField (.updTarget (by split; exacts [hs.store.putField, hs])))) fun _ _ h => h.putLeafDigest)

theorem State.Keeps.runEdit (hs : s₀.Keeps s) {c : ChanId} {k : EditKind} : s₀.Keeps (s.runEdit c k) := by
  unfold State.runEdit
  split
  · exact hs
  · exact hs.placePins.newGeneration
  split
  · exact hs.editImage
  exact hs

theorem State.Keeps.edit (hs : s₀.Keeps s) {c : ChanId} {k : EditKind} : s₀.Keeps (s.edit c k) :=
  (hs.setUpd.ite hs).updTarget.ite (hs.setUpd.ite hs).runEdit

theorem State.Keeps.dueEdit (hs : s₀.Keeps s) {c : ChanId} : s₀.Keeps (s.dueEdit c) := by
  unfold State.dueEdit
  split
  · exact hs
  exact hs.ite hs.updTarget.runEdit

theorem State.Keeps.settleEdit (hs : s₀.Keeps s) {c : ChanId} : s₀.Keeps (s.settleEdit c) := by
  unfold State.settleEdit
  refine hs.ite ?_
  split
  · exact hs.dueEdit
  exact (hs.updTarget.ite hs.updTarget.restoreDesc).dueEdit

theorem State.Keeps.flushInvals (hs : s₀.Keeps s) : s₀.Keeps s.flushInvals := hs.foldl fun _ _ h => h.invalidate.ite h

theorem State.Keeps.extensionWrite (hs : s₀.Keeps s) : s₀.Keeps s.extensionWrite := hs.rewriteFlash.setUpd

theorem State.Keeps.pldmSettled (hs : s₀.Keeps s) {t : Target} : s₀.Keeps (s.pldmSettled t) := hs.upd

theorem State.Keeps.recoveryReset (hs : s₀.Keeps s) : s₀.Keeps s.recoveryReset := hs.internalReset.ite hs

theorem State.Keeps.sillRecovery (hs : s₀.Keeps s) {r : JRec} : s₀.Keeps (s.sillRecovery r) := hs.appendRec.recoveryReset.ite hs.queueStep

theorem State.Keeps.recoveredMatches (hs : s₀.Keeps s) {t : Target} : s₀.Keeps (s.recoveredMatches t) := by
  unfold State.recoveredMatches
  split
  · exact hs.setChan.ite hs
  exact hs

theorem State.Keeps.afterRec (hs : s₀.Keeps s) {r : JRec} : s₀.Keeps (s.afterRec r) := by
  unfold State.afterRec
  split
  · exact hs.pldmSettled.edit
  · exact hs.sillRecovery.ite hs.pldmSettled.setUpd.upd
  · exact hs.pldmSettled.extensionWrite
  · exact hs.setUpd.recoveredMatches
  · exact (hs.setUpd.ite hs).dispose
  · exact hs.updateModeEnds.setUpd
  · exact hs.updEnd.ite hs
  · exact hs.recoveryReset
  exact hs

theorem State.Keeps.journalStep (hs : s₀.Keeps s) {r : JRec} : s₀.Keeps (s.journalStep r) := hs.appendRec.afterRec.ite hs.queueStep

theorem State.Keeps.dropGolden (hs : s₀.Keeps s) {t : Target} {root : Digest} : s₀.Keeps (s.dropGolden t root) :=
  hs.ite ((hs.upd.foldl fun _ _ h => h.freeSet).ite (hs.upd.foldl fun _ _ h => h.freeSet).catChange)

theorem State.Keeps.abandonChan (hs : s₀.Keeps s) {c : ChanId} {held : Option Half} : s₀.Keeps (s.abandonChan c held) := by
  unfold State.abandonChan
  refine .ite ?_ ?_
  · refine .ite ?_ ?_
    · exact .verifyChan (.setChan (by split; exacts [hs.holdClear, hs]))
    exact .setChan (by split; exacts [hs.holdClear, hs])
  split
  · exact hs.holdClear
  exact hs

theorem State.Keeps.abandon (hs : s₀.Keeps s) {t : Target} {code : Code} : s₀.Keeps (s.abandon t code) := by
  unfold State.abandon
  refine hs.ite ?_
  dsimp only
  split
  · exact
      have h₁ := (hs.upd.pldmSettled.upd.ite hs.upd.pldmSettled).journalStep
      (h₁.ite h₁.dropGolden).endVers.updTarget.abandonChan
  · exact
      have h₁ := (hs.upd.pldmSettled.upd.ite hs.upd.pldmSettled).journalStep
      (h₁.ite h₁.dropGolden).endVers.updTarget.updateModeEnds
  exact
    have h₁ := (hs.upd.pldmSettled.upd.ite hs.upd.pldmSettled).journalStep
    (h₁.ite h₁.dropGolden).endVers.updTarget

theorem State.Keeps.startUpdVer (hs : s₀.Keeps s) {t : Target} : s₀.Keeps (s.startUpdVer t) := hs.startVer

theorem State.Keeps.leafArrived (hs : s₀.Keeps s) {t : Target} {b : List Byte} {i : Nat} : s₀.Keeps (s.leafArrived t b i) := by
  unfold State.leafArrived
  split
  · exact hs
  exact hs.stagingWrite.updTarget.ite hs.stagingWrite

theorem State.Keeps.partIn (hs : s₀.Keeps s) {t : Target} {was : Nat} : s₀.Keeps (s.partIn t was) :=
  have h₁ := hs.writeIntent.ite hs
  have h₂ := h₁.startUpdVer.ite h₁
  (h₂.foldl fun _ _ h => h.leafArrived).ite h₂

theorem State.Keeps.takeData (hs : s₀.Keeps s) {t : Target} {data : List Byte} : s₀.Keeps (s.takeData t data) := by
  unfold State.takeData
  dsimp only
  split
  · exact hs.updTarget
  exact hs.updTarget.partIn

theorem State.Keeps.writeSlot (hs : s₀.Keeps s) {t : Target} : s₀.Keeps (s.writeSlot t) := by
  unfold State.writeSlot
  split
  · exact hs.rewriteFlash
  exact hs

theorem State.Keeps.receiveDone (hs : s₀.Keeps s) {t : Target} : s₀.Keeps (s.receiveDone t) :=
  hs.ite (hs.writeSlot.updTarget.ite hs.writeSlot.updTarget.startUpdVer)

theorem State.Keeps.revokedUpdate (hs : s₀.Keeps s) {t : Target} {code : Code} : s₀.Keeps (s.revokedUpdate t code) := by
  unfold State.revokedUpdate
  split
  · exact hs.needRecovery.ite hs
  exact hs

theorem State.Keeps.updVerified (hs : s₀.Keeps s) {t : Target} {r : Both Code} : s₀.Keeps (s.updVerified t r) :=
  (hs.endVers.updTarget.upd.ite hs.endVers.updTarget).pldmTell.goldenWrite.ite hs.pldmTell.abandon.revokedUpdate

theorem State.Keeps.stageDone (hs : s₀.Keeps s) {h : Half} {t : Target} {w : StageWork} : s₀.Keeps (s.stageDone h t w) := by
  unfold State.stageDone
  dsimp only
  split
  · split
    · exact hs.verStage
    exact hs
  · refine .ite ?_ ?_
    · exact .updVerified (by split; exacts [hs.verStage, hs])
    split
    · exact hs.verStage
    exact hs
  split
  · exact hs.verStage
  exact hs

theorem State.Keeps.switchCheck (hs : s₀.Keeps s) {t : Target} : s₀.Keeps (s.switchCheck t) := hs.journalStep.ite hs

theorem State.Keeps.startSwitch (hs : s₀.Keeps s) {c : ChanId} : s₀.Keeps (s.startSwitch c) := hs.switchCheck.ite hs

theorem State.Keeps.corePostRecord (hs : s₀.Keeps s) {h : Half} {value : Word} : s₀.Keeps (s.corePostRecord h value) := by
  unfold State.corePostRecord
  split
  · exact hs.ite hs.verdictRecord
  exact hs

theorem State.Keeps.execVerifyStageDone (hs : s₀.Keeps s) {half : Half} {t : Target} {w : StageWork} :
    s₀.OutcomeKeeps (execVerifyStageDone half t w s) :=
  State.Keeps.next (by split; exacts [hs.quiet.stageDone.startSwitch, hs.quiet.stageDone])

theorem State.Keeps.durableExpired (hs : s₀.Keeps s) {t : Target} : s₀.Keeps (s.durableExpired t) := by
  unfold State.durableExpired
  dsimp only
  split
  · exact hs.advanceTo.raiseLog.updTarget.updProceed.ite hs
  exact hs

theorem State.Keeps.landCommit (hs : s₀.Keeps s) {c : ChanId} {page flags : Nat} {units : List Nat} :
    s₀.Keeps (s.landCommit c page flags units) := hs.updTarget.journalStep

theorem State.Keeps.landingDone (hs : s₀.Keeps s) {c : ChanId} {off : Both Digest} : s₀.Keeps (s.landingDone c off) := by
  unfold State.landingDone
  dsimp only
  split
  · exact
      have h₁ := hs.landImage.chargeBest.chargeBest
      hs.ite (h₁.landCommit.ite h₁.abandon)
  exact hs

theorem State.Keeps.commitVerdicts (hs : s₀.Keeps s) {c : ChanId} : s₀.Keeps (s.commitVerdicts c) := by
  unfold State.commitVerdicts
  dsimp only
  split
  · exact hs.endVers.updChan.postVerdict.postVerdict.holdClear.updTarget
  exact hs.endVers.updChan.postVerdict.postVerdict

theorem State.Keeps.reloadDone (hs : s₀.Keeps s) {c : ChanId} : s₀.Keeps (s.reloadDone c) :=
  hs.descReload.commitVerdicts.switchCheck.settleEdit.ite hs.descReload.settleEdit

theorem State.Keeps.switchFails (hs : s₀.Keeps s) {c : ChanId} {unit : Nat} : s₀.Keeps (s.switchFails c unit) :=
  hs.updTarget.raiseLog.ite hs.updTarget

theorem State.Keeps.switchUnit (hs : s₀.Keeps s) {c : ChanId} {flashFail : Bool} {back : List Byte} {off : Both Digest} :
    s₀.Keeps (s.switchUnit c flashFail back off) := by
  unfold State.switchUnit
  dsimp only
  split
  · exact hs
  exact
    have h₁ := (hs.raiseLog.ite hs).chargeBest.chargeBest.updTarget
    hs.ite (h₁.switchFails.ite h₁.updTarget.switchCheck)

theorem State.Keeps.retireLosers (hs : s₀.Keeps s) {t : Target} : s₀.Keeps (s.retireLosers t) := hs.foldl fun _ _ h => h.journalStep

theorem State.Keeps.updRetire (hs : s₀.Keeps s) {t : Target} : s₀.Keeps (s.updRetire t) :=
  hs.ite (hs.updTarget.setUpd.dispose.ite (hs.updTarget.retireLosers.ite hs.updTarget.journalStep))

theorem State.Keeps.floorDone (hs : s₀.Keeps s) {t : Target} : s₀.Keeps (s.floorDone t) := hs.ite (hs.ite hs.journalStep)

theorem State.Keeps.updFloor (hs : s₀.Keeps s) {t : Target} {b : BurnOutcome} : s₀.Keeps (s.updFloor t b) :=
  hs.ite (hs.updEnd.ite (hs.advanceFloor.updEnd.ite hs.advanceFloor.floorDone))

theorem State.Keeps.missionActivate (hs : s₀.Keeps s) : s₀.Keeps s.missionActivate := hs.updTarget.journalStep.ite hs

theorem State.Keeps.extensionSwitched (hs : s₀.Keeps s) : s₀.Keeps s.extensionSwitched :=
  hs.journalStep.upd.updRetire.updEnd.ite hs.journalStep.upd.updRetire

theorem State.Keeps.extensionCommit (hs : s₀.Keeps s) : s₀.Keeps s.extensionCommit := hs.upd.updTarget.journalStep.ite hs

theorem State.Keeps.extensionApply (hs : s₀.Keeps s) {readBackOk : Bool} : s₀.Keeps (s.extensionApply readBackOk) :=
  hs.extensionCommit.ite (hs.extensionCommit.extensionSwitched.ite hs.extensionCommit.extensionWrite)

theorem State.Keeps.confirmTrial (hs : s₀.Keeps s) : s₀.Keeps s.confirmTrial := hs.journalStep

theorem State.Keeps.confirmWrite (hs : s₀.Keeps s) {half : Half} {v : Word} : s₀.Keeps (s.confirmWrite half v) :=
  hs.halfBus (fun _ h => (h.confirmTrial.ite h).upd.ite h)

theorem State.Keeps.confirmExpired (hs : s₀.Keeps s) : s₀.Keeps s.confirmExpired := by
  unfold State.confirmExpired
  split
  · exact hs
  exact hs.upd.ite (hs.upd.ite hs.upd.internalReset)

theorem State.Keeps.retryStep (hs : s₀.Keeps s) {g : GateStep} : s₀.Keeps (s.retryStep g) := by
  unfold State.retryStep
  refine hs.queueStep.ite ?_
  split
  · exact hs.appendRec.afterRec
  · exact hs.drawn.floorRun.settleFloor.floorDone
  exact hs.nextCommit

theorem State.Keeps.trialRetry (hs : s₀.Keeps s) : s₀.Keeps s.trialRetry := hs.setMode.upd.ite hs

theorem State.Keeps.resumeTimer (hs : s₀.Keeps s) : s₀.Keeps s.resumeTimer := by
  unfold State.resumeTimer
  split
  · exact hs.ite hs.upd
  exact hs

theorem State.Keeps.gateRetry (hs : s₀.Keeps s) : s₀.Keeps s.gateRetry :=
  (hs.upd.foldl fun _ _ h => h.retryStep).compactIfDue.countTampers.trialRetry.resumeTimer

/-! ### Recovery -/

theorem State.Keeps.requestOrphan (hs : s₀.Keeps s) {e : CatEntry} : s₀.Keeps (s.requestOrphan e) :=
  hs.foldl fun _ _ h => h.foldl fun _ _ h2 => h2.ite h2.send

theorem State.Keeps.askPeers (hs : s₀.Keeps s) {c : ChanId} : s₀.Keeps (s.askPeers c) :=
  ((hs.foldl fun _ _ h => h.requestShards).foldl fun _ _ h => h.requestOrphan).ite (hs.foldl fun _ _ h => h.requestShards)

theorem State.Keeps.recoveryRecord (hs : s₀.Keeps s) {t : Target} {source : Nat} {code : Code} :
    s₀.Keeps (s.recoveryRecord t source code) := hs.journalStep

theorem State.Keeps.recoveryEnds (hs : s₀.Keeps s) {t : Target} {source : Nat} : s₀.Keeps (s.recoveryEnds t source) := hs.updTarget

theorem State.Keeps.recoveredVerdicts (hs : s₀.Keeps s) {c : ChanId} {root : Digest} : s₀.Keeps (s.recoveredVerdicts c root) :=
  hs.endVers.updChan.postVerdict.postVerdict

theorem State.Keeps.queueRepairs (hs : s₀.Keeps s) {c : ChanId} {source : Nat} {units : List Nat} :
    s₀.Keeps (s.queueRepairs c source units) := by
  unfold State.queueRepairs
  split
  · exact hs
  exact hs.updChan.startRepairFrom

theorem State.Keeps.restoreLeaves (hs : s₀.Keeps s) {c : ChanId} {source : Nat} {b : List Byte} : s₀.Keeps (s.restoreLeaves c source b) :=
  ((hs.foldl fun _ _ h => h.mirrorWrite.putLeafDigest).updChan.rewriteDigests.ite (hs.foldl
    fun _ _ h => h.mirrorWrite.putLeafDigest).updChan).queueRepairs

theorem State.Keeps.recoverMirror (hs : s₀.Keeps s) {c : ChanId} : s₀.Keeps (s.recoverMirror c) :=
  hs.recoveryRecord.recoveryEnds.setChan.repairEnds.ite hs.recoveryRecord.recoveryEnds.setChan

theorem State.Keeps.recoverSame (hs : s₀.Keeps s) {c : ChanId} {source : Nat} {b : List Byte} : s₀.Keeps (s.recoverSame c source b) :=
  have h₁ := hs.setChan.restoreLeaves.recoveredVerdicts
  hs.startFill.startVer.ite (h₁.repairEnds.ite h₁)

theorem State.Keeps.recoverOther (hs : s₀.Keeps s) {c : ChanId} {b : List Byte} : s₀.Keeps (s.recoverOther c b) := by
  unfold State.recoverOther
  dsimp only
  split
  · exact hs
  exact (hs.setChan.updTarget.goldenWrite.ite hs.setChan.updTarget).updChan.landImage.landCommit

theorem State.Keeps.recoverFrom (hs : s₀.Keeps s) {c : ChanId} {source : Nat} {b : List Byte} : s₀.Keeps (s.recoverFrom c source b) :=
  hs.recoveryRecord.recoveryEnds.recoverSame.ite hs.recoveryRecord.recoveryEnds.recoverOther

theorem State.Keeps.recoveryQuarantine (hs : s₀.Keeps s) {c : ChanId} {code : Code} : s₀.Keeps (s.recoveryQuarantine c code) :=
  hs.recoveryRecord.updTarget.setChan.updChan

theorem State.Keeps.recoveryNone (hs : s₀.Keeps s) {c : ChanId} {code : Code} : s₀.Keeps (s.recoveryNone c code) := by
  unfold State.recoveryNone
  dsimp only
  split
  · exact hs.recoveryRecord.recoveryEnds.noSourceLog.ite hs.recoveryQuarantine
  · exact hs.recoveryRecord.updTarget
  exact hs.recoveryQuarantine

theorem State.Keeps.noteCodes (hs : s₀.Keeps s) {c : ChanId} {codes : List Code} : s₀.Keeps (s.noteCodes c codes) := hs.updTarget

theorem State.Keeps.recoveryFails (hs : s₀.Keeps s) {c : ChanId} : s₀.Keeps (s.recoveryFails c) := hs.recoveryNone

theorem State.Keeps.recoveryRun (hs : s₀.Keeps s) {c : ChanId} {j : Judgement} : s₀.Keeps (s.recoveryRun c j) := by
  unfold State.recoveryRun
  refine hs.ite ?_
  refine hs.recoverMirror.ite ?_
  dsimp only
  split
  · exact hs.recoverFrom
  exact hs.noteCodes.updTarget.askPeers.ite hs.noteCodes.updTarget.recoveryFails

theorem State.Keeps.peersTimeout (hs : s₀.Keeps s) {c : ChanId} : s₀.Keeps (s.peersTimeout c) :=
  hs.ite (hs.advanceTo.recoveryRun.recoveryFails.ite hs.advanceTo.recoveryRun)

theorem State.Keeps.uploadWaitExpired (hs : s₀.Keeps s) {c : ChanId} : s₀.Keeps (s.uploadWaitExpired c) :=
  hs.ite hs.advanceTo.recoveryQuarantine

theorem State.Keeps.shardsBad (hs : s₀.Keeps s) {t : Target} {h : ShardHead} {used : List Nat} : s₀.Keeps (s.shardsBad t h used) := by
  unfold State.shardsBad
  exact (hs.foldl fun _ _ h => h.updSet).upd.raiseLog.refreshSets

theorem State.Keeps.peerRecovers (hs : s₀.Keeps s) {c : ChanId} {b : List Byte} {code : Code} : s₀.Keeps (s.peerRecovers c b code) :=
  hs.recoveryRun.ite (hs.recoveryRun.recoverFrom.ite hs.recoveryRun.noteCodes)

theorem State.Keeps.shardsGood (hs : s₀.Keeps s) {t : Target} {g : GoldenSet} {b : List Byte} : s₀.Keeps (s.shardsGood t g b) :=
  hs.ite hs.upd.catChange.drawn

theorem State.Keeps.judgeReassembled (hs : s₀.Keeps s) {t : Target} {h : ShardHead} {used : List Nat} {b : List Byte} {j : Judgement} :
    s₀.Keeps (s.judgeReassembled t h used b j) := by
  unfold State.judgeReassembled
  dsimp only
  split
  · exact .peerRecovers (.ite (by split; exacts [hs.chargeBest.chargeBest.shardsGood, hs.chargeBest.chargeBest]) hs.chargeBest.chargeBest.shardsBad)
  refine .ite ?_ hs.chargeBest.chargeBest.shardsBad
  split
  · exact hs.chargeBest.chargeBest.shardsGood
  exact hs.chargeBest.chargeBest

theorem State.Keeps.reassembled (hs : s₀.Keeps s) {t : Target} {l : List ShardCopy} {j : Judgement} : s₀.Keeps (s.reassembled t l j) := by
  unfold State.reassembled
  split
  · exact hs
  dsimp only
  split
  · exact hs
  exact hs.ite hs.stagingWrite.judgeReassembled

theorem State.Keeps.pldmRecovered (hs : s₀.Keeps s) {t : Target} {code : Code} : s₀.Keeps (s.pldmRecovered t code) := hs.pldmTell.upd.ite hs

theorem State.Keeps.uploadJudged (hs : s₀.Keeps s) {c : ChanId} {r : Both Code} : s₀.Keeps (s.uploadJudged c r) :=
  hs.pldmRecovered.endVers.updTarget.setChan.recoverFrom.ite hs.pldmRecovered.endVers.updTarget

theorem State.Keeps.channelVerified (hs : s₀.Keeps s) {c : ChanId} : s₀.Keeps (s.channelVerified c) := by
  unfold State.channelVerified
  dsimp only
  split
  · exact hs
  exact hs.ite (hs.uploadJudged.ite hs.updVerified)

theorem State.Keeps.uploadLast (hs : s₀.Keeps s) {t : Target} : s₀.Keeps (s.uploadLast t).1 := hs.updTarget.receiveDone.iteFst hs.abandon

theorem State.Keeps.uploadPut (hs : s₀.Keeps s) {t : Target} {last : Bool} {data : List Byte} : s₀.Keeps (s.uploadPut t last data).1 :=
  hs.abandon.iteFst (hs.takeData.uploadLast.iteFst hs.takeData)

theorem State.Keeps.uploadFirst (hs : s₀.Keeps s) {c : ChanId} {total : Nat} {last : Bool} {data : List Byte} :
    s₀.Keeps (s.uploadFirst c total last data).1 := by
  unfold State.uploadFirst
  refine hs.updTarget.uploadPut.iteFst ?_
  split
  · exact hs.updTarget.chanUpdEnds.iteFst hs
  exact ((hs.reserve ‹_›).updTarget.setChan.ite (hs.reserve ‹_›).updTarget).uploadPut

theorem State.Keeps.uploadChan (hs : s₀.Keeps s) {c : ChanId} {offset total : Nat} {last : Bool} {data : List Byte} :
    s₀.Keeps (s.uploadChan c offset total last data).1 := hs.uploadFirst.iteFst (hs.uploadPut.iteFst hs.abandon)

theorem State.Keeps.recoverPut (hs : s₀.Keeps s) {offset total : Nat} {last : Bool} {data : List Byte} :
    s₀.Keeps (s.recoverPut offset total last data).1 := hs.updTarget.iteFst (hs.updTarget.iteFst (hs.updTarget.iteFst hs.updTarget.upd))

theorem State.Keeps.uploadSegment (hs : s₀.Keeps s) {who : Requester} {t : Target} {offset total : Nat} {last : Bool} {data : List Byte} :
    s₀.Keeps (s.uploadSegment who t offset total last data) := by
  unfold State.uploadSegment
  split
  · exact hs.objWrite (fun _ h => h.uploadChan)
  · exact hs.objWrite (fun _ h => h.recoverPut)
  exact hs.objWrite (fun _ h => h)

theorem State.Keeps.uploadTimeout (hs : s₀.Keeps s) {c : ChanId} : s₀.Keeps (s.uploadTimeout c) := hs.advanceTo.abandon.ite hs

theorem State.Keeps.streamClose (hs : s₀.Keeps s) {c : ChanId} : s₀.Keeps (s.streamClose c) := by
  unfold State.streamClose
  refine hs.ite ?_
  split
  · exact hs.abandon
  exact hs.updTarget.updTarget.startUpdVer

theorem State.Keeps.streamCommitObj (hs : s₀.Keeps s) {who : Requester} {c : ChanId} : s₀.Keeps (s.streamCommitObj who c) :=
  hs.objWrite (fun _ h => h.streamClose)

theorem State.Keeps.streamAbandonObj (hs : s₀.Keeps s) {who : Requester} {c : ChanId} : s₀.Keeps (s.streamAbandonObj who c) :=
  hs.objWrite (fun _ h => h.abandon)

theorem State.Keeps.streamIdleExpired (hs : s₀.Keeps s) {c : ChanId} : s₀.Keeps (s.streamIdleExpired c) := hs.advanceTo.abandon.ite hs

theorem State.Keeps.resetStream (hs : s₀.Keeps s) {c : ChanId} : s₀.Keeps (s.resetStream c) := by
  unfold State.resetStream
  refine .ite ?_ hs
  exact .streamClose (by split; exacts [hs.updTarget.holdSet.ite hs, hs])

theorem State.Keeps.nextRecoverCopy (hs : s₀.Keeps s) : s₀.Keeps s.nextRecoverCopy := by
  unfold State.nextRecoverCopy
  split
  · exact hs.upd
  exact hs.upd

theorem State.Keeps.recoverSearch (hs : s₀.Keeps s) : s₀.Keeps s.recoverSearch := hs.upd.nextRecoverCopy.ite hs

theorem State.Keeps.flashRepair (hs : s₀.Keeps s) {t : Target} {base size : Nat} {b : List Byte} : s₀.Keeps (s.flashRepair t base size b) :=
  hs.rewriteFlash.logMeas

theorem State.Keeps.restoreSlot (hs : s₀.Keeps s) {c : Candidate} : s₀.Keeps (s.restoreSlot c) := by
  unfold State.restoreSlot
  split
  · exact hs
  split
  · exact hs.flashRepair
  exact hs

theorem State.Keeps.restoreSlots (hs : s₀.Keeps s) : s₀.Keeps s.restoreSlots := hs.ite (hs.upd.foldl fun _ _ h => h.restoreSlot)

theorem State.Keeps.extensionStart (hs : s₀.Keeps s) : s₀.Keeps s.extensionStart := hs.upd.ite hs.upd

theorem State.Keeps.extensionSwitch (hs : s₀.Keeps s) : s₀.Keeps s.extensionSwitch := hs.switchCheck.ite hs

theorem State.Keeps.restoreExtension (hs : s₀.Keeps s) : s₀.Keeps s.restoreExtension := by
  unfold State.restoreExtension
  refine hs.ite ?_
  split
  · exact hs
  split
  · exact hs.flashRepair.extensionStart.extensionSwitch
  exact hs

theorem State.Keeps.resumeSlot (hs : s₀.Keeps s) : s₀.Keeps s.resumeSlot := hs.receiveDone.ite hs

/-! ### Pldm -/

theorem State.Keeps.pldmAnswer (hs : s₀.Keeps s) {completion : Nat} {data : List Byte} : s₀.Keeps (s.pldmAnswer completion data) := hs.upd

theorem State.Keeps.pldmCode (hs : s₀.Keeps s) {c : Code} : s₀.Keeps (s.pldmCode c) := hs.pldmAnswer

theorem State.Keeps.pldmAsked (hs : s₀.Keeps s) {who : Requester} {f : State → State} (hf : ∀ t, s₀.Keeps t → s₀.Keeps (f t)) :
    s₀.Keeps (s.pldmAsked who f) := (hs.quiet.asked (fun _ h => hf _ h)).ite hs

theorem State.Keeps.pldmNext (hs : s₀.Keeps s) {t : Target} : s₀.Keeps (s.pldmNext t) := hs.upd

theorem State.Keeps.pldmReserve (hs : s₀.Keeps s) {t : Target} {size : Nat} {u : State} (hu : s.pldmReserve t size = some u) :
    s₀.Keeps u := by
  unfold State.pldmReserve at hu
  split at hu
  · split at hu
    · cases hu
      exact hs
    · exact hs.reserve hu
  · split at hu
    · cases hu
      exact hs
    split at hu
    · cases hu
      exact hs.updTarget
    · cases hu
  · split at hu
    · split at hu
      · cases hu
        exact hs.updTarget
      · cases hu
    · cases hu

theorem State.Keeps.pldmOpen (hs : s₀.Keeps s) {t : Target} {size : Nat} : s₀.Keeps (s.pldmOpen t size).1 := by
  unfold State.pldmOpen
  split
  · exact hs
  rename_i u hu
  extract_lets v w
  have hv : s₀.Keeps v := (hs.pldmReserve hu).updTarget
  have hw : s₀.Keeps w := by
    unfold w
    split
    exacts [hv.ite hv.setChan, hv.ite hv.setMode, hv]
  exact hw.upd.pldmNext

theorem State.Keeps.noteRefusal (hs : s₀.Keeps s) {t : Option Target} {code : Code} : s₀.Keeps (s.noteRefusal t code) := by
  unfold State.noteRefusal
  dsimp only
  split
  · exact (hs.opRefused.ite hs).ite (hs.opRefused.ite hs).updTarget
  exact hs.opRefused.ite hs

theorem State.Keeps.execUpdateComponent (hs : s₀.Keeps s) {who : Requester} {component : Word16} {imageSize : Nat} :
    s₀.OutcomeKeeps (execUpdateComponent who component imageSize s) :=
  (hs.pldmAsked (fun _ h => by split; exacts [h.pldmOpen.noteRefusal.pldmCode, h.noteRefusal.pldmCode])).next

theorem State.Keeps.pldmDone (hs : s₀.Keeps s) {t : Target} : s₀.Keeps (s.pldmDone t) :=
  hs.upd.pldmTell.updTarget.upd.ite hs.upd.pldmTell.receiveDone

theorem State.Keeps.firmwareData (hs : s₀.Keeps s) {completion : Nat} {data : List Byte} : s₀.Keeps (s.firmwareData completion data) := by
  unfold State.firmwareData
  split
  · exact hs.ite (hs.takeData.pldmNext.ite hs.takeData.pldmDone)
  exact hs

theorem State.Keeps.pldmDrop (hs : s₀.Keeps s) {t : Target} {code : Code} : s₀.Keeps (s.pldmDrop t code) := hs.updTarget.upd.ite hs.abandon

theorem State.Keeps.firmwareTimeout (hs : s₀.Keeps s) : s₀.Keeps s.firmwareTimeout := by
  unfold State.firmwareTimeout
  split
  · exact hs.advanceTo.upd.ite hs.advanceTo.pldmDrop
  exact hs

theorem State.Keeps.pldmActivate (hs : s₀.Keeps s) {t : Target} : s₀.Keeps (s.pldmActivate t) := by
  unfold State.pldmActivate
  dsimp only
  split
  · exact hs.updTarget.updProceed
  · exact hs.updTarget.missionActivate
  exact hs.updTarget

theorem State.Keeps.execActivateFirmware (hs : s₀.Keeps s) {who : Requester} : s₀.OutcomeKeeps (execActivateFirmware who s) :=
  (hs.pldmAsked (fun _ h => h.pldmCode.ite (h.upd.foldl fun _ _ h2 => h2.pldmActivate).pldmCode)).next

theorem State.Keeps.execCancelUpdateComponent (hs : s₀.Keeps s) {who : Requester} : s₀.OutcomeKeeps (execCancelUpdateComponent who s) :=
  (hs.pldmAsked (fun _ h => by split; exacts [h.pldmDrop.pldmCode.ite h.pldmCode, h.pldmCode])).next

theorem State.Keeps.execCancelUpdate (hs : s₀.Keeps s) {who : Requester} : s₀.OutcomeKeeps (execCancelUpdate who s) :=
  (hs.pldmAsked (fun _ h => h.pldmCode.ite (h.foldl fun _ _ h2 => h2.pldmDrop).upd.pldmCode)).next

/-! ### Power -/

theorem State.Keeps.pendingClear (hs : s₀.Keeps s) {k : CoreId} {e : EventId} : s₀.Keeps (s.pendingClear k e).1 := hs.upd.iteFst hs

theorem State.Keeps.cfgWrite (hs : s₀.Keeps s) {k : CoreId} {e : EventId} {v : Word} : s₀.Keeps (s.cfgWrite k e v).1 :=
  hs.iteFst (hs.iteFst hs.upd)

theorem State.Keeps.swtrig (hs : s₀.Keeps s) {k : CoreId} {v : Word} : s₀.Keeps (s.swtrig k v).1 :=
  hs.iteFst (hs.foldl fun _ _ h => h.raiseIf)

theorem State.Keeps.alertWrite (hs : s₀.Keeps s) {k : CoreId} {v : Word} : s₀.Keeps (s.alertWrite k v) := hs.raiseLog.ite hs

theorem State.Keeps.updWdog (hs : s₀.Keeps s) {g : Fin 4} {f : Wdog → Wdog} : s₀.Keeps (s.updWdog g f) := hs.upd

theorem State.Keeps.wdogKick (hs : s₀.Keeps s) {k : CoreId} {g : Fin 4} : s₀.Keeps (s.wdogKick k g).1 := hs.updWdog.iteFst hs

theorem State.Keeps.wdogArm (hs : s₀.Keeps s) {k : CoreId} {g : Fin 4} {v : Word} : s₀.Keeps (s.wdogArm k g v).1 := hs.iteFst hs.updWdog

theorem State.Keeps.wdogEffect (hs : s₀.Keeps s) {g : Fin 4} : s₀.Keeps (s.wdogEffect g) := by
  unfold State.wdogEffect
  split
  · exact hs.halfRestart
  · exact hs.halfRestart
  · exact hs.disarmWdog.mgmtRestart
  exact hs.disarmWdog.measRestart

theorem State.Keeps.wdogExpired (hs : s₀.Keeps s) {g : Fin 4} : s₀.Keeps (s.wdogExpired g) := hs.advanceTo.raiseLog.wdogEffect.ite hs

theorem State.Keeps.timerExpired (hs : s₀.Keeps s) {t : Fin 8} : s₀.Keeps (s.timerExpired t) := hs.ite hs.advanceTo.raise.upd

theorem State.Keeps.execTimeLoRead (hs : s₀.Keeps s) {core : CoreId} : s₀.OutcomeKeeps (execTimeLoRead core s) := (hs.upd.ite hs).next

theorem State.Keeps.domStatus (hs : s₀.Keeps s) {d : Fin 39} {c : Code} : s₀.Keeps (s.domStatus d c) := hs.upd

theorem State.Keeps.pwrEvent (hs : s₀.Keeps s) {d : Fin 39} : s₀.Keeps (s.pwrEvent d) := hs.raise

theorem State.Keeps.domFull (hs : s₀.Keeps s) {d : Fin 39} : s₀.Keeps (s.domFull d) := hs.domStatus.raise.upd

theorem State.Keeps.domJoin (hs : s₀.Keeps s) {d : Fin 39} {on tied : Bool} : s₀.Keeps (s.domJoin d on tied) := by
  unfold State.domJoin
  split
  · exact hs.upd.domFull.ite hs.upd
  exact hs.domFull.ite hs.upd

theorem State.Keeps.domRequest (hs : s₀.Keeps s) {d : Fin 39} {on tied : Bool} : s₀.Keeps (s.domRequest d on tied) := by
  unfold State.domRequest
  refine hs.domStatus.ite ?_
  split
  · exact hs.domStatus.pwrEvent.upd
  exact hs.domJoin

theorem State.Keeps.domReqWrite (hs : s₀.Keeps s) {k : CoreId} {v : Word} {tied : Bool} : s₀.Keeps (s.domReqWrite k v tied).1 := by
  unfold State.domReqWrite
  split
  · exact hs
  exact hs.iteFst (hs.domRequest.iteFst hs)

theorem State.Keeps.pkeOff (hs : s₀.Keeps s) {h : Half} : s₀.Keeps (s.pkeOff h) := hs.pkeAbortAs.erase.upd

theorem State.Keeps.bankOff (hs : s₀.Keeps s) {b : Nat} : s₀.Keeps (s.bankOff b) :=
  (hs.foldl fun _ _ h => h.toAbsent.updChan).foldl fun _ _ h => h.updPort

theorem State.Keeps.ioOff (hs : s₀.Keeps s) {b : Nat} {host : Bool} : s₀.Keeps (s.ioOff b host) :=
  (hs.foldl fun _ _ h => h.toAbsent).foldl fun _ _ h => h.updPort

theorem State.Keeps.mirctlOff (hs : s₀.Keeps s) : s₀.Keeps s.mirctlOff := hs.upd

theorem State.Keeps.phyOff (hs : s₀.Keeps s) : s₀.Keeps s.phyOff := hs.updMem (Memory.wf_filter s.mem _)

theorem State.Keeps.cisternOff (hs : s₀.Keeps s) : s₀.Keeps s.cisternOff := hs.upd

theorem State.Keeps.pakorLost (hs : s₀.Keeps s) : s₀.Keeps s.pakorLost := hs.upd

theorem State.Keeps.pakorOff (hs : s₀.Keeps s) {d : Nat} : s₀.Keeps (s.pakorOff d) :=
  ((hs.send.ite hs).foldl fun _ _ h => h.linkDown).ite ((hs.send.ite hs).foldl fun _ _ h => h.linkDown).pakorLost

theorem State.Keeps.domOffEffect (hs : s₀.Keeps s) {d : Nat} : s₀.Keeps (s.domOffEffect d) :=
  hs.pkeOff.ite (hs.pkeOff.ite ((hs.foldl fun _ _ h => h.updEngine).ite (hs.bankOff.ite (hs.ioOff.ite (hs.mirctlOff.ite (hs.phyOff.ite
    (hs.cisternOff.ite (hs.pakorOff.ite (hs.upd.ite hs)))))))))

theorem State.Keeps.domOnEffect (hs : s₀.Keeps s) {d : Nat} : s₀.Keeps (s.domOnEffect d) := (hs.foldl fun _ _ h => h.probeIfReady).ite hs

theorem State.Keeps.switchDomain (hs : s₀.Keeps s) {d : Fin 39} {on : Bool} : s₀.Keeps (s.switchDomain d on) :=
  ((hs.ite hs.domOffEffect).upd.domOnEffect.ite (hs.ite hs.domOffEffect).upd).pwrEvent

theorem State.Keeps.domSwitchDone (hs : s₀.Keeps s) : s₀.Keeps s.domSwitchDone := by
  unfold State.domSwitchDone
  split
  · exact hs
  exact hs.upd.switchDomain.domStatus

theorem State.Keeps.mirrorClockLost (hs : s₀.Keeps s) : s₀.Keeps s.mirrorClockLost :=
  (hs.foldl fun _ _ h => h.mirrorFault).upd.train.ite (hs.foldl fun _ _ h => h.mirrorFault)

theorem State.Keeps.clockFault (hs : s₀.Keeps s) {i : Nat} : s₀.Keeps (s.clockFault i) :=
  (hs.raiseLog.upd.logIt.quarantineFreeze.ite hs.raiseLog.upd).ite (hs.raiseLog.upd.mirrorClockLost.ite hs.raiseLog.upd.linksDown)

theorem State.Keeps.clockWindow (hs : s₀.Keeps s) {w : ClockCounts} : s₀.Keeps (s.clockWindow w) :=
  hs.advanceTo.detect.ite (hs.advanceTo.foldl fun _ _ h => h.clockFault)

/-! ### Sill -/

theorem State.Keeps.porstRelease (hs : s₀.Keeps s) {seg : Fin 4} {pos : Fin 8} : s₀.Keeps (s.porstRelease seg pos) := hs.ite hs.upd

theorem State.Keeps.switchAll (hs : s₀.Keeps s) {ds : List (Fin 39)} {on : Bool} : s₀.Keeps (s.switchAll ds on) :=
  hs.foldl fun _ _ h => h.ite h.switchDomain

theorem State.Keeps.pllLock (hs : s₀.Keeps s) : s₀.Keeps s.pllLock := hs.ite hs.switchAll.upd

theorem State.Keeps.releaseSill (hs : s₀.Keeps s) : s₀.Keeps s.releaseSill := hs.upd

theorem State.Keeps.haltCores (hs : s₀.Keeps s) : s₀.Keeps s.haltCores := hs.upd

theorem State.Keeps.bootStop (hs : s₀.Keeps s) {code : Nat} : s₀.Keeps (s.bootStop code) := hs.haltCores.puenLow.upd.logRec

theorem State.Keeps.bootTimeout (hs : s₀.Keeps s) : s₀.Keeps s.bootTimeout := by
  unfold State.bootTimeout
  split
  · exact hs.advanceTo.raise.bootStop
  exact hs

theorem State.Keeps.crcNote (hs : s₀.Keeps s) {c : CrcReads} : s₀.Keeps (s.crcNote c) := hs.ite hs.logRec

theorem State.Keeps.bootAlarms (hs : s₀.Keeps s) : s₀.Keeps s.bootAlarms := hs.raiseIf.fuseAlarm.fuseAlarm.fuseAlarm.fuseAlarm.fuseAlarm.upd

theorem State.Keeps.recoverIdentity (hs : s₀.Keeps s) : s₀.Keeps s.recoverIdentity :=
  hs.ite (hs.sillDevice.ite hs.sillDevice.sillCistern).setRootLock

theorem State.Keeps.missionIdentity (hs : s₀.Keeps s) : s₀.Keeps s.missionIdentity :=
  (hs.ite (hs.sillDevice.sillAlias.ite hs.sillDevice.sillAlias.sillCistern)).setRootLock

theorem State.Keeps.recoverCistern (hs : s₀.Keeps s) : s₀.Keeps s.recoverCistern :=
  hs.switchAll.ite (hs.switchAll.recoverSearch.ite hs.switchAll.upd.cisternInit)

theorem State.Keeps.recoverMeasures (hs : s₀.Keeps s) : s₀.Keeps s.recoverMeasures := hs.restartCores.upd.ite hs.restartCores.upd.measStart

theorem State.Keeps.enterRecover (hs : s₀.Keeps s) : s₀.Keeps s.enterRecover :=
  hs.haltCores.upd.ite hs.puenLow.upd.updTarget.setMode.linksDown.recoverIdentity.recoverMeasures.recoverCistern

theorem State.Keeps.enterService (hs : s₀.Keeps s) : s₀.Keeps s.enterService := hs.setTestSecret.sillDevice.switchAll.upd.setMode.logRec

theorem State.Keeps.failTrials (hs : s₀.Keeps s) : s₀.Keeps s.failTrials := hs.foldl fun _ _ h => h.appendRec.ite h.upd

theorem State.Keeps.chooseMission (hs : s₀.Keeps s) : s₀.Keeps s.chooseMission := hs.failTrials.upd.enterRecover.ite hs.failTrials.upd

theorem State.Keeps.lifecyclePath (hs : s₀.Keeps s) : s₀.Keeps s.lifecyclePath :=
  hs.enterRecover.ite (hs.enterService.ite (hs.enterRecover.ite hs.chooseMission))

theorem State.Keeps.loadSecret (hs : s₀.Keeps s) : s₀.Keeps s.loadSecret := hs.ite hs.loadSlot0

theorem State.Keeps.bootLoaded (hs : s₀.Keeps s) {c : CrcReads} : s₀.Keeps (s.bootLoaded c) :=
  have h₁ := hs.loadBootFuses.loadSecret.releaseSill.crcNote.bootAlarms
  hs.ite (h₁.bootStop.ite h₁.switchAll.lifecyclePath)

theorem State.Keeps.judgeDiffers (hs : s₀.Keeps s) : s₀.Keeps s.judgeDiffers := hs.raise.raise

theorem State.Keeps.slotResult (hs : s₀.Keeps s) {i : Fin 2} {r : Both (Code × Nat × Digest)} : s₀.Keeps (s.slotResult i r) :=
  (hs.ite hs.drawn).upd

theorem State.Keeps.rejectCandidate (hs : s₀.Keeps s) {c : Candidate} {rest : List Candidate} {r : Both (Code × Nat × Digest)} :
    s₀.Keeps (s.rejectCandidate c rest r) := hs.logRec.slotResult.upd.enterRecover.ite hs.logRec.slotResult.upd

theorem State.Keeps.trialBoot (hs : s₀.Keeps s) {c : Candidate} : s₀.Keeps (s.trialBoot c) := by
  unfold State.trialBoot
  split
  · exact hs.ite (hs.appendRec.ite hs.queueStep.upd)
  exact hs

theorem State.Keeps.acceptCandidate (hs : s₀.Keeps s) {c : Candidate} {root : Digest} {r : Both (Code × Nat × Digest)} :
    s₀.Keeps (s.acceptCandidate c root r) := hs.slotResult.upd.trialBoot

theorem State.Keeps.candidateJudged (hs : s₀.Keeps s) {j : Judgement} : s₀.Keeps (s.candidateJudged j) := by
  unfold State.candidateJudged
  split
  · exact hs
  exact (hs.acceptCandidate.ite hs.rejectCandidate).ite (hs.upd.ite hs.judgeDiffers.rejectCandidate)

theorem State.Keeps.uploadFails (hs : s₀.Keeps s) {code : Code} : s₀.Keeps (s.uploadFails code) :=
  (hs.ite hs.pldmTell).updTarget.upd.ite (hs.ite hs.pldmTell).updTarget

theorem State.Keeps.recoverFails (hs : s₀.Keeps s) {src : Nat} {code : Code} : s₀.Keeps (s.recoverFails src code) :=
  (hs.uploadFails.ite hs).upd.nextRecoverCopy

theorem State.Keeps.recoverJudged (hs : s₀.Keeps s) {j : Judgement} : s₀.Keeps (s.recoverJudged j) := by
  unfold State.recoverJudged
  split
  · exact hs
  exact hs.ite (((hs.pldmTell.ite hs).rewriteFlash.upd.ite hs.recoverFails).ite (hs.upd.ite hs.judgeDiffers.recoverFails))

theorem State.Keeps.execMissionCandidateJudged (hs : s₀.Keeps s) {j : Judgement} : s₀.OutcomeKeeps (execMissionCandidateJudged j s) :=
  State.Keeps.next (by split; exacts [hs.quiet.candidateJudged, hs.quiet.recoverJudged, hs])

theorem State.Keeps.recoverInstalled (hs : s₀.Keeps s) {j : Judgement} : s₀.Keeps (s.recoverInstalled j) := by
  unfold State.recoverInstalled
  split
  · exact hs
  exact hs.ite (hs.journalStep.ite hs.recoverFails)

/-! ### Table -/

theorem State.Keeps.placeRules (hs : s₀.Keeps s) {c : ChanId} {v : List Byte} : s₀.Keeps (s.placeRules c v) := by
  unfold State.placeRules
  dsimp only
  split
  · exact hs.store.putField
  exact hs

theorem State.Keeps.placeSfdp (hs : s₀.Keeps s) {c : ChanId} {v : List Byte} : s₀.Keeps (s.placeSfdp c v) := by
  unfold State.placeSfdp
  refine hs.putField.ite ?_
  split
  · exact hs.store.putField
  exact hs

theorem State.Keeps.configFields (hs : s₀.Keeps s) {c : ChanId} {new : Option (Nat × List Byte)} : s₀.Keeps (s.configFields c new) :=
  hs.putField.putField.putField.putField.putField

theorem State.Keeps.imageFields (hs : s₀.Keeps s) {c : ChanId} : s₀.Keeps (s.imageFields c) := by
  unfold State.imageFields
  split
  · exact hs
  dsimp only
  split
  · exact hs.putField.putField.putField
  exact hs.putField.putField

theorem State.Keeps.freshDesc (hs : s₀.Keeps s) {c : ChanId} {new : Option (Nat × List Byte)} : s₀.Keeps (s.freshDesc c new) := by
  unfold State.freshDesc
  exact hs.putField.putField.configFields.imageFields.placeSfdp.placeRules.buildPins.placePins

theorem State.Keeps.editConfig (hs : s₀.Keeps s) {c : ChanId} {sub : Nat} {v : List Byte} : s₀.Keeps (s.editConfig c sub v) :=
  have h₁ := hs.configFields.placeSfdp.ite hs.configFields
  (hs.freshDesc.ite (h₁.placeRules.ite h₁)).newGeneration

theorem State.Keeps.startTable (hs : s₀.Keeps s) : s₀.Keeps s.startTable :=
  (hs.foldl fun _ _ h => h.ite (h.freshDesc.ite h.imageFields).putField.updTarget).repostDigest

theorem State.Keeps.boardMeasure (hs : s₀.Keeps s) : s₀.Keeps s.boardMeasure := hs.upd

theorem State.Keeps.boardSense (hs : s₀.Keeps s) : s₀.Keeps s.boardSense := hs.setInvert.upd

theorem State.Keeps.boardConfig (hs : s₀.Keeps s) : s₀.Keeps s.boardConfig := hs.boardMeasure.boardSense

theorem State.Keeps.startPlan (hs : s₀.Keeps s) : s₀.Keeps s.startPlan := by
  unfold State.startPlan
  split
  · exact hs
  exact hs.upd

/-! ### Handover -/

theorem State.Keeps.takeMeasurements (hs : s₀.Keeps s) {c : Candidate} {root : Digest} : s₀.Keeps (s.takeMeasurements c root) := hs.upd

theorem State.Keeps.handoverMemory (hs : s₀.Keeps s) : s₀.Keeps s.handoverMemory := (hs.erase.erase.ite hs.erase).store

theorem State.Keeps.handoverLog (hs : s₀.Keeps s) : s₀.Keeps s.handoverLog := hs.logMeas.logMeas

theorem State.Keeps.handoverCores (hs : s₀.Keeps s) {i : Fin 2} : s₀.Keeps (s.handoverCores i) := hs.upd

theorem State.Keeps.newTraceSlot (hs : s₀.Keeps s) : s₀.Keeps s.newTraceSlot := hs.upd.ite hs.upd.erase

theorem State.Keeps.abandonIntent (hs : s₀.Keeps s) {r : JRec} : s₀.Keeps (s.abandonIntent r) := hs.journalStep

theorem State.Keeps.resumeAt (hs : s₀.Keeps s) {t : Target} {w : JRec} {loser st : Nat} : s₀.Keeps (s.resumeAt t w loser st) := hs.updTarget

theorem State.Keeps.resumeCommit (hs : s₀.Keeps s) {t : Target} {w : JRec} {switched : Bool} : s₀.Keeps (s.resumeCommit t w switched) :=
  have h₁ := hs.updTarget.ite hs
  h₁.resumeAt.ite (h₁.resumeAt.ite (h₁.ite (h₁.ite h₁.resumeAt)))

theorem State.Keeps.runSteps (hs : s₀.Keeps s) {t : Target} : s₀.Keeps (s.runSteps t) :=
  (hs.updRetire.ite hs).drawn.updFloor.ite (hs.updRetire.ite hs)

theorem State.Keeps.pendingSteps (hs : s₀.Keeps s) {t : Target} : s₀.Keeps (s.pendingSteps t) := by
  unfold State.pendingSteps
  dsimp only
  split
  · exact hs.foldl fun _ _ h => h.abandonIntent
  split
  · exact (hs.foldl fun _ _ h => h.abandonIntent).resumeCommit.runSteps.ite (hs.foldl fun _ _ h => h.abandonIntent)
  exact (hs.foldl fun _ _ h => h.abandonIntent).resumeCommit.runSteps

theorem State.Keeps.dueFloors (hs : s₀.Keeps s) : s₀.Keeps s.dueFloors := hs.foldl fun _ _ h => h.drawn.advanceFloor.settleFloor

theorem State.Keeps.trialTarget (hs : s₀.Keeps s) : s₀.Keeps s.trialTarget := hs.updTarget.ite hs

theorem State.Keeps.armConfirm (hs : s₀.Keeps s) : s₀.Keeps s.armConfirm := hs.upd

theorem State.Keeps.queueTrialFails (hs : s₀.Keeps s) : s₀.Keeps s.queueTrialFails := (hs.foldl fun _ _ h => h.gatedAppend).ite hs

theorem State.Keeps.repostCommit (hs : s₀.Keeps s) {c : ChanId} : s₀.Keeps (s.repostCommit c) := hs.commitVerdicts.switchCheck.ite hs

theorem State.Keeps.continueUpdate (hs : s₀.Keeps s) {c : ChanId} : s₀.Keeps (s.continueUpdate c) := (hs.updTarget.ite hs).repostCommit

theorem State.Keeps.startInHold (hs : s₀.Keeps s) : s₀.Keeps s.startInHold :=
  have h₁ := hs.setMode.enterHold.boardConfig
  have h₂ := (h₁.armConfirm.ite h₁).newTraceSlot
  (((h₂.foldl fun _ _ h => h.pendingSteps).dueFloors.extensionSwitch.ite (h₂.foldl
    fun _ _ h => h.pendingSteps).dueFloors).trialTarget.startPlan.ite ((h₂.foldl fun _ _ h => h.pendingSteps).dueFloors.extensionSwitch.ite
    (h₂.foldl fun _ _ h => h.pendingSteps).dueFloors).trialTarget).startTable

theorem State.Keeps.startWarm (hs : s₀.Keeps s) : s₀.Keeps s.startWarm := by
  unfold State.startWarm
  exact (hs.upd.foldl fun _ _ h => h.continueUpdate).trialTarget.ite (hs.upd.foldl fun _ _ h => h.continueUpdate).upd.updEnd.updateModeEnds

theorem State.Keeps.startMission (hs : s₀.Keeps s) : s₀.Keeps s.startMission :=
  have h₁ := hs.upd.queueTrialFails.extensionStart
  (h₁.startWarm.ite h₁.startInHold).restoreExtension.compactIfDue

theorem State.Keeps.handOver (hs : s₀.Keeps s) : s₀.Keeps s.handOver := by
  unfold State.handOver
  split
  · exact hs.ite hs.takeMeasurements.missionIdentity.handoverMemory.handoverLog.handoverCores.startMission
  exact hs

theorem State.Keeps.dropFirmware (hs : s₀.Keeps s) : s₀.Keeps s.dropFirmware := hs.endSessions.dropTransfers.upd

theorem State.Keeps.dropJobs (hs : s₀.Keeps s) : s₀.Keeps s.dropJobs :=
  hs.dropHash.dropHash.pkeAbortAs.pkeAbortAs.foldl fun _ _ h => h.disarmWdog

theorem State.Keeps.warmBoot (hs : s₀.Keeps s) : s₀.Keeps s.warmBoot := hs.upd

theorem State.Keeps.warmCheck (hs : s₀.Keeps s) {c : CrcReads} : s₀.Keeps (s.warmCheck c) := hs.bootStop.ite hs.crcNote.chooseMission

theorem State.Keeps.warmRestart (hs : s₀.Keeps s) {c : CrcReads} : s₀.Keeps (s.warmRestart c) :=
  have h₁ := hs.dropFirmware.dropJobs.warmBoot.releaseSill.erase.dropOverrides.kvWarm.loadSecret.upd
  hs.ite (h₁.armConfirm.ite h₁).warmCheck

theorem State.Keeps.sendLeave (hs : s₀.Keeps s) : s₀.Keeps s.sendLeave := hs.send.ite hs

theorem State.Keeps.wakeConfig (hs : s₀.Keeps s) : s₀.Keeps s.wakeConfig := hs.upd

theorem State.Keeps.dormantLoss (hs : s₀.Keeps s) : s₀.Keeps s.dormantLoss := hs.kvOff.updMem (Memory.wf_filter _ _)

theorem State.Keeps.dormantEntry (hs : s₀.Keeps s) : s₀.Keeps s.dormantEntry :=
  hs.ite hs.setMode.puenLow.sendLeave.linksDown.storePut.endSessions.wakeConfig.switchAll.dormantLoss

theorem State.Keeps.wake (hs : s₀.Keeps s) {src : WakeSource} : s₀.Keeps (s.wake src) := by
  unfold State.wake
  refine hs.ite ?_
  exact .setMode (.upd (by split; exacts [hs.advanceTo, hs]))

theorem State.Keeps.lifecycleAdvance (hs : s₀.Keeps s) {code : Nat} {b : BurnOutcome} : s₀.Keeps (s.lifecycleAdvance code b).1 :=
  have h₁ := hs.upd.puenLow.sendLeave.kvZeroise.burnPriv
  (h₁.stepEvents.ite h₁).burnEnd.internalReset.upd

theorem State.Keeps.lifecycleObj (hs : s₀.Keeps s) {who : Requester} {code : Nat} {b : BurnOutcome} :
    s₀.Keeps (s.lifecycleObj who code b) := hs.objWrite (fun _ h => h.lifecycleAdvance)

/-! ### Mbox -/

theorem State.Keeps.updBox (hs : s₀.Keeps s) {m : Fin 16} {f : Mailbox → Mailbox} : s₀.Keeps (s.updBox m f) := hs.upd

theorem State.Keeps.boxPost (hs : s₀.Keeps s) {m : Fin 16} {len : Nat} : s₀.Keeps (s.boxPost m len) := hs.updBox.raise

theorem State.Keeps.boxAck (hs : s₀.Keeps s) {m : Fin 16} : s₀.Keeps (s.boxAck m) := hs.updBox.raise.ite hs

theorem State.Keeps.boxAckEarlier (hs : s₀.Keeps s) {m : Fin 16} : s₀.Keeps (s.boxAckEarlier m) := hs.updBox.raise.ite hs

theorem State.Keeps.boxRing (hs : s₀.Keeps s) {m : Fin 16} {mask : Word} : s₀.Keeps (s.boxRing m mask) := hs.updBox.raiseIf

theorem State.Keeps.boxOutClear (hs : s₀.Keeps s) {m : Fin 16} {mask : Word} : s₀.Keeps (s.boxOutClear m mask) := hs.updBox

theorem State.Keeps.boxRefused (hs : s₀.Keeps s) {m : Fin 16} {c : Code} : s₀.Keeps (s.boxRefused m c) := hs.raiseLog1.ite hs

theorem State.Keeps.boxPort (hs : s₀.Keeps s) {m : Fin 16} {hw : Bool} {own : List Code} {act : State → State}
    (hact : ∀ t, s₀.Keeps t → s₀.Keeps (act t)) : s₀.Keeps (s.boxPort m hw own act).1 := by
  unfold State.boxPort
  split
  · exact hs.boxRefused
  exact hact _ hs

theorem State.Keeps.portCode {r : State × Code} (hr : s₀.Keeps r.1) : s₀.Keeps (State.portCode r) := hr.upd

theorem State.Keeps.boxRill (hs : s₀.Keeps s) {who : Requester} {m : Fin 16} {index : Nat} {own : List Code} {act : State → State}
    (hact : ∀ t, s₀.Keeps t → s₀.Keeps (act t)) : s₀.Keeps (s.boxRill who m index own act) :=
  (hs.objWrite (fun _ h => hact _ h)).boxRefused.ite (hs.objWrite (fun _ h => hact _ h))

theorem State.Keeps.boxAccess (hs : s₀.Keeps s) {m : Fin 16} {src : MboxFrom} {index : Nat} {own : List Code} {act : State → State}
    (hact : ∀ t, s₀.Keeps t → s₀.Keeps (act t)) : s₀.Keeps (s.boxAccess m src index own act) := by
  unfold State.boxAccess
  split
  · exact (hs.boxPort (fun _ h => hact _ h)).portCode.ite hs
  exact hs.boxRill (fun _ h => hact _ h)

theorem State.Keeps.boxPortPost (hs : s₀.Keeps s) {m : Fin 16} {len : Nat} {taken : Bool} : s₀.Keeps (s.boxPortPost m len taken).1 :=
  hs.boxPort (fun _ h => h.ite h.boxPost)

theorem State.Keeps.boxRillPost (hs : s₀.Keeps s) {who : Requester} {m : Fin 16} {data : List Byte} {taken : Bool} :
    s₀.Keeps (s.boxRillPost who m data taken) := hs.boxRill (fun _ h => h.ite h.updBox.boxPost)

theorem State.Keeps.execMboxInboundPost (hs : s₀.Keeps s) {m : Fin 16} {p : MboxPost} {taken : Bool} :
    s₀.OutcomeKeeps (execMboxInboundPost m p taken s) :=
  State.Keeps.next (by split; exacts [hs.boxPortPost.portCode.ite hs, hs.boxRillPost])

theorem State.Keeps.homeAccess (hs : s₀.Keeps s) {k : CoreId} {m : Fin 16} {own : List Code} {act : State → State}
    (hact : ∀ t, s₀.Keeps t → s₀.Keeps (act t)) : s₀.Keeps (s.homeAccess k m own act).1 := by
  unfold State.homeAccess
  split
  · exact hs
  exact hact _ hs

theorem State.Keeps.mboxTake (hs : s₀.Keeps s) {k : CoreId} {m : Fin 16} {v : Word} : s₀.Keeps (s.mboxTake k m v).1 :=
  hs.homeAccess (fun _ h => h.updBox.ite h)

theorem State.Keeps.mboxPost (hs : s₀.Keeps s) {k : CoreId} {m : Fin 16} {v : Word} {acked : Bool} : s₀.Keeps (s.mboxPost k m v acked).1 :=
  hs.homeAccess (fun _ h => h.updBox)

theorem State.Keeps.mboxInClear (hs : s₀.Keeps s) {k : CoreId} {m : Fin 16} {v : Word} : s₀.Keeps (s.mboxInClear k m v).1 :=
  hs.homeAccess (fun _ h => h.updBox)

theorem State.Keeps.mboxOutSet (hs : s₀.Keeps s) {k : CoreId} {m : Fin 16} {v : Word} : s₀.Keeps (s.mboxOutSet k m v).1 :=
  hs.homeAccess (fun _ h => h.updBox)

theorem State.Keeps.mboxInMask (hs : s₀.Keeps s) {k : CoreId} {m : Fin 16} {v : Word} : s₀.Keeps (s.mboxInMask k m v).1 :=
  hs.homeAccess (fun _ h => h.updBox)

theorem State.Keeps.mboxCtl (hs : s₀.Keeps s) {k : CoreId} {m : Fin 16} {v : Word} : s₀.Keeps (s.mboxCtl k m v).1 := by
  unfold State.mboxCtl
  split
  · exact hs
  exact hs.updBox

theorem State.Keeps.mboxOutBuf (hs : s₀.Keeps s) {k : CoreId} {m : Fin 16} {o : Nat} {bs : List Byte} :
    s₀.Keeps (s.mboxOutBuf k m o bs).1 := hs.homeAccess (fun _ h => h.updBox)

/-! ### Dict -/

theorem State.Keeps.afterRead (hs : s₀.Keeps s) {e index room : Nat} : s₀.Keeps (s.afterRead e index room) := by
  unfold State.afterRead
  refine .ite ?_ hs
  split
  · exact hs.upd
  exact hs

/-! ### RegWrite -/

theorem State.Keeps.ifMay (hs : s₀.Keeps s) {may : Bool} {t : State} (ht : s₀.Keeps t) : s₀.Keeps (s.ifMay may t).1 := ht.iteFst hs

theorem State.Keeps.holdWord (hs : s₀.Keeps s) {h : Half} {i : Nat} {v : Word} : s₀.Keeps (s.holdWord h i v) :=
  hs.opRefused.ite (hs.foldl fun _ _ h => h.ite h.holdWrite)

theorem State.Keeps.grantWord (hs : s₀.Keeps s) {h : Half} {i : Nat} {v : Word} : s₀.Keeps (s.grantWord h i v) := hs.upd

theorem State.Keeps.planStageWord (hs : s₀.Keeps s) {i : Nat} {v : Word} : s₀.Keeps (s.planStageWord i v) := hs.upd

theorem State.Keeps.vrootWord (hs : s₀.Keeps s) {h : Half} {i : Nat} {v : Word} : s₀.Keeps (s.vrootWord h i v) := hs.upd

theorem State.Keeps.hgWrite (hs : s₀.Keeps s) {h : Half} {o : Nat} {v : Word} : s₀.Keeps (s.hgWrite h o v).1 :=
  (hs.ifMay hs.vrootWord).iteFst ((hs.ifMay hs.vrootWord).iteFst ((hs.ifMay hs.planStageWord).iteFst (.regs hs ⟨hs.ifMay hs.upd,
    hs.ifMay hs.upd, hs.ifMay hs.setInvert, hs.ifMay hs.upd, hs.ifMay hs.holdWord, hs.ifMay hs.holdWord, hs.ifMay hs.holdWord,
    hs.ifMay hs.holdWord, hs.ifMay hs.grantWord, hs.ifMay hs.grantWord, hs.ifMay hs.grantWord, hs.ifMay hs.grantWord, hs.ifMay hs.claim,
    hs.ifMay hs.upd, hs.ifMay hs.claim, hs.ifMay hs.upd, hs.ifMay (hs.yieldTo.ite hs), hs.ifMay hs.upd, hs.ifMay hs.confirmWrite,
    hs.ifMay hs.planGenWrite, hs.ifMay hs.planGenWrite, hs.ifMay (hs.execPlanStageGenWrite.afterExec hs), hs.ifMay hs.vpost,
    hs.ifMay hs.vpost⟩)))

theorem State.Keeps.fuseCmd (hs : s₀.Keeps s) {h : Half} {v : Word} : s₀.Keeps (s.fuseCmd h v) := by
  unfold State.fuseCmd
  dsimp only
  split
  · exact hs.execFuseRead.afterExec hs
  · exact hs.execFuseMargin.afterExec hs
  · exact hs.drawn.execFuseProgram.afterExec hs
  · exact hs.drawn.execFuseReburn.afterExec hs
  · exact hs.drawn.execFuseLock.afterExec hs
  · exact hs.drawn.execFuseRedirect.afterExec hs
  · exact hs.drawn.execGenSecret.afterExec hs
  · exact hs.execFuseReload.afterExec hs
  exact hs.fuseRefuse

theorem State.Keeps.fuseRegWrite (hs : s₀.Keeps s) {h : Half} {o : Nat} {v : Word} : s₀.Keeps (s.fuseRegWrite h o v).1 :=
  .regs hs ⟨hs.ifMay hs.fuseCmd, hs.ifMay hs.upd, hs.ifMay hs.overrideAddr, hs.ifMay hs.overrideWrite⟩

theorem State.Keeps.kvStart (hs : s₀.Keeps s) {h : Half} {a : Nat} : s₀.Keeps (s.kvStart h a) := by
  unfold State.kvStart
  refine (hs.kvRun (fun _ h => h)).ite ?_
  split
  · exact hs.execGenerate.afterExec hs
  · exact hs.execDerive.afterExec hs
  · exact hs.execExtract.afterExec hs
  · exact hs.execExpand.afterExec hs
  · exact hs.execInvalidate.afterExec hs
  · exact hs.execLoadPke.afterExec hs
  · exact hs.execStorePke.afterExec hs
  · exact hs.execHmac.afterExec hs
  · exact hs.execWrap.afterExec hs
  · exact hs.execUnwrap.afterExec hs
  exact hs.kvRun (fun _ h => h)

theorem State.Keeps.kvCtl (hs : s₀.Keeps s) {v : Word} : s₀.Keeps (s.kvCtl v) :=
  have h₁ := (hs.upd.ite hs).setTestSecret.ite (hs.upd.ite hs)
  h₁.setRootLock.ite h₁

theorem State.Keeps.kvWrite (hs : s₀.Keeps s) {h : Half} {o : Nat} {v : Word} : s₀.Keeps (s.kvWrite h o v).1 :=
  .regs hs ⟨hs.kvCtl, hs.kvStart⟩

theorem State.Keeps.pkeCtl (hs : s₀.Keeps s) {h : Half} {v : Word} : s₀.Keeps (s.pkeCtl h v) :=
  hs.updEng.pkeRun.ite (hs.pkeAbortAs.updEng.ite hs)

theorem State.Keeps.pkeWrite (hs : s₀.Keeps s) {h : Half} {o : Nat} {v : Word} : s₀.Keeps (s.pkeWrite h o v).1 :=
  hs.updEng.iteFst (hs.slotCfgWrite.iteFst (.regs hs ⟨hs.pkeCtl, hs.updEng, hs.pkePush, hs.pkeAbortAs.ite hs, hs.updEng⟩))

theorem State.Keeps.fillMapWrite (hs : s₀.Keeps s) {h : Half} {r : Nat} {v : Word} : s₀.Keeps (s.fillMapWrite h r v) := hs.upd

theorem State.Keeps.hashWrite (hs : s₀.Keeps s) {h : Half} {o : Nat} {v : Word} : s₀.Keeps (s.hashWrite h o v).1 :=
  (hs.ifMay hs.fillMapWrite).iteFst ((hs.ifMay hs.fillMapWrite).iteFst (.regs hs ⟨hs.upd, hs.ifMay hs.hashPush, hs.ifMay hs.hashPush⟩))

theorem State.Keeps.keyWrite (hs : s₀.Keeps s) {hd : Word} {n : KvNeed} {put : State → State} (hput : ∀ t, s₀.Keeps t → s₀.Keeps (put t)) :
    s₀.Keeps (s.keyWrite hd n put).1 := (hput _ hs.consumerCheck).iteFst hs.consumerCheck

theorem State.Keeps.mirCtl (hs : s₀.Keeps s) {v : Word} : s₀.Keeps (s.mirCtl v) :=
  (hs.upd.train.ite hs.upd).upd.sealLines.ite (hs.upd.train.ite hs.upd).upd

theorem State.Keeps.chanCmdWrite (hs : s₀.Keeps s) {v : Word} : s₀.Keeps (s.chanCmdWrite v) := by
  unfold State.chanCmdWrite
  dsimp only
  split
  · exact hs.cmdFill
  · exact hs.cmdUpdating
  · exact hs.cmdUpdateEnded
  · exact hs.cmdQuarantined
  · exact hs.cmdScrub
  · exact hs.cmdRepair
  exact hs.chanCmdEnd

theorem State.Keeps.mirWrite (hs : s₀.Keeps s) {h : Half} {o : Nat} {v : Word} : s₀.Keeps (s.mirWrite h o v).1 :=
  .regs hs ⟨hs.ifMay hs.mirCtl, hs.ifMay hs.upd, (hs.keyWrite (fun _ h => h.upd)).iteFst hs, (hs.keyWrite (fun _ h => h.upd)).iteFst hs,
    (hs.keyWrite (fun _ h => h.upd)).iteFst hs, hs.ifMay hs.chanCmdWrite, hs.ifMay hs.pinLoadWrite, hs.ifMay hs.upd, hs.ifMay hs.upd,
    hs.ifMay hs.upd, hs.ifMay hs.chtBaseWrite, hs.ifMay hs.chtInvalWrite, hs.ifMay (hs.upd.ite hs)⟩

theorem State.Keeps.cisCtl (hs : s₀.Keeps s) {v : Word} : s₀.Keeps (s.cisCtl v) := hs.upd.cisternInit.ite hs.upd

theorem State.Keeps.cisRegWrite (hs : s₀.Keeps s) {h : Half} {o : Nat} {v : Word} : s₀.Keeps (s.cisRegWrite h o v).1 :=
  .regs hs ⟨hs.ifMay hs.cisCtl, (hs.keyWrite (fun _ h => h.upd)).iteFst hs, hs.ifMay hs.cisternPush⟩

theorem State.Keeps.pakCtl (hs : s₀.Keeps s) {v : Word} : s₀.Keeps (s.pakCtl v) :=
  (hs.upd.linkDown.linkDown.ite hs.upd).linkDown.linkDown.ite (hs.upd.linkDown.linkDown.ite hs.upd)

theorem State.Keeps.linkKeyWrite (hs : s₀.Keeps s) {l : LinkId} {o : Nat} {v : Word} : s₀.Keeps (s.linkKeyWrite l o v).1 := by
  unfold State.linkKeyWrite
  split
  · exact hs.keyWrite (fun _ h => h.updLink)
  · exact hs.keyWrite (fun _ h => h.updLink)
  exact hs

theorem State.Keeps.pakWrite (hs : s₀.Keeps s) {h : Half} {o : Nat} {v : Word} : s₀.Keeps (s.pakWrite h o v).1 :=
  (hs.linkKeyWrite.iteFst (hs.iteFst hs)).iteFst (.regs hs ⟨hs.ifMay hs.pakCtl, hs.ifMay hs.upd, hs.ifMay hs.upd, hs.ifMay hs.upd,
    hs.ifMay hs.upd, hs.ifMay hs.upd, hs.ifMay hs.beaconRefresh, hs.ifMay hs.pakorPush⟩)

theorem State.Keeps.measWrite (hs : s₀.Keeps s) {k : CoreId} {o : Nat} {v : Word} : s₀.Keeps (s.measWrite k o v).1 :=
  (hs.ifMay hs.upd).iteFst ((hs.ifMay hs.upd).iteFst (.regs hs ⟨hs.ifMay hs.measCtl, hs.ifMay hs.upd, hs.ifMay hs.upd, hs.ifMay hs.upd,
    hs.ifMay hs.upd, hs.huCtlWrite, hs.ifMay hs.upd, hs.ifMay hs.upd, hs.ifMay hs.upd, hs.ifMay hs.upd, hs.ifMay hs.upd, hs.ifMay hs.upd,
    hs.ifMay hs.upd⟩))

theorem State.Keeps.mboxRegWrite (hs : s₀.Keeps s) {k : CoreId} {o : Nat} {v : Word} : s₀.Keeps (s.mboxRegWrite k o v).1 :=
  .iteFst (.regs hs ⟨hs.mboxCtl, hs.mboxInClear, hs.mboxInMask, hs.mboxOutSet, hs.mboxTake, hs.mboxPost⟩) (hs.iteFst hs.mboxOutBuf)

theorem State.Keeps.pendingWord (hs : s₀.Keeps s) {k : CoreId} {i : Nat} {v : Word} : s₀.Keeps (s.pendingWord k i v).1 :=
  hs.ifMay (hs.foldl fun _ _ h => h.pendingClear)

theorem State.Keeps.maskWord (hs : s₀.Keeps s) {k : CoreId} {i : Nat} {v : Word} : s₀.Keeps (s.maskWord k i v).1 :=
  hs.ifMay (hs.foldl fun _ _ h => h.upd)

theorem State.Keeps.eventsWrite (hs : s₀.Keeps s) {k : CoreId} {o : Nat} {v : Word} : s₀.Keeps (s.eventsWrite k o v).1 :=
  hs.pendingWord.iteFst (hs.maskWord.iteFst (hs.cfgWrite.iteFst ((hs.ifMay hs.upd).iteFst (hs.swtrig.iteFst hs))))

theorem State.Keeps.timerWrite (hs : s₀.Keeps s) {t : Fin 8} {v : Word} : s₀.Keeps (s.timerWrite t v) := hs.upd

theorem State.Keeps.pwrWrite (hs : s₀.Keeps s) {k : CoreId} {o : Nat} {v : Word} : s₀.Keeps (s.pwrWrite k o v).1 :=
  .iteFst (.regs hs ⟨hs.wdogArm, hs.wdogKick⟩) (((hs.ifMay hs.timerWrite).iteFst hs).iteFst (.regs hs ⟨hs.domReqWrite, hs.ifMay hs.upd,
    hs.ifMay hs.upd, hs.ifMay hs.upd, hs.ifMay hs.upd⟩))

theorem State.Keeps.leveeWrite (hs : s₀.Keeps s) {k : CoreId} {o : Nat} {v : Word} : s₀.Keeps (s.leveeWrite k o v).1 :=
  hs.leveeCtl.iteFst (hs.upd.iteFst hs)

theorem State.Keeps.persWrite (hs : s₀.Keeps s) {c : ChanId} {o : Nat} {v : Word} : s₀.Keeps (s.persWrite c o v) := hs.ite hs.updChan

theorem State.Keeps.portRegWrite (hs : s₀.Keeps s) {h : Half} {p : PortId} {o : Nat} {v : Word} : s₀.Keeps (s.portRegWrite h p o v).1 := by
  unfold State.portRegWrite
  dsimp only
  split
  · exact (hs.ifMay hs.updPort).iteFst ((hs.ifMay hs.updPort).iteFst hs)
  · exact hs.ifMay hs.persWrite
  · exact hs.ifMay hs.persWrite
  exact hs

theorem State.Keeps.localRegWrite (hs : s₀.Keeps s) {k : CoreId} {o : Nat} {v : Word} : s₀.Keeps (s.localRegWrite k o v).1 :=
  hs.alertWrite.iteFst hs.updCore

/-! ### Bus -/

/-- The definition is unfolded as a function, and the state with the event raised is made a variable: otherwise the kernel would compute
the offset's place in the data area to compare the two sides of the case split. -/
theorem State.Keeps.apertureFault (hs : s₀.Keeps s) {o : Nat} : s₀.Keeps (s.apertureFault o) := by
  have e : State.apertureFault = State.apertureFault := rfl
  conv at e => rhs; delta State.apertureFault
  rw [e]
  beta_reduce
  extract_lets t
  have ht : s₀.Keeps t := hs.raiseLog
  clear_value t
  split
  · exact ht.ite ht.mirrorFault
  · exact ht

/-- The state after a fault is made a variable for the same reason. -/
theorem State.Keeps.apertureRead (hs : s₀.Keeps s) {a n : Nat} : s₀.Keeps (s.apertureRead a n).2.1 := by
  rw [State.apertureRead.eq_1]
  generalize s.apertureOffset a = o
  have hf : s₀.Keeps (s.apertureFault o) := hs.apertureFault
  generalize s.apertureFault o = t at hf ⊢
  exact hs.iteSndFst (hs.iteSndFst hf)

theorem State.Keeps.actingRead (hs : s₀.Keeps s) {k : CoreId} {a : Nat} {r : Nat × State} (hr : s.actingRead k a = some r) : s₀.Keeps r.2 := by
  unfold State.actingRead at hr
  dsimp only at hr
  split at hr
  · cases hr
    exact hs.hashPop
  split at hr
  · cases hr
    exact hs.execCisternEccMaxRead.afterExec hs
  split at hr
  · cases hr
    exact hs.cisternPop
  split at hr
  · cases hr
    exact hs.pakorPop
  split at hr
  · cases hr
    exact hs.execPakorRxpop.afterExec hs
  split at hr
  · cases hr
    exact hs.execTimeLoRead.afterExec hs
  split at hr
  · cases hr
    exact hs.opRead
  split at hr
  · cases hr
    exact hs.opRead
  · cases hr

theorem State.Keeps.wordRead (hs : s₀.Keeps s) {k : CoreId} {a : Nat} {x : Area} : s₀.Keeps (s.wordRead k a x).2 := by
  unfold State.wordRead
  split
  · exact hs.actingRead ‹_›
  exact hs

theorem State.Keeps.areaRead (hs : s₀.Keeps s) {k : CoreId} {a n : Nat} {x : Area} : s₀.Keeps (s.areaRead k a n x).2.1 := by
  unfold State.areaRead
  split
  · exact hs
  · exact hs.drawn.iteSndFst hs
  · exact hs.apertureRead
  · exact hs.opRead
  exact hs.wordRead

theorem State.Keeps.busRead (hs : s₀.Keeps s) {k : CoreId} {a n : Nat} : s₀.Keeps (s.busRead k a n).2 := by
  unfold State.busRead
  split
  · exact hs.areaRead.iteSnd hs.areaRead.busError
  · exact hs.busError
  exact hs

theorem State.Keeps.blockWrite (hs : s₀.Keeps s) {k : CoreId} {n o : Nat} {v : Word} : s₀.Keeps (s.blockWrite k n o v).1 := by
  unfold State.blockWrite
  dsimp only
  split
  · exact hs.hgWrite
  · exact hs.fuseRegWrite
  · exact hs.kvWrite
  · exact hs.pkeWrite
  · exact hs.pkeWrite
  · exact hs.hashWrite
  · exact hs.mirWrite
  · exact hs.cisRegWrite
  · exact hs.pakWrite
  · exact hs.measWrite
  · exact hs.mboxRegWrite
  · exact hs.eventsWrite
  · exact hs.pwrWrite
  · exact hs.leveeWrite
  exact hs

theorem State.Keeps.areaWrite (hs : s₀.Keeps s) {k : CoreId} {a n v : Nat} {x : Area} : s₀.Keeps (s.areaWrite k a n v x).1 := by
  unfold State.areaWrite
  dsimp only
  split
  · exact hs.blockWrite
  · exact hs.portRegWrite
  · exact hs.localRegWrite
  · exact hs.iteFst hs.store
  exact hs.closeLoads.store

theorem State.Keeps.busWrite (hs : s₀.Keeps s) {k : CoreId} {a n v : Nat} : s₀.Keeps (s.busWrite k a n v) := by
  unfold State.busWrite
  split
  · exact hs.busEnd hs.areaWrite
  · exact hs.busError
  exact hs

/-! ### Brixxel -/

theorem State.Keeps.trap (hs : s₀.Keeps s) {k : CoreId} {t : TrapCase} : s₀.Keeps (s.trap k t) := hs.updCore.raiseLog.ite hs.updCore.upd

theorem State.Keeps.takeEvent (hs : s₀.Keeps s) {k : CoreId} : s₀.Keeps (s.takeEvent k) := hs.updCore.trap

theorem State.Keeps.eventLook (hs : s₀.Keeps s) {k : CoreId} : s₀.Keeps (s.eventLook k) :=
  hs.updCore.updCore.ite (hs.updCore.updCore.ite (hs.updCore.takeEvent.ite hs.updCore.updCore))

theorem State.Keeps.issue (hs : s₀.Keeps s) {k : CoreId} {o : BOp} {addr : Core → Word} {align data : Core → Bool}
    {act : Core → State → Host.Outcome State Fault Refusal} (hact : ∀ y0 t, s₀.Keeps t → s₀.OutcomeKeeps (act y0 t)) :
    s₀.OutcomeKeeps (s.issue k o addr align data act) := by
  unfold State.issue
  refine hs.next.ite ?_
  dsimp only
  split
  · exact hs.updCore.trap.next
  exact hact _ _ hs.updCore

theorem State.Keeps.plain (hs : s₀.Keeps s) {k : CoreId} {o : BOp} {f : Core → Core} : s₀.OutcomeKeeps (s.plain k o f) :=
  hs.issue (fun _ _ h => h.updCore.next)

theorem State.Keeps.execEmulateTrap (hs : s₀.Keeps s) {k : CoreId} {p : Parcels} : s₀.OutcomeKeeps (execEmulateTrap k p s) :=
  hs.next.ite (hs.updCore.trap.next.ite hs.updCore.trap.next)

/-! ### BrixxelOps -/

theorem State.Keeps.unary (hs : s₀.Keeps s) {k : CoreId} {code field : Nat} {f : Word → Word} : s₀.OutcomeKeeps (s.unary k code field f) :=
  hs.plain

theorem State.Keeps.binary (hs : s₀.Keeps s) {k : CoreId} {code : Nat} {f : Word → Word → Word} : s₀.OutcomeKeeps (s.binary k code f) :=
  hs.plain

theorem State.Keeps.compare (hs : s₀.Keeps s) {k : CoreId} {code : Nat} {f : Word → Word → Bool} : s₀.OutcomeKeeps (s.compare k code f) :=
  hs.binary

theorem State.Keeps.execNop (hs : s₀.Keeps s) {k : CoreId} : s₀.OutcomeKeeps (execNop k s) := hs.plain

theorem State.Keeps.execDup (hs : s₀.Keeps s) {k : CoreId} : s₀.OutcomeKeeps (execDup k s) := hs.plain

theorem State.Keeps.execDrop (hs : s₀.Keeps s) {k : CoreId} : s₀.OutcomeKeeps (execDrop k s) := hs.plain

theorem State.Keeps.execSwap (hs : s₀.Keeps s) {k : CoreId} : s₀.OutcomeKeeps (execSwap k s) := hs.plain

theorem State.Keeps.execOver (hs : s₀.Keeps s) {k : CoreId} : s₀.OutcomeKeeps (execOver k s) := hs.plain

theorem State.Keeps.execRot (hs : s₀.Keeps s) {k : CoreId} : s₀.OutcomeKeeps (execRot k s) := hs.plain

theorem State.Keeps.execPick (hs : s₀.Keeps s) {k : CoreId} {n : Byte} : s₀.OutcomeKeeps (execPick k n s) := hs.plain

theorem State.Keeps.execTor (hs : s₀.Keeps s) {k : CoreId} : s₀.OutcomeKeeps (execTor k s) := hs.plain

theorem State.Keeps.execFromr (hs : s₀.Keeps s) {k : CoreId} : s₀.OutcomeKeeps (execFromr k s) := hs.plain

theorem State.Keeps.execRcopy (hs : s₀.Keeps s) {k : CoreId} : s₀.OutcomeKeeps (execRcopy k s) := hs.plain

theorem State.Keeps.execDepth (hs : s₀.Keeps s) {k : CoreId} : s₀.OutcomeKeeps (execDepth k s) := hs.plain

theorem State.Keeps.execLit8 (hs : s₀.Keeps s) {k : CoreId} {f : Byte} : s₀.OutcomeKeeps (execLit8 k f s) := hs.plain

theorem State.Keeps.execLit (hs : s₀.Keeps s) {k : CoreId} {i : BitVec 20} : s₀.OutcomeKeeps (execLit k i s) := hs.plain

theorem State.Keeps.execLitu (hs : s₀.Keeps s) {k : CoreId} {i : BitVec 20} : s₀.OutcomeKeeps (execLitu k i s) := hs.plain

theorem State.Keeps.execOri (hs : s₀.Keeps s) {k : CoreId} {i : BitVec 20} : s₀.OutcomeKeeps (execOri k i s) := hs.plain

theorem State.Keeps.execAddi (hs : s₀.Keeps s) {k : CoreId} {i : BImm} : s₀.OutcomeKeeps (execAddi k i s) := hs.plain

theorem State.Keeps.execAdd (hs : s₀.Keeps s) {k : CoreId} : s₀.OutcomeKeeps (execAdd k s) := hs.binary

theorem State.Keeps.execSub (hs : s₀.Keeps s) {k : CoreId} : s₀.OutcomeKeeps (execSub k s) := hs.binary

theorem State.Keeps.execAndI (hs : s₀.Keeps s) {k : CoreId} : s₀.OutcomeKeeps (execAndI k s) := hs.binary

theorem State.Keeps.execOrI (hs : s₀.Keeps s) {k : CoreId} : s₀.OutcomeKeeps (execOrI k s) := hs.binary

theorem State.Keeps.execXorI (hs : s₀.Keeps s) {k : CoreId} : s₀.OutcomeKeeps (execXorI k s) := hs.binary

theorem State.Keeps.execNotI (hs : s₀.Keeps s) {k : CoreId} : s₀.OutcomeKeeps (execNotI k s) := hs.unary

theorem State.Keeps.execNegI (hs : s₀.Keeps s) {k : CoreId} : s₀.OutcomeKeeps (execNegI k s) := hs.unary

theorem State.Keeps.execShl (hs : s₀.Keeps s) {k : CoreId} : s₀.OutcomeKeeps (execShl k s) := hs.binary

theorem State.Keeps.execShr (hs : s₀.Keeps s) {k : CoreId} : s₀.OutcomeKeeps (execShr k s) := hs.binary

theorem State.Keeps.execSar (hs : s₀.Keeps s) {k : CoreId} : s₀.OutcomeKeeps (execSar k s) := hs.binary

theorem State.Keeps.execShli (hs : s₀.Keeps s) {k : CoreId} {n : BitVec 5} : s₀.OutcomeKeeps (execShli k n s) := hs.unary

theorem State.Keeps.execShri (hs : s₀.Keeps s) {k : CoreId} {n : BitVec 5} : s₀.OutcomeKeeps (execShri k n s) := hs.unary

theorem State.Keeps.execSari (hs : s₀.Keeps s) {k : CoreId} {n : BitVec 5} : s₀.OutcomeKeeps (execSari k n s) := hs.unary

theorem State.Keeps.execEqI (hs : s₀.Keeps s) {k : CoreId} : s₀.OutcomeKeeps (execEqI k s) := hs.compare

theorem State.Keeps.execNeI (hs : s₀.Keeps s) {k : CoreId} : s₀.OutcomeKeeps (execNeI k s) := hs.compare

theorem State.Keeps.execLtI (hs : s₀.Keeps s) {k : CoreId} : s₀.OutcomeKeeps (execLtI k s) := hs.compare

theorem State.Keeps.execLtuI (hs : s₀.Keeps s) {k : CoreId} : s₀.OutcomeKeeps (execLtuI k s) := hs.compare

theorem State.Keeps.execLeI (hs : s₀.Keeps s) {k : CoreId} : s₀.OutcomeKeeps (execLeI k s) := hs.compare

theorem State.Keeps.execLeuI (hs : s₀.Keeps s) {k : CoreId} : s₀.OutcomeKeeps (execLeuI k s) := hs.compare

theorem State.Keeps.execEqzI (hs : s₀.Keeps s) {k : CoreId} : s₀.OutcomeKeeps (execEqzI k s) := hs.unary

theorem State.Keeps.multiply (hs : s₀.Keeps s) {k : CoreId} {code : Nat} {f : Word → Word → Word} : s₀.OutcomeKeeps (s.multiply k code f) :=
  hs.plain

theorem State.Keeps.execMul (hs : s₀.Keeps s) {k : CoreId} : s₀.OutcomeKeeps (execMul k s) := hs.multiply

theorem State.Keeps.execMulh (hs : s₀.Keeps s) {k : CoreId} : s₀.OutcomeKeeps (execMulh k s) := hs.multiply

theorem State.Keeps.execMulhu (hs : s₀.Keeps s) {k : CoreId} : s₀.OutcomeKeeps (execMulhu k s) := hs.multiply

theorem State.Keeps.loadOp (hs : s₀.Keeps s) {k : CoreId} {code n : Nat} {signed reserve : Bool} {d : Disp} :
    s₀.OutcomeKeeps (s.loadOp k code n signed reserve d) := hs.issue (fun _ _ h => State.OutcomeKeeps.fault.ite h.busRead.updCore.next)

theorem State.Keeps.storeOp (hs : s₀.Keeps s) {k : CoreId} {code n : Nat} {d : Disp} : s₀.OutcomeKeeps (s.storeOp k code n d) :=
  hs.issue (fun _ _ h => State.OutcomeKeeps.fault.ite h.updCore.quiet.busWrite.next)

theorem State.Keeps.execLdw (hs : s₀.Keeps s) {k : CoreId} {d : Disp} : s₀.OutcomeKeeps (execLdw k d s) := hs.loadOp

theorem State.Keeps.execLdh (hs : s₀.Keeps s) {k : CoreId} {d : Disp} : s₀.OutcomeKeeps (execLdh k d s) := hs.loadOp

theorem State.Keeps.execLdhu (hs : s₀.Keeps s) {k : CoreId} {d : Disp} : s₀.OutcomeKeeps (execLdhu k d s) := hs.loadOp

theorem State.Keeps.execLdb (hs : s₀.Keeps s) {k : CoreId} {d : Disp} : s₀.OutcomeKeeps (execLdb k d s) := hs.loadOp

theorem State.Keeps.execLdbu (hs : s₀.Keeps s) {k : CoreId} {d : Disp} : s₀.OutcomeKeeps (execLdbu k d s) := hs.loadOp

theorem State.Keeps.execStw (hs : s₀.Keeps s) {k : CoreId} {d : Disp} : s₀.OutcomeKeeps (execStw k d s) := hs.storeOp

theorem State.Keeps.execSth (hs : s₀.Keeps s) {k : CoreId} {d : Disp} : s₀.OutcomeKeeps (execSth k d s) := hs.storeOp

theorem State.Keeps.execStb (hs : s₀.Keeps s) {k : CoreId} {d : Disp} : s₀.OutcomeKeeps (execStb k d s) := hs.storeOp

theorem State.Keeps.execLdr (hs : s₀.Keeps s) {k : CoreId} {d : Disp} : s₀.OutcomeKeeps (execLdr k d s) := hs.loadOp

theorem State.Keeps.execStc (hs : s₀.Keeps s) {k : CoreId} {d : Disp} {rivals : BitVec 12} : s₀.OutcomeKeeps (execStc k d rivals s) :=
  hs.issue (fun _ _ h => (h.updCore.busWrite.ite h.updCore).next)

theorem State.Keeps.execFence (hs : s₀.Keeps s) {k : CoreId} : s₀.OutcomeKeeps (execFence k s) := hs.plain

theorem State.Keeps.relative (hs : s₀.Keeps s) {k : CoreId} {code : Nat} {o : BImm} {pops : Nat} {link : Bool} {taken : Core → Bool} :
    s₀.OutcomeKeeps (s.relative k code o pops link taken) := by
  unfold State.relative
  exact hs.issue (fun _ _ h => h.updCore.next)

theorem State.Keeps.execBz (hs : s₀.Keeps s) {k : CoreId} {o : BImm} : s₀.OutcomeKeeps (execBz k o s) := hs.relative

theorem State.Keeps.execBnz (hs : s₀.Keeps s) {k : CoreId} {o : BImm} : s₀.OutcomeKeeps (execBnz k o s) := hs.relative

theorem State.Keeps.execBra (hs : s₀.Keeps s) {k : CoreId} {o : BImm} : s₀.OutcomeKeeps (execBra k o s) := hs.relative

theorem State.Keeps.execBsr (hs : s₀.Keeps s) {k : CoreId} {o : BImm} : s₀.OutcomeKeeps (execBsr k o s) := hs.relative

theorem State.Keeps.jump (hs : s₀.Keeps s) {k : CoreId} {code : Nat} {link : Bool} : s₀.OutcomeKeeps (s.jump k code link) :=
  hs.issue (fun _ _ h => h.updCore.next)

theorem State.Keeps.execJmp (hs : s₀.Keeps s) {k : CoreId} : s₀.OutcomeKeeps (execJmp k s) := hs.jump

theorem State.Keeps.execJsr (hs : s₀.Keeps s) {k : CoreId} : s₀.OutcomeKeeps (execJsr k s) := hs.jump

theorem State.Keeps.execRet (hs : s₀.Keeps s) {k : CoreId} : s₀.OutcomeKeeps (execRet k s) := hs.plain

theorem State.Keeps.execTret (hs : s₀.Keeps s) {k : CoreId} : s₀.OutcomeKeeps (execTret k s) := hs.plain

theorem State.Keeps.callTrap (hs : s₀.Keeps s) {k : CoreId} {code : Nat} {n : Byte} {c : Cause} : s₀.OutcomeKeeps (s.callTrap k code n c) := by
  unfold State.callTrap
  exact hs.issue (fun _ _ h => h.updCore.trap.next)

theorem State.Keeps.execSvc (hs : s₀.Keeps s) {k : CoreId} {n : Byte} : s₀.OutcomeKeeps (execSvc k n s) := hs.callTrap

theorem State.Keeps.execBreakI (hs : s₀.Keeps s) {k : CoreId} {n : Byte} : s₀.OutcomeKeeps (execBreakI k n s) := hs.callTrap

theorem State.Keeps.execWaitI (hs : s₀.Keeps s) {k : CoreId} : s₀.OutcomeKeeps (execWaitI k s) := hs.plain

theorem State.Keeps.mac (hs : s₀.Keeps s) {k : CoreId} {code : Nat} {a : Fin 2} {sub : Bool} {f : Word → Word → ℤ} :
    s₀.OutcomeKeeps (s.mac k code a sub f) := hs.plain

theorem State.Keeps.storeOut (hs : s₀.Keeps s) {k : CoreId} {code : Nat} {a : Fin 2} {sh n : Nat} :
    s₀.OutcomeKeeps (s.storeOut k code a sh n) := hs.plain

theorem State.Keeps.execFmac (hs : s₀.Keeps s) {k : CoreId} {a : Fin 2} {sub : Bool} : s₀.OutcomeKeeps (execFmac k a sub s) := hs.mac

theorem State.Keeps.execPmac (hs : s₀.Keeps s) {k : CoreId} {a : Fin 2} {sub : Bool} : s₀.OutcomeKeeps (execPmac k a sub s) := hs.mac

theorem State.Keeps.execAclr (hs : s₀.Keeps s) {k : CoreId} {a : Fin 2} : s₀.OutcomeKeeps (execAclr k a s) := hs.plain

theorem State.Keeps.execAld (hs : s₀.Keeps s) {k : CoreId} {a : Fin 2} : s₀.OutcomeKeeps (execAld k a s) := hs.plain

theorem State.Keeps.execFsto (hs : s₀.Keeps s) {k : CoreId} {a : Fin 2} : s₀.OutcomeKeeps (execFsto k a s) := hs.storeOut

theorem State.Keeps.execFstoh (hs : s₀.Keeps s) {k : CoreId} {a : Fin 2} : s₀.OutcomeKeeps (execFstoh k a s) := hs.storeOut

theorem State.Keeps.execArd (hs : s₀.Keeps s) {k : CoreId} {a : Fin 2} {part : BitVec 2} : s₀.OutcomeKeeps (execArd k a part s) :=
  hs.issue (fun _ _ h => (h.drawn.ite h).updCore.next)

theorem State.Keeps.execAwr (hs : s₀.Keeps s) {k : CoreId} {a : Fin 2} : s₀.OutcomeKeeps (execAwr k a s) := hs.plain

/-! ### Measured -/

theorem State.Keeps.noteAll (hs : s₀.Keeps s) : s₀.Keeps s.noteAll := hs.upd

theorem State.Keeps.noteChange (hs : s₀.Keeps s) {i : Nat} : s₀.Keeps (s.noteChange i) := hs.ite hs.logMeas.upd

theorem State.Keeps.mendDigests (hs : s₀.Keeps s) {c : ChanId} : s₀.Keeps (s.mendDigests c) := by
  unfold State.mendDigests
  refine hs.ite ?_
  split
  · exact hs
  exact hs.chargeBest.chargeBest.rewriteDigests.ite hs

theorem State.Keeps.reburnWord (hs : s₀.Keeps s) {priv : Bool} {w : Nat} : s₀.Keeps (s.reburnWord priv w) :=
  hs.ite (hs.burnPriv.iteFst hs.burnMain).drawn.burnEnd.upd

theorem State.Keeps.reburnWeak (hs : s₀.Keeps s) : s₀.Keeps s.reburnWeak :=
  ((hs.foldl fun _ _ h => h.reburnWord).foldl fun _ _ h => h.reburnWord).upd.ite hs

theorem State.Keeps.firmwareTick (hs : s₀.Keeps s) : s₀.Keeps s.firmwareTick :=
  (((hs.reburnWeak.foldl fun _ _ h => h.mendDigests).foldl fun _ _ h => h.goldenSync).ite (hs.reburnWeak.foldl
    fun _ _ h => h.mendDigests)).foldl fun _ _ h => h.noteChange

theorem State.Keeps.pkeResume (hs : s₀.Keeps s) {h : Half} : s₀.Keeps (s.pkeResume h) := hs.ite hs.pkeRun

theorem State.Keeps.tick (hs : s₀.Keeps s) : s₀.Keeps s.tick := hs.upd.pkeResume.pkeResume.firmwareTick.ite hs.upd.pkeResume.pkeResume

/-! ### Objects -/

theorem State.Keeps.rekeyLinks (hs : s₀.Keeps s) : s₀.Keeps s.rekeyLinks :=
  (hs.foldl fun _ _ h => h.endLinkSession.updLink.startHandshake.ite h).syncHealth

theorem State.Keeps.pakorEnable (hs : s₀.Keeps s) {on : Bool} : s₀.Keeps (s.pakorEnable on) := hs.domRequest.domRequest

theorem State.Keeps.writeChanState (hs : s₀.Keeps s) {c : ChanId} {n : Nat} : s₀.Keeps (s.writeChanState c n) :=
  have h₁ := hs.clearVerdicts.buildPins
  hs.setChan.ite (hs.setChan.updTarget.ite ((h₁.ite h₁.edit).startProbing.ite (hs.ite hs.startProbing)))

theorem State.Keeps.writePlan (hs : s₀.Keeps s) {v : List Byte} : s₀.Keeps (s.writePlan v) := hs.storePut.upd

theorem State.Keeps.writeExt (hs : s₀.Keeps s) {index sub : Nat} {v : List Byte} : s₀.Keeps (s.writeExt index sub v) :=
  hs.upd.storePut.ite hs.upd

theorem State.Keeps.storedEffect (hs : s₀.Keeps s) {index sub : Nat} {v : List Byte} : s₀.Keeps (s.storedEffect index sub v) := by
  unfold State.storedEffect
  refine hs.boardMeasure.ite ?_
  split
  · exact hs.boardSense
  · exact hs.rekeyLinks
  · exact hs.pakorEnable
  exact hs

theorem State.Keeps.writeHold (hs : s₀.Keeps s) {h : OutId} {on : Bool} : s₀.Keeps (s.writeHold h on) := by
  unfold State.writeHold
  split
  · exact hs.holdWrite
  exact hs

theorem State.Keeps.lockObj (hs : s₀.Keeps s) {index sub n : Nat} {on : Bool} : s₀.Keeps (s.lockObj index sub n on).1 :=
  hs.iteFst (hs.sealRegion.vput.ite hs.sealRegion)

theorem State.Keeps.writeAct (hs : s₀.Keeps s) {e index sub : Nat} {r : ObjRow} {v : List Byte} : s₀.Keeps (s.writeAct e index sub r v).1 := by
  unfold State.writeAct
  split
  · exact hs.writeChanState.iteFst hs.editConfig
  refine hs.writePlan.iteFst ?_
  refine hs.writeExt.iteFst ?_
  refine hs.storePut.storedEffect.iteFst ?_
  split
  · exact hs.upd
  · exact hs.vput
  · exact hs.vput
  · exact hs.lockObj
  · exact hs.lockObj
  · exact hs.writeHold
  exact hs

theorem State.Keeps.fuseDataObj (hs : s₀.Keeps s) {who : Requester} {acc : Access} {index sub w : Nat} {v : Word} :
    s₀.Keeps (s.fuseDataObj who acc index sub w v) :=
  hs.asked (fun _ h => by dsimp only; split; exacts [(h.fuseRefuse.ite h).refuse, h.fuseProgram.drawn.answer])

theorem State.Keeps.plainWrite (hs : s₀.Keeps s) {who : Requester} {index sub : Nat} {r : ObjRow} {v : List Byte} :
    s₀.Keeps (s.plainWrite who index sub r v) := hs.objWrite (fun _ h => h.writeAct)

theorem State.Keeps.specialWrite (hs : s₀.Keeps s) {who : Requester} {index sub : Nat} {r : ObjRow} {v : List Byte} {t : State}
    (ht : s.specialWrite who index sub r v = some t) : s₀.Keeps t := by
  unfold State.specialWrite at ht
  dsimp only at ht
  split at ht
  · obtain ⟨-, ht⟩ := Option.ite_none_right_eq_some.1 ht
    cases ht
    exact hs.drawn.lifecycleObj
  · obtain ⟨-, ht⟩ := Option.ite_none_right_eq_some.1 ht
    cases ht
    exact hs.asked fun _ h => h.dormantRequest
  · obtain ⟨-, ht⟩ := Option.ite_none_right_eq_some.1 ht
    cases ht
    exact hs.psuClearObj
  · cases ht
    exact hs.drawn.svnAdvanceObj
  · split at ht
    · cases ht
      exact hs.streamCommitObj.ite hs.streamAbandonObj
    · cases ht
      exact hs.objWrite fun _ h => h
  · obtain ⟨t, -, rfl⟩ := Option.map_eq_some_iff.1 ht
    exact hs.uploadSegment
  · cases ht
    exact hs.drawn.revokeObj
  · obtain ⟨i, -, rfl⟩ := Option.map_eq_some_iff.1 ht
    exact hs.drawn.ownerDigestObj
  · obtain ⟨-, ht⟩ := Option.ite_none_right_eq_some.1 ht
    obtain ⟨i, -, rfl⟩ := Option.map_eq_some_iff.1 ht
    exact hs.drawn.ownerLockObj
  · cases ht
    exact hs.fuseDataObj
  · obtain ⟨-, ht⟩ := Option.ite_none_right_eq_some.1 ht
    cases ht
    exact hs.fuseDataObj
  · cases ht

theorem State.Keeps.mailboxWrite (hs : s₀.Keeps s) {who : Requester} {m : Fin 16} {index : Nat} {r : ObjRow} {v : List Byte} :
    s₀.Keeps (s.mailboxWrite who m index r v) := by
  unfold State.mailboxWrite
  refine hs.boxRillPost.ite ?_
  refine (hs.boxRill (fun _ h => h)).ite ?_
  split
  · exact hs.boxRill (fun _ h => h.boxAck.ite h)
  · exact hs.boxRill (fun _ h => h.boxRing)
  exact hs.boxRill (fun _ h => h.boxOutClear)

theorem State.Keeps.writeObject (hs : s₀.Keeps s) {who : Requester} {index sub : Nat} {v : List Byte} :
    s₀.Keeps (s.writeObject who index sub v) := by
  unfold State.writeObject
  split
  · exact hs.asked fun _ h => h.refuse
  · exact hs.plainWrite.ite hs.mailboxWrite
  refine hs.plainWrite.ite ?_
  dsimp only
  split
  · rename_i t ht
    exact hs.specialWrite (Option.ite_none_right_eq_some.1 ht).2
  · exact hs.plainWrite

theorem State.Keeps.checkWrite (hs : s₀.Keeps s) {who : Requester} {index sub : Nat} {v : List Byte} :
    s₀.Keeps (s.checkWrite who index sub v) := by
  unfold State.checkWrite
  split
  · exact hs.objWrite (fun _ h => h)
  exact hs

theorem State.Keeps.editEnd (hs : s₀.Keeps s) {c : ChanId} {sub : Nat} {v : List Byte} {r : State × Code} (hr : s.editEnd c sub v = some r) :
    s₀.Keeps r.1 := by
  unfold State.editEnd at hr
  split at hr
  · cases hr
  split at hr
  · cases hr
  · cases hr
    exact hs.updTarget.storePut.ite hs.updTarget

theorem State.Keeps.writeReply (hs : s₀.Keeps s) {who : Requester} {f : RillReq} : s₀.Keeps (s.writeReply who f) :=
  (hs.checkWrite.ite hs.writeObject).enqueue.ite (hs.checkWrite.ite hs.writeObject).replyTo

theorem State.Keeps.namedWrite (hs : s₀.Keeps s) {who : Requester} {index sub : Nat} {v : List Byte} :
    s₀.Keeps (s.namedWrite who index sub v) := hs.asked (fun _ h => h.writeReply)

/-! ### Rill -/

theorem State.Keeps.refuseRead (hs : s₀.Keeps s) {who : Requester} {f : RillReq} {c : Code} : s₀.Keeps (s.refuseRead who f c) :=
  .replyTo (by split; exacts [hs.refuse.boxRefused, hs.refuse])

theorem State.Keeps.refuseWrite (hs : s₀.Keeps s) {who : Requester} {f : RillReq} {c : Code} : s₀.Keeps (s.refuseWrite who f c) :=
  .replyTo (by split; exacts [hs.refuse.boxRefused, hs.refuse])

theorem State.Keeps.rillRead (hs : s₀.Keeps s) {who : Requester} {f : RillReq} : s₀.Keeps (s.rillRead who f) := by
  unfold State.rillRead
  split
  · exact hs.refuseRead
  exact hs.answer.enqueue.ite hs.answer.afterRead.replyTo

theorem State.Keeps.rillWrite (hs : s₀.Keeps s) {who : Requester} {f : RillReq} : s₀.Keeps (s.rillWrite who f) := by
  unfold State.rillWrite
  refine .ite ?_ hs.writeReply
  split
  · exact hs.refuseWrite
  exact hs

theorem State.Keeps.rillList (hs : s₀.Keeps s) {who : Requester} {f : RillReq} : s₀.Keeps (s.rillList who f) := by
  unfold State.rillList
  exact hs.refuseRead.ite (hs.refuseRead.ite hs.answer.replyTo)

theorem State.Keeps.abandonWrite (hs : s₀.Keeps s) {w : BlockWrite} : s₀.Keeps (s.abandonWrite w) := by
  unfold State.abandonWrite
  refine .ite ?_ (hs.upd.vput.ite hs.upd)
  split
  · exact hs.upd.updTarget.ite hs.upd.abandon
  · exact hs.upd.abandon
  exact hs.upd

theorem State.Keeps.abortReply (hs : s₀.Keeps s) {who : Requester} {f : RillReq} : s₀.Keeps (s.abortReply who f) := hs.replyCode

theorem State.Keeps.stageSegment (hs : s₀.Keeps s) {who : Requester} {f : RillReq} {last : Bool} {all : List Byte} :
    s₀.Keeps (s.stageSegment who f last all) := by
  unfold State.stageSegment
  split
  · exact hs.uploadSegment
  exact hs.objWrite (fun _ h => h.vput)

theorem State.Keeps.takeSegment (hs : s₀.Keeps s) {who : Requester} {f : RillReq} {w : BlockWrite} : s₀.Keeps (s.takeSegment who f w) :=
  hs.abandonWrite.abortReply.ite (((hs.stageSegment.upd.enqueue.ite hs.stageSegment.upd.replyTo).ite hs.stageSegment.upd.replyTo).ite
    (hs.upd.writeReply.ite hs.upd.answer.replyTo))

theorem State.Keeps.writeSegment (hs : s₀.Keeps s) {who : Requester} {f : RillReq} : s₀.Keeps (s.writeSegment who f) := by
  unfold State.writeSegment
  refine .ite ?_ ?_
  · split
    · exact hs.abandonWrite.abortReply
    split
    · exact hs.refuseWrite
    exact hs.takeSegment
  split
  · exact hs.abortReply
  exact hs.abandonWrite.abortReply.ite (hs.refuseWrite.ite hs.takeSegment)

theorem State.Keeps.readSnapshot (hs : s₀.Keeps s) {who : Requester} {f : RillReq} {v : List Byte} : s₀.Keeps (s.readSnapshot who f v) :=
  hs.upd.answer.replyTo

theorem State.Keeps.readSegment (hs : s₀.Keeps s) {who : Requester} {f : RillReq} : s₀.Keeps (s.readSegment who f) := by
  unfold State.readSegment
  dsimp only
  split
  · exact hs.refuseRead.ite hs.readSnapshot
  split
  · exact hs.refuseRead
  exact hs.afterRead.readSnapshot.ite hs.answer.replyTo

theorem State.Keeps.rillSubscribe (hs : s₀.Keeps s) {who : Requester} {f : RillReq} : s₀.Keeps (s.rillSubscribe who f) := by
  unfold State.rillSubscribe
  dsimp only
  split
  · exact hs.refuseRead
  exact hs.upd.answer.replyTo

theorem State.Keeps.notifyOne (hs : s₀.Keeps s) {x : Subscription} : s₀.Keeps (s.notifyOne x) := by
  unfold State.notifyOne
  exact hs.ite (hs.upd.ite hs.upd.emit)

theorem State.Keeps.rillForward (hs : s₀.Keeps s) {who : Requester} {f : RillReq} : s₀.Keeps (s.rillForward who f) := by
  unfold State.rillForward
  dsimp only
  split
  · exact hs.send.answer.upd.enqueue
  · exact hs.replyCode
  exact hs

theorem State.Keeps.execForwardTimeout (hs : s₀.Keeps s) {endpoint tag : Nat} : s₀.OutcomeKeeps (execForwardTimeout endpoint tag s) :=
  State.Keeps.next (by split; exacts [hs.quiet.advanceTo.settleForward.raiseLog, hs.quiet])

theorem State.Keeps.rillLocal (hs : s₀.Keeps s) {who : Requester} {f : RillReq} : s₀.Keeps (s.rillLocal who f) := by
  unfold State.rillLocal
  split
  · exact hs.rillRead
  · exact hs.rillWrite
  · exact hs.readSegment
  · exact hs.writeSegment
  · exact hs.rillList
  exact hs.rillSubscribe

theorem State.Keeps.rillRequest (hs : s₀.Keeps s) {who : Requester} {f : RillReq} : s₀.Keeps (s.rillRequest who f) :=
  hs.ite (hs.asked (fun _ h => h.replyCode.ite (h.rillLocal.ite h.rillForward)))

theorem State.Keeps.rillOp (hs : s₀.Keeps s) {who : Requester} {op : Nat} {f : RillReq} : s₀.Keeps (s.rillOp who op f) :=
  hs.quiet.rillRequest

theorem State.Keeps.endRequest (hs : s₀.Keeps s) {o : Outstanding} {r : RillReq} : s₀.Keeps (s.endRequest o r) := hs.answer.settle

theorem State.Keeps.endWith (hs : s₀.Keeps s) {o : Outstanding} {c : Code} : s₀.Keeps (s.endWith o c) := hs.answer.settle

theorem State.Keeps.extEnd (hs : s₀.Keeps s) {o : Outstanding} {c : Code} : s₀.Keeps (s.extEnd o c) :=
  hs.endWith.ite (hs.endRequest.ite hs.writeExt.endWith)

theorem State.Keeps.beginEdit (hs : s₀.Keeps s) {o : Outstanding} {c : ChanId} : s₀.Keeps (s.beginEdit o c) := hs.ite hs.upd.editConfig

theorem State.Keeps.finalReply (hs : s₀.Keeps s) {endpoint : Nat} {code : Code} : s₀.Keeps (s.finalReply endpoint code) := by
  unfold State.finalReply
  split
  · exact hs
  refine hs.extEnd.ite ?_
  refine .ite ?_ ?_
  · split
    · exact hs.endWith
    exact hs
  split
  · refine hs.beginEdit.ite ?_
    split
    · exact (hs.editEnd ‹_›).endWith
    exact hs
  split
  · exact hs.endWith
  exact hs

theorem State.Keeps.execExtensionCallTimeout (hs : s₀.Keeps s) {endpoint : Nat} {tag : Byte} {index sub : Nat} :
    s₀.OutcomeKeeps (execExtensionCallTimeout endpoint tag index sub s) :=
  State.Keeps.next (by split; exacts [hs.quiet.endWith.logIt, hs.quiet])

theorem State.Keeps.loseRequester (hs : s₀.Keeps s) {k : Nat} : s₀.Keeps (s.loseRequester k) :=
  (hs.foldl fun _ _ h => h.abandonWrite).dropRequester

theorem State.Keeps.rillArrives (hs : s₀.Keeps s) {src : Nat} {r : RillReq} : s₀.Keeps (s.rillArrives src r) :=
  (hs.send.ite (hs.asked (fun _ h => h.replyCode))).ite ((hs.asked (fun _ h => h.replyCode)).ite hs.rillRequest)

theorem State.Keeps.replyArrives (hs : s₀.Keeps s) {fw : Forwarded} {r : RillReq} : s₀.Keeps (s.replyArrives fw r) :=
  (hs.upd.emit.ite hs.upd).ite hs.settleForward

theorem State.Keeps.mctpReply (hs : s₀.Keeps s) {bs : List Byte} : s₀.Keeps (s.mctpReply bs) := hs.upd

/-! ### Spdm -/

theorem State.Keeps.updConn (hs : s₀.Keeps s) {e : Nat} {f : SpdmConn → SpdmConn} : s₀.Keeps (s.updConn e f) := hs.upd

theorem State.Keeps.carry (hs : s₀.Keeps s) {who : Requester} {m : List Byte} : s₀.Keeps (s.carry who m) := by
  unfold State.carry
  refine .ite ?_ (hs.sendSetup.ite hs)
  split
  · exact hs.secureOut
  exact hs.upd

theorem State.Keeps.spdmSend (hs : s₀.Keeps s) {who : Requester} {m : List Byte} : s₀.Keeps (s.spdmSend who m) := by
  unfold State.spdmSend
  dsimp only
  split
  · exact hs.updConn.upd.carry
  exact hs.upd.carry

theorem State.Keeps.spdmError (hs : s₀.Keeps s) {who : Requester} {e : SpdmError} : s₀.Keeps (s.spdmError who e) := hs.spdmSend

theorem State.Keeps.spdmLong (hs : s₀.Keeps s) {who : Requester} {m : List Byte} : s₀.Keeps (s.spdmLong who m) :=
  hs.spdmSend.ite hs.updConn.spdmError

theorem State.Keeps.spdmTaken (hs : s₀.Keeps s) {e : Nat} {meas : Bool} : s₀.Keeps (s.spdmTaken e meas) := by
  unfold State.spdmTaken
  exact (hs.quiet.upd.ite hs.quiet.upd).updConn

theorem State.Keeps.spdmRequest (hs : s₀.Keeps s) {who : Requester} {needs : Nat} {m : List Byte} {f : State → State}
    (hf : ∀ t, s₀.Keeps t → s₀.Keeps (f t)) : s₀.Keeps (s.spdmRequest who needs m f) :=
  hs.ite (hs.spdmTaken.spdmError.ite (hs.spdmTaken.spdmError.ite (hf _ hs.spdmTaken)))

theorem State.Keeps.onGetVersion (hs : s₀.Keeps s) {who : Requester} {m : List Byte} : s₀.Keeps (s.onGetVersion who m) :=
  hs.ite (hs.spdmTaken.spdmError.ite hs.spdmTaken.upd.updConn.spdmSend)

theorem State.Keeps.onGetCapabilities (hs : s₀.Keeps s) {who : Requester} {m : List Byte} : s₀.Keeps (s.onGetCapabilities who m) :=
  hs.spdmRequest (fun _ h => h.spdmError.ite (h.updConn.ite h).spdmSend)

theorem State.Keeps.onNegotiate (hs : s₀.Keeps s) {who : Requester} {m : List Byte} : s₀.Keeps (s.onNegotiate who m) :=
  hs.spdmRequest (fun _ h => h.spdmError.ite (h.updConn.ite h).spdmSend)

theorem State.Keeps.onUnsupported (hs : s₀.Keeps s) {who : Requester} {m : List Byte} : s₀.Keeps (s.onUnsupported who m) :=
  hs.spdmRequest (fun _ h => h.spdmSend)

theorem State.Keeps.checkIdentity (hs : s₀.Keeps s) : s₀.Keeps s.checkIdentity := hs.ite (hs.upd.raise.logIt.ite hs.upd)

theorem State.Keeps.issueAlias (hs : s₀.Keeps s) {slot : Nat} : s₀.Keeps (s.issueAlias slot) := hs.ite hs.upd.signed

theorem State.Keeps.noteCert (hs : s₀.Keeps s) {e : Nat} {m r : List Byte} : s₀.Keeps (s.noteCert e m r) := hs.updConn

theorem State.Keeps.onGetDigests (hs : s₀.Keeps s) {who : Requester} {m : List Byte} : s₀.Keeps (s.onGetDigests who m) :=
  hs.spdmRequest (fun _ h => h.checkIdentity.issueAlias.noteCert.spdmSend)

theorem State.Keeps.onGetCertificate (hs : s₀.Keeps s) {who : Requester} {m : List Byte} : s₀.Keeps (s.onGetCertificate who m) :=
  hs.spdmRequest (fun _ h => h.checkIdentity.issueAlias.spdmError.ite h.checkIdentity.issueAlias.noteCert.spdmLong)

theorem State.Keeps.sign (hs : s₀.Keeps s) {who : Requester} {w : SignWait} : s₀.Keeps (s.sign who w) := hs.upd.updConn.spdmSend.ite hs.upd

theorem State.Keeps.attestRefused (hs : s₀.Keeps s) {who : Requester} : s₀.Keeps (s.attestRefused who) := hs.opRefused.spdmError

theorem State.Keeps.onGetMeasurements (hs : s₀.Keeps s) {who : Requester} {m : List Byte} : s₀.Keeps (s.onGetMeasurements who m) := by
  unfold State.onGetMeasurements
  refine hs.spdmRequest fun t ht => ht.attestRefused.ite ?_
  extract_lets t₁ t₂
  have h₂ : s₀.Keeps t₂ := ht.updConn.checkIdentity.issueAlias.ite ht.updConn
  split
  · exact h₂.spdmError
  · exact h₂.spdmError
  · exact h₂.spdmError.ite (h₂.drawn.sign.ite h₂.drawn.updConn.spdmLong)

theorem State.Keeps.onChallenge (hs : s₀.Keeps s) {who : Requester} {m : List Byte} : s₀.Keeps (s.onChallenge who m) := by
  unfold State.onChallenge
  refine hs.spdmRequest fun t ht => ht.attestRefused.ite ?_
  extract_lets t₁
  have h₁ : s₀.Keeps t₁ := ht.checkIdentity.issueAlias
  split
  · exact h₁.spdmError
  · exact h₁.spdmError.ite h₁.drawn.sign

theorem State.Keeps.exchangeSigned (hs : s₀.Keeps s) {w : SignWait} : s₀.Keeps (s.exchangeSigned w).1 := hs.signed.handshakeKeys.updSession

theorem State.Keeps.afterSign (hs : s₀.Keeps s) {e : Nat} {w : SignWait} {block : List Byte} : s₀.Keeps (s.afterSign e w block) :=
  hs.updConn

theorem State.Keeps.signNow (hs : s₀.Keeps s) {who : Requester} {w : SignWait} : s₀.Keeps (s.signNow who w).1 :=
  hs.exchangeSigned.iteFst hs.afterSign.signed

theorem State.Keeps.signedOut (hs : s₀.Keeps s) {who : Requester} {m : List Byte} : s₀.Keeps (s.signedOut who m) :=
  hs.spdmLong.updConn.ite hs.spdmLong

theorem State.Keeps.signOldest (hs : s₀.Keeps s) : s₀.Keeps s.signOldest := by
  unfold State.signOldest
  split
  · exact hs
  exact hs.upd.signNow.updConn.ite hs.upd.signNow.signedOut

theorem State.Keeps.onRespondIfReady (hs : s₀.Keeps s) {who : Requester} {m : List Byte} : s₀.Keeps (s.onRespondIfReady who m) := by
  unfold State.onRespondIfReady
  exact hs.spdmRequest (fun _ h => h.spdmError.ite (h.spdmError.ite (by split; exacts [h.updConn.signedOut, h.spdmSend])))

theorem State.Keeps.closeSession (hs : s₀.Keeps s) {id : Nat} : s₀.Keeps (s.closeSession id) := by
  unfold State.closeSession
  split
  · exact hs.loseRequester.endSession
  exact hs

theorem State.Keeps.openSession (hs : s₀.Keeps s) {x : Session} {shared : List Byte} : s₀.Keeps (s.openSession x shared) :=
  hs.upd.exchangeKeys

theorem State.Keeps.onKeyExchange (hs : s₀.Keeps s) {who : Requester} {m : List Byte} : s₀.Keeps (s.onKeyExchange who m) := by
  unfold State.onKeyExchange
  refine hs.spdmRequest fun t ht => ?_
  extract_lets slot t₁ t₂
  have h₁ : s₀.Keeps t₁ := ht.checkIdentity.issueAlias
  have h₂ : s₀.Keeps t₂ := h₁.logIt.ite h₁
  split
  · exact h₂.spdmError
  · exact h₂.spdmError
  · exact h₂.raise.spdmError.ite h₂.openSession.updConn.upd.sign

theorem State.Keeps.inSession (hs : s₀.Keeps s) {who : Requester} {id : Nat} {p : Session → Bool} {f : Session → State}
    (hf : ∀ y0,  s₀.Keeps (f y0)) : s₀.Keeps (s.inSession who id p f) := by
  unfold State.inSession
  split
  · exact (hf _).ite hs.spdmError
  exact hs.spdmError

theorem State.Keeps.onFinish (hs : s₀.Keeps s) {who : Requester} {id : Nat} {m chain : List Byte} : s₀.Keeps (s.onFinish who id m chain) := by
  unfold State.onFinish
  exact hs.spdmRequest (fun _ h => h.inSession (fun _ => h.spdmSend.appKeys.updSession.updConn.ite h.closeSession.spdmError))

theorem State.Keeps.onEndSession (hs : s₀.Keeps s) {who : Requester} {id : Nat} {m : List Byte} : s₀.Keeps (s.onEndSession who id m) :=
  hs.spdmRequest (fun _ h => h.inSession (fun _ => h.spdmSend.closeSession))

theorem State.Keeps.onGetCosig (hs : s₀.Keeps s) {who : Requester} {m : List Byte} : s₀.Keeps (s.onGetCosig who m) :=
  hs.spdmRequest (fun _ h => h.spdmError.ite (h.spdmError.ite (h.spdmLong.ite h.spdmError)))

theorem State.Keeps.onPushCosig (hs : s₀.Keeps s) {who : Requester} {id : Nat} {m : List Byte} : s₀.Keeps (s.onPushCosig who id m) := by
  unfold State.onPushCosig
  exact hs.spdmRequest (fun _ h => h.inSession (fun _ => h.updSession.updConn.spdmSend.ite h.closeSession.spdmError))

theorem State.Keeps.onLargeRequest (hs : s₀.Keeps s) {who : Requester} {m : List Byte} : s₀.Keeps (s.onLargeRequest who m) := by
  unfold State.onLargeRequest
  dsimp only
  split
  · exact hs.onGetDigests
  · exact hs.onGetCertificate
  · exact hs.onChallenge
  · exact hs.onGetMeasurements
  · exact hs.onNegotiate
  · exact hs.onKeyExchange
  · exact hs.onEndSession
  · exact hs.onPushCosig.ite hs.onGetCosig
  exact hs.onUnsupported

theorem State.Keeps.onChunkSend (hs : s₀.Keeps s) {who : Requester} {m : List Byte} : s₀.Keeps (s.onChunkSend who m) := by
  unfold State.onChunkSend
  exact hs.spdmRequest (fun _ h => by split; exacts [h.updConn.spdmError, h.updConn.onLargeRequest.ite h.updConn.spdmSend])

theorem State.Keeps.onChunkGet (hs : s₀.Keeps s) {who : Requester} {m : List Byte} : s₀.Keeps (s.onChunkGet who m) :=
  hs.spdmRequest (fun _ h => h.spdmError.ite (h.spdmError.ite h.updConn.spdmSend))

theorem State.Keeps.sessionFails (hs : s₀.Keeps s) {x : Session} {c : Code} : s₀.Keeps (s.sessionFails x c) :=
  hs.closeSession.raiseLog1.ite hs.closeSession

theorem State.Keeps.securedRecord (hs : s₀.Keeps s) {e : Nat} {r : List Byte} : s₀.Keeps (s.securedRecord e r) := by
  unfold State.securedRecord
  split
  · exact hs
  refine hs.ite ?_
  split
  · exact hs.answer.sessionFails
  exact hs.updSession.ite hs.updSession.answer

theorem State.Keeps.execSessionIdleExpired (hs : s₀.Keeps s) {session : Nat} : s₀.OutcomeKeeps (execSessionIdleExpired session s) :=
  State.Keeps.next (by split; exacts [hs, hs.advanceTo.sessionFails])

/-! ### Handshake -/

theorem State.Keeps.handshakeFails (hs : s₀.Keeps s) {l : LinkId} : s₀.Keeps (s.handshakeFails l) := hs.linkFailed.raiseLog

theorem State.Keeps.linkSecured (hs : s₀.Keeps s) {l : LinkId} {x : Session} {own : Bool} : s₀.Keeps (s.linkSecured l x own) :=
  (hs.upd.updLink.foldl fun _ _ h => h.destroySlot).raiseLog.drainSend.ite (hs.upd.updLink.foldl
    fun _ _ h => h.destroySlot).raiseLog.syncHealth

theorem State.Keeps.handshakeAnswer (hs : s₀.Keeps s) {l : LinkId} {m chain : List Byte} : s₀.Keeps (s.handshakeAnswer l m chain) := by
  unfold State.handshakeAnswer
  dsimp only
  split
  · exact hs.onGetVersion
  · exact hs.onGetCapabilities
  · exact hs.onFinish
  · exact hs.onChunkSend
  · exact hs.onChunkGet
  · exact hs.onRespondIfReady
  exact hs.onLargeRequest

theorem State.Keeps.handshakeAnswered (hs : s₀.Keeps s) {l : LinkId} : s₀.Keeps (s.handshakeAnswered l) := by
  unfold State.handshakeAnswered
  refine hs.handshakeFails.ite ?_
  split
  · exact hs.linkSecured.ite hs.handshakeFails
  exact hs

theorem State.Keeps.request (hs : s₀.Keeps s) {l : LinkId} {m : List Byte} : s₀.Keeps (s.request l m) := hs.updLink.sendSetup

theorem State.Keeps.nextRequest (hs : s₀.Keeps s) {l : LinkId} {m : List Byte} : s₀.Keeps (s.nextRequest l m) := hs.updLink.request

theorem State.Keeps.startExchange (hs : s₀.Keeps s) {l : LinkId} : s₀.Keeps (s.startExchange l) := hs.updLink.upd.request

theorem State.Keeps.takeCertificate (hs : s₀.Keeps s) {l : LinkId} {m : List Byte} : s₀.Keeps (s.takeCertificate l m) :=
  hs.updLink.request.ite (hs.updLink.startExchange.ite hs.updLink.handshakeFails)

theorem State.Keeps.takeExchange (hs : s₀.Keeps s) {l : LinkId} {m : List Byte} : s₀.Keeps (s.takeExchange l m) := by
  unfold State.takeExchange
  refine hs.handshakeFails.ite ?_
  split
  · exact hs.handshakeFails
  dsimp only
  split
  · exact hs.openSession.handshakeKeys
  exact
    have h₁ := hs.openSession.handshakeKeys
    h₁.handshakeFails.ite h₁.updSession.updConn.signed.nextRequest

theorem State.Keeps.takeFinish (hs : s₀.Keeps s) {l : LinkId} {m : List Byte} : s₀.Keeps (s.takeFinish l m) := by
  unfold State.takeFinish
  split
  · exact hs.handshakeFails
  exact hs.appKeys.updSession.signed.nextRequest

theorem State.Keeps.takeCosig (hs : s₀.Keeps s) {l : LinkId} {m : List Byte} : s₀.Keeps (s.takeCosig l m) := by
  unfold State.takeCosig
  split
  · exact hs.handshakeFails
  exact hs.linkSecured.ite hs.handshakeFails

theorem State.Keeps.noteVca (hs : s₀.Keeps s) {l : LinkId} {m : List Byte} : s₀.Keeps (s.noteVca l m) := by
  unfold State.noteVca
  exact hs.updConn

theorem State.Keeps.handshakeReply (hs : s₀.Keeps s) {l : LinkId} {m : List Byte} : s₀.Keeps (s.handshakeReply l m) := by
  unfold State.handshakeReply
  split
  · exact hs.updConn.noteVca.nextRequest
  · exact hs.noteVca.nextRequest
  · exact hs.noteVca.nextRequest.ite hs.handshakeFails
  · exact hs.nextRequest.ite hs.handshakeFails
  · exact hs.takeCertificate
  · exact hs.takeExchange
  · exact hs.takeFinish
  · exact hs.nextRequest
  · exact hs.takeCosig
  exact hs.handshakeFails

theorem State.Keeps.handshakeMsg (hs : s₀.Keeps s) {l : LinkId} {m : List Byte} : s₀.Keeps (s.handshakeMsg l m) := by
  unfold State.handshakeMsg
  dsimp only
  split
  · split
    · exact hs.updLink.sendSetup
    exact hs.handshakeReply
  · exact hs.handshakeReply.ite hs.updLink.sendSetup
  · exact hs.updLink.sendSetup.ite (hs.sendSetup.ite hs.handshakeFails)
  exact hs.handshakeReply

theorem State.Keeps.handshakeStep (hs : s₀.Keeps s) {l : LinkId} {m chain : List Byte} : s₀.Keeps (s.handshakeStep l m chain) :=
  hs.handshakeMsg.ite hs.handshakeAnswer.handshakeAnswered

theorem State.Keeps.handshake (hs : s₀.Keeps s) {l : LinkId} {m chain : List Byte} : s₀.Keeps (s.handshake l m chain) :=
  hs.ite (hs.handshakeFails.logIt.ite hs.handshakeStep)

theorem State.Keeps.signLink (hs : s₀.Keeps s) {l : LinkId} : s₀.Keeps (s.signLink l) := by
  unfold State.signLink
  split
  · exact hs.upd.signNow.signedOut
  exact hs

theorem State.Keeps.rekey (hs : s₀.Keeps s) {l : LinkId} {msgs : List (List Byte)} {chain : List Byte} : s₀.Keeps (s.rekey l msgs chain) :=
  hs.ite ((hs.startExchange.ite hs).foldl fun _ _ h => h.handshakeStep.signLink)

/-! ### Probe -/

theorem State.Keeps.probeStepDone (hs : s₀.Keeps s) {c : ChanId} {r : ProbeResult} : s₀.Keeps (s.probeStepDone c r) := by
  unfold State.probeStepDone
  split
  · exact hs
  exact hs.ite (hs.updChan.updChan.ite hs.updChan)

theorem State.Keeps.probeFailed (hs : s₀.Keeps s) {c : ChanId} : s₀.Keeps (s.probeFailed c) := hs.toAbsent.raiseLog

theorem State.Keeps.probePassed (hs : s₀.Keeps s) {c : ChanId} : s₀.Keeps (s.probePassed c) :=
  hs.updChan.raiseLog.startFill.ite hs.updChan.raiseLog.setChan

theorem State.Keeps.probeAttemptDone (hs : s₀.Keeps s) {c : ChanId} : s₀.Keeps (s.probeAttemptDone c) := by
  unfold State.probeAttemptDone
  split
  · exact hs
  refine hs.ite ?_
  split
  · exact hs.probePassed
  · exact hs.probeFailed
  exact hs.probeFailed.ite hs.updChan

theorem State.Keeps.calRecheck (hs : s₀.Keeps s) {c : ChanId} {passing : BitVec 17} : s₀.Keeps (s.calRecheck c passing) :=
  hs.ite (hs.updChan.raiseLog.ite (hs.updChan.raiseLog.ite hs.updChan))

theorem State.Keeps.portSupply (hs : s₀.Keeps s) {hostSide : Bool} {l : IoSupply} {p : PortId} : s₀.Keeps (s.portSupply hostSide l p) :=
  hs.updPort.updPort.raiseLog.ite hs.updPort

theorem State.Keeps.ioSupply (hs : s₀.Keeps s) {b : Fin 4} {hostSide : Bool} {l : IoSupply} : s₀.Keeps (s.ioSupply b hostSide l) :=
  hs.ite ((hs.foldl fun _ _ h => h.portSupply).foldl fun _ _ h => h.probeIfReady.ite (h.toAbsent.ite h))

/-! ### Spi -/

theorem State.Keeps.spiFlag (hs : s₀.Keeps s) {f : Byte} : s₀.Keeps (s.spiFlag f) := hs.upd

theorem State.Keeps.spiEvent (hs : s₀.Keeps s) {e : Nat} : s₀.Keeps (s.spiEvent e) := hs.raiseLog1

theorem State.Keeps.spiMark (hs : s₀.Keeps s) {f : Byte} {e : Nat} : s₀.Keeps (s.spiMark f e) := hs.spiFlag.spiEvent

theorem State.Keeps.spiEdges (hs : s₀.Keeps s) {t : SpiTx} {n : Nat} : s₀.Keeps (s.spiEdges t n) :=
  (hs.upd.ite hs.upd.spiMark).ite (hs.upd.ite hs.upd.spiMark).spiMark

theorem State.Keeps.spiCodes (hs : s₀.Keeps s) {cs : List Code} : s₀.Keeps (s.spiCodes cs) :=
  have h₁ := hs.upd.spiMark.ite hs
  have h₂ := h₁.spiMark.ite h₁
  h₂.spiMark.ite h₂

theorem State.Keeps.spiDrive (hs : s₀.Keeps s) {t : SpiTx} {b0 : Byte} {out : List Byte} : s₀.Keeps (s.spiDrive t b0 out) := hs.upd

theorem State.Keeps.spiTransaction (hs : s₀.Keeps s) {t : SpiTx} {out : List Byte} {f : State → State}
    (hf : ∀ t, s₀.Keeps t → s₀.Keeps (f t)) : s₀.Keeps (s.spiTransaction t out f) := (hf _ hs.quiet.spiDrive).ite hs.quiet.upd

theorem State.Keeps.spiEnd (hs : s₀.Keeps s) {t : SpiTx} {n : Nat} {codes : List Code} {act : State → State}
    (hact : ∀ t, s₀.Keeps t → s₀.Keeps (act t)) : s₀.Keeps (s.spiEnd t n codes act) := ((hact _ hs).ite hs).spiEdges.spiCodes.upd

theorem State.Keeps.boxesRefused (hs : s₀.Keeps s) {a n : Nat} {codes : Nat → List Code} : s₀.Keeps (s.boxesRefused a n codes) :=
  hs.foldl fun _ _ h => by dsimp only; split; exacts [h.boxRefused, h]

theorem State.Keeps.spiTimeout (hs : s₀.Keeps s) {t : SpiTx} : s₀.Keeps (s.spiTimeout t) :=
  hs.spiTransaction (fun _ h => h.upd.spiMark.spiEdges.upd)

theorem State.Keeps.spiShort (hs : s₀.Keeps s) {t : SpiTx} {n : Nat} : s₀.Keeps (s.spiShort t n) :=
  hs.spiTransaction (fun _ h => h.spiEnd (fun _ h => h))

theorem State.Keeps.spiRead (hs : s₀.Keeps s) {t : SpiTx} : s₀.Keeps (s.spiRead t) :=
  hs.spiShort.ite (hs.spiTimeout.ite ((hs.spiTransaction (fun _ h => (h.spiEnd (fun _ h => h)).boxesRefused)).ite (hs.spiTransaction
    (fun _ h => (h.spiEnd (fun _ h => h)).boxesRefused))))

theorem State.Keeps.windowSubmit (hs : s₀.Keeps s) {len : Nat} : s₀.Keeps (s.windowSubmit len) := by
  unfold State.windowSubmit
  split
  · exact hs.upd.rillRequest
  exact hs

theorem State.Keeps.windowClear (hs : s₀.Keeps s) : s₀.Keeps s.windowClear := hs.upd

theorem State.Keeps.doorbellWrite (hs : s₀.Keeps s) {m : Fin 16} {i v : Nat} : s₀.Keeps (s.doorbellWrite m i v) := by
  unfold State.doorbellWrite
  dsimp only
  split
  · exact hs.boxRing
  · exact hs.boxOutClear
  · exact hs.updBox
  · exact (hs.boxAck.ite hs).ite (hs.boxAck.ite hs).boxPost
  exact hs

theorem State.Keeps.windowWrite (hs : s₀.Keeps s) {o v : Nat} : s₀.Keeps (s.windowWrite o v) :=
  hs.upd.ite (hs.windowSubmit.ite (hs.windowClear.ite hs))

theorem State.Keeps.portWriteAct (hs : s₀.Keeps s) {a : Nat} {data : List Byte} : s₀.Keeps (s.portWriteAct a data) := by
  unfold State.portWriteAct
  refine .ite ?_ ?_
  · exact hs.foldl fun _ _ h => by split; exacts [h.doorbellWrite, h.windowWrite]
  exact hs.foldl fun _ _ h => by split; exacts [h.updBox, h]

theorem State.Keeps.spiWrite (hs : s₀.Keeps s) {t : SpiTx} : s₀.Keeps (s.spiWrite t) :=
  hs.spiShort.ite (hs.spiTransaction (fun _ h => (h.spiEnd (fun _ h2 => h2.portWriteAct)).boxesRefused))

theorem State.Keeps.execDoorbellSet (hs : s₀.Keeps s) {tx : SpiTx} : s₀.OutcomeKeeps (execDoorbellSet tx s) := by
  refine State.Keeps.next (hs.spiTransaction fun t ht => ?_)
  split
  · dsimp only
    split
    · exact (ht.spiEnd fun _ h => h.boxRing).boxRefused
    · exact ht.spiEnd fun _ h => h.boxRing
  · exact ht.spiEnd fun _ h => h

theorem State.Keeps.execSecureFrameReceive (hs : s₀.Keeps s) {tx : SpiTx} : s₀.OutcomeKeeps (execSecureFrameReceive tx s) :=
  (hs.spiShort.ite (hs.spiTimeout.ite ((hs.spiTransaction (fun _ h => h.spiEnd (fun _ h => h))).ite (hs.spiTransaction
    (fun _ h => h.spiEnd (fun _ h2 => h2.upd.ite h2)))))).next

/-! ### The dispatch and the step -/

/-- Every command keeps the queue and the canonical form. -/
theorem State.Keeps.exec (hs : s₀.Keeps s) (i : Instr) : s₀.OutcomeKeeps (exec i s) :=
  match i with
  | .powerOnReset _ => hs.fullReset.next
  | .brownOut _ _ => (hs.fullReset.ite hs).next
  | .porstNRelease _ _ => hs.porstRelease.next
  | .rootPllLock => hs.pllLock.next
  | .bootFuseLoadDone _ => hs.quiet.bootLoaded.next
  | .fuseBackgroundLoadDone => hs.loadRestFuses.next
  | .missionCandidateJudged _ => hs.execMissionCandidateJudged
  | .handover => (hs.quiet.handOver.noteAll.ite hs.quiet.handOver).next
  | .bootTimerExpired => hs.bootTimeout.next
  | .recoverInstall _ => (hs.quiet.recoverInstalled.ite hs).next
  | .warmRestart _ => hs.quiet.warmRestart.next
  | .halfRestart _ => hs.halfRestart.next
  | .halfRestartEnd _ => hs.halfReturn.next
  | .stewardClaim _ _ _ => hs.claim.next
  | .stewardYield _ => (hs.halfBus (fun _ h => h.yieldTo)).next
  | .shadowDigestCheck _ => hs.digestCheck.next
  | .tamperDetect _ => hs.detect.next
  | .leveeSelftest _ _ => (hs.busEnd hs.leveeCtl).next
  | .leveeSelftestDone _ => hs.selftestDone.next
  | .acfailAssert => (hs.ite hs.upd.raise.freezeStart).next
  | .acfailDeassert => (hs.upd.raise.freezeClearing.ite hs).next
  | .pwrokChange _ => hs.pwrokChange.next
  | .freezeEnd => (hs.freezeEnd.ite hs.freezeEnd.quiet.resumeSlot.restoreSlots.restoreExtension).next
  | .busWindowTrip _ _ => hs.windowTrip.next
  | .dormantRequest _ => (hs.asked (fun _ h => h.dormantRequest)).next
  | .dormantOutputAssert _ => hs.dormantAssert.next
  | .dormantEntry => hs.quiet.dormantEntry.next
  | .wake _ => hs.quiet.wake.next
  | .lifecycleRequest _ _ _ => hs.quiet.lifecycleObj.next
  | .chtBaseWrite _ _ => (hs.halfBus (fun _ h => h.chtBaseWrite)).next
  | .chtInval _ _ => (hs.halfBus (fun _ h => h.chtInvalWrite)).next
  | .invalidateTaken _ => hs.takeInval.settleEdit.flushInvals.next
  | .descReload _ => hs.quiet.reloadDone.next
  | .probeStepDone _ _ => hs.probeStepDone.next
  | .probeAttemptDone _ => hs.probeAttemptDone.next
  | .calibrationRecheck _ _ => hs.calRecheck.next
  | .ioSupplySensed _ _ _ => hs.ioSupply.next
  | .mirctlTrain _ => (hs.halfBus (fun _ h => h.train)).next
  | .mirrorTrainDone _ => (hs.trainDone.flushInvals.ite hs.trainDone).next
  | .fillLeaf _ _ => hs.fillLeaf.next
  | .fillLeafDigests _ _ _ _ => hs.fillDigests.next
  | .fillDone _ _ => hs.fillDone.next
  | .vpost _ _ => hs.corePostRecord.vpost.startSwitch.next
  | .holdOutputRelease _ => (hs.releaseOne.ite hs).next
  | .holdRequest _ _ _ => (hs.opRefused.ite hs.holdWrite).next
  | .grantWrite _ _ => (hs.upd.ite hs).next
  | .senseInputChange _ _ => hs.senseChange.next
  | .senseLossHold _ => hs.senseLoss.next
  | .senseTimeout _ => hs.senseTimeout.next
  | .loadSensing _ _ _ => hs.loadSensingDone.next
  | .puenSettled => hs.puenSettle.next
  | .planStageGenWrite _ _ => hs.execPlanStageGenWrite
  | .planGenWrite _ _ => hs.planGenWrite.next
  | .planActivationTimeout => hs.planTimeout.next
  | .confirmDisarm _ _ => hs.quiet.confirmWrite.next
  | .confirmTimerExpired => hs.quiet.confirmExpired.next
  | .hostRead _ => hs.hostRead.next
  | .fastRead _ => hs.execFastRead
  | .dualRead _ _ => (hs.hostRead.ite hs.hostRead).next
  | .quadRead _ _ => (hs.hostRead.ite hs.hostRead).next
  | .octalRead _ => hs.hostRead.next
  | .octalDtrRead _ => hs.hostRead.next
  | .readId _ _ => (hs.hostCmd (fun _ h => h.drive)).next
  | .readSfdp _ _ _ => (hs.hostCmd (fun _ h => h.drive.closeNative)).next
  | .readRegisters _ _ _ => (hs.hostCmd (fun _ h => h.drive)).next
  | .writeEnable _ => (hs.stateCmd (fun _ h => h.updChan)).next
  | .writeDisable _ => (hs.stateCmd (fun _ h => h.updChan)).next
  | .writeRegisters _ _ => (hs.stateCmd (fun _ h => h.regWrite)).next
  | .enter4ByteMode _ => hs.addrMode.next
  | .exit4ByteMode _ => hs.addrMode.next
  | .pageProgram _ _ _ _ => hs.weirCmd.next
  | .erase4K _ _ _ => hs.weirCmd.next
  | .erase32K _ _ _ => hs.weirCmd.next
  | .erase64K _ _ _ => hs.weirCmd.next
  | .chipErase _ _ => hs.weirCmd.next
  | .programEraseSuspend _ _ => (hs.stateCmd (fun _ h => h.weirSuspend.ite h.unknownCmd)).next
  | .programEraseResume _ _ => (hs.stateCmd (fun _ h => h.weirResume.ite h.unknownCmd)).next
  | .resetEnable _ => (hs.stateCmd (fun _ h => h.updChan)).next
  | .reset _ => (hs.stateCmd (fun _ h => h.personalityReset.ite h)).next
  | .deepPowerDown _ => (hs.stateCmd (fun _ h => h.updChan.raiseLog)).next
  | .releaseDeepPowerDown _ => (hs.stateCmd (fun _ h => h.updChan)).next
  | .unknownCommand _ _ => (hs.hostCmd (fun _ h => h.unknownCmd)).next
  | .csConflict _ => (hs.ite hs.updPort.raiseLog).next
  | .hostReset _ => hs.quiet.portReset.resetStream.resetStream.next
  | .hostResetRelease _ => hs.updPort.next
  | .prefetchLeafDone _ _ _ _ => hs.prefetchDone.next
  | .holdLimitReached _ => hs.holdLimit.next
  | .refillDone _ _ _ _ => hs.refillDone.next
  | .lineRefillDone _ _ => (hs.foldl fun _ _ h => h.pageRefill).next
  | .faultRateWindow => (hs.advanceTo.upd.raiseLog.ite hs.advanceTo.upd).next
  | .weirRefusalEnd _ => hs.execWeirRefusalEnd
  | .shadowedDurationEnd _ => hs.execShadowedDurationEnd
  | .journalFlashStart _ => hs.flashStart.next
  | .flashStatusPoll _ _ => hs.statusPoll.next
  | .journalReadbackDone _ _ => hs.readbackDone.next
  | .mirrorResealDone => hs.execMirrorResealDone
  | .flashTimeout _ => hs.flashTimeout.next
  | .flashTimeoutReset _ => hs.execFlashTimeoutReset
  | .flashResetRecoveryEnd _ => hs.execFlashResetRecoveryEnd
  | .flashBusyGiveUp _ => hs.execFlashBusyGiveUp
  | .mutableLeafHashed _ _ => hs.mutableLeaf.next
  | .mutableDigestRecompute _ => hs.mutableRecompute.next
  | .scrubLeaf _ _ => hs.scrubLeaf.next
  | .repairUnitDone _ _ _ _ _ => hs.repairDone.startSwitch.next
  | .repairRetry _ => hs.execRepairRetry
  | .noSourceReport _ => hs.execNoSourceReport
  | .chanCmdFill _ _ => (hs.halfBus (fun _ h => h.cmdFill)).next
  | .chanCmdToUpdating _ _ => (hs.halfBus (fun _ h => h.cmdUpdating)).next
  | .chanCmdUpdateEnded _ _ => (hs.halfBus (fun _ h => h.cmdUpdateEnded)).next
  | .chanCmdToQuarantined _ _ => (hs.halfBus (fun _ h => h.cmdQuarantined)).next
  | .chanCmdForcedScrub _ _ => (hs.halfBus (fun _ h => h.cmdScrub)).next
  | .chanCmdRepair _ _ _ _ => (hs.halfBus (fun _ h => h.cmdRepair)).next
  | .pinLoad _ _ => (hs.halfBus (fun _ h => h.pinLoadWrite)).next
  | .pinLoadDone _ => hs.pinLoadDone.next
  | .hashQpush _ _ => (hs.hashPush.ite hs.busError).next
  | .hashQpop _ => (hs.hashPop.ite hs.busError).next
  | .hashDispatch _ => hs.hashDispatch.next
  | .hashJobDone _ _ => hs.hashDone.next
  | .hashCreditRefill => hs.advanceTo.upd.next
  | .hashMedianWindow _ => hs.medianWindow.next
  | .hashFenceRetry _ => hs.execHashFenceRetry
  | .hashFenceRetryDone _ _ _ => hs.fenceRetryDone.next
  | .verifyStageDone _ _ _ => hs.execVerifyStageDone
  | .channelUpdateVerified _ => hs.quiet.channelVerified.next
  | .durableWaitExpired _ => hs.quiet.durableExpired.next
  | .landingDone _ _ => hs.quiet.landingDone.next
  | .switchUnitDone _ _ _ _ => hs.quiet.switchUnit.next
  | .updateRetire _ => hs.quiet.updRetire.next
  | .updateFloor _ _ => hs.quiet.updFloor.next
  | .updateAbandon _ _ => hs.quiet.abandon.next
  | .gateRetry => hs.quiet.gateRetry.next
  | .streamIdleExpired _ => hs.quiet.streamIdleExpired.next
  | .uploadStartTimeout _ => hs.quiet.uploadTimeout.next
  | .uploadWaitExpired _ => hs.quiet.uploadWaitExpired.next
  | .recoveryRun _ _ => hs.quiet.recoveryRun.next
  | .peerRecoveryTimeout _ => hs.quiet.peersTimeout.next
  | .missionUpdateActivate => hs.quiet.missionActivate.next
  | .extensionUpdateApply _ => hs.quiet.extensionApply.next
  | .queryDeviceIdentifiers _ => (hs.pldmAsked (fun _ h => h.pldmAnswer)).next
  | .getFirmwareParameters _ => (hs.pldmAsked (fun _ h => h.pldmAnswer)).next
  | .requestUpdate _ _ => (hs.pldmAsked (fun _ h => by split; exacts [h.upd.pldmCode, h.pldmCode])).next
  | .passComponentTable _ _ => (hs.pldmAsked (fun _ h => h.pldmCode.ite h.upd.pldmAnswer)).next
  | .updateComponent _ _ _ => hs.execUpdateComponent
  | .firmwareDataResponse _ _ _ => (hs.pldmAsked (fun _ h => h.firmwareData)).next
  | .firmwareDataTimeout => hs.quiet.firmwareTimeout.next
  | .activateFirmware _ => hs.execActivateFirmware
  | .getStatus _ => (hs.pldmAsked (fun _ h => h.pldmAnswer)).next
  | .cancelUpdateComponent _ => hs.execCancelUpdateComponent
  | .cancelUpdate _ => hs.execCancelUpdate
  | .pldmUnsupportedCmd _ _ => (hs.pldmAsked (fun _ h => h.pldmAnswer)).next
  | .cisternInit _ => (hs.halfBus (fun _ h => h.cisternInit)).next
  | .cisternInitDone _ => hs.quiet.cisternInitDone.recoverSearch.restoreSlots.restoreExtension.next
  | .cisternQpop _ => (hs.halfBus (fun _ h => h.cisternPop)).next
  | .cisternRead _ _ => hs.cisternQpush.next
  | .cisternProgram _ _ => hs.cisternQpush.next
  | .cisternErase _ _ => hs.cisternQpush.next
  | .cisternEncode _ _ => hs.cisternQpush.next
  | .cisternDecode _ _ => hs.cisternQpush.next
  | .cisternPatrolRead _ _ => hs.cisternQpush.next
  | .cisternParameterPage _ _ => hs.cisternQpush.next
  | .cisternCmdDone _ => hs.quiet.cisCmdDone.next
  | .catalogueCommitDone _ _ => hs.quiet.commitDone.next
  | .goldenWrite _ _ => hs.quiet.goldenCmd.next
  | .patrolPeriod => hs.patrolPass.next
  | .laggardWindow => hs.quiet.laggardWindow.next
  | .replaceWaitExpired _ => hs.quiet.replaceWait.next
  | .orphanKeepExpired => hs.orphanExpired.next
  | .shardReassemblyDone _ _ _ => hs.quiet.reassembled.next
  | .fillRemap _ => (hs.ite hs.remapFill).next
  | .pakorLinkTrainStep _ _ _ => hs.quiet.trainStep.next
  | .pakorLinkUp _ _ => hs.quiet.linkUp.next
  | .pakorTrainRetry _ => hs.execPakorTrainRetry
  | .pakorLinkDown _ => hs.quiet.linkDown.next
  | .pakorCrcRetrain _ _ => hs.crcRetrain.syncHealth.next
  | .hello _ _ _ _ _ _ _ => (hs.setupFrame (fun _ h => h.hello)).next
  | .handshake _ _ _ => (hs.setupFrame (fun _ h => h.handshake)).next
  | .linkTest _ _ _ => (hs.setupFrame (fun _ h => h.ite (h.updLink.raiseLog.ite h.updLink))).next
  | .beacon _ _ => (hs.frame (fun _ h => h.beacon)).next
  | .claim _ _ => (hs.frame (fun _ h => h.casRival.ite h.segRival)).next
  | .leave _ => (hs.frame (fun _ h => h.memberGone.ite h)).next
  | .holdings _ _ => (hs.frame (fun _ h => h.reprotect.startRebuild)).next
  | .shardOffer _ _ _ => (hs.frame (fun _ h => h.shardOffer)).next
  | .shardGrant _ _ _ => (hs.frame (fun _ h => h.shardGrant)).next
  | .shardData _ _ _ _ => (hs.frame (fun _ h => h.shardData)).next
  | .shardAck _ _ _ => (hs.frame (fun _ h => h.shardAck)).next
  | .shardReq _ _ _ _ _ _ => (hs.frame (fun _ h => h.shardReq)).next
  | .rillFrame _ _ => (hs.frame (fun _ h => h.rillArrives)).next
  | .rillReplyFrame _ _ _ => (hs.frame (fun _ h => by split; exacts [h.replyArrives, h])).next
  | .beaconSend => hs.quiet.beaconOut.next
  | .beaconRefresh _ => (hs.pakorBus (fun _ h => h.beaconRefresh)).next
  | .beaconStale => (hs.advanceTo.upd.ite hs).next
  | .memberAbsenceTimeout _ => (hs.ite hs.quiet.advanceTo.memberGone).next
  | .masterClaimStart _ => (hs.quiet.claimCascade.ite hs.quiet.claimSegment).next
  | .pakorRekey _ _ _ => hs.quiet.rekey.next
  | .shardTransferStall _ _ => hs.quiet.transferStall.next
  | .pakorQpush _ _ => (hs.quiet.pakorBus (fun _ h => h.pakorPush)).next
  | .pakorRxpop _ => hs.execPakorRxpop
  | .forwardTimeout _ _ => hs.execForwardTimeout
  | .disturbanceEnd _ _ _ _ _ _ => hs.disturbEnd.next
  | .holdupTestStep => (hs.testStep.ite hs).next
  | .huCtl _ _ => (hs.busEnd hs.huCtlWrite).next
  | .holdupStepDone _ => hs.stepDone.next
  | .holdupEstimate _ _ => hs.holdupEstimate.next
  | .psuPoll _ _ _ => (hs.psuTry.ite hs).next
  | .psuClearFaults _ _ => hs.psuClearObj.next
  | .measOverrun _ => hs.upd.raise.next
  | .generate _ _ => hs.execGenerate
  | .derive _ _ => hs.execDerive
  | .extract _ _ => hs.execExtract
  | .expand _ _ => hs.execExpand
  | .invalidate _ _ => hs.execInvalidate
  | .loadPke _ _ => hs.execLoadPke
  | .storePke _ _ => hs.execStorePke
  | .hmac _ _ => hs.execHmac
  | .wrap _ _ => hs.execWrap
  | .unwrap _ _ => hs.execUnwrap
  | .kvOrphanSweep => (hs.kvSweep.ite hs).next
  | .rootLock _ => (hs.halfBus (fun _ h => h.setRootLock)).next
  | .testSecret _ => (hs.halfBus (fun _ h => h.setTestSecret)).next
  | .fuseRead _ _ _ => hs.execFuseRead
  | .fuseMargin _ _ _ => hs.execFuseMargin
  | .fuseProgram _ _ _ _ => hs.execFuseProgram
  | .fuseReburn _ _ _ _ => hs.execFuseReburn
  | .fuseLock _ _ _ => hs.execFuseLock
  | .fuseRedirect _ _ _ => hs.execFuseRedirect
  | .genSecret _ _ => hs.execGenSecret
  | .fuseReload _ _ _ => hs.execFuseReload
  | .fuseOverrideWrite _ _ => (hs.halfBus (fun _ h => h.overrideWrite)).next
  | .fuseOverrideClear _ _ => (hs.halfBus (fun _ h => h.overrideAddr)).next
  | .mac _ _ _ => hs.pkePush.next
  | .vmac _ _ _ => hs.pkePush.next
  | .jobOpen _ _ _ => hs.pkePush.next
  | .jobClose _ _ _ => hs.pkePush.next
  | .jobEnd _ => hs.pkeJobEnd.next
  | .jobOverrun _ => hs.pkeJobOverrun.next
  | .spongeInit _ _ _ => hs.pkePush.next
  | .spongeAbsorb _ _ _ => hs.pkePush.next
  | .spongeSqueeze _ _ _ => hs.pkePush.next
  | .spongeSample _ _ _ => hs.pkePush.next
  | .pkeAbort _ => (hs.halfBus (fun _ h => h.pkeAbortAs)).next
  | .pkeOperandRead _ _ => hs.busError.updEng.next.ite hs.opRead.updEng.next
  | .pkeSlotCfgWrite _ _ _ => (hs.halfBus (fun _ h => h.busEnd h.slotCfgWrite)).next
  | .nop _ => hs.execNop
  | .dup _ => hs.execDup
  | .drop _ => hs.execDrop
  | .swap _ => hs.execSwap
  | .over _ => hs.execOver
  | .rot _ => hs.execRot
  | .pick _ _ => hs.execPick
  | .tor _ => hs.execTor
  | .fromr _ => hs.execFromr
  | .rcopy _ => hs.execRcopy
  | .depth _ => hs.execDepth
  | .lit8 _ _ => hs.execLit8
  | .lit _ _ => hs.execLit
  | .litu _ _ => hs.execLitu
  | .ori _ _ => hs.execOri
  | .addi _ _ => hs.execAddi
  | .add _ => hs.execAdd
  | .sub _ => hs.execSub
  | .andI _ => hs.execAndI
  | .orI _ => hs.execOrI
  | .xorI _ => hs.execXorI
  | .notI _ => hs.execNotI
  | .negI _ => hs.execNegI
  | .shl _ => hs.execShl
  | .shr _ => hs.execShr
  | .sar _ => hs.execSar
  | .shli _ _ => hs.execShli
  | .shri _ _ => hs.execShri
  | .sari _ _ => hs.execSari
  | .eqI _ => hs.execEqI
  | .neI _ => hs.execNeI
  | .ltI _ => hs.execLtI
  | .ltuI _ => hs.execLtuI
  | .leI _ => hs.execLeI
  | .leuI _ => hs.execLeuI
  | .eqzI _ => hs.execEqzI
  | .mul _ => hs.execMul
  | .mulh _ => hs.execMulh
  | .mulhu _ => hs.execMulhu
  | .ldw _ _ => hs.execLdw
  | .ldh _ _ => hs.execLdh
  | .ldhu _ _ => hs.execLdhu
  | .ldb _ _ => hs.execLdb
  | .ldbu _ _ => hs.execLdbu
  | .stw _ _ => hs.execStw
  | .sth _ _ => hs.execSth
  | .stb _ _ => hs.execStb
  | .ldr _ _ => hs.execLdr
  | .stc _ _ _ => hs.execStc
  | .fence _ => hs.execFence
  | .bz _ _ => hs.execBz
  | .bnz _ _ => hs.execBnz
  | .bra _ _ => hs.execBra
  | .bsr _ _ => hs.execBsr
  | .jmp _ => hs.execJmp
  | .jsr _ => hs.execJsr
  | .ret _ => hs.execRet
  | .tret _ => hs.execTret
  | .svc _ _ => hs.execSvc
  | .breakI _ _ => hs.execBreakI
  | .waitI _ => hs.execWaitI
  | .fmac _ _ _ => hs.execFmac
  | .pmac _ _ _ => hs.execPmac
  | .aclr _ _ => hs.execAclr
  | .ald _ _ => hs.execAld
  | .fsto _ _ => hs.execFsto
  | .fstoh _ _ => hs.execFstoh
  | .ard _ _ _ => hs.execArd
  | .awr _ _ => hs.execAwr
  | .emulateTrap _ _ => hs.execEmulateTrap
  | .eventInterrupt _ => (hs.ite ((hs.updCore.eventLook.ite hs).ite hs.eventLook)).next
  | .coreAlertWrite _ _ => hs.alertWrite.next
  | .eventPendingClear _ _ _ => (hs.busEnd (hs.iteFst hs.pendingClear)).next
  | .eventCfgWrite _ _ _ => (hs.busEnd hs.cfgWrite).next
  | .swtrig _ _ => (hs.busEnd hs.swtrig).next
  | .wdogKick _ _ => (hs.busEnd hs.wdogKick).next
  | .wdogArm _ _ _ => (hs.busEnd hs.wdogArm).next
  | .watchdogExpired _ => ((hs.wdogExpired.foldl fun _ _ h => h.abandonWrite).ite hs.wdogExpired).next
  | .generalTimerExpired _ => hs.timerExpired.next
  | .domReq _ _ _ => (hs.busEnd hs.domReqWrite).next
  | .domainSwitchDone => hs.quiet.domSwitchDone.next
  | .clockMonitorWindow _ => hs.quiet.clockWindow.next
  | .mboxTake _ _ _ => (hs.busEnd hs.mboxTake).next
  | .mboxPost _ _ _ _ => (hs.busEnd hs.mboxPost).next
  | .mboxInClear _ _ _ _ => (hs.busEnd hs.mboxInClear).next
  | .mboxOutSet _ _ _ => (hs.busEnd hs.mboxOutSet).next
  | .mboxInboundPost _ _ _ => hs.execMboxInboundPost
  | .mboxOutAck _ _ _ => (hs.boxAccess (fun _ h => h.boxAckEarlier.ite h.boxAck)).next
  | .mboxOutClear _ _ _ _ => (hs.boxAccess (fun _ h => h.boxOutClear)).next
  | .mboxInRing _ _ _ => (hs.boxAccess (fun _ h => h.boxRing)).next
  | .spiStatus _ => (hs.spiTransaction (fun _ h => h.spiEnd (fun _ h => h))).next
  | .spiRead _ => hs.spiRead.next
  | .spiWrite _ => hs.spiWrite.next
  | .doorbellSet _ => hs.execDoorbellSet
  | .secureFrameSend _ => (hs.spiShort.ite (hs.spiTransaction (fun _ h => h.spiEnd (fun _ h2 => h2.upd)))).next
  | .secureFrameReceive _ => hs.execSecureFrameReceive
  | .portSync _ => (hs.spiTransaction (fun _ h => h.spiEnd (fun _ h2 => h2.upd))).next
  | .spiUnknownCommand _ _ => (hs.ite (hs.spiTransaction (fun _ h => h.upd.spiMark.spiEdges.upd))).next
  | .spiReadTimeout _ => hs.spiTimeout.next
  | .rillWindowSubmit _ => (hs.quiet.ite (by split; exacts [hs.quiet.upd, hs.quiet.windowSubmit.upd])).next
  | .rillWindowReplyClear => (hs.ite (hs.windowClear.upd.ite hs.upd)).next
  | .rillRead _ _ => hs.rillOp.next
  | .rillWrite _ _ => hs.rillOp.next
  | .readBlock _ _ => hs.rillOp.next
  | .writeBlock _ _ => hs.rillOp.next
  | .list _ _ => hs.rillOp.next
  | .subscribe _ _ => hs.rillOp.next
  | .notify _ _ _ => (hs.quiet.foldl fun _ _ h => h.notifyOne).next
  | .rillFinalReply _ _ => hs.quiet.finalReply.next
  | .blockTransferStall _ _ _ => (hs.quiet.foldl fun _ _ h => h.advanceTo.abandonWrite).next
  | .snapshotExpired _ _ => (hs.foldl fun _ _ h => h.advanceTo.upd).next
  | .extensionCallTimeout _ _ _ _ => hs.execExtensionCallTimeout
  | .chanStateWrite _ _ _ => hs.quiet.namedWrite.next
  | .channelConfigWrite _ _ _ _ => hs.quiet.namedWrite.next
  | .releasePlanWrite _ _ => hs.quiet.namedWrite.next
  | .holdRequestWrite _ _ _ => hs.quiet.namedWrite.next
  | .ownerRevokeRequest _ _ _ => hs.revokeObj.next
  | .svnAdvanceRequest _ _ _ => hs.svnAdvanceObj.next
  | .streamCommit _ _ => hs.quiet.streamCommitObj.next
  | .streamAbandon _ _ => hs.quiet.streamAbandonObj.next
  | .imageUploadSegment _ _ _ _ _ _ => hs.quiet.uploadSegment.next
  | .ownerDigestWrite _ _ _ _ => hs.ownerDigestObj.next
  | .ownerLockRequest _ _ _ => hs.ownerLockObj.next
  | .trustListWrite _ _ => hs.quiet.namedWrite.next
  | .getVersion _ _ => hs.onGetVersion.next
  | .getCapabilities _ _ => hs.onGetCapabilities.next
  | .negotiateAlgorithms _ _ => hs.onNegotiate.next
  | .getDigests _ _ => hs.onGetDigests.next
  | .getCertificate _ _ => hs.onGetCertificate.next
  | .challenge _ _ => hs.onChallenge.next
  | .getMeasurements _ _ => hs.onGetMeasurements.next
  | .keyExchange _ _ => hs.onKeyExchange.next
  | .finish _ _ _ _ => hs.onFinish.next
  | .endSession _ _ _ => hs.onEndSession.next
  | .respondIfReady _ _ => hs.onRespondIfReady.next
  | .chunkSend _ _ => hs.onChunkSend.next
  | .chunkGet _ _ => hs.onChunkGet.next
  | .getCosig _ _ => hs.onGetCosig.next
  | .pushCosig _ _ _ => hs.onPushCosig.next
  | .spdmUnsupportedRequest _ _ => (hs.ite hs.onUnsupported).next
  | .spdmSignatureReady => hs.quiet.upd.signOldest.next
  | .securedRecord _ _ => (hs.upd.ite hs).securedRecord.next
  | .sessionIdleExpired _ => hs.execSessionIdleExpired
  | .setEndpointId _ => (hs.ite (hs.mctpReply.ite hs.upd.mctpReply.raiseLog)).next
  | .getEndpointId => (hs.mctpReply.ite hs).next
  | .getMctpVersionSupport => (hs.mctpReply.upd.ite hs).next
  | .getMessageTypeSupport => (hs.mctpReply.ite hs).next
  | .registerWrite _ _ _ => State.OutcomeKeeps.fault.ite hs.quiet.busWrite.next
  | .resealLineDone _ => hs.resealLine.next
  | .suspendLatencyEnd _ => hs.execSuspendLatencyEnd
  | .senseLossLatchClear _ => hs.senseLossClear.next
  | .pakorQpop _ => (hs.pakorBus (fun _ h => h.pakorPop)).next
  | .cisternEccMaxRead _ => hs.execCisternEccMaxRead
  | .timeLoRead _ => hs.execTimeLoRead
  | .dramRefreshRateChange => hs.raiseLog.next
  | .i3cDynamicAddressAssignment _ => (hs.asked (fun _ h => h.upd.raiseLog)).next
  | .smbusClockLowTimeout => (hs.asked (fun _ h => h.raiseLog)).next
  | .mctpAssemblyFail _ => (hs.asked (fun _ h => h.raiseLog)).next
  | .psuBusIdleRetry _ _ _ => (hs.psuTry.ite hs).next

/-- A step keeps the canonical form: a command by `State.Keeps.exec`, and REFCLK's cycle on an empty queue by `State.Keeps.tick`. -/
theorem step_keeps_canonical {s t : State} (hs : s.memoryCanonical) (ht : step s = .next t) : t.memoryCanonical := by
  unfold step at ht
  split at ht
  · cases ht
    exact (State.Keeps.refl s).tick.canonical hs
  next i rest _ => exact ((State.Keeps.refl { s with pending := rest }).exec i t ht).canonical hs

end

/-- Settles O56: every function of the machine that answers a state keeps the canonical form, `State.store` and `State.erase` by the
laws of the memory and every other by those it calls. -/
theorem stepKeepsMemoryCanonical : Obligations.StepKeepsMemoryCanonical :=
  fun _ _ hs ht => step_keeps_canonical hs ht

end Sys2Proof.Machine
end

section
/-!
PROOF. Facts that several obligations need: the first refusal of a list, the events that a command raises, bus errors, entries of vectors.
-/
namespace Sys2Proof.Machine

/-! ## Refusals -/

theorem Code.first_eq_none_iff (cs : List Code) : Code.first cs = none ↔ cs = [] := by
  cases cs with
  | nil => simp [Code.first]
  | cons c cs =>
    simp only [Code.first, reduceCtorEq, iff_false]
    split
    · simp
    · split <;> simp

theorem Code.first_mem {cs : List Code} {c : Code} (h : Code.first cs = some c) : c ∈ cs := by
  induction cs with
  | nil => simp [Code.first] at h
  | cons d cs ih =>
    unfold Code.first at h
    split at h
    · simp_all
    next e he =>
      split at h
      · exact List.mem_cons_of_mem _ (ih (he.trans h))
      · simp_all

/-- Where something refuses and OK is no refusal, the first refusal is a code other than OK. -/
theorem Code.first_refuses {cs : List Code} (h : cs ≠ []) (hok : Code.ok ∉ cs) : ∃ c, c ≠ .ok ∧ Code.first cs = some c := by
  cases hc : Code.first cs with
  | none => exact absurd ((Code.first_eq_none_iff cs).1 hc) h
  | some c => exact ⟨c, fun e => hok (e ▸ Code.first_mem hc), rfl⟩

/-! ## Events -/

theorem State.raisesOnly_nil {s t : State} (h : t.ev = s.ev) : s.raisesOnly t [] := by
  intro n _
  simp [State.isPending, h]

theorem State.raisesOnly_raise {s t : State} {e : Nat} (he : e < 1536) (h : t.ev = (s.raise e).ev) : s.raisesOnly t [e] := by
  intro n _
  have hr := s.raise_pending_bit e n he
  rw [State.isPending, ← h] at hr
  rw [State.isPending, hr]
  simp

theorem mboxEvent_lt (m : Fin 16) {off : Nat} (h : off < 4) : mboxEvent m off < 1536 := by
  unfold mboxEvent
  omega

/-- The event of a core's bus error (R29). -/
theorem buserrEvent_lt (k : CoreId) : 1487 + 2 * k.val < 1536 := by omega

theorem State.busError_ev (s : State) (k : CoreId) (a : Nat) (c : Code) : (s.busError k a c).ev = (s.raise (1487 + 2 * k.val)).ev := by
  unfold State.busError
  dsimp only
  rw [State.raiseLog1_eq]
  rfl

theorem State.busError_cores (s : State) (k : CoreId) (a : Nat) (c : Code) :
    ((s.busError k a c).core k).busErrAddr = BitVec.ofNat 32 a ∧ ∀ j, j ≠ k → (s.busError k a c).core j = s.core j := by
  unfold State.busError
  dsimp only
  rw [State.raiseLog1_eq]
  refine ⟨?_, fun j hj => s.core_updCore_ne j k _ hj⟩
  exact congrArg Core.busErrAddr (s.core_updCore k _)

theorem State.busError_raisesOnly (s : State) (k : CoreId) (a : Nat) (c : Code) : s.raisesOnly (s.busError k a c) [1487 + 2 * k.val] :=
  State.raisesOnly_raise (buserrEvent_lt k) (s.busError_ev k a c)

/-! ## Entries of vectors -/

theorem vset_self {α : Type} {n : Nat} (v : Vector α n) (i : Fin n) : vset v i v[i] = v := by simp [vset]

theorem vset_vset {α : Type} {n : Nat} (v : Vector α n) (i : Fin n) (x y : α) : vset (vset v i x) i y = vset v i y := by simp [vset]

end Sys2Proof.Machine
end

section
/-!
PROOF. O48: the mailboxes from the home side and from outside, and register writes on the internal bus.
-/
namespace Sys2Proof.Machine

/-! ## The home side of a mailbox -/

theorem State.homeAccess_acts {s : State} {k : CoreId} {m : Fin 16} (hd : s.domOn 28 = true) (hh : s.homeOn m = true)
    (hc : s.homeCore m k = true) (act : State → State) : s.homeAccess k m [] act = (act s, .ok) := by
  simp [State.homeAccess, hd, hh, hc, Code.first]

/-- A refused access of the home side changes nothing. -/
theorem State.homeAccess_refused {s : State} {k : CoreId} {m : Fin 16} {own : List Code} (h : s.homeCore m k = false ∨ own ≠ [])
    (hok : Code.ok ∉ own) (act : State → State) : ∃ c, c ≠ .ok ∧ s.homeAccess k m own act = (s, c) := by
  obtain ⟨c, hc, hf⟩ : ∃ c, c ≠ .ok ∧ Code.first ((if s.domOn 28 && s.homeOn m then [] else [.domainOff])
      ++ (if s.homeCore m k then [] else [.deniedAccess]) ++ own) = some c := by
    refine Code.first_refuses ?_ ?_
    · rcases h with h | h <;> simp [h]
    · simp only [List.mem_append, hok, or_false, not_or]
      constructor <;> split <;> simp
  exact ⟨c, hc, by simp only [State.homeAccess, hf]⟩

/-- A register access that is refused is a bus error, which leaves the mailboxes and raises the core's event alone. -/
theorem State.busEnd_refused {s : State} {k : CoreId} {a : Nat} {c : Code} (hc : c ≠ .ok) :
    Completes (.next (s.busEnd k a (s, c))) fun t => t.mbox = s.mbox ∧ s.raisesOnly t [1487 + 2 * k.val] := by
  refine ⟨_, rfl, ?_⟩
  rw [State.busEnd, if_neg hc]
  exact ⟨by rw [State.busError_eq], s.busError_raisesOnly k a c⟩

/-! ## A mailbox from outside -/

/-- The access from outside that R506, R518, R522 and R526 let in: on the port where the firmware responder serves it, the home is on and
the mailbox is not secure; by a Rill write that is taken. -/
def State.BoxReached (s : State) (m : Fin 16) (src : MboxFrom) (index : Nat) : Prop :=
  match src with
  | .port => s.portAnswers = true ∧ s.responder = true ∧ s.homeOn m = true ∧ 8 ≤ m.val
  | .rill who => s.takesWrite who .rw false index (m.val + 1) none (s.boxRefusals m (s.authorised who)) = true

theorem State.boxRefusals_port {s : State} {m : Fin 16} (hh : s.homeOn m = true) (hm : 8 ≤ m.val) : s.boxRefusals m false = [] := by
  simp [State.boxRefusals, hh, hm]

theorem State.boxPort_acts {s : State} {m : Fin 16} {hw : Bool} (hr : s.responder = true) (hh : s.homeOn m = true) (hm : 8 ≤ m.val)
    (act : State → State) : s.boxPort m hw [] act = (act s, .ok) := by
  simp [State.boxPort, State.boxRefusals_port hh hm, hr, Code.first]

theorem State.boxPort_refused {s : State} {m : Fin 16} {hw : Bool} {own : List Code} {c : Code} (hr : s.responder = true)
    (h : Code.first (s.boxRefusals m false ++ own) = some c) (act : State → State) : s.boxPort m hw own act = (s.boxRefused m c, c) := by
  simp [State.boxPort, hr, h]

theorem State.boxRill_acts {s : State} {who : Requester} {m : Fin 16} {index : Nat}
    (h : s.takesWrite who .rw false index (m.val + 1) none (s.boxRefusals m (s.authorised who)) = true) (act : State → State) :
    s.boxRill who m index [] act = (act s).answer .ok := by
  simp only [State.takesWrite, Bool.and_eq_true, Option.isNone_iff_eq_none] at h
  obtain ⟨ha, hf⟩ := h
  simp [State.boxRill, State.objWrite, State.asked, ha, hf, State.boxRefused, mboxRefusal]

/-- An access from outside that is let in does what it does, and leaves its code with the port or the requester. -/
theorem State.boxAccess_reached {s : State} {m : Fin 16} {src : MboxFrom} {index : Nat} (h : s.BoxReached m src index)
    (act : State → State) : ∃ spi rill, s.boxAccess m src index [] act = { act s with spi := spi, rill := rill } := by
  cases src with
  | port =>
    obtain ⟨hp, hr, hh, hm⟩ := h
    exact ⟨_, _, by simp only [State.boxAccess, hp, if_true, State.boxPort_acts hr hh hm]; rfl⟩
  | rill who => exact ⟨_, _, s.boxRill_acts h act⟩

theorem State.boxRefused_eq (s : State) (m : Fin 16) {c : Code} (h : mboxRefusal c = true) :
    s.boxRefused m c = { s with ev := (s.raise (mboxEvent m 3)).ev, log := (s.boxRefused m c).log } := by
  rw [State.boxRefused, if_pos h, State.raiseLog1_eq]

/-! ## What an access does to the mailbox -/

theorem State.mbox_updBox (s : State) (m : Fin 16) (f : Mailbox → Mailbox) : (s.updBox m f).mbox = vset s.mbox m (f (s.box m)) := rfl

theorem State.box_updBox (s : State) (m : Fin 16) (f : Mailbox → Mailbox) : (s.updBox m f).box m = f (s.box m) := vupd_get s.mbox m f

theorem State.mbox_boxPost (s : State) (m : Fin 16) (len : Nat) :
    (s.boxPost m len).mbox = vset s.mbox m { s.box m with inFull := true, inLen := len } := rfl

/-- `t` is `s` with the record `b` of mailbox `m`: the other mailboxes, memory and the Headgate are as they were. -/
def State.BoxOnly (s : State) (m : Fin 16) (b : Mailbox) (t : State) : Prop := t.mbox = vset s.mbox m b ∧ t.mem = s.mem ∧ t.hg = s.hg

/-- A post through the port fills the mailbox, unless a message waits there or was taken in the same cycle. -/
theorem State.boxPost_port {s : State} {m : Fin 16} {len : Nat} {taken : Bool} (h : s.BoxReached m .port 0x0110) (h1 : 1 ≤ len)
    (h2 : len ≤ 256) (hf : (s.box m).postCode taken = []) : Completes (execMboxInboundPost m (.port len) taken s) fun t =>
      s.BoxOnly m { s.box m with inFull := true, inLen := len } t ∧ t.spi.lastCode = .ok ∧ s.raisesOnly t [mboxEvent m 0] := by
  obtain ⟨hp, hr, hh, hm⟩ := h
  have h0 : len ≠ 0 := by omega
  refine ⟨_, rfl, ?_⟩
  simp only [hp, if_true, State.boxPortPost, h0, if_false, Nat.not_lt.2 h2, hf, List.append_nil, State.boxPort_acts hr hh hm]
  exact ⟨⟨rfl, rfl, rfl⟩, rfl, State.raisesOnly_raise (mboxEvent_lt m (by decide)) rfl⟩

/-- An access of the port that is refused with a code that counts leaves the mailbox and raises its refusal's event. -/
theorem State.portCode_boxRefused (s : State) (m : Fin 16) {c : Code} (h : mboxRefusal c = true) :
    let t := State.portCode (s.boxRefused m c, c)
    s.BoxOnly m (s.box m) t ∧ t.spi.lastCode = c ∧ s.raisesOnly t [mboxEvent m 3] := by
  dsimp only [State.portCode]
  rw [s.boxRefused_eq m h]
  exact ⟨⟨(vset_self s.mbox m).symm, rfl, rfl⟩, rfl, State.raisesOnly_raise (mboxEvent_lt m (by decide)) rfl⟩

theorem Mailbox.postCode_free {b : Mailbox} {taken : Bool} (h : ¬ (b.inFull = true ∨ (taken = true ∧ b.tookFull = true))) :
    b.postCode taken = [] := by
  unfold Mailbox.postCode
  simp_all

theorem Mailbox.postCode_full {b : Mailbox} {taken : Bool} (h : b.inFull = true ∨ (taken = true ∧ b.tookFull = true)) :
    b.postCode taken = [.full] := by
  unfold Mailbox.postCode
  simp_all

theorem State.boxPost_port_full {s : State} {m : Fin 16} {len : Nat} {taken : Bool} (h : s.BoxReached m .port 0x0110) (h1 : 1 ≤ len)
    (h2 : len ≤ 256) (hf : (s.box m).postCode taken = [.full]) : Completes (execMboxInboundPost m (.port len) taken s) fun t =>
      s.BoxOnly m (s.box m) t ∧ t.spi.lastCode = .full ∧ s.raisesOnly t [mboxEvent m 3] := by
  obtain ⟨hp, hr, hh, hm⟩ := h
  have h0 : len ≠ 0 := by omega
  have hc : Code.first (s.boxRefusals m false ++ [.full]) = some .full := by simp [State.boxRefusals_port hh hm, Code.first]
  refine ⟨_, rfl, ?_⟩
  simp only [hp, if_true, State.boxPortPost, h0, if_false, Nat.not_lt.2 h2, hf, List.nil_append, State.boxPort_refused hr hc]
  exact s.portCode_boxRefused m rfl

/-- On a secure mailbox the port is denied, whatever it posts (R518, R11). -/
theorem State.boxPost_port_secure {s : State} {m : Fin 16} {len : Nat} (hp : s.portAnswers = true) (hr : s.responder = true)
    (hh : s.homeOn m = true) (hm : m.val < 8) : Completes (execMboxInboundPost m (.port len) false s) fun t =>
      s.BoxOnly m (s.box m) t ∧ t.spi.lastCode = .deniedAuth ∧ s.raisesOnly t [mboxEvent m 3] := by
  have hc : Code.first (s.boxRefusals m false ++ if len = 0 then [] else (if 256 < len then [Code.badRange] else []) ++
      (s.box m).postCode false) = some .deniedAuth := by
    rw [show s.boxRefusals m false = [.deniedAuth] by simp [State.boxRefusals, hh, hm], Mailbox.postCode]
    split
    · rfl
    · split <;> split <;> rfl
  refine ⟨_, rfl, ?_⟩
  simp only [hp, if_true, State.boxPortPost, State.boxPort_refused hr hc]
  exact s.portCode_boxRefused m rfl

theorem State.boxPost_rill {s : State} {m : Fin 16} {who : Requester} {data : List Byte} (h : s.BoxReached m (.rill who) 0x0110)
    (h1 : 1 ≤ data.length) (h2 : data.length ≤ 256) (hf : (s.box m).inFull = false) :
    Completes (execMboxInboundPost m (.rill who data) false s) fun t =>
      s.BoxOnly m { s.box m with inBuf := putBytes (s.box m).inBuf 0 data, inFull := true, inLen := data.length } t ∧
      t.rill.lastCode = .ok ∧ s.raisesOnly t [mboxEvent m 0] := by
  have h0 : data.length ≠ 0 := by omega
  refine ⟨_, rfl, ?_⟩
  simp only [State.boxRillPost, h0, if_false, Nat.not_lt.2 h2, Mailbox.postCode, hf, Bool.false_and, Bool.or_self, Bool.false_eq_true,
    List.append_nil, State.boxRill_acts h]
  refine ⟨⟨?_, rfl, rfl⟩, rfl, State.raisesOnly_raise (mboxEvent_lt m (by decide)) rfl⟩
  show State.mbox (State.boxPost _ m _) = _
  rw [State.mbox_boxPost, State.box_updBox, State.mbox_updBox, vset_vset]

/-- An access from outside that is let in changes its mailbox alone and raises what its act raises. -/
theorem State.boxAccess_only {s : State} {m : Fin 16} {src : MboxFrom} {index : Nat} {act : State → State} {b : Mailbox}
    {P : State → Prop} (h : s.BoxReached m src index) (hb : s.BoxOnly m b (act s)) (hP : ∀ t : State, t.ev = (act s).ev → P t) :
    Completes (.next (s.boxAccess m src index [] act)) fun t => s.BoxOnly m b t ∧ P t := by
  obtain ⟨spi, rill, e⟩ := s.boxAccess_reached h act
  refine ⟨_, rfl, ?_⟩
  rw [e]
  exact ⟨hb, hP _ rfl⟩

theorem State.execMboxOutAck_only {s : State} {m : Fin 16} {src : MboxFrom} (h : s.BoxReached m src 0x0112)
    (hf : (s.box m).outFull = true) : Completes (execMboxOutAck m src false s) fun t =>
      s.BoxOnly m { s.box m with outFull := false } t ∧ s.raisesOnly t [mboxEvent m 2] := by
  refine State.boxAccess_only h ?_ fun t ht => State.raisesOnly_raise (mboxEvent_lt m (by decide)) (ht.trans ?_)
  all_goals simp only [Bool.false_eq_true, if_false, State.boxAck, hf, if_true]
  · exact ⟨rfl, rfl, rfl⟩
  · rfl

theorem State.execMboxOutAck_earlier {s : State} {m : Fin 16} {src : MboxFrom} (h : s.BoxReached m src 0x0112)
    (hf : (s.box m).postFound = true) : Completes (execMboxOutAck m src true s) fun t =>
      s.BoxOnly m { s.box m with postFound := false } t ∧ s.raisesOnly t [mboxEvent m 2] := by
  refine State.boxAccess_only h ?_ fun t ht => State.raisesOnly_raise (mboxEvent_lt m (by decide)) (ht.trans ?_)
  all_goals simp only [State.boxAckEarlier, hf, if_true]
  · exact ⟨rfl, rfl, rfl⟩
  · rfl

theorem State.execMboxOutClear_only {s : State} {m : Fin 16} {src : MboxFrom} {mask setting : Word} (h : s.BoxReached m src 0x0114) :
    Completes (execMboxOutClear m src mask setting s) fun t =>
      s.BoxOnly m { s.box m with outBits := (s.box m).outBits &&& ~~~ (mask &&& ~~~ setting) } t ∧ t.ev = s.ev :=
  State.boxAccess_only h ⟨rfl, rfl, rfl⟩ fun _ ht => ht

theorem State.execMboxInRing_only {s : State} {m : Fin 16} {src : MboxFrom} {mask : Word} (h : s.BoxReached m src 0x0113) :
    Completes (execMboxInRing m src mask s) fun t => s.BoxOnly m { s.box m with inBits := (s.box m).inBits ||| mask } t ∧
      s.raisesOnly t (if mask &&& (s.box m).inMask = 0 then [] else [mboxEvent m 1]) := by
  refine State.boxAccess_only h ?_ fun t ht => ?_
  · rw [State.boxRing, State.raiseIf_eq]
    exact ⟨rfl, rfl, rfl⟩
  · unfold State.boxRing State.raiseIf at ht
    by_cases hm : mask &&& (s.box m).inMask = 0
    · rw [if_neg (by simp [hm])] at ht
      rw [if_pos hm]
      exact State.raisesOnly_nil ht
    · rw [if_pos (by simpa using hm)] at ht
      rw [if_neg hm]
      exact State.raisesOnly_raise (mboxEvent_lt m (by decide)) ht

/-! ## Register writes -/

/-- The loads that a write to SRAM closes write the channels' staged descriptors alone. -/
theorem State.closeLoads_eq (s : State) : s.closeLoads = { s with chans := s.closeLoads.chans } := by
  unfold State.closeLoads
  refine State.foldl_inv (fun t => t = { s with chans := t.chans }) _ ?_ _ s rfl
  intro t c ht
  dsimp only
  split
  · split
    · rw [ht]
      rfl
    · exact ht
  · exact ht


/-- A register write that the bus refuses is a bus error at its aligned address and changes nothing else. -/
theorem State.execRegisterWrite_refused {s : State} {k : CoreId} {addr value : Word} {c : Code}
    (h : s.quiet.busRefusal k true (addr.toNat / 4 * 4) = some c) :
    execRegisterWrite k addr value s = .next (s.quiet.busError k (addr.toNat / 4 * 4) c) := by
  simp [execRegisterWrite, State.meetsUndescribed, State.busWrite, h]

/-- A register write that the bus lets through writes its area, and ends with a bus error where that answers a code. -/
theorem State.execRegisterWrite_area {s : State} {k : CoreId} {addr value : Word} {x : Area}
    (h : s.quiet.busRefusal k true (addr.toNat / 4 * 4) = none) (hx : areaOf (addr.toNat / 4 * 4) = some x)
    (hu : undescribed x = false) :
    execRegisterWrite k addr value s = .next (s.quiet.busEnd k (addr.toNat / 4 * 4)
      (s.quiet.areaWrite k (addr.toNat / 4 * 4) 4 value.toNat x)) := by
  simp [execRegisterWrite, State.meetsUndescribed, State.busWrite, h, hx, hu]

theorem State.load_store (s : State) (a n v : Nat) : (s.store a (leBytes n v)).load a n = v % 2 ^ (8 * n) := by
  have h := Memory.readN_write s.mem a (leBytes n v)
  rw [leBytes_length] at h
  exact (congrArg leNat h).trans (leNat_leBytes n v)

theorem State.areaWrite_sram (s : State) (k : CoreId) (a n v b : Nat) :
    s.areaWrite k a n v (.sram b) = (s.closeLoads.store a (leBytes n v), .ok) := rfl

theorem State.busEnd_ok (s t : State) (k : CoreId) (a : Nat) : s.busEnd k a (t, .ok) = t := rfl

/-- A register write to secure SRAM stores the word and changes no other byte. -/
theorem State.execRegisterWrite_sram {s : State} {k : CoreId} {addr value : Word} {b : Nat}
    (h : s.quiet.busRefusal k true (addr.toNat / 4 * 4) = none) (hx : areaOf (addr.toNat / 4 * 4) = some (.sram b)) :
    let a := addr.toNat / 4 * 4
    Completes (execRegisterWrite k addr value s) fun t =>
      t.load a 4 = value.toNat ∧ (∀ x, (x < a ∨ a + 4 ≤ x) → t.byte x = s.byte x) ∧ t.hg = s.hg ∧ t.ev = s.ev := by
  intro a
  have e := State.execRegisterWrite_area (value := value) h hx rfl
  rw [State.areaWrite_sram, State.busEnd_ok, State.closeLoads_eq] at e
  refine ⟨_, e, ?_, fun x hb => ?_, State.store_hg _ _ _, State.store_ev _ _ _⟩
  · exact (State.load_store _ _ _ _).trans (Nat.mod_eq_of_lt value.isLt)
  · rw [State.store_byte_out _ _ _ _ (by rwa [leBytes_length])]
    simp only [State.byte, State.quiet]

/-- A register write at a block does what the block's registers do, and is a bus error where they answer a code. -/
theorem State.execRegisterWrite_block {s : State} {k : CoreId} {addr value : Word} {b : Nat}
    (h : s.quiet.busRefusal k true (addr.toNat / 4 * 4) = none) (hx : areaOf (addr.toNat / 4 * 4) = some (.block b))
    (hu : undescribed (.block b) = false) :
    execRegisterWrite k addr value s = .next (s.quiet.busEnd k (addr.toNat / 4 * 4)
      (s.quiet.blockWrite k b (addr.toNat / 4 * 4 % 0x10000) value)) := by
  rw [State.execRegisterWrite_area h hx hu]
  have ho : addr.toNat / 4 * 4 % 0x10000 / 4 * 4 = addr.toNat / 4 * 4 % 0x10000 := by omega
  have hw : s.quiet.mergeWord k (addr.toNat / 4 * 4) 4 value.toNat (.block b) = value := by
    rw [State.mergeWord, if_pos rfl, BitVec.ofNat_toNat, BitVec.setWidth_eq]
  dsimp only [State.areaWrite]
  rw [hw, ho]

/-! ## The statement's parts -/

/-- The home side of a mailbox (R519 to R523): what its core does, and the bus error where it may not or another core asks. -/
theorem State.homeSide {s : State} {m : Fin 16} {k : CoreId} (hd : s.domOn 28 = true) (hh : s.homeOn m = true)
    (hc : s.homeCore m k = true) :
    (∀ v : Word, v.getLsbD 0 = true →
      exec (.mboxTake k m v) s = .next (s.updBox m fun b => { b with inFull := false, tookFull := b.inFull })) ∧
    (∀ v : Word, 1 ≤ v.toNat % 512 → v.toNat % 512 ≤ 256 →
      (∀ acked : Bool, ((s.box m).outFull = true → acked = true) → exec (.mboxPost k m v acked) s = .next (s.updBox m fun b =>
        { b with outFull := true, outLen := v.toNat % 512, postFound := b.outFull })) ∧
      ((s.box m).outFull = true → Completes (exec (.mboxPost k m v false) s) fun t =>
        t.mbox = s.mbox ∧ s.raisesOnly t [1487 + 2 * k.val])) ∧
    (∀ v w : Word, exec (.mboxInClear k m v w) s = .next (s.updBox m fun b => { b with inBits := b.inBits &&& ~~~ (v &&& ~~~ w) }) ∧
      exec (.mboxOutSet k m v) s = .next (s.updBox m fun b => { b with outBits := b.outBits ||| v })) := by
  have acts := fun act => State.homeAccess_acts hd hh hc act
  refine ⟨fun v hv => ?_, fun v h1 h2 => ?_, fun v w => ⟨?_, ?_⟩⟩
  · simp [exec, execMboxTake, State.mboxTake, acts, State.busEnd, hv]
  · have hr : ¬ (v.toNat % 512 = 0 ∨ 256 < v.toNat % 512) := by omega
    refine ⟨fun acked ha => ?_, fun hf => ?_⟩
    · have hf : ((s.box m).outFull && ! acked) = false := by cases hb : (s.box m).outFull <;> simp_all
      simp [exec, execMboxPost, State.mboxPost, hr, hf, acts, State.busEnd]
    · obtain ⟨c, hc, e⟩ := State.homeAccess_refused (s := s) (k := k) (m := m) (own := [.full]) (.inr (by simp)) (by simp)
        fun s => s.updBox m fun b => { b with outFull := true, outLen := v.toNat % 512, postFound := b.outFull }
      simp only [exec, execMboxPost, State.mboxPost, hr, if_false, hf, Bool.not_false, Bool.and_self, if_true, List.nil_append, e]
      exact State.busEnd_refused hc
  · simp [exec, execMboxInClear, State.mboxInClear, acts, State.busEnd]
  · simp [exec, execMboxOutSet, State.mboxOutSet, acts, State.busEnd]

/-- Any core that is not of the home has a bus error instead. -/
theorem State.homeSide_other {s : State} {m : Fin 16} {k : CoreId} (hc : s.homeCore m k = false) (v w : Word) (x : Bool) :
    ∀ i ∈ [Instr.mboxTake k m v, .mboxPost k m v x, .mboxInClear k m v w, .mboxOutSet k m v],
      Completes (exec i s) fun t => t.mbox = s.mbox ∧ s.raisesOnly t [1487 + 2 * k.val] := by
  have refused : ∀ (a : Nat) (own : List Code) (act : State → State), Code.ok ∉ own →
      Completes (.next (s.busEnd k a (s.homeAccess k m own act))) fun t => t.mbox = s.mbox ∧ s.raisesOnly t [1487 + 2 * k.val] := by
    intro a own act hok
    obtain ⟨c, hc, e⟩ := State.homeAccess_refused (.inl hc) hok act
    rw [e]
    exact State.busEnd_refused hc
  simp only [List.mem_cons, List.not_mem_nil, or_false, forall_eq_or_imp, forall_eq]
  refine ⟨refused _ _ _ (by simp), refused _ _ _ ?_, refused _ _ _ (by simp), refused _ _ _ (by simp)⟩
  simp only [List.mem_append, not_or]
  constructor <;> split <;> simp

/-- Settles O48: the home side, the accesses from outside, and the register writes, each by its own lemma. -/
theorem mailboxesAndRegisterWrites : Obligations.MailboxesAndRegisterWrites := by
  intro s u
  refine ⟨fun m k hd hh => ⟨fun hc => State.homeSide hd hh hc, fun hc v w x => State.homeSide_other hc v w x⟩, fun m => ?_,
    fun k addr value => ⟨fun c hc => ?_, fun b h hx => State.execRegisterWrite_sram h hx, fun b r h hx hu hr => ⟨fun e => ?_, fun e => ?_⟩⟩⟩
  · refine ⟨fun len taken h h1 h2 => ⟨fun hf => ?_, fun hf => ?_⟩, fun len hp hr hh hm => State.boxPost_port_secure hp hr hh hm,
      fun who data h h1 h2 hf => State.boxPost_rill h h1 h2 hf, fun src => ⟨fun h => ⟨fun hf => ?_, fun hf => ?_⟩, fun mask setting =>
      ⟨fun h => ?_, fun h => ?_⟩⟩⟩
    · exact State.boxPost_port h h1 h2 (Mailbox.postCode_free hf)
    · exact State.boxPost_port_full h h1 h2 (Mailbox.postCode_full hf)
    · exact State.execMboxOutAck_only (by cases src <;> exact h) hf
    · exact State.execMboxOutAck_earlier (by cases src <;> exact h) hf
    · exact State.execMboxOutClear_only (by cases src <;> exact h)
    · exact State.execMboxInRing_only (by cases src <;> exact h)
  · refine ⟨_, State.execRegisterWrite_refused hc, ?_, ?_⟩
    · exact State.busError_eq _ _ _ _
    · exact ⟨(u.busError_cores k _ c).1, (u.busError_cores k _ c).2, u.busError_raisesOnly k _ c⟩
  · subst hr
    exact (State.execRegisterWrite_block h hx hu).trans (by rw [State.busEnd, if_pos e])
  · subst hr
    refine ⟨_, (State.execRegisterWrite_block h hx hu).trans (by rw [State.busEnd, if_neg e]), u.busError_raisesOnly k _ _, ?_⟩
    rw [State.busError_eq]
    exact ⟨rfl, rfl⟩

end Sys2Proof.Machine
end

section
/-!
PROOF. O22: verdict posts, CONFIRM_DISARM and the end of the confirm timer.
-/
namespace Sys2Proof.Machine

/-! ## What the journal's functions write -/

/-- `t` is `s` but for the journal, the memory and the cores, whose reservations a write to memory ends. -/
def State.JournalOnly (s t : State) : Prop := t = { s with cores := t.cores, upd := t.upd, mem := t.mem }

theorem State.JournalOnly.trans {s t u : State} (h₁ : s.JournalOnly t) (h₂ : t.JournalOnly u) : s.JournalOnly u := by
  unfold State.JournalOnly at *
  rw [h₂, h₁]

theorem State.JournalOnly.hg {s t : State} (h : s.JournalOnly t) : t.hg = s.hg := by
  unfold State.JournalOnly at h
  rw [h]

theorem State.putRec_journalOnly (s : State) (r : JRec) : s.JournalOnly (s.putRec r) := rfl

theorem State.rawAppend_journalOnly (s : State) (r : JRec) : s.JournalOnly (s.rawAppend r) := rfl

theorem State.erase_journalOnly (s : State) (a n : Nat) : s.JournalOnly (s.erase a n) := rfl

theorem State.journalCompact_journalOnly (s : State) : s.JournalOnly s.journalCompact := by
  unfold State.journalCompact
  refine .trans (.trans (State.foldl_inv s.JournalOnly State.putRec ?_ _ _ ?_) (State.rawAppend_journalOnly _ _))
    (State.erase_journalOnly _ _ _)
  · exact fun t r h => h.trans (t.putRec_journalOnly r)
  · exact rfl

theorem State.bankHeader_journalOnly (s : State) : s.JournalOnly s.bankHeader := by
  unfold State.bankHeader
  split
  · exact s.rawAppend_journalOnly _
  · rfl

theorem State.noteRec_journalOnly (s : State) (r : JRec) (n : Nat) : s.JournalOnly (s.noteRec r n) := by
  unfold State.noteRec
  split <;> rfl

theorem State.compactIfDue_journalOnly (s : State) : s.JournalOnly s.compactIfDue := by
  unfold State.compactIfDue
  split
  · exact s.journalCompact_journalOnly
  · rfl

/-- An append writes the journal, the eFlash that holds it and the reservations there. -/
theorem State.appendRec_journalOnly (s : State) (r : JRec) : s.JournalOnly (s.appendRec r) :=
  s.bankHeader_journalOnly.trans <| (State.rawAppend_journalOnly _ _).trans <| (State.noteRec_journalOnly _ _ _).trans <|
    State.compactIfDue_journalOnly _

/-- A step that waits joins the queue behind the journal, and a closed gate is logged. -/
theorem State.queueStep_eq (s : State) (g : GateStep) :
    s.queueStep g = { s with log := (s.queueStep g).log, upd := (s.queueStep g).upd } := by
  unfold State.queueStep State.gateWait
  split
  · rfl
  · rw [State.logLimited_eq]
    rfl

theorem State.queueStep_upd (s : State) (g : GateStep) :
    (s.queueStep g).upd.waiting = s.upd.waiting ++ [g] ∧ (s.queueStep g).upd.journal = s.upd.journal := by
  unfold State.queueStep State.gateWait
  split
  · exact ⟨rfl, rfl⟩
  · rw [State.logLimited_eq]
    exact ⟨rfl, rfl⟩

/-! ## A switch that was left over leaves the Headgate -/

theorem State.setChan_hg (s : State) (c : ChanId) (st : ChanState) : (s.setChan c st).hg = s.hg := by rw [State.setChan_eq]

theorem State.recoveredMatches_hg (s : State) (t : Target) : (s.recoveredMatches t).hg = s.hg := by
  unfold State.recoveredMatches
  split
  · split
    · exact s.setChan_hg _ _
    · rfl
  · rfl

theorem State.startSwitch_hg (s : State) (c : ChanId) : (s.startSwitch c).hg = s.hg := by
  have ofCode : Target.ofCode (s.stepRec (.chan c) .switched).target = some (.chan c) := by
    show Target.ofCode c.val = _
    rw [Target.ofCode, dif_pos c.isLt]
  have after : ∀ t : State, (t.afterRec (s.stepRec (.chan c) .switched)).hg = t.hg := by
    intro t
    unfold State.afterRec
    rw [ofCode]
    exact State.recoveredMatches_hg _ _
  unfold State.startSwitch State.switchCheck State.journalStep
  dsimp only
  split
  · split
    · split
      · rw [after, (State.appendRec_journalOnly _ _).hg]
      · rw [State.queueStep_eq]
    · rfl
  · rfl

/-! ## A verdict post -/

theorem Both.get_set {α : Type} (b : Both α) (h : Half) (v : α) : (b.set h v).get h = v := by cases h <;> rfl

/-- The state with a half's verdict of a VPOST value stored (R320). -/
def State.posted (s : State) (h : Half) (v : Word) : State :=
  { s with hg := { s.hg with
      verdicts := s.hg.verdicts.upd h fun vs => vset vs (vpostChan v)
        (some ⟨s.hg.vroot.get h, BitVec.ofNat 16 v.toNat, BitVec.ofNat 8 (v.toNat / 2 ^ 24)⟩)
      vpostBusy := s.hg.vpostBusy.set h (s.time + usNs)
      vpostStatus := s.hg.vpostStatus.set h (BitVec.ofNat 32 Code.ok.num) } }

/-- A post that R320 admits: a mode that takes verdicts, no warm restart, a shared code, the last post stored. -/
def State.takesPost (s : State) (h : Half) (v : Word) : Prop :=
  s.dev.mode.running = true ∧ s.hg.warm = false ∧ (Code.ofNum (v.toNat / 2 ^ 24)).isSome = true ∧ s.hg.vpostBusy.get h ≤ s.time

theorem State.vpostStore_takes {s : State} {h : Half} {v : Word} (ht : s.takesPost h v) : s.vpostStore h v = (s.posted h v, .ok) := by
  obtain ⟨hm, hw, hc, hb⟩ := ht
  have hn : (Code.ofNum (v.toNat / 2 ^ 24)).isNone = false := by simpa using hc
  unfold State.vpostStore
  rw [if_neg (by simp [hm, hw]), if_neg (by rw [hn]; decide), if_neg (Nat.not_lt.2 hb)]
  rfl

/-- The record of a post's code (R205) is the log's alone. -/
theorem State.corePostRecord_eq (s : State) (h : Half) (v : Word) :
    s.corePostRecord h v = { s with log := (s.corePostRecord h v).log } := by
  unfold State.corePostRecord
  split
  · split <;> rfl
  · rfl

theorem execVpost_takes {s : State} {h : Half} {v : Word} (ht : s.takesPost h v) :
    ∃ log, execVpost h v s = .next (((({ s with log := log } : State).posted h v).afterPost (vpostChan v)).startSwitch (vpostChan v)) := by
  have e := s.corePostRecord_eq h v
  generalize (s.corePostRecord h v).log = log at e
  refine ⟨log, ?_⟩
  unfold execVpost
  rw [e, State.vpost, State.vpostStore_takes (s := { s with log := log }) ht]
  rfl

theorem State.verdictConflict_congr {s t : State} (h : t.hg.verdicts = s.hg.verdicts) (c : ChanId) :
    t.verdictConflict c = s.verdictConflict c := by
  unfold State.verdictConflict State.verdictOf
  rw [h]

theorem State.verdictsRelease_congr {s t : State} (h : t.hg.verdicts = s.hg.verdicts) (hc : t.chans = s.chans) (c : ChanId) :
    t.verdictsRelease c = s.verdictsRelease c := by
  unfold State.verdictsRelease State.chan
  rw [h, hc]

theorem State.noteGolden_eq (s : State) (c : ChanId) : s.noteGolden c = { s with cis := (s.noteGolden c).cis } := by
  unfold State.noteGolden
  dsimp only
  split <;> rfl

theorem State.needRecovery_hg (s : State) (c : ChanId) : (s.needRecovery c).hg = s.hg := by
  unfold State.needRecovery
  split <;> rfl

/-- What follows a post without a conflict writes of the Headgate the mark of a verification anew alone. -/
theorem State.afterPost_hg (s : State) (c : ChanId) (h : s.verdictConflict c = false) :
    (s.afterPost c).hg = { s.hg with reverify := (s.afterPost c).hg.reverify } := by
  unfold State.afterPost
  rw [h]
  dsimp only
  split
  · contradiction
  split
  · split
    · rw [State.noteGolden_eq, State.setChan_eq]
    · rfl
  split
  · split
    · rw [State.needRecovery_hg]
    · rfl
  · rfl

/-- Two verdicts that release a FILLING channel make it HELD, outside the freeze form (R39, R41). -/
theorem State.afterPost_held {s : State} {c : ChanId} (h : s.verdictConflict c = false) (hr : s.verdictsRelease c = true)
    (hf : (s.chan c).state = .filling) (hz : s.dev.form ≠ .freeze) :
    ((s.afterPost c).chan c).state = .held ∧ (s.afterPost c).upd = s.upd := by
  let u : State := { s with hg := { s.hg with reverify := vset s.hg.reverify c false } }
  have e : s.afterPost c = (u.setChan c .held).noteGolden c := by
    unfold State.afterPost
    rw [h, hr]
    exact if_pos hf
  have hs : u.setChan c .held = (u.enterChan c .held).copyState c .held := if_neg (by
    rintro (hx | ⟨hx, -⟩)
    · exact absurd (hf.symm.trans hx) (by decide)
    · exact hz hx)
  rw [e, State.noteGolden_eq]
  constructor
  · show ((u.setChan c .held).chan c).state = _
    rw [hs, State.chan, State.copyState_chans]
    exact State.enterChan_chan_state u c .held
  · show (u.setChan c .held).upd = _
    rw [State.setChan_eq]

theorem State.verifyChan_hg (s : State) (c : ChanId) : (s.verifyChan c).hg = s.hg := by
  unfold State.verifyChan
  dsimp only
  split <;> rfl

/-- The first conflict clears both verdicts and marks the verification anew (R46). -/
theorem State.afterPost_conflict {s : State} {c : ChanId} (h : s.verdictConflict c = true) (hr : s.hg.reverify[c] = false) :
    (s.afterPost c).hg = { (s.clearVerdicts c).hg with reverify := vset s.hg.reverify c true } := by
  unfold State.afterPost State.conflict
  rw [if_pos h, if_neg (by simp [hr])]
  dsimp only
  split
  · rfl
  · exact State.verifyChan_hg _ c

/-- A post that is taken is stored with its generation and VROOT; without a conflict it stands, and a release makes the channel HELD. -/
theorem State.vpost_stored {s : State} {half : Half} {v : Word} (ht : s.takesPost half v)
    (hc : (s.posted half v).verdictConflict (vpostChan v) = false) : Completes (execVpost half v s) fun t =>
      t.hg.verdicts = (s.posted half v).hg.verdicts ∧ t.hg.vpostStatus.get half = 0 ∧ t.hg.vpostBusy.get half = s.time + 1000 ∧
      t.hg.out = s.hg.out ∧ ((s.posted half v).verdictsRelease (vpostChan v) = true → (s.chan (vpostChan v)).state = .filling →
        s.dev.form ≠ .freeze → (s.target (.chan (vpostChan v))).state ≠ 5 → (t.chan (vpostChan v)).state = .held) := by
  obtain ⟨log, e⟩ := execVpost_takes ht
  generalize hp : ({ s with log := log } : State).posted half v = p at e
  have hg : p.hg = (s.posted half v).hg := by rw [← hp]; rfl
  have hpc : p.verdictConflict (vpostChan v) = false := (State.verdictConflict_congr (by rw [hg]) _).trans hc
  refine ⟨_, e, ?_⟩
  beta_reduce
  rw [State.startSwitch_hg, State.afterPost_hg p _ hpc, hg]
  refine ⟨rfl, Both.get_set _ _ _, Both.get_set _ _ _, rfl, fun hr hf hz h5 => ?_⟩
  have hpr : p.verdictsRelease (vpostChan v) = true := by
    rw [← hr]
    exact State.verdictsRelease_congr (by rw [hg]) (by rw [← hp]; rfl) _
  obtain ⟨held, upd⟩ := State.afterPost_held hpc hpr (by rw [← hp]; exact hf) (by rw [← hp]; exact hz)
  have h5' : ((p.afterPost (vpostChan v)).target (.chan (vpostChan v))).state ≠ 5 := by
    rw [State.target, upd, ← hp]
    exact h5
  rw [State.startSwitch, if_neg fun hx => h5' hx.1]
  exact held

/-- A post whose verdict conflicts for the first time has both cleared. -/
theorem State.vpost_conflict {s : State} {half : Half} {v : Word} (ht : s.takesPost half v)
    (hc : (s.posted half v).verdictConflict (vpostChan v) = true) (hr : s.hg.reverify[vpostChan v] = false) :
    Completes (execVpost half v s) fun t => t.hg.vpostStatus.get half = 0 ∧ (∀ h : Half, (t.hg.verdicts.get h)[vpostChan v] = none) ∧
      t.hg.reverify[vpostChan v] = true ∧ t.hg.out = s.hg.out := by
  obtain ⟨log, e⟩ := execVpost_takes ht
  generalize hp : ({ s with log := log } : State).posted half v = p at e
  have hg : p.hg = (s.posted half v).hg := by rw [← hp]; rfl
  have hpc : p.verdictConflict (vpostChan v) = true := (State.verdictConflict_congr (by rw [hg]) _).trans hc
  refine ⟨_, e, ?_⟩
  beta_reduce
  rw [State.startSwitch_hg, State.afterPost_conflict hpc (by rw [hg]; exact hr), State.clearVerdicts, hg]
  refine ⟨Both.get_set _ _ _, fun h => ?_, vset_get _ _ _, rfl⟩
  cases h <;> exact vset_get _ _ _

/-! ## CONFIRM_DISARM and the confirm timer -/

/-- A write of CONFIRM_DISARM by the steward reaches the register (R333). -/
theorem State.execConfirmDisarm_steward {s : State} {half : Half} {v : Word} (hd : s.domOn 1 = true) (hst : s.isSteward half = true) :
    execConfirmDisarm half v s = .next (if v.getLsbD 0 then
      let t := if s.quiet.trialUnconfirmed then s.quiet.confirmTrial else s.quiet
      { t with hg := { t.hg with confirm := none } } else s.quiet) :=
  congrArg Host.Outcome.next (State.halfBus_acts s.quiet half _ _ _ _ hd fun _ => hst)

/-- The mode when an update of the device's own firmware ends is not UPDATE, and no output changes. -/
theorem State.updateModeEnds_leaves (s : State) : s.updateModeEnds.dev.mode ≠ .update ∧ s.updateModeEnds.hg.out = s.hg.out := by
  have leaves : ∀ m : DevMode, s.dev.mode = .update → DevMode.update.mayBecome m = true →
      (s.setMode m 6).dev.mode = m ∧ (s.setMode m 6).hg = s.hg := by
    intro m hu hm
    rcases s.setMode_cases m 6 with ⟨-, e⟩ | ⟨hn, -⟩
    · rw [e]
      exact ⟨rfl, rfl⟩
    · rw [hu, hm] at hn
      cases hn
  unfold State.updateModeEnds
  split
  · exact ⟨‹_›, rfl⟩
  · next hu =>
    obtain ⟨hg, og⟩ := leaves .guard (not_not.1 hu) rfl
    obtain ⟨hh, oh⟩ := leaves .hold (not_not.1 hu) rfl
    split
    · exact ⟨by rw [hg]; decide, by rw [og]⟩
    · exact ⟨by rw [hh]; decide, by rw [oh]⟩

theorem State.target_setUpd (s : State) (t : Target) (st : Nat) : ((s.setUpd t st).target t).state = st :=
  congrArg TargetUpd.state (vupd_get s.upd.targets t.idx _)

/-- The trial's record under the open gate ends the update of mission firmware; a closed gate has it wait (R237, R228). -/
theorem State.confirmTrial_cases (s : State) :
    (s.mayStart (.journal (JRec.of .confirm Target.mission.code)) = true ∧
      (s.confirmTrial.target .mission).state = 6 ∧ s.confirmTrial.dev.mode ≠ .update ∧ s.confirmTrial.hg.out = s.hg.out) ∨
    (s.mayStart (.journal (JRec.of .confirm Target.mission.code)) = false ∧
      s.confirmTrial.upd.waiting.length = s.upd.waiting.length + 1 ∧ s.confirmTrial.upd.journal = s.upd.journal ∧
      s.confirmTrial.dev = s.dev) := by
  let r : JRec := { JRec.of .confirm Target.mission.code with refSeq := s.boot.commitSeq, svn := s.boot.svn, root := s.boot.root }
  have hr : s.mayStart (.journal r) = s.mayStart (.journal (JRec.of .confirm Target.mission.code)) := rfl
  rw [← hr]
  cases hm : s.mayStart (.journal r)
  · have e : s.confirmTrial = s.queueStep (.journal r) := if_neg (by simpa using hm)
    obtain ⟨hw, hj⟩ := s.queueStep_upd (.journal r)
    exact .inr ⟨rfl, by rw [e, hw, List.length_append]; rfl, by rw [e, hj], by rw [e, State.queueStep_eq]⟩
  · have e : s.confirmTrial = ((s.appendRec r).updateModeEnds).setUpd .mission 6 := if_pos hm
    obtain ⟨hmode, hout⟩ := (s.appendRec r).updateModeEnds_leaves
    refine .inl ⟨rfl, ?_, by rw [e]; exact hmode, ?_⟩
    · rw [e, State.target_setUpd]
    · rw [e]
      exact hout.trans (congrArg Headgate.out (s.appendRec_journalOnly r).hg)

/-- A full reset leaves the mode COLD with its cause, the phase given, and the Headgate as at reset (R33). -/
theorem State.fullReset_leaves (s : State) (aonKept : Bool) (cause : Nat) (phase : BootPhase) :
    let t := s.fullReset aonKept cause phase
    t.dev.mode = .cold ∧ t.dev.cause = cause ∧ t.boot.phase = phase ∧ t.hg = Headgate.reset := by
  unfold State.fullReset
  dsimp only
  simp only [State.logRec_dev, State.logRec_boot, State.logRec_hg]
  refine State.foldl_inv (fun t => t.dev.mode = .cold ∧ t.dev.cause = cause ∧ t.boot.phase = phase ∧ t.hg = Headgate.reset) _ ?_ _ _
    ⟨rfl, rfl, rfl, rfl⟩
  intro t c ht
  split <;> exact ht

/-- The state when the confirm timer ends: its event raised and logged, the timer disarmed (R238). -/
def State.timerEnded (s : State) (d : Nat) : State :=
  let t := (s.advanceTo d).raiseLog 1515 []
  { t with hg := { t.hg with confirm := none } }

theorem State.confirmExpired_armed {s : State} {d : Nat} (h : s.hg.confirm = some d) :
    s.confirmExpired = if s.dev.mode = .update then { s.timerEnded d with boot := { s.boot with warmAsked := true } }
      else if s.dev.mode = .quarantine then s.timerEnded d else (s.timerEnded d).internalReset 0 := by
  unfold State.confirmExpired
  rw [h]
  rfl

theorem State.timerEnded_pending (s : State) (d : Nat) : (s.timerEnded d).isPending 1515 = true := by
  have h := (s.advanceTo d).raise_pending_bit 1515 1515 (by decide)
  exact h.trans (by simp)

/-- Settles O22: a post by `State.vpost_stored` and `State.vpost_conflict`, CONFIRM_DISARM by what the register and the journal do, the
timer's end by the mode it finds. -/
theorem verdictPostsAndConfirmTimer : Obligations.VerdictPostsAndConfirmTimer := by
  intro s half v u
  refine ⟨fun hm hw hb hc => ⟨fun h => State.vpost_stored ⟨hm, hw, hc, hb⟩ h, fun h hr => State.vpost_conflict ⟨hm, hw, hc, hb⟩ h hr⟩,
    fun hd hst => ?_, fun h => ?_, fun d h => ⟨fun hm => ?_, fun hm => ?_, fun hu hq => ?_⟩⟩
  · have e := State.execConfirmDisarm_steward (v := v) hd hst
    refine ⟨fun h0 => ?_, fun h0 hn => ?_, fun h0 hy => ⟨fun hg => ?_, fun hg => ?_⟩⟩
    · exact e.trans (by rw [h0]; rfl)
    · have hn' : s.quiet.trialUnconfirmed = false := hn
      exact e.trans (by rw [h0, hn']; rfl)
    all_goals
      have hy' : s.quiet.trialUnconfirmed = true := hy
      rw [h0, hy'] at e
      refine ⟨_, e, rfl, ?_⟩
    · rcases s.quiet.confirmTrial_cases with ⟨-, h6, hmode, hout⟩ | ⟨hn, -⟩
      · exact ⟨h6, hmode, hout⟩
      · exact absurd (hg.symm.trans hn) (by decide)
    · rcases s.quiet.confirmTrial_cases with ⟨hn, -⟩ | ⟨-, hw, hj, hdev⟩
      · exact absurd (hg.symm.trans hn) (by decide)
      · exact ⟨hw, hj, hdev⟩
  · show Host.Outcome.next s.quiet.confirmExpired = _
    rw [State.confirmExpired, show s.quiet.hg.confirm = none from h]
  all_goals
    have e : exec .confirmTimerExpired s = .next s.quiet.confirmExpired := rfl
    rw [State.confirmExpired_armed (show s.quiet.hg.confirm = some d from h)] at e
  · rw [if_pos (show s.quiet.dev.mode = .update from hm)] at e
    exact ⟨_, e, rfl, rfl, rfl, s.quiet.timerEnded_pending d, rfl, rfl⟩
  · rw [if_neg (by rw [show s.quiet.dev.mode = .quarantine from hm]; decide), if_pos (show s.quiet.dev.mode = .quarantine from hm)] at e
    exact ⟨_, e, rfl, rfl, rfl, s.quiet.timerEnded_pending d, rfl, rfl⟩
  · rw [if_neg (show s.quiet.dev.mode ≠ .update from hu), if_neg (show s.quiet.dev.mode ≠ .quarantine from hq)] at e
    exact ⟨_, e, State.fullReset_leaves _ _ _ _⟩

end Sys2Proof.Machine
end

section
/-!
PROOF. Laws of the host commands (O1, O2): what the measuring at a command's start writes, and which of a command's meanings its framing
and the emulated state choose (R77-R80, R82, R84).
-/
namespace Sys2Proof.Machine

/-! ## Ports and events -/

theorem portEvent_lt (p : PortId) {off : Nat} (h : off < 28) : portEvent p off < 1536 := by
  unfold portEvent
  omega

/-- An event that is raised and logged is pending. -/
theorem State.raiseLog_isPending (s : State) {e : Nat} (b : List LogField) (h : e < 1536) : (s.raiseLog e b).isPending e = true :=
  (s.raise_pending_bit e e h).trans (by simp)

theorem State.raiseLog1_isPending (s : State) {e : Nat} (key : Nat) (b : List LogField) (h : e < 1536) :
    (s.raiseLog1 e key b).isPending e = true := by
  rw [State.raiseLog1_eq]
  exact (s.raise_pending_bit e e h).trans (by simp)

theorem chanOf_port (p : PortId) (cs : Cs) : (chanOf p cs).port = p :=
  Fin.ext (show (2 * p.val + cs.val) / 2 = p.val by omega)

@[simp] theorem HostTx.chan_port (tx : HostTx) : tx.chan.port = tx.port := chanOf_port tx.port tx.cs

/-! ## The measuring -/

/-- `t` is `s` but for channels, ports, events, the log and the count of free values. -/
def State.HostOnly (s t : State) : Prop :=
  t = { s with chans := t.chans, ports := t.ports, ev := t.ev, log := t.log, free := t.free }

theorem State.HostOnly.trans {s t u : State} (h₁ : s.HostOnly t) (h₂ : t.HostOnly u) : s.HostOnly u := by
  unfold State.HostOnly at *
  rw [h₂, h₁]

theorem State.HostOnly.hg {s t : State} (h : s.HostOnly t) : t.hg = s.hg := by
  unfold State.HostOnly at h
  rw [h]

theorem State.HostOnly.time {s t : State} (h : s.HostOnly t) : t.time = s.time := by
  unfold State.HostOnly at h
  rw [h]

theorem State.HostOnly.mem {s t : State} (h : s.HostOnly t) : t.mem = s.mem := by
  unfold State.HostOnly at h
  rw [h]

/-- A channel's record with another arming of the reset and another mark of SCK_RANGE: what the measuring changes in it (R79, R85). -/
def Chan.marked (ch : Chan) (armed raised : Bool) : Chan := { ch with resetArmed := armed, sckRaised := raised }

/-- A port's record with a command's SCK period and without the read before it (R70, R72, R85). -/
def HostTx.measured (tx : HostTx) (p : Port) : Port :=
  { p with hsck := BitVec.ofNat 16 (tx.sckPs / 10), band := bandOf tx.sckPs, held := none, dq := [] }

theorem State.sckCheck_hostOnly (s : State) (tx : HostTx) : s.HostOnly (s.sckCheck tx) := by
  unfold State.sckCheck
  dsimp only
  split <;> rfl

theorem State.hostMeasure_hostOnly (s : State) (tx : HostTx) : s.HostOnly (s.hostMeasure tx) :=
  have h : s.HostOnly (s.updPort tx.port tx.measured) := rfl
  (h.trans (State.sckCheck_hostOnly _ tx)).trans rfl

theorem State.sckCheck_chan (s : State) (tx : HostTx) :
    ∃ raised, (s.sckCheck tx).chan tx.chan = (s.chan tx.chan).marked (s.chan tx.chan).resetArmed raised := by
  unfold State.sckCheck
  dsimp only
  split
  · exact ⟨_, rfl⟩
  · exact ⟨true, s.chan_updChan _ _⟩

/-- The measuring disarms a reset and may mark SCK_RANGE; nothing else of the channel changes. -/
theorem State.hostMeasure_chan (s : State) (tx : HostTx) :
    ∃ raised, (s.hostMeasure tx).chan tx.chan = (s.chan tx.chan).marked false raised := by
  obtain ⟨raised, e⟩ := State.sckCheck_chan (s.updPort tx.port tx.measured) tx
  exact ⟨raised, (State.chan_updChan _ _ _).trans (congrArg (fun ch : Chan => { ch with resetArmed := false }) e)⟩

theorem State.hostMeasure_chan_ne (s : State) (tx : HostTx) {d : ChanId} (h : d ≠ tx.chan) : (s.hostMeasure tx).chan d = s.chan d := by
  refine (State.chan_updChan_ne _ d tx.chan _ h).trans ?_
  unfold State.sckCheck
  dsimp only
  split
  · rfl
  · exact State.chan_updChan_ne _ d tx.chan _ h

/-- The measuring writes of the port the period, its band, the sticky flags, and ends what the port drove and held. -/
theorem State.hostMeasure_port (s : State) (tx : HostTx) :
    ∃ hsck band sticky, (s.hostMeasure tx).port tx.port =
      { s.port tx.port with hsck := hsck, band := band, sticky := sticky, held := none, dq := [] } := by
  have e := s.port_updPort tx.port tx.measured
  show ∃ hsck band sticky, (State.sckCheck _ tx).port tx.port = _
  unfold State.sckCheck
  dsimp only
  split
  · exact ⟨_, _, _, e⟩
  · exact ⟨_, _, _, (State.port_updPort _ _ _).trans (congrArg (fun p : Port => { p with sticky := putBit p.sticky 3 true }) e)⟩

/-! ## Which meaning a command has -/

/-- The port acts on commands of the channel (R79, R82). -/
structure State.Listens (s : State) (tx : HostTx) : Prop where
  served : (s.chan tx.chan).state.served = true
  open_ : (s.port tx.port).hreset = false

/-- A command to a channel that is not served or whose port is held in reset only ends what the port drove. -/
theorem State.hostOp_ignored {s : State} {tx : HostTx} (h : (s.chan tx.chan).state.served = false ∨ (s.port tx.port).hreset = true)
    (dpdOk noOpcode : Bool) (f : State → State) :
    s.hostOp tx dpdOk noOpcode f = s.updPort tx.port fun p => { p with dq := [] } := by
  unfold State.hostOp
  rw [if_pos]
  simpa using h

theorem State.hostOp_listens {s : State} {tx : HostTx} (h : s.Listens tx) {dpdOk : Bool} (hd : (s.chan tx.chan).dpd = true → dpdOk = true)
    (noOpcode : Bool) (f : State → State) : s.hostOp tx dpdOk noOpcode f = (s.hostMeasure tx).hostFrame tx noOpcode f := by
  obtain ⟨raised, e⟩ := s.hostMeasure_chan tx
  unfold State.hostOp
  rw [if_neg (by simp [h.served, h.open_])]
  dsimp only
  rw [if_neg]
  rw [e]
  rintro ⟨hx, hn⟩
  have hx' : (s.chan tx.chan).dpd = true := hx
  rw [hd hx'] at hn
  cases hn

/-- A command framed as the emulated mode asks acts (R77). -/
theorem State.hostOp_acts {s : State} {tx : HostTx} (h : s.Listens tx) {dpdOk noOpcode : Bool}
    (hd : (s.chan tx.chan).dpd = true → dpdOk = true) (hc : (s.chan tx.chan).contRead = noOpcode)
    (hf : tx.framing = (s.chan tx.chan).protocol) (f : State → State) : s.hostOp tx dpdOk noOpcode f = f (s.hostMeasure tx) := by
  obtain ⟨raised, e⟩ := s.hostMeasure_chan tx
  rw [State.hostOp_listens h hd]
  unfold State.hostFrame
  rw [e]
  dsimp only [Chan.marked]
  rw [hc, if_neg (by cases noOpcode <;> simp), if_neg (by cases noOpcode <;> simp [hf])]

/-- A command that comes with an opcode outside a continuous read, framed otherwise than the emulated mode asks, is not read as itself. -/
theorem State.hostOp_misread {s : State} {tx : HostTx} (h : s.Listens tx) {dpdOk noOpcode : Bool}
    (hd : (s.chan tx.chan).dpd = true → dpdOk = true) (hc : (s.chan tx.chan).contRead = false)
    (hf : ¬ ((s.chan tx.chan).contRead = noOpcode ∧ tx.framing = (s.chan tx.chan).protocol)) (f : State → State) :
    s.hostOp tx dpdOk noOpcode f = (s.hostMeasure tx).misread tx := by
  obtain ⟨raised, e⟩ := s.hostMeasure_chan tx
  rw [hc] at hf
  rw [State.hostOp_listens h hd]
  unfold State.hostFrame
  rw [e]
  dsimp only [Chan.marked]
  rw [hc, if_neg (by simp), if_pos]
  cases noOpcode <;> simp_all

/-! ## Unknown commands (R78) -/

theorem State.unknownCmd_eq (s : State) (tx : HostTx) (op : Nat) :
    s.unknownCmd tx op = { s with ports := (s.unknownCmd tx op).ports, ev := (s.unknownCmd tx op).ev, log := (s.unknownCmd tx op).log } := by
  unfold State.unknownCmd
  rw [State.raiseLog1_eq]
  rfl

theorem State.unknownCmd_port (s : State) (tx : HostTx) (op : Nat) :
    (s.unknownCmd tx op).port tx.port =
      { s.port tx.port with unkCnt := satInc 32 (s.port tx.port).unkCnt, sticky := putBit (s.port tx.port).sticky 1 true } := by
  unfold State.unknownCmd
  rw [State.raiseLog1_eq]
  exact s.port_updPort _ _

theorem State.unknownCmd_isPending (s : State) (tx : HostTx) (op : Nat) : (s.unknownCmd tx op).isPending (portEvent tx.port 6) = true :=
  State.raiseLog1_isPending _ _ _ (portEvent_lt _ (by decide))

end Sys2Proof.Machine
end

section
/-!
PROOF. Laws of the native window and of a personality reset (O1, O2, O12): what the close of the window's record writes (R73, R79, R142).
-/
namespace Sys2Proof.Machine

/-- `t` is `s` but for what the close of a native window's record and a personality reset write. -/
def State.PersonaOnly (s t : State) : Prop :=
  t = { s with chans := t.chans, upd := t.upd, mem := t.mem, cores := t.cores, ev := t.ev, log := t.log }

theorem State.PersonaOnly.trans {s t u : State} (h₁ : s.PersonaOnly t) (h₂ : t.PersonaOnly u) : s.PersonaOnly u := by
  unfold State.PersonaOnly at *
  rw [h₂, h₁]

theorem State.PersonaOnly.hg {s t : State} (h : s.PersonaOnly t) : t.hg = s.hg := by
  unfold State.PersonaOnly at h
  rw [h]

theorem State.PersonaOnly.ports {s t : State} (h : s.PersonaOnly t) : t.ports = s.ports := by
  unfold State.PersonaOnly at h
  rw [h]

theorem State.PersonaOnly.port {s t : State} (h : s.PersonaOnly t) (p : PortId) : t.port p = s.port p := by
  rw [State.port, State.port, h.ports]

theorem State.writeTraces_eq (s : State) : s.writeTraces = { s with mem := s.writeTraces.mem, cores := s.writeTraces.cores } := by
  unfold State.writeTraces
  split <;> rfl

theorem State.buildPins_personaOnly (s : State) (c : ChanId) : s.PersonaOnly (s.buildPins c) := by
  unfold State.buildPins
  dsimp only
  split <;> rfl

theorem State.buildPins_chan (s : State) (c : ChanId) : ∃ pins, (s.buildPins c).chan c = { s.chan c with pinNext := pins } := by
  refine ⟨(s.pinAdmits c).take (s.pinBudget c), ?_⟩
  have e := s.chan_updChan c fun ch => { ch with pinNext := (s.pinAdmits c).take (s.pinBudget c) }
  unfold State.buildPins
  dsimp only
  split <;> exact e

theorem State.closeTrace_personaOnly (s : State) (c : ChanId) : s.PersonaOnly (s.closeTrace c) := by
  unfold State.closeTrace
  dsimp only
  split
  · rfl
  · refine .trans ?_ (State.buildPins_personaOnly _ c)
    rw [State.writeTraces_eq]
    rfl

/-- The close of the record writes of the channel its leaves and the next pin list. -/
theorem State.closeTrace_chan (s : State) (c : ChanId) :
    ∃ trace pins, (s.closeTrace c).chan c = { s.chan c with trace := trace, pinNext := pins } := by
  unfold State.closeTrace
  dsimp only
  split
  · exact ⟨(s.chan c).trace, (s.chan c).pinNext, rfl⟩
  · obtain ⟨pins, e⟩ := State.buildPins_chan _ c
    refine ⟨[], pins, e.trans ?_⟩
    rw [State.writeTraces_eq]
    exact congrArg (fun ch : Chan => { ch with pinNext := pins }) (State.chan_updChan _ _ _)

/-- The close of the native window writes of the channel the window, its record and the next pin list. -/
theorem State.closeNative_chan (s : State) (c : ChanId) :
    ∃ native trace pins, (s.closeNative c).chan c = { s.chan c with native := native, trace := trace, pinNext := pins } ∧
      ((s.chan c).desc.policy ≠ 1 → native = false) := by
  unfold State.closeNative
  dsimp only
  split
  · obtain ⟨trace, pins, e⟩ := s.closeTrace_chan c
    refine ⟨false, trace, pins, ?_, fun _ => rfl⟩
    exact (State.chan_updChan _ _ _).trans (congrArg (fun ch : Chan => { ch with native := false }) e)
  · next h =>
    exact ⟨(s.chan c).native, _, _, rfl, fun hp => by simpa [hp] using h⟩

theorem State.closeNative_personaOnly (s : State) (c : ChanId) : s.PersonaOnly (s.closeNative c) := by
  unfold State.closeNative
  dsimp only
  split
  · exact (s.closeTrace_personaOnly c).trans rfl
  · rfl

theorem State.personalityReset_personaOnly (s : State) (c : ChanId) : s.PersonaOnly (s.personalityReset c) :=
  (s.closeTrace_personaOnly c).trans rfl

/-- A personality reset gives the channel's record the power-on emulation (R79). -/
theorem State.personalityReset_chan (s : State) (c : ChanId) :
    ∃ trace pins, (s.personalityReset c).chan c =
      ({ s.chan c with trace := trace, pinNext := pins } : Chan).personalityReset s.time := by
  obtain ⟨trace, pins, e⟩ := s.closeTrace_chan c
  exact ⟨trace, pins, (State.chan_updChan _ _ _).trans (congrArg (Chan.personalityReset s.time) e)⟩

theorem State.personalityReset_isPending (s : State) (c : ChanId) : (s.personalityReset c).isPending (portEvent c.port 14) = true :=
  State.raiseLog_isPending _ _ (portEvent_lt _ (by decide))

end Sys2Proof.Machine
end

section
/-!
PROOF. O2: the host commands that change a channel's emulated state.
-/
namespace Sys2Proof.Machine

/-! ## What a command sets -/

/-- `t` is `s` with the command's channel as `f` makes it, the arming of its reset and its mark of SCK_RANGE apart: the Headgate, memory
and the other channels are as they were. -/
def State.HostSets (s : State) (tx : HostTx) (f : Chan → Chan) (t : State) : Prop :=
  t.chan tx.chan =
      { f (s.chan tx.chan) with resetArmed := (t.chan tx.chan).resetArmed, sckRaised := (t.chan tx.chan).sckRaised } ∧
    t.hg = s.hg ∧ t.mem = s.mem ∧ ∀ d : ChanId, d ≠ tx.chan → t.chan d = s.chan d

theorem State.hostMeasure_sets (s : State) (tx : HostTx) : s.HostSets tx id (s.hostMeasure tx) := by
  obtain ⟨raised, e⟩ := s.hostMeasure_chan tx
  exact ⟨by rw [e]; rfl, (s.hostMeasure_hostOnly tx).hg, (s.hostMeasure_hostOnly tx).mem, fun d h => s.hostMeasure_chan_ne tx h⟩

/-- A step that leaves channels, Headgate and memory sets nothing more. -/
theorem State.HostSets.same {s t u : State} {tx : HostTx} {f : Chan → Chan} (h : s.HostSets tx f t) (hc : u.chans = t.chans)
    (hg : u.hg = t.hg) (hm : u.mem = t.mem) : s.HostSets tx f u := by
  obtain ⟨own, hg', hm', other⟩ := h
  have hu : ∀ d, u.chan d = t.chan d := fun d => by rw [State.chan, State.chan, hc]
  exact ⟨by rw [hu]; exact own, hg.trans hg', hm.trans hm', fun d hd => (hu d).trans (other d hd)⟩

/-- A change of the channel's record that does not look at the two marks is set in it. -/
theorem State.hostMeasure_updChan_sets (s : State) (tx : HostTx) {f g : Chan → Chan}
    (hg : ∀ armed raised, ∃ armed' raised', g ((s.chan tx.chan).marked armed raised) = (f (s.chan tx.chan)).marked armed' raised') :
    s.HostSets tx f ((s.hostMeasure tx).updChan tx.chan g) := by
  obtain ⟨raised, e⟩ := s.hostMeasure_chan tx
  obtain ⟨armed', raised', eg⟩ := hg false raised
  have own : ((s.hostMeasure tx).updChan tx.chan g).chan tx.chan = (f (s.chan tx.chan)).marked armed' raised' :=
    (State.chan_updChan _ _ _).trans ((congrArg g e).trans eg)
  exact ⟨by rw [own]; rfl, (s.hostMeasure_hostOnly tx).hg, (s.hostMeasure_hostOnly tx).mem, fun d h =>
    (State.chan_updChan_ne _ d tx.chan g h).trans (s.hostMeasure_chan_ne tx h)⟩

/-- A register byte that the host writes does not look at the two marks. -/
theorem Chan.marked_putRegs (l : List (Byte × Byte)) (ch : Chan) (armed raised : Bool) :
    l.foldl Chan.putReg (ch.marked armed raised) = (l.foldl Chan.putReg ch).marked armed raised := by
  induction l generalizing ch with
  | nil => rfl
  | cons w l ih => exact ih (ch.putReg w)

theorem Chan.marked_writeRegs (ch : Chan) (armed raised : Bool) (io : IoSupply) (w : RegWrite) :
    (ch.marked armed raised).writeRegs io w = (ch.writeRegs io w).marked armed raised := by
  unfold Chan.writeRegs
  dsimp only
  rw [Chan.marked_putRegs]
  rfl

/-- The bytes of a register write leave every field but `emuRegs`. -/
theorem Chan.putRegs_eq (l : List (Byte × Byte)) (ch : Chan) :
    l.foldl Chan.putReg ch = { ch with emuRegs := (l.foldl Chan.putReg ch).emuRegs } := by
  induction l generalizing ch with
  | nil => rfl
  | cons w l ih => exact (ih (ch.putReg w)).trans rfl

theorem Chan.writeRegs_eq (ch : Chan) (io : IoSupply) (w : RegWrite) :
    (ch.writeRegs io w).wel = false ∧ (ch.writeRegs io w).desc = ch.desc := by
  refine ⟨rfl, ?_⟩
  show (w.bytes.foldl Chan.putReg ch).desc = ch.desc
  rw [Chan.putRegs_eq]

/-! ## Commands that change state (R80) -/

/-- The channel takes a command that comes with its opcode: outside a continuous read, framed as the emulated mode asks (R77). -/
structure State.TakesCmd (s : State) (tx : HostTx) : Prop extends s.Listens tx where
  plain : (s.chan tx.chan).contRead = false
  framed : tx.framing = (s.chan tx.chan).protocol

section
variable {s : State} {tx : HostTx} (h : s.TakesCmd tx)
include h

theorem State.stateCmd_acts (hw : tx.whole = true) {dpdOk : Bool} (hd : (s.chan tx.chan).dpd = true → dpdOk = true) (f : State → State) :
    s.stateCmd tx dpdOk f = f (s.hostMeasure tx) := by
  rw [State.stateCmd_eq, State.hostCmd, State.hostOp_acts h.toListens hd h.plain h.framed, if_pos hw]

/-- One that ends off a byte boundary is counted (R80). -/
theorem State.stateCmd_partial (hw : tx.whole = false) {dpdOk : Bool} (hd : (s.chan tx.chan).dpd = true → dpdOk = true)
    (f : State → State) : s.stateCmd tx dpdOk f = (s.hostMeasure tx).partialByte tx := by
  rw [State.stateCmd_eq, State.hostCmd, State.hostOp_acts h.toListens hd h.plain h.framed, if_neg (by simp [hw])]

end

/-- A command that only changes the channel's record sets it. -/
theorem State.stateCmd_sets {s : State} {tx : HostTx} (h : s.TakesCmd tx) (hw : tx.whole = true) {dpdOk : Bool}
    (hd : (s.chan tx.chan).dpd = true → dpdOk = true) {f g : Chan → Chan}
    (hg : ∀ armed raised, ∃ armed' raised', g ((s.chan tx.chan).marked armed raised) = (f (s.chan tx.chan)).marked armed' raised') :
    Completes (.next (s.stateCmd tx dpdOk fun s => s.updChan tx.chan g)) (s.HostSets tx f) :=
  ⟨_, rfl, by rw [State.stateCmd_acts h hw hd]; exact s.hostMeasure_updChan_sets tx hg⟩

theorem State.partialByte_port (s : State) (tx : HostTx) :
    ((s.partialByte tx).port tx.port).partialCnt = satInc 32 (s.port tx.port).partialCnt :=
  congrArg Port.partialCnt (s.port_updPort tx.port _)

/-- A command off a byte boundary sets nothing, counts, and raises its event. -/
theorem State.partial_leaves (s : State) (tx : HostTx) :
    s.HostSets tx id ((s.hostMeasure tx).partialByte tx) ∧
      (((s.hostMeasure tx).partialByte tx).port tx.port).partialCnt = satInc 32 (s.port tx.port).partialCnt ∧
      ((s.hostMeasure tx).partialByte tx).isPending (portEvent tx.port 8) = true := by
  obtain ⟨hsck, band, sticky, e⟩ := s.hostMeasure_port tx
  refine ⟨(s.hostMeasure_sets tx).same rfl rfl rfl, ?_, State.raiseLog_isPending _ _ (portEvent_lt _ (by decide))⟩
  rw [State.partialByte_port, e]

/-- An unknown command sets nothing and is counted (R78). -/
theorem State.unknown_leaves (s : State) (tx : HostTx) (op : Nat) :
    s.HostSets tx id ((s.hostMeasure tx).unknownCmd tx op) ∧
      (((s.hostMeasure tx).unknownCmd tx op).port tx.port).unkCnt = satInc 32 (s.port tx.port).unkCnt := by
  obtain ⟨hsck, band, sticky, e⟩ := s.hostMeasure_port tx
  refine ⟨(s.hostMeasure_sets tx).same ?_ ?_ ?_, by rw [State.unknownCmd_port, e]⟩ <;> rw [State.unknownCmd_eq]

/-! ## The write latch, the address mode, deep power-down -/

/-- The latch does not look at the two marks. -/
theorem Chan.marked_wel (ch : Chan) (v armed raised : Bool) :
    (if (ch.marked armed raised).gated then ch.marked armed raised else { ch.marked armed raised with wel := v }) =
      (if ch.gated then ch else { ch with wel := v }).marked armed raised := by
  show (if ch.gated then _ else _) = _
  split <;> rfl

theorem State.addrMode_sets {s : State} {tx : HostTx} (h : s.TakesCmd tx) (hw : tx.whole = true) (hd : (s.chan tx.chan).dpd = false)
    (hm : (((s.chan tx.chan).info.map fun i => i.fourByteMode).getD false) = true) (opcode : Nat) (four : Bool) :
    s.HostSets tx (fun q => { q with addr4 := four }) (s.addrMode tx opcode four) := by
  obtain ⟨raised, e⟩ := s.hostMeasure_chan tx
  rw [State.addrMode, State.stateCmd_acts h hw (by simp [hd]), e]
  refine (congrArg (s.HostSets tx _) (if_pos hm)).mpr (s.hostMeasure_updChan_sets tx fun armed raised => ⟨armed, raised, rfl⟩)

theorem State.addrMode_unknown {s : State} {tx : HostTx} (h : s.TakesCmd tx) (hw : tx.whole = true) (hd : (s.chan tx.chan).dpd = false)
    (hm : (((s.chan tx.chan).info.map fun i => i.fourByteMode).getD false) = false) (opcode : Nat) (four : Bool) :
    s.addrMode tx opcode four = (s.hostMeasure tx).unknownCmd tx opcode := by
  obtain ⟨raised, e⟩ := s.hostMeasure_chan tx
  rw [State.addrMode, State.stateCmd_acts h hw (by simp [hd]), e]
  exact if_neg (by rw [← Bool.not_eq_true] at hm; exact hm)

/-! ## Register writes -/

/-- The state with a register write's volatile fields in force. -/
def State.regsWritten (s : State) (tx : HostTx) (w : RegWrite) : State :=
  (s.hostMeasure tx).updChan tx.chan fun ch => ch.writeRegs (s.port tx.port).hostIo w

/-- A register write that the latch allows and WP_N lets in (R60, R77, R150). -/
structure State.LetsIn (s : State) (tx : HostTx) (w : RegWrite) : Prop where
  ungated : (s.chan tx.chan).gated = false
  latched : (s.chan tx.chan).wel = true
  unblocked : (s.chan tx.chan).wpBlocks tx w = false

/-- Whether WP_N or the latch keeps a register write out does not look at the two marks. -/
theorem State.regWrite_kept {s : State} {tx : HostTx} {w : RegWrite}
    (h : (s.chan tx.chan).gated = true ∨ (s.chan tx.chan).wel = false ∨ (s.chan tx.chan).wpBlocks tx w = true) :
    (s.hostMeasure tx).regWrite tx w = s.hostMeasure tx := by
  obtain ⟨raised, e⟩ := s.hostMeasure_chan tx
  unfold State.regWrite
  rw [e]
  refine if_pos ?_
  show (s.chan tx.chan).gated = true ∨ (! (s.chan tx.chan).wel) = true ∨ (s.chan tx.chan).wpBlocks tx w = true
  simpa using h

section
variable {s : State} {tx : HostTx} {w : RegWrite} (h : s.LetsIn tx w)
include h

/-- One that is let in takes effect; a wait field of it closes the native window and is set (R73). -/
theorem State.regWrite_acts : (s.hostMeasure tx).regWrite tx w =
    let t := w.wait.elim (s.regsWritten tx w) fun n =>
      ((s.regsWritten tx w).closeNative tx.chan).updChan tx.chan fun ch => { ch with waitField := some n }
    if w.ignored then t.raiseLog (portEvent tx.port 15) [(1, tx.cs.val), (1, tx.chan.val)] else t := by
  obtain ⟨raised, e⟩ := s.hostMeasure_chan tx
  obtain ⟨hsck, band, sticky, ep⟩ := s.hostMeasure_port tx
  have out : ¬ (((s.chan tx.chan).marked false raised).gated = true ∨ (! ((s.chan tx.chan).marked false raised).wel) = true ∨
      ((s.chan tx.chan).marked false raised).wpBlocks tx w = true) := by
    show ¬ ((s.chan tx.chan).gated = true ∨ (! (s.chan tx.chan).wel) = true ∨ (s.chan tx.chan).wpBlocks tx w = true)
    simp [h.ungated, h.latched, h.unblocked]
  unfold State.regWrite
  rw [e, if_neg out, ep]
  cases w.wait <;> rfl

/-- A register write without a wait field changes the volatile fields (R77). -/
theorem State.regWrite_sets (hn : w.wait = none) :
    s.HostSets tx (fun q => q.writeRegs (s.port tx.port).hostIo w) ((s.hostMeasure tx).regWrite tx w) := by
  have sets : s.HostSets tx (fun q => q.writeRegs (s.port tx.port).hostIo w) (s.regsWritten tx w) :=
    s.hostMeasure_updChan_sets tx fun armed raised => ⟨armed, raised, Chan.marked_writeRegs _ _ _ _ _⟩
  rw [State.regWrite_acts h, hn]
  dsimp only [Option.elim]
  split
  · exact sets.same rfl rfl rfl
  · exact sets

/-- One with a wait field sets it, clears the latch and closes the native window outside NATIVE (R73). -/
theorem State.regWrite_wait {n : Nat} (hn : w.wait = some n) :
    (((s.hostMeasure tx).regWrite tx w).chan tx.chan).waitField = some n ∧
      (((s.hostMeasure tx).regWrite tx w).chan tx.chan).wel = false ∧
      ((s.chan tx.chan).desc.policy ≠ 1 → (((s.hostMeasure tx).regWrite tx w).chan tx.chan).native = false) ∧
      ((s.hostMeasure tx).regWrite tx w).hg = s.hg := by
  obtain ⟨raised, e⟩ := s.hostMeasure_chan tx
  have written : (s.regsWritten tx w).chan tx.chan = ((s.chan tx.chan).marked false raised).writeRegs (s.port tx.port).hostIo w :=
    (State.chan_updChan _ _ _).trans (congrArg (fun ch : Chan => ch.writeRegs (s.port tx.port).hostIo w) e)
  obtain ⟨hwel, hdesc⟩ := Chan.writeRegs_eq ((s.chan tx.chan).marked false raised) (s.port tx.port).hostIo w
  obtain ⟨native, trace, pins, ec, closed⟩ := (s.regsWritten tx w).closeNative_chan tx.chan
  have hg := ((s.regsWritten tx w).closeNative_personaOnly tx.chan).hg.trans (s.hostMeasure_hostOnly tx).hg
  rw [State.regWrite_acts h, hn]
  dsimp only [Option.elim]
  rw [written] at ec closed
  generalize (s.regsWritten tx w).closeNative tx.chan = t at ec hg
  have waits := (t.chan_updChan tx.chan fun ch => { ch with waitField := some n }).trans
    (congrArg (fun ch : Chan => { ch with waitField := some n }) ec)
  generalize hu : (t.updChan tx.chan fun ch => { ch with waitField := some n }) = u at waits
  have claim : (u.chan tx.chan).waitField = some n ∧ (u.chan tx.chan).wel = false ∧
      ((s.chan tx.chan).desc.policy ≠ 1 → (u.chan tx.chan).native = false) ∧ u.hg = s.hg := by
    rw [waits]
    refine ⟨rfl, hwel, fun hpol => closed (by rw [hdesc]; exact hpol), ?_⟩
    rw [← hu]
    exact hg
  split <;> exact claim

end

/-! ## RESET (R79) -/

/-- RESET after RESET_ENABLE returns the emulation to the power-on state. -/
theorem State.reset_armed (s : State) (tx : HostTx) :
    let t := (s.hostMeasure tx).personalityReset tx.chan
    (t.chan tx.chan).protocol = .p1S ∧ (t.chan tx.chan).wel = false ∧ (t.chan tx.chan).dpd = false ∧ (t.chan tx.chan).suspended = false ∧
      (t.chan tx.chan).resetArmed = false ∧ (t.chan tx.chan).waitField = none ∧ (t.chan tx.chan).native = (s.chan tx.chan).opensNative ∧
      (t.chan tx.chan).state = (s.chan tx.chan).state ∧ t.isPending (portEvent tx.port 14) = true ∧ t.hg = s.hg := by
  obtain ⟨raised, e⟩ := s.hostMeasure_chan tx
  obtain ⟨trace, pins, er⟩ := (s.hostMeasure tx).personalityReset_chan tx.chan
  have pending := (s.hostMeasure tx).personalityReset_isPending tx.chan
  rw [HostTx.chan_port] at pending
  rw [e] at er
  dsimp only
  rw [er]
  exact ⟨rfl, rfl, rfl, rfl, rfl, rfl, rfl, rfl, pending,
    ((s.hostMeasure tx).personalityReset_personaOnly tx.chan).hg.trans (s.hostMeasure_hostOnly tx).hg⟩

/-! ## The statement's parts -/

/-- A whole command outside deep power-down sets its own field alone (R77, R150). -/
theorem State.emulated_whole {s : State} {tx : HostTx} (h : s.TakesCmd tx) (hw : tx.whole = true) (hd : (s.chan tx.chan).dpd = false) :
    Completes (exec (.writeEnable tx) s) (s.HostSets tx fun q => if (s.chan tx.chan).gated then q else { q with wel := true }) ∧
    Completes (exec (.writeDisable tx) s) (s.HostSets tx fun q => if (s.chan tx.chan).gated then q else { q with wel := false }) ∧
    Completes (exec (.deepPowerDown tx) s) (s.HostSets tx fun q => { q with dpd := true }) := by
  have awake : (s.chan tx.chan).dpd = true → false = true := by simp [hd]
  refine ⟨State.stateCmd_sets h hw awake fun armed raised => ⟨armed, raised, Chan.marked_wel _ _ _ _⟩,
    State.stateCmd_sets h hw awake fun armed raised => ⟨armed, raised, Chan.marked_wel _ _ _ _⟩, _, rfl, ?_⟩
  rw [State.stateCmd_acts h hw awake]
  exact (s.hostMeasure_updChan_sets tx (g := fun ch => { ch with dpd := true }) fun armed raised => ⟨armed, raised, rfl⟩).same rfl rfl rfl

/-- Both commands of the address mode (R77). -/
theorem State.emulated_addrMode {s : State} {tx : HostTx} (h : s.TakesCmd tx) (hw : tx.whole = true) (hd : (s.chan tx.chan).dpd = false) :
    ((((s.chan tx.chan).info.map fun i => i.fourByteMode).getD false) = true →
      Completes (exec (.enter4ByteMode tx) s) (s.HostSets tx fun q => { q with addr4 := true }) ∧
      Completes (exec (.exit4ByteMode tx) s) (s.HostSets tx fun q => { q with addr4 := false })) ∧
    ((((s.chan tx.chan).info.map fun i => i.fourByteMode).getD false) = false →
      ∀ i : Instr, i ∈ ([.enter4ByteMode tx, .exit4ByteMode tx] : List Instr) → Completes (exec i s) (s.HostSets tx id) ∧
        Completes (exec i s) fun t => (t.port tx.port).unkCnt = satInc 32 (s.port tx.port).unkCnt) := by
  refine ⟨fun hm => ⟨⟨_, rfl, State.addrMode_sets h hw hd hm _ _⟩, _, rfl, State.addrMode_sets h hw hd hm _ _⟩, fun hm i hi => ?_⟩
  have unknown : ∃ opcode, exec i s = .next ((s.hostMeasure tx).unknownCmd tx opcode) := by
    simp only [List.mem_cons, List.not_mem_nil, or_false] at hi
    rcases hi with rfl | rfl
    · exact ⟨_, congrArg Host.Outcome.next (State.addrMode_unknown h hw hd hm 0xB7 true)⟩
    · exact ⟨_, congrArg Host.Outcome.next (State.addrMode_unknown h hw hd hm 0xE9 false)⟩
  obtain ⟨opcode, e⟩ := unknown
  obtain ⟨sets, count⟩ := s.unknown_leaves tx opcode
  exact ⟨⟨_, e, sets⟩, _, e, count⟩

/-- Register writes (R60, R73, R77). -/
theorem State.emulated_regWrite {s : State} {tx : HostTx} (h : s.TakesCmd tx) (hw : tx.whole = true) (hd : (s.chan tx.chan).dpd = false)
    (w : RegWrite) : exec (.writeRegisters tx w) s = .next ((s.hostMeasure tx).regWrite tx w) :=
  congrArg Host.Outcome.next (State.stateCmd_acts h hw (by simp [hd]) _)

/-- The commands that deep power-down does not keep out (R77, R79). -/
theorem State.emulated_reset {s : State} {tx : HostTx} (h : s.TakesCmd tx) (hw : tx.whole = true) :
    Completes (exec (.releaseDeepPowerDown tx) s) (s.HostSets tx fun q => { q with dpd := false }) ∧
    (Completes (exec (.resetEnable tx) s) fun t => (t.chan tx.chan).resetArmed = true ∧
      t.chan tx.chan = { s.chan tx.chan with resetArmed := true, sckRaised := (t.chan tx.chan).sckRaised }) ∧
    exec (.reset tx) s = .next (if (s.chan tx.chan).resetArmed then (s.hostMeasure tx).personalityReset tx.chan else s.hostMeasure tx) := by
  obtain ⟨raised, e⟩ := s.hostMeasure_chan tx
  refine ⟨State.stateCmd_sets h hw (fun _ => rfl) fun armed raised => ⟨armed, raised, rfl⟩, ⟨_, rfl, ?_⟩,
    congrArg Host.Outcome.next (State.stateCmd_acts h hw (fun _ => rfl) _)⟩
  have armed := (s.hostMeasure tx).chan_updChan tx.chan fun ch => { ch with resetArmed := true }
  rw [State.stateCmd_acts h hw (fun _ => rfl)]
  beta_reduce
  rw [armed, e]
  exact ⟨rfl, rfl⟩

/-- The eight commands that end off a byte boundary (R80). -/
theorem State.emulated_partial {s : State} {tx : HostTx} (h : s.TakesCmd tx) (hw : tx.whole = false) (hd : (s.chan tx.chan).dpd = false)
    {i : Instr} (hi : i ∈ ([.writeEnable tx, .writeDisable tx, .enter4ByteMode tx, .exit4ByteMode tx, .deepPowerDown tx,
      .releaseDeepPowerDown tx, .resetEnable tx, .reset tx] : List Instr)) : exec i s = .next ((s.hostMeasure tx).partialByte tx) := by
  have off : ∀ dpdOk f, Host.Outcome.next (s.stateCmd tx dpdOk f) = (.next ((s.hostMeasure tx).partialByte tx) : Host.Outcome State Fault Refusal) :=
    fun dpdOk f => congrArg _ (State.stateCmd_partial h hw (by simp [hd]) f)
  simp only [List.mem_cons, List.not_mem_nil, or_false] at hi
  rcases hi with rfl | rfl | rfl | rfl | rfl | rfl | rfl | rfl
  all_goals exact off _ _

/-- A chip select conflict ends what the port held and drove, and is flagged (R83). -/
theorem State.csConflict_leaves {s : State} {p : PortId} (h : (s.port p).hreset = false) :
    Completes (exec (.csConflict p) s) fun t =>
      (t.port p).held = none ∧ (t.port p).dq = [] ∧ (t.port p).sticky = putBit (s.port p).sticky 6 true ∧ s.raisesOnly t [portEvent p 7] ∧
      t = { s with ports := t.ports, ev := t.ev, log := t.log } := by
  refine ⟨_, congrArg Host.Outcome.next (if_neg (by simp [h])), ?_⟩
  have e := s.port_updPort p fun q => { q with sticky := putBit q.sticky 6 true, held := none, dq := [] }
  exact ⟨congrArg Port.held e, congrArg Port.dq e, congrArg Port.sticky e, State.raisesOnly_raise (portEvent_lt _ (by decide)) rfl, rfl⟩

/-- Settles O2: a command that is taken sets what its own function of the channel's record sets, by `State.hostMeasure_updChan_sets`; a
partial one, an unknown one and one kept out leave what the measuring leaves. -/
theorem emulatedState : Obligations.EmulatedState := by
  intro s tx
  refine ⟨fun hs hr hc hf => ?_, fun p => State.csConflict_leaves, fun p => ?_⟩
  · have h : s.TakesCmd tx := ⟨⟨hs, hr⟩, hc, hf⟩
    refine ⟨fun hw hd => ?_, fun hw => ?_, fun hw hd i hi => ?_⟩
    · obtain ⟨hwe, hwd, hdp⟩ := State.emulated_whole h hw hd
      obtain ⟨hmode, hnone⟩ := State.emulated_addrMode h hw hd
      refine ⟨hwe, hwd, hmode, hnone, hdp, fun w hn => ⟨fun hg hl hp => ?_, fun hk => ?_⟩, fun w n hn hg hl hp => ?_⟩
      · exact ⟨_, State.emulated_regWrite h hw hd w, State.regWrite_sets ⟨hg, hl, hp⟩ hn⟩
      · exact ⟨_, State.emulated_regWrite h hw hd w, by rw [State.regWrite_kept hk]; exact s.hostMeasure_sets tx⟩
      · exact ⟨_, State.emulated_regWrite h hw hd w, State.regWrite_wait ⟨hg, hl, hp⟩ hn⟩
    · obtain ⟨hrel, hen, hreset⟩ := State.emulated_reset h hw
      refine ⟨hrel, hen, fun hn => ⟨_, hreset, ?_⟩, fun ha => ⟨_, hreset, ?_⟩⟩
      · rw [if_neg (by simp [hn])]
        exact s.hostMeasure_sets tx
      · rw [if_pos ha]
        exact s.reset_armed tx
    · have e := State.emulated_partial h hw hd hi
      obtain ⟨sets, count, event⟩ := s.partial_leaves tx
      exact ⟨⟨_, e, sets⟩, _, e, count, event⟩
  · exact ⟨_, rfl, congrArg Port.hreset (s.port_updPort p _), rfl, fun q hq => s.port_updPort_ne q p _ hq⟩

end Sys2Proof.Machine
end

section
/-!
PROOF. O1: what a host read drives, and what it leaves; identity, registers, prefetch and the hold limit.
-/
namespace Sys2Proof.Machine

/-! ## What a read depends on -/

/-- What commands note in a channel's record and no read depends on: the marks of R79 and R85, a continuous read, the window's record and
the statistics. -/
structure ReadMarks where
  armed : Bool
  raised : Bool
  contRead : Bool
  trace : List Nat
  missTrace : List Nat
  stats : ChanStats

/-- A channel's record with other notes. -/
def Chan.noted (ch : Chan) (m : ReadMarks) : Chan :=
  { ch with resetArmed := m.armed, sckRaised := m.raised, contRead := m.contRead, trace := m.trace, missTrace := m.missTrace,
            stats := m.stats }

/-- The notes of a channel's record. -/
def Chan.notes (ch : Chan) : ReadMarks := ⟨ch.resetArmed, ch.sckRaised, ch.contRead, ch.trace, ch.missTrace, ch.stats⟩

/-- `t` serves a read of the channel as `s` does: it differs in the notes of the channel, and of its port in neither the prefetch buffers
nor the strobe mode nor the supply. -/
structure State.ReadsAs (s t : State) (c : ChanId) : Prop where
  rest : s.HostOnly t
  own : ∃ m, t.chan c = (s.chan c).noted m
  buffers : (t.port c.port).buffers = (s.port c.port).buffers
  strobe : (t.port c.port).strobeExtend = (s.port c.port).strobeExtend
  supply : (t.port c.port).hostIo = (s.port c.port).hostIo

section
variable {s t : State} {c : ChanId} (h : s.ReadsAs t c)
include h

theorem State.ReadsAs.mir : t.mir = s.mir := by rw [show t = _ from h.rest]

theorem State.ReadsAs.byte (a : Nat) : t.byte a = s.byte a := by rw [State.byte, State.byte, h.rest.mem]

theorem State.ReadsAs.stagedAt (leaf : Nat) : t.stagedAt c leaf = s.stagedAt c leaf := by
  unfold State.stagedAt State.target
  rw [show t.upd = s.upd by rw [show t = _ from h.rest]]

theorem State.ReadsAs.stageGood (i : Nat) : t.stageGood i = s.stageGood i := by
  unfold State.stageGood
  rw [h.mir]

theorem State.ReadsAs.pageGood (p : Nat) : t.pageGood p = s.pageGood p := by
  unfold State.pageGood State.sealOf State.pageVersion State.lineKey
  rw [h.mir]

theorem State.ReadsAs.bufferOf (leaf : Nat) : t.bufferOf c leaf = s.bufferOf c leaf := by
  obtain ⟨m, own⟩ := h.own
  unfold State.bufferOf
  rw [own, h.buffers]
  rfl

theorem State.ReadsAs.loadWait : t.loadWait c = s.loadWait c := by
  obtain ⟨m, own⟩ := h.own
  unfold State.loadWait
  rw [own, h.rest.time]
  rfl

theorem State.ReadsAs.extends_ (k : ReadKind) : t.extends_ c k = s.extends_ c k := by
  obtain ⟨m, own⟩ := h.own
  unfold State.extends_
  rw [own, h.strobe]
  rfl

/-- The channel that serves differs in its notes (R101). -/
theorem State.ReadsAs.servingChan : ∃ m, t.servingChan c = (s.servingChan c).noted m := by
  obtain ⟨m, own⟩ := h.own
  have pins : ∀ d, t.pinsAt d = s.pinsAt d := fun d => by
    unfold State.pinsAt State.load State.bytes
    rw [h.rest.mem]
  refine ⟨m, ?_⟩
  unfold State.servingChan
  rw [own]
  dsimp only [Chan.noted]
  split
  · rfl
  · rw [pins]

/-- What a byte holds and when it is ready do not depend on the notes (R82, R126-R128). -/
theorem State.ReadsAs.contentAt (ch : Chan) (m : ReadMarks) (a : Nat) : t.contentAt c (ch.noted m) a = s.contentAt c ch a := by
  unfold State.contentAt
  simp only [h.stagedAt, h.bufferOf, h.byte]
  rfl

theorem State.ReadsAs.readyAt (ch : Chan) (m : ReadMarks) (op : HostReadOp) (a : Nat) :
    t.readyAt c (ch.noted m) op a = s.readyAt c ch op a := by
  unfold State.readyAt
  simp only [h.stagedAt, h.bufferOf, h.loadWait, h.stageGood, h.pageGood]
  rfl

theorem State.ReadsAs.readBytes (ch : Chan) (m : ReadMarks) (op : HostReadOp) (k : ReadKind) (ext : Nat) :
    t.readBytes c (ch.noted m) op k ext = s.readBytes c ch op k ext := by
  unfold State.readBytes
  simp only [h.readyAt, h.contentAt]
  rfl

theorem State.ReadsAs.dramLeaves (ch : Chan) (m : ReadMarks) (op : HostReadOp) :
    t.dramLeaves c (ch.noted m) op = s.dramLeaves c ch op := by
  unfold State.dramLeaves
  simp only [h.stagedAt, h.bufferOf]
  rfl

theorem State.ReadsAs.leafFails (ch : Chan) (m : ReadMarks) (leaf : Nat) : t.leafFails (ch.noted m) leaf = s.leafFails ch leaf := by
  unfold State.leafFails
  rw [h.pageGood]
  rfl

/-! ## What keeps it -/

/-- A step that leaves what a read depends on, and the channel's record but for its notes. -/
theorem State.ReadsAs.step {u : State} (hr : t.HostOnly u) (hp : u.ports = t.ports)
    (hc : ∀ m, t.chan c = (s.chan c).noted m → ∃ m', u.chan c = (s.chan c).noted m') : s.ReadsAs u c := by
  obtain ⟨m, own⟩ := h.own
  have port : u.port c.port = t.port c.port := by rw [State.port, State.port, hp]
  exact ⟨h.rest.trans hr, hc m own, by rw [port, h.buffers], by rw [port, h.strobe], by rw [port, h.supply]⟩

theorem State.ReadsAs.same {u : State} (hr : t.HostOnly u) (hp : u.ports = t.ports) (hc : u.chans = t.chans) : s.ReadsAs u c :=
  h.step hr hp fun m own => ⟨m, by rw [State.chan, hc]; exact own⟩

/-- A note in the channel's record. -/
theorem State.ReadsAs.note {g : Chan → Chan}
    (hg : ∀ m, g ((s.chan c).noted m) = (s.chan c).noted (g ((s.chan c).noted m)).notes := by intro _; rfl) :
    s.ReadsAs (t.updChan c g) c :=
  h.step rfl rfl fun m own => ⟨_, (t.chan_updChan c g).trans ((congrArg g own).trans (hg m))⟩

theorem State.ReadsAs.raiseLog {e : Nat} {b : List LogField} : s.ReadsAs (t.raiseLog e b) c := h.same rfl rfl rfl

theorem State.ReadsAs.traceRead (ch : Chan) (op : HostReadOp) (k : ReadKind) : s.ReadsAs (t.traceRead c ch op k) c := by
  unfold State.traceRead
  split
  · exact h
  · dsimp only
    split
    · exact h.note.note.raiseLog
    · exact h.note

theorem State.ReadsAs.pinHits (ch : Chan) (op : HostReadOp) : s.ReadsAs (t.pinHits c ch op) c := h.note

end

theorem State.hostMeasure_readsAs (s : State) (tx : HostTx) : s.ReadsAs (s.hostMeasure tx) tx.chan := by
  obtain ⟨raised, e⟩ := s.hostMeasure_chan tx
  obtain ⟨hsck, band, sticky, ep⟩ := s.hostMeasure_port tx
  have port := HostTx.chan_port tx
  let ch := s.chan tx.chan
  refine ⟨s.hostMeasure_hostOnly tx, ⟨⟨false, raised, ch.contRead, ch.trace, ch.missTrace, ch.stats⟩, e⟩, ?_, ?_, ?_⟩ <;> rw [port, ep]

/-! ## The read's way -/

/-- Without an error of the pinned pool the leaf stays as it is served (R144). -/
theorem State.pinEcc_none (s : State) (c : ChanId) (ch : Chan) {op : HostReadOp} (h : op.pinEcc = false) : s.pinEcc c ch op = s := by
  unfold State.pinEcc
  split
  · exact if_neg (by simp [h])
  · rfl

/-- Without a fault on the way and with every leaf of DRAM under its checks a read meets none (R126). -/
theorem State.ReadsAs.readFault_none {s t : State} {c : ChanId} (h : s.ReadsAs t c) {ch : Chan} {op : HostReadOp} (hf : op.fault = none)
    (hl : op.linkEcc = false) (hd : (s.dramLeaves c ch op).all (fun l => ! s.leafFails ch l) = true) (m : ReadMarks) :
    t.readFault c (ch.noted m) op = t := by
  have none_fails : (t.dramLeaves c (ch.noted m) op).find? (t.leafFails (ch.noted m)) = none := by
    rw [h.dramLeaves]
    refine List.find?_eq_none.2 fun l hm => ?_
    rw [h.leafFails]
    simpa using List.all_eq_true.1 hd l hm
  unfold State.readFault
  dsimp only
  rw [if_neg (by simp [hl]), hf, none_fails]

/-- A delivery drives the bytes and counts; memory and the Headgate stay. -/
theorem State.readUnderrun_eq (s : State) (c : ChanId) :
    s.HostOnly (s.readUnderrun c) ∧ ((s.readUnderrun c).port c.port).dq = (s.port c.port).dq ∧
      ((s.readUnderrun c).port c.port).held = (s.port c.port).held := by
  have port : (s.readUnderrun c).port c.port = { s.port c.port with
      underrunCnt := satInc 32 (s.port c.port).underrunCnt, sticky := putBit (s.port c.port).sticky 5 true } := s.port_updPort c.port _
  exact ⟨rfl, by rw [port], by rw [port]⟩

theorem State.deliver_drives (s : State) (c : ChanId) (bs : List (Bool × Byte)) :
    s.HostOnly (s.deliver c bs) ∧ ((s.deliver c bs).port c.port).dq = bs.map (fun b => b.2) ∧
      ((s.deliver c bs).port c.port).held = (s.port c.port).held := by
  have e := s.port_updPort c.port fun q => { q with dq := bs.map fun b => b.2 }
  unfold State.deliver
  dsimp only
  split
  · exact ⟨rfl, (congrArg Port.dq e :), (congrArg Port.held e :)⟩
  · obtain ⟨rest, dq, held⟩ := State.readUnderrun_eq (((s.drive c.port (bs.map fun b => b.2)).updChan c fun ch =>
      { ch with stats := { ch.stats with hostReadBytes := satAdd 64 ch.stats.hostReadBytes bs.length } })) c
    exact ⟨rest, dq.trans (congrArg Port.dq e :), held.trans (congrArg Port.held e :)⟩

/-! ## Prefetch buffers -/

/-- No byte outside the prefetch buffers differs (R118). -/
def State.OutsideBuffers (s t : State) : Prop := ∀ a : Nat, (a < 0x11340000 ∨ 0x11380000 ≤ a) → t.byte a = s.byte a

theorem State.OutsideBuffers.of_mem {s t : State} (h : t.mem = s.mem) : s.OutsideBuffers t := fun a _ => by
  rw [State.byte, State.byte, h]

theorem State.OutsideBuffers.trans {s t u : State} (h₁ : s.OutsideBuffers t) (h₂ : t.OutsideBuffers u) : s.OutsideBuffers u :=
  fun a ha => (h₂ a ha).trans (h₁ a ha)

theorem bufferAddr_within (p : PortId) (i : Fin 2) : 0x11340000 ≤ bufferAddr p i ∧ bufferAddr p i + 4096 ≤ 0x11380000 := by
  unfold bufferAddr
  omega

/-- A leaf that takes a buffer has its content there; the port drives what it drove. -/
theorem State.fillBuffer_eq (s : State) (c : ChanId) (ch : Chan) (leaf : Nat) :
    let t := s.fillBuffer c ch leaf
    let i := (s.port c.port).bufferFor c leaf
    t = { s with ports := t.ports, mem := t.mem, cores := t.cores } ∧
      t.port c.port = { s.port c.port with buffers := vset (s.port c.port).buffers i (some ⟨c, leaf⟩) } :=
  ⟨rfl, s.port_updPort c.port _⟩

theorem State.fillBuffer_outside (s : State) (c : ChanId) (ch : Chan) (leaf : Nat) : s.OutsideBuffers (s.fillBuffer c ch leaf) := by
  intro a ha
  obtain ⟨lo, hi⟩ := bufferAddr_within c.port ((s.port c.port).bufferFor c leaf)
  refine s.store_byte_out _ a _ ?_
  rw [State.bytes, Memory.readN_length]
  omega

theorem Memory.readN_getElem (m : List Host.Cell) (a n j : Nat) (h : j < (Memory.readN m a n).length) :
    (Memory.readN m a n)[j] = Memory.read m (a + j) := by
  induction n generalizing a j with
  | zero => simp [Memory.readN] at h
  | succ n ih =>
    cases j with
    | zero => rfl
    | succ j =>
      have e := ih (a + 1) j (by simpa [Memory.readN] using h)
      simp only [Memory.readN, List.getElem_cons_succ, e]
      congr 1
      omega

theorem State.fillBuffer_byte (s : State) (c : ChanId) (ch : Chan) (leaf : Nat) {j : Nat} (hj : j < 4096) :
    (s.fillBuffer c ch leaf).byte (bufferAddr c.port ((s.port c.port).bufferFor c leaf) + j) =
      s.byte (dramBase + (ch.desc.mirrorPage + leaf) * 4096 + j) := by
  have len : j < (s.bytes (dramBase + (ch.desc.mirrorPage + leaf) * 4096) 4096).length := by
    rw [State.bytes, Memory.readN_length]
    exact hj
  exact (Memory.read_write_in s.mem _ j _ len).trans (Memory.readN_getElem _ _ _ _ len)

/-- `t` differs from `s` in the prefetch buffers, and neither in the Headgate nor in what the channel's port drives. -/
def State.BuffersOnly (s t : State) (c : ChanId) : Prop :=
  s.OutsideBuffers t ∧ t.hg = s.hg ∧ (t.port c.port).dq = (s.port c.port).dq

theorem State.BuffersOnly.refl (s : State) (c : ChanId) : s.BuffersOnly s c := ⟨.of_mem rfl, rfl, rfl⟩

theorem State.BuffersOnly.fetch {s t : State} {c : ChanId} (h : s.BuffersOnly t c) (x : Option Prefetch) :
    s.BuffersOnly (t.updPort c.port fun q => { q with fetchDue := x }) c := by
  obtain ⟨outside, hg, dq⟩ := h
  have port := t.port_updPort c.port fun q => { q with fetchDue := x }
  exact ⟨outside.trans (.of_mem rfl), hg, by rw [port]; exact dq⟩

theorem State.fillBuffer_buffersOnly (s : State) (c : ChanId) (ch : Chan) (leaf : Nat) : s.BuffersOnly (s.fillBuffer c ch leaf) c := by
  obtain ⟨eq, port⟩ := s.fillBuffer_eq c ch leaf
  exact ⟨s.fillBuffer_outside c ch leaf, by rw [eq], by rw [port]⟩

/-- What a read leaves in the buffers does not touch what it drove, the Headgate, or memory elsewhere (R75). -/
theorem State.streamed_buffersOnly (s : State) (c : ChanId) (ch : Chan) (op : HostReadOp) : s.BuffersOnly (s.streamed c ch op) c := by
  unfold State.streamed
  split
  · exact .refl s c
  next a _ =>
    dsimp only
    split
    · exact .refl s c
    · have filled : s.BuffersOnly (if (s.bufferOf c (a / 4096)).isSome then s else s.fillBuffer c ch (a / 4096)) c := by
        split
        · exact .refl s c
        · exact s.fillBuffer_buffersOnly c ch _
      exact iteInduction (motive := fun t => s.BuffersOnly t c) (fun _ => filled) fun _ => filled.fetch _

/-! ## Reads -/

/-- A read comes to its bytes with nothing but notes made (R126). -/
theorem State.hostRead_listed {s : State} {op : HostReadOp} {k : ReadKind} {quad : Bool} (opcode : Nat) (hl : s.Listens op.tx)
    (hd : (s.chan op.tx.chan).dpd = false) (hc : (s.chan op.tx.chan).contRead = op.noOpcode)
    (hf : op.tx.framing = (s.chan op.tx.chan).protocol)
    (listed : ((s.servingChan op.tx.chan).readListed k quad op.fourByte (s.port op.tx.port).hostIo && (! op.noOpcode || k == .quadIo)) = true)
    (fault : op.fault = none) (link : op.linkEcc = false) (pin : op.pinEcc = false)
    (good : (s.dramLeaves op.tx.chan (s.servingChan op.tx.chan) op).all (fun l => ! s.leafFails (s.servingChan op.tx.chan) l) = true) :
    ∃ t m, s.ReadsAs t op.tx.chan ∧ s.hostRead k quad opcode op =
      (t.serveRead op.tx.chan ((s.servingChan op.tx.chan).noted m) op k).streamed op.tx.chan ((s.servingChan op.tx.chan).noted m) op := by
  have measured := s.hostMeasure_readsAs op.tx
  obtain ⟨m₁, e₁⟩ := measured.servingChan
  have noted := measured.note (g := fun ch => { ch with contRead := ch.keepsReading k op.modeBits })
  obtain ⟨m₂, e₂⟩ := noted.servingChan
  have traced := noted.traceRead ((s.servingChan op.tx.chan).noted m₂) op k
  obtain ⟨m₃, e₃⟩ := traced.servingChan
  refine ⟨_, m₃, traced.pinHits ((s.servingChan op.tx.chan).noted m₃) op, ?_⟩
  have supply : ((s.hostMeasure op.tx).port op.tx.port).hostIo = (s.port op.tx.port).hostIo := by
    have := measured.supply
    rwa [HostTx.chan_port] at this
  rw [State.hostRead, State.hostOp_acts hl (by simp [hd]) hc hf]
  dsimp only
  rw [if_neg, State.pinEcc_none _ _ _ pin, e₂, traced.readFault_none fault link good, e₃]
  obtain ⟨lists, quadIo⟩ := Bool.and_eq_true_iff.1 listed
  have lists' : ((s.servingChan op.tx.chan).noted m₁).readListed k quad op.fourByte (s.port op.tx.port).hostIo = true := lists
  rw [e₁, supply, lists']
  cases hn : op.noOpcode <;> simp_all

/-- A read that the port lists, outside a strobe mode, drives each address's content where it is ready when due and 0xFF where not (R72,
R82). -/
theorem State.hostRead_drives {s : State} {op : HostReadOp} {k : ReadKind} {quad : Bool} (opcode : Nat) (hl : s.Listens op.tx)
    (hd : (s.chan op.tx.chan).dpd = false) (hc : (s.chan op.tx.chan).contRead = op.noOpcode)
    (hf : op.tx.framing = (s.chan op.tx.chan).protocol)
    (listed : ((s.servingChan op.tx.chan).readListed k quad op.fourByte (s.port op.tx.port).hostIo && (! op.noOpcode || k == .quadIo)) = true)
    (strobe : s.extends_ op.tx.chan k = false) (fault : op.fault = none) (link : op.linkEcc = false) (pin : op.pinEcc = false)
    (good : (s.dramLeaves op.tx.chan (s.servingChan op.tx.chan) op).all (fun l => ! s.leafFails (s.servingChan op.tx.chan) l) = true) :
    let t := s.hostRead k quad opcode op
    let c := op.tx.chan
    let sc := s.servingChan c
    s.OutsideBuffers t ∧ (t.port op.tx.port).dq = ((readAddrs sc op).zipIdx.map fun x =>
      if readyBy (s.readyAt c sc op x.1) (dueAt k op.tx.sckPs (sc.effWait k) x.2) then s.contentAt c sc x.1 else 0xFF) ∧ t.hg = s.hg := by
  obtain ⟨t, m, reads, e⟩ := State.hostRead_listed opcode hl hd hc hf listed fault link pin good
  have served : t.serveRead op.tx.chan ((s.servingChan op.tx.chan).noted m) op k =
      t.deliver op.tx.chan (s.readBytes op.tx.chan (s.servingChan op.tx.chan) op k 0) := by
    unfold State.serveRead
    rw [reads.extends_, strobe, reads.readBytes]
    rfl
  obtain ⟨rest, dq, -⟩ := t.deliver_drives op.tx.chan (s.readBytes op.tx.chan (s.servingChan op.tx.chan) op k 0)
  have out := rest.mem.trans reads.rest.mem
  dsimp only
  rw [e, served]
  obtain ⟨outside, hg, dq'⟩ := State.streamed_buffersOnly (t.deliver op.tx.chan (s.readBytes op.tx.chan (s.servingChan op.tx.chan) op k 0))
    op.tx.chan ((s.servingChan op.tx.chan).noted m) op
  rw [HostTx.chan_port] at dq dq'
  refine ⟨(State.OutsideBuffers.of_mem out).trans outside, ?_, hg.trans (rest.hg.trans reads.rest.hg)⟩
  rw [dq', dq, State.readBytes, List.map_map]
  refine List.map_congr_left fun x _ => ?_
  dsimp only [Function.comp_apply]
  rw [Nat.add_zero]
  split <;> rfl

/-- Nothing is driven, and the command is counted as unknown (R78). -/
def State.CountsUnknown (s : State) (tx : HostTx) (t : State) : Prop :=
  ((t.port tx.port).dq = [] ∧ t.hg = s.hg) ∧ (t.port tx.port).unkCnt = satInc 32 (s.port tx.port).unkCnt ∧ t.mem = s.mem ∧
    t.isPending (portEvent tx.port 6) = true

theorem State.unknown_counts (s : State) (tx : HostTx) (op : Nat) : s.CountsUnknown tx ((s.hostMeasure tx).unknownCmd tx op) := by
  obtain ⟨hsck, band, sticky, e⟩ := s.hostMeasure_port tx
  have rest := s.hostMeasure_hostOnly tx
  have port := (s.hostMeasure tx).unknownCmd_port tx op
  rw [e] at port
  have eq := (s.hostMeasure tx).unknownCmd_eq tx op
  refine ⟨⟨by rw [port], ?_⟩, by rw [port], ?_, State.unknownCmd_isPending _ tx op⟩
  · rw [eq]
    exact rest.hg
  · rw [eq]
    exact rest.mem

theorem State.misread_counts (s : State) (tx : HostTx) : s.CountsUnknown tx ((s.hostMeasure tx).misread tx) :=
  s.unknown_counts tx _

/-- A read that the port does not list is an unknown command (R77). -/
theorem State.hostRead_unlisted {s : State} {op : HostReadOp} {k : ReadKind} {quad : Bool} (opcode : Nat) (hl : s.Listens op.tx)
    (hd : (s.chan op.tx.chan).dpd = false) (hc : (s.chan op.tx.chan).contRead = op.noOpcode)
    (hf : op.tx.framing = (s.chan op.tx.chan).protocol)
    (unlisted : ((s.servingChan op.tx.chan).readListed k quad op.fourByte (s.port op.tx.port).hostIo && (! op.noOpcode || k == .quadIo)) =
      false) : s.hostRead k quad opcode op = (s.hostMeasure op.tx).unknownCmd op.tx opcode := by
  have measured := s.hostMeasure_readsAs op.tx
  obtain ⟨m, e⟩ := measured.servingChan
  have supply := measured.supply
  rw [HostTx.chan_port] at supply
  rw [State.hostRead, State.hostOp_acts hl (by simp [hd]) hc hf]
  dsimp only
  rw [if_pos]
  rw [e, supply]
  have notes : ((s.servingChan op.tx.chan).noted m).readListed k quad op.fourByte (s.port op.tx.port).hostIo =
      (s.servingChan op.tx.chan).readListed k quad op.fourByte (s.port op.tx.port).hostIo := rfl
  rw [notes]
  rcases Bool.and_eq_false_iff.1 unlisted with h | h
  · exact .inl (by simp [h])
  · exact .inr (by simpa using h)

/-! ## The statement's parts -/

/-- The claims of O1 about one read command, which `hostRead` runs as kind `k`. -/
theorem State.hostRead_claims {s : State} {tx : HostTx} {op : HostReadOp} (hop : op.tx = tx) {k : ReadKind} {quad : Bool} {opcode : Nat}
    {r : Host.Outcome State Fault Refusal} (runs : r = .next (s.hostRead k quad opcode op)) :
    let c := tx.chan
    let sc := s.servingChan c
    let takes : Prop := (s.chan c).state.served = true ∧ (s.port tx.port).hreset = false ∧ (s.chan c).dpd = false
    let framed : Prop := (s.chan c).contRead = op.noOpcode ∧ tx.framing = (s.chan c).protocol
    let listed := sc.readListed k quad op.fourByte (s.port tx.port).hostIo && (! op.noOpcode || k == .quadIo)
    ((s.chan c).state.served = false ∨ (s.port tx.port).hreset = true → Completes r fun t =>
      ((t.port tx.port).dq = [] ∧ t.hg = s.hg) ∧ t.mem = s.mem ∧ t.chans = s.chans) ∧
    (takes → (s.chan c).contRead = false → ¬ framed → Completes r (s.CountsUnknown tx)) ∧
    (takes → framed → listed = false → Completes r (s.CountsUnknown tx)) ∧
    (takes → framed → listed = true → s.extends_ c k = false → op.fault = none → op.linkEcc = false → op.pinEcc = false →
      (s.dramLeaves c sc op).all (fun l => ! s.leafFails sc l) = true → Completes r fun t =>
      s.OutsideBuffers t ∧ (t.port tx.port).dq = ((readAddrs sc op).zipIdx.map fun x =>
        if readyBy (s.readyAt c sc op x.1) (dueAt k tx.sckPs (sc.effWait k) x.2) then s.contentAt c sc x.1 else 0xFF) ∧ t.hg = s.hg) := by
  subst hop
  refine ⟨fun h => ⟨_, runs, ?_⟩, fun ⟨hs, hr, hd⟩ hc hf => ⟨_, runs, ?_⟩, fun ⟨hs, hr, hd⟩ ⟨hc, hf⟩ hl => ⟨_, runs, ?_⟩,
    fun ⟨hs, hr, hd⟩ ⟨hc, hf⟩ hl hx hfault hlink hpin hgood =>
      ⟨_, runs, State.hostRead_drives opcode ⟨hs, hr⟩ hd hc hf hl hx hfault hlink hpin hgood⟩⟩
  · rw [State.hostRead, State.hostOp_ignored h]
    exact ⟨⟨congrArg Port.dq (s.port_updPort _ _), rfl⟩, rfl, rfl⟩
  · rw [State.hostRead, State.hostOp_misread ⟨hs, hr⟩ (by simp [hd]) hc hf]
    exact s.misread_counts op.tx
  · rw [State.hostRead_unlisted opcode ⟨hs, hr⟩ hd hc hf hl]
    exact s.unknown_counts op.tx opcode

/-- A fast read runs as the kind of the emulated mode (R77). -/
theorem State.fastRead_runs {s : State} {op : HostReadOp} {k : ReadKind} (h : fastKind (s.chan op.tx.chan).protocol = some k) :
    exec (.fastRead op) s = .next (s.hostRead k false (readOpcode op 0x0B 0x0C) op) := by
  show execFastRead op s = _
  unfold execFastRead
  rw [h]

/-- A quad I/O read runs as 4-4-4 in that protocol mode (R77). -/
theorem State.quadRead_runs {s : State} {tx : HostTx} {op : HostReadOp} (hop : op.tx = tx) :
    exec (.quadRead true op) s =
      .next (s.hostRead (quadIoKind (s.chan tx.chan).protocol) true (readOpcode op 0xEB 0xEC) op) := by
  subst hop
  rfl

/-- In 8D-8D-8D a fast read is an unknown command (R77). -/
theorem State.fastRead_unknown {s : State} {tx : HostTx} (h : s.TakesCmd tx) (hd : (s.chan tx.chan).dpd = false) {op : HostReadOp}
    (hop : op.tx = tx) (hk : fastKind (s.chan tx.chan).protocol = none) : Completes (exec (.fastRead op) s) (s.CountsUnknown tx) := by
  subst hop
  refine ⟨(s.hostMeasure op.tx).unknownCmd op.tx (readOpcode op 0x0B 0x0C), ?_, s.unknown_counts op.tx _⟩
  show execFastRead op s = _
  unfold execFastRead
  rw [hk]
  exact congrArg Host.Outcome.next (State.hostOp_acts h.toListens (by simp [hd]) h.plain h.framed _)

/-- What a command that only reads drives; memory and the Headgate stay. -/
theorem State.drive_measured (s : State) (tx : HostTx) (bs : List Byte) :
    let t := (s.hostMeasure tx).drive tx.port bs
    t.mem = s.mem ∧ (t.port tx.port).dq = bs ∧ t.hg = s.hg :=
  have rest := s.hostMeasure_hostOnly tx
  ⟨rest.mem, congrArg Port.dq (State.port_updPort _ tx.port _), rest.hg⟩

/-- A command that reads the SFDP drives it and closes the native window outside NATIVE (R73). -/
theorem State.drive_closeNative (s : State) (tx : HostTx) (bs : List Byte) :
    let t := ((s.hostMeasure tx).drive tx.port bs).closeNative tx.chan
    ((t.port tx.port).dq = bs ∧ t.hg = s.hg) ∧ ((s.chan tx.chan).desc.policy ≠ 1 → (t.chan tx.chan).native = false) := by
  obtain ⟨raised, e⟩ := s.hostMeasure_chan tx
  obtain ⟨-, dq, hg⟩ := s.drive_measured tx bs
  generalize ed : (s.hostMeasure tx).drive tx.port bs = t at dq hg ⊢
  have own : t.chan tx.chan = (s.chan tx.chan).marked false raised := by
    rw [← ed]
    exact e
  have persona := t.closeNative_personaOnly tx.chan
  obtain ⟨native, trace, pins, ec, closed⟩ := t.closeNative_chan tx.chan
  dsimp only
  rw [persona.port, ec]
  exact ⟨⟨dq, persona.hg.trans hg⟩, fun hp => closed (by rw [own]; exact hp)⟩

/-- READ_ID, READ_SFDP and READ_REGISTERS drive what was captured, constructed and emulated (R68, R73, R77). -/
theorem State.identity_drives {s : State} {tx : HostTx} (h : s.TakesCmd tx) (hd : (s.chan tx.chan).dpd = false) :
    (∀ len : Nat, Completes (exec (.readId tx len) s) fun t => t.mem = s.mem ∧
      (t.port tx.port).dq = ((List.range len).map fun i => (s.chan tx.chan).idBytes.getD i 0xFF) ∧ t.hg = s.hg) ∧
    (∀ addr len : Nat, Completes (exec (.readSfdp tx addr len) s) fun t =>
      ((t.port tx.port).dq =
        ((List.range len).map fun i => if 4096 ≤ addr + i then 0xFF else (s.chan tx.chan).persSfdp.getD (addr + i) 0) ∧ t.hg = s.hg) ∧
      ((s.chan tx.chan).desc.policy ≠ 1 → (t.chan tx.chan).native = false)) ∧
    (∀ (reg : StatusReg) (len : Nat), Completes (exec (.readRegisters tx reg len) s) fun t => t.mem = s.mem ∧
      (t.port tx.port).dq = List.replicate len ((s.chan tx.chan).regByte (match reg with
        | .status => 0x05
        | .config o => o)) ∧ t.hg = s.hg) := by
  obtain ⟨raised, e⟩ := s.hostMeasure_chan tx
  have acts : ∀ f, s.hostCmd tx false f = f (s.hostMeasure tx) :=
    fun f => State.hostOp_acts h.toListens (by simp [hd]) h.plain h.framed f
  refine ⟨fun len => ⟨_, rfl, ?_⟩, fun addr len => ⟨_, rfl, ?_⟩, fun reg len => ⟨_, rfl, ?_⟩⟩
  · rw [acts, e]
    exact s.drive_measured tx _
  · rw [acts, e]
    exact s.drive_closeNative tx _
  · rw [acts, e]
    exact s.drive_measured tx _

/-- The prefetch that is due brings its leaf into a buffer (R75). -/
theorem State.prefetch_fills {s : State} {tx : HostTx} {leaf : Nat} (due : (s.port tx.port).fetchDue = some ⟨tx.chan, leaf⟩)
    (served : (s.chan tx.chan).state.served = true) (faulted : (s.chan tx.chan).faulted.contains leaf = false)
    (lost : (s.chan tx.chan).lost.contains leaf = false) (good : s.leafFails (s.chan tx.chan) leaf = false) :
    Completes (exec (.prefetchLeafDone tx.port tx.chan leaf none) s) fun t =>
      s.OutsideBuffers t ∧ (t.port tx.port).fetchDue = none ∧ t.hg = s.hg ∧
        ∃ i : Fin 2, (t.port tx.port).buffers[i] = some ⟨tx.chan, leaf⟩ ∧ ∀ j : Nat, j < 4096 →
          t.byte (bufferAddr tx.port i + j) = s.byte (dramBase + ((s.chan tx.chan).desc.mirrorPage + leaf) * 4096 + j) := by
  let u := s.updPort tx.port fun q => { q with fetchDue := none }
  have runs : s.prefetchDone tx.port tx.chan leaf none = u.fillBuffer tx.chan (s.chan tx.chan) leaf := by
    have good' : u.leafFails (s.chan tx.chan) leaf = false := good
    unfold State.prefetchDone
    dsimp only
    rw [if_neg (by simp [due, served]), if_neg (by rw [faulted, lost]; decide), if_neg (by rw [show State.leafFails _ _ _ = false from good']; decide)]
  have port := u.fillBuffer_eq tx.chan (s.chan tx.chan) leaf
  have bytes := fun {j} (hj : j < 4096) => u.fillBuffer_byte tx.chan (s.chan tx.chan) leaf hj
  dsimp only at port
  rw [HostTx.chan_port] at port
  simp only [HostTx.chan_port] at bytes
  obtain ⟨-, port⟩ := port
  refine ⟨_, congrArg Host.Outcome.next runs, fun a ha => u.fillBuffer_outside _ _ _ a ha, ?_, rfl, (u.port tx.port).bufferFor tx.chan leaf, ?_,
    fun j hj => bytes hj⟩
  · rw [port]
    exact congrArg Port.fetchDue (s.port_updPort tx.port _)
  · rw [port]
    exact vset_get _ _ _

/-- At the hold limit the held read goes out whole (R72). -/
theorem State.holdLimit_delivers {s : State} {p : PortId} {h : HeldRead} (held : (s.port p).held = some h) (own : h.op.tx.port = p) :
    Completes (exec (.holdLimitReached p) s) fun t =>
      (t.port p).held = none ∧ t.time = max s.time (h.dueAt + (s.port p).limitPs / 1000) ∧ t.mem = s.mem ∧ t.hg = s.hg ∧
        (t.port p).dq.length = h.op.len := by
  let u := (s.advanceTo (h.dueAt + (s.port p).limitPs / 1000)).updPort p fun q => { q with held := none }
  have runs : s.holdLimit p = u.deliver h.op.tx.chan (u.readBytes h.op.tx.chan (u.heldChan h) h.op h.kind (u.port p).limitPs) := by
    unfold State.holdLimit
    rw [held]
  obtain ⟨rest, dq, held'⟩ := u.deliver_drives h.op.tx.chan (u.readBytes h.op.tx.chan (u.heldChan h) h.op h.kind (u.port p).limitPs)
  rw [HostTx.chan_port, own] at dq held'
  refine ⟨_, congrArg Host.Outcome.next runs, ?_, rest.time, rest.mem, rest.hg, ?_⟩
  · rw [held']
    exact congrArg Port.held (State.port_updPort _ p _)
  · rw [dq]
    simp [State.readBytes, readAddrs]

/-- Settles O1: each read by `State.hostRead_claims` for its kind, the rest by the command's own lemma. -/
theorem hostReads : Obligations.HostReads := by
  intro s tx
  refine ⟨fun op hop => ?_, fun ⟨hs, hr, hd⟩ ⟨hc, hf⟩ => ?_, fun leaf due served faulted lost good =>
    State.prefetch_fills due served faulted lost good, fun h held own => State.holdLimit_delivers held own⟩
  · refine ⟨State.hostRead_claims hop rfl, fun k hk => State.hostRead_claims hop (State.fastRead_runs (by rw [hop]; exact hk)),
      fun hk ⟨hs, hr, hd⟩ ⟨hc, hf⟩ => State.fastRead_unknown ⟨⟨hs, hr⟩, hc, hf⟩ hd hop hk, State.hostRead_claims hop rfl,
      State.hostRead_claims hop rfl, State.hostRead_claims hop rfl, State.hostRead_claims hop (State.quadRead_runs hop), State.hostRead_claims hop rfl,
      State.hostRead_claims hop rfl⟩
  · have h : s.TakesCmd tx := ⟨⟨hs, hr⟩, hc, hf⟩
    obtain ⟨id, sfdp, regs⟩ := State.identity_drives h hd
    refine ⟨id, sfdp, fun o => regs (.config o), regs .status, fun opcode => ⟨_, rfl, ?_⟩⟩
    rw [State.hostCmd, State.hostOp_acts h.toListens (by simp [hd]) hc hf]
    exact s.unknown_counts tx _

end Sys2Proof.Machine
end

section
/-!
PROOF. What recovery, golden copies and the stream's end leave in place (O12). `s.Spares src t` says that `t` has the time of `s`, what each
port holds and drives, every event that was pending, and where `src` asks for it the recovery source of each target. As in O56, each
function of the machine on their way has one lemma, whose proof follows the function's own branches, calls and updates.
-/
namespace Sys2Proof.Machine

/-- A change of a record that writes none of what `f` reads leaves it, for each target. -/
theorem State.updTarget_apply {α : Type} (f : TargetUpd → α) {g : TargetUpd → TargetUpd} (h : ∀ u, f (g u) = f u) (s : State)
    (t T : Target) : f ((s.updTarget t g).target T) = f (s.target T) := by
  by_cases hT : T.idx = t.idx
  · simp only [State.target, hT]
    exact (congrArg f (vupd_get s.upd.targets t.idx g)).trans (h _)
  · exact congrArg f (vupd_get_ne s.upd.targets t.idx T.idx g hT)

/-- What a port holds of its host's reset and reads (R72, R79). -/
def Port.line (p : Port) : Bool × Option HeldRead × List Byte := (p.hreset, p.held, p.dq)

structure State.Spares (src : Prop) (s t : State) : Prop where
  time : t.time = s.time
  lines : ∀ p, (t.port p).line = (s.port p).line
  events : ∀ e, s.isPending e = true → t.isPending e = true
  sources : src → ∀ T, (t.target T).recSource = (s.target T).recSource

section
variable {src : Prop} {s₀ s : State}

theorem State.Spares.refl (s : State) : s.Spares src s := ⟨rfl, fun _ => rfl, fun _ h => h, fun _ _ => rfl⟩

/-- An update of what is not spared. -/
theorem State.Spares.upd (hs : s₀.Spares src s) {dev hg pw ms log chans mir hash vers bank bankEpoch journal nextSeq traces traceBoot
    waiting floorDue gateWaits pldm pldmMax pldmComp pldmApplied pldmReq pldmOut pldmSent bootTraces cis pak boot kv lev spdm fuse pke
    cores mbox spi rill mem free pending} :
    s₀.Spares src ⟨s.time, dev, hg, s.ev, pw, ms, log, chans, s.ports, mir, hash, ⟨vers, s.upd.targets, bank, bankEpoch, journal,
      nextSeq, traces, traceBoot, waiting, floorDue, gateWaits, pldm, pldmMax, pldmComp, pldmApplied, pldmReq, pldmOut, pldmSent,
      bootTraces⟩, cis, pak, boot, kv, lev, spdm, fuse, pke, cores, mbox, spi, rill, mem, free, pending⟩ :=
  ⟨hs.time, hs.lines, hs.events, hs.sources⟩

theorem State.Spares.ite {c : Prop} {_ : Decidable c} {t u : State} (ht : s₀.Spares src t) (hu : s₀.Spares src u) :
    s₀.Spares src (if c then t else u) := by
  split
  · exact ht
  · exact hu

theorem State.Spares.foldl {α : Type} {f : State → α → State} {l : List α} (hs : s₀.Spares src s)
    (hf : ∀ t a, s₀.Spares src t → s₀.Spares src (f t a)) : s₀.Spares src (l.foldl f s) :=
  State.foldl_inv (fun t => s₀.Spares src t) f hf l s hs

/-! ## Ops -/

theorem State.Spares.updChan (hs : s₀.Spares src s) {c : ChanId} {f : Chan → Chan} : s₀.Spares src (s.updChan c f) := hs.upd

theorem State.Spares.updPort (hs : s₀.Spares src s) {p : PortId} {f : Port → Port} (hf : ∀ q, (f q).line = q.line) :
    s₀.Spares src (s.updPort p f) := by
  refine ⟨hs.time, fun q => ?_, hs.events, hs.sources⟩
  rw [← hs.lines q]
  by_cases hq : q = p
  · subst hq
    rw [State.port_updPort, hf]
  · rw [State.port_updPort_ne _ _ _ _ hq]

theorem State.Spares.updTarget (hs : s₀.Spares src s) {t : Target} {f : TargetUpd → TargetUpd}
    (hf : src → ∀ u, (f u).recSource = u.recSource) : s₀.Spares src (s.updTarget t f) := by
  refine ⟨hs.time, hs.lines, hs.events, fun hsrc T => ?_⟩
  rw [← hs.sources hsrc T]
  exact s.updTarget_apply TargetUpd.recSource (hf hsrc) t T

/-- A change of a target's record that takes its source over. -/
theorem State.Spares.updRecord (hs : s₀.Spares src s) {t : Target}
    {state layout expect imageSize intent commit goldenHeld supersedes stream recState : TargetUpd → Nat}
    {staging landing idleAt recUntil : TargetUpd → Option Nat} {status : TargetUpd → Code} {route : TargetUpd → Option Route}
    {verified golden activate switchRetried switchWaits recLocal atStart recovered invalDue : TargetUpd → Bool}
    {container : TargetUpd → List Byte} {part1 switchUnits staged : TargetUpd → List Nat} {heldOut : TargetUpd → Option Half}
    {digests : TargetUpd → Both (List Digest)} {recCodes : TargetUpd → List Code} {edit : TargetUpd → Option (EditKind × Nat)}
    {editsDue : TargetUpd → List EditKind} {editCode : TargetUpd → Option Code} {superseded : TargetUpd → Option (Nat × Nat)} :
    s₀.Spares src (s.updTarget t fun u => ⟨state u, status u, layout u, route u, container u, expect u, staging u, landing u,
      imageSize u, intent u, commit u, verified u, golden u, activate u, heldOut u, part1 u, goldenHeld u, switchUnits u,
      switchRetried u, switchWaits u, digests u, supersedes u, stream u, staged u, idleAt u, recState u, u.recSource, recUntil u,
      recLocal u, recCodes u, atStart u, recovered u, invalDue u, edit u, editsDue u, editCode u, superseded u⟩) :=
  hs.updTarget fun _ _ => rfl

theorem State.Spares.store (hs : s₀.Spares src s) {a : Nat} {bs : List Byte} : s₀.Spares src (s.store a bs) := hs.upd

theorem State.Spares.erase (hs : s₀.Spares src s) {a n : Nat} : s₀.Spares src (s.erase a n) := hs.upd

theorem State.Spares.drawn (hs : s₀.Spares src s) : s₀.Spares src s.drawn := hs.upd

theorem State.Spares.raise (hs : s₀.Spares src s) {e : Nat} : s₀.Spares src (s.raise e) := by
  refine ⟨hs.time, hs.lines, fun i hi => ?_, hs.sources⟩
  have hp := hs.events i hi
  unfold State.isPending State.raise at *
  simp [hp]

theorem State.Spares.logRec (hs : s₀.Spares src s) {kind : LogKind} {event code : Nat} {origin : Origin} {body : List LogField} :
    s₀.Spares src (s.logRec kind event code origin body) := hs.upd

theorem State.Spares.logIt (hs : s₀.Spares src s) {kind : LogKind} {event code : Nat} {body : List LogField} :
    s₀.Spares src (s.logIt kind event code body) := hs.logRec

theorem State.Spares.logLimited (hs : s₀.Spares src s) {limit key : Nat} {kind : LogKind} {event code : Nat} {body : List LogField} :
    s₀.Spares src (s.logLimited limit key kind event code body) := by
  rw [State.logLimited_eq]
  exact hs.upd

theorem State.Spares.raiseLog (hs : s₀.Spares src s) {e : Nat} {body : List LogField} : s₀.Spares src (s.raiseLog e body) :=
  hs.raise.logIt

theorem State.Spares.setMode (hs : s₀.Spares src s) {m : DevMode} {cause : Nat} : s₀.Spares src (s.setMode m cause) :=
  hs.upd.logIt.ite hs

theorem State.Spares.dropPrefetch (hs : s₀.Spares src s) {c : ChanId} {f : Nat → Bool} : s₀.Spares src (s.dropPrefetch c f) :=
  hs.updPort fun _ => rfl

theorem State.Spares.fillAbort (hs : s₀.Spares src s) {c : ChanId} : s₀.Spares src (s.fillAbort c) := hs.updChan.upd.raiseLog

theorem State.Spares.copyState (hs : s₀.Spares src s) {c : ChanId} {st : ChanState} : s₀.Spares src (s.copyState c st) := hs.store

theorem State.Spares.enterChan (hs : s₀.Spares src s) {c : ChanId} {st : ChanState} : s₀.Spares src (s.enterChan c st) :=
  have h₁ := (hs.updChan.ite hs.updChan.dropPrefetch).logIt
  h₁.fillAbort.ite h₁

theorem State.Spares.setChan (hs : s₀.Spares src s) {c : ChanId} {st : ChanState} : s₀.Spares src (s.setChan c st) :=
  hs.ite hs.enterChan.copyState

/-! ## The object store -/

theorem State.Spares.storeAppend (hs : s₀.Spares src s) {rec : List Byte} : s₀.Spares src (s.storeAppend rec) := hs.store.upd

theorem State.Spares.storeValue (hs : s₀.Spares src s) {index sub : Nat} {v : List Byte} : s₀.Spares src (s.storeValue index sub v) :=
  hs.storeAppend.upd

theorem State.Spares.storeCompact (hs : s₀.Spares src s) : s₀.Spares src s.storeCompact :=
  (hs.erase.upd.foldl fun _ _ h => h.storeValue).storeAppend.erase

theorem State.Spares.storeHeader (hs : s₀.Spares src s) : s₀.Spares src s.storeHeader := hs.storeAppend.ite hs

theorem State.Spares.storePut (hs : s₀.Spares src s) {index sub : Nat} {v : List Byte} : s₀.Spares src (s.storePut index sub v) :=
  hs.upd.storeHeader.storeValue.ite hs.upd.storeHeader.storeCompact

theorem State.Spares.pldmTell (hs : s₀.Spares src s) {t : Target} {command result : Nat} : s₀.Spares src (s.pldmTell t command result) :=
  hs.upd.ite hs

/-! ## Headgate and verdicts -/

theorem State.Spares.clearVerdicts (hs : s₀.Spares src s) {c : ChanId} : s₀.Spares src (s.clearVerdicts c) := hs.upd

theorem State.Spares.startVer (hs : s₀.Spares src s) {t : Target} {k : VerKind} {gen : Nat} {container : List Byte} :
    s₀.Spares src (s.startVer t k gen container) := hs.upd

theorem State.Spares.verifyChan (hs : s₀.Spares src s) {c : ChanId} : s₀.Spares src (s.verifyChan c) := hs.ite hs.startVer

theorem State.Spares.chanAsserted (hs : s₀.Spares src s) {c : ChanId} : s₀.Spares src (s.chanAsserted c) := by
  unfold State.chanAsserted
  split
  · exact hs.setChan.verifyChan
  · exact hs.setChan.ite hs
  exact hs

theorem State.Spares.outEvent (hs : s₀.Spares src s) {h : OutId} {change cause : Nat} : s₀.Spares src (s.outEvent h change cause) :=
  hs.raiseLog

theorem State.Spares.assertOne (hs : s₀.Spares src s) {cause : Nat} {h : OutId} : s₀.Spares src (s.assertOne cause h) :=
  hs.ite (hs.upd.foldl fun _ _ h => h.clearVerdicts.chanAsserted).outEvent

theorem State.Spares.assertSet (hs : s₀.Spares src s) {set : DWord} {cause : Nat} : s₀.Spares src (s.assertSet set cause) :=
  hs.foldl fun _ _ h => h.assertOne

theorem State.Spares.holdSet (hs : s₀.Spares src s) {half : Half} {h : OutId} : s₀.Spares src (s.holdSet half h) := hs.upd.assertSet

theorem State.Spares.holdClear (hs : s₀.Spares src s) {half : Half} {h : OutId} : s₀.Spares src (s.holdClear half h) := hs.upd

theorem State.Spares.quarantineFreeze (hs : s₀.Spares src s) {cause : Nat} : s₀.Spares src (s.quarantineFreeze cause) :=
  hs.upd.setMode.ite hs

theorem State.Spares.disagreement (hs : s₀.Spares src s) : s₀.Spares src s.disagreement :=
  hs.upd.storePut.quarantineFreeze.ite hs.upd.storePut

theorem State.Spares.conflict (hs : s₀.Spares src s) {c : ChanId} : s₀.Spares src (s.conflict c) :=
  hs.upd.disagreement.setChan.ite (hs.clearVerdicts.upd.updChan.startVer.ite hs.clearVerdicts.upd.verifyChan)

theorem State.Spares.noteGolden (hs : s₀.Spares src s) {c : ChanId} : s₀.Spares src (s.noteGolden c) := hs.ite hs.upd

theorem State.Spares.needRecovery (hs : s₀.Spares src s) {c : ChanId} : s₀.Spares src (s.needRecovery c) := hs.updRecord.ite hs

theorem State.Spares.afterPost (hs : s₀.Spares src s) {c : ChanId} : s₀.Spares src (s.afterPost c) :=
  hs.conflict.ite ((hs.upd.setChan.noteGolden.ite hs.upd).ite ((hs.upd.needRecovery.ite hs.upd).ite hs))

theorem State.Spares.vpostCode (hs : s₀.Spares src s) {h : Half} {c : Code} : s₀.Spares src (s.vpostCode h c) := hs.upd

theorem State.Spares.vpostStore (hs : s₀.Spares src s) {h : Half} {v : Word} : s₀.Spares src (s.vpostStore h v).1 := by
  unfold State.vpostStore
  dsimp only
  split
  · exact hs.vpostCode
  split
  · exact hs.vpostCode
  split
  · exact hs.vpostCode
  exact hs.upd

theorem State.Spares.vpost (hs : s₀.Spares src s) {h : Half} {v : Word} : s₀.Spares src (s.vpost h v) :=
  hs.vpostStore.afterPost.ite hs.vpostStore

theorem State.Spares.postVerdict (hs : s₀.Spares src s) {h : Half} {c : ChanId} {root : Digest} {code : Code} :
    s₀.Spares src (s.postVerdict h c root code) := hs.upd.vpost

/-! ## Mirror, table and repair -/

theorem State.Spares.setEpoch (hs : s₀.Spares src s) {l e : Nat} : s₀.Spares src (s.setEpoch l e) := hs.store

theorem State.Spares.resealCheck (hs : s₀.Spares src s) {version epoch : Nat} : s₀.Spares src (s.resealCheck version epoch) :=
  hs.upd.raiseLog.ite hs

theorem State.Spares.sealPage (hs : s₀.Spares src s) {p : Nat} : s₀.Spares src (s.sealPage p) := hs.upd.setEpoch.resealCheck

theorem State.Spares.pinCopy (hs : s₀.Spares src s) {c : ChanId} {leaf : Nat} : s₀.Spares src (s.pinCopy c leaf) := by
  unfold State.pinCopy
  split
  · exact hs.store
  exact hs

theorem State.Spares.mirrorWrite (hs : s₀.Spares src s) {c : ChanId} {a : Nat} {bs : List Byte} : s₀.Spares src (s.mirrorWrite c a bs) :=
  hs.ite ((hs.store.foldl fun _ _ h => h.sealPage).foldl fun _ _ h => h.pinCopy).dropPrefetch

theorem State.Spares.writeDigest (hs : s₀.Spares src s) {c : ChanId} {leaf : Nat} {d : Digest} : s₀.Spares src (s.writeDigest c leaf d) :=
  hs.store.foldl fun _ _ h => h.sealPage

theorem State.Spares.putLeafDigest (hs : s₀.Spares src s) {c : ChanId} {leaf : Nat} {d : Digest} :
    s₀.Spares src (s.putLeafDigest c leaf d) := hs.writeDigest.ite hs.upd.raiseLog

theorem State.Spares.startFill (hs : s₀.Spares src s) {c : ChanId} : s₀.Spares src (s.startFill c) := hs.ite hs.setChan.updChan.verifyChan

theorem State.Spares.invalReject (hs : s₀.Spares src s) {c : ChanId} {cause : BitVec 3} {code : Code} :
    s₀.Spares src (s.invalReject c cause code) := hs.upd.raiseLog

theorem State.Spares.chtInvalWrite (hs : s₀.Spares src s) {v : Word} : s₀.Spares src (s.chtInvalWrite v) := hs.invalReject.ite hs.upd

theorem State.Spares.repostDigest (hs : s₀.Spares src s) : s₀.Spares src s.repostDigest := hs.upd

theorem State.Spares.endVer (hs : s₀.Spares src s) {h : Half} {t : Target} : s₀.Spares src (s.endVer h t) := hs.upd

theorem State.Spares.endVers (hs : s₀.Spares src s) {t : Target} : s₀.Spares src (s.endVers t) := hs.endVer.endVer

theorem State.Spares.rewriteDigests (hs : s₀.Spares src s) {c : ChanId} {m : List Byte} : s₀.Spares src (s.rewriteDigests c m) :=
  (hs.foldl fun _ _ h => h.putLeafDigest).updChan

theorem State.Spares.startRepairFrom (hs : s₀.Spares src s) {c : ChanId} {source unit len : Nat} :
    s₀.Spares src (s.startRepairFrom c source unit len) := hs.updChan

theorem State.Spares.repairEnds (hs : s₀.Spares src s) {c : ChanId} : s₀.Spares src (s.repairEnds c) := by
  unfold State.repairEnds
  dsimp only
  split
  · exact hs.updChan.updChan.startRepairFrom
  exact hs.updChan.setChan.ite hs.updChan

theorem State.Spares.noSourceLog (hs : s₀.Spares src s) {c : ChanId} : s₀.Spares src (s.noSourceLog c) := hs.logIt.updChan

/-! ## The journal -/

theorem State.Spares.putRec (hs : s₀.Spares src s) {r : JRec} : s₀.Spares src (s.putRec r) := hs.store.upd

theorem State.Spares.rawAppend (hs : s₀.Spares src s) {r : JRec} : s₀.Spares src (s.rawAppend r) := hs.putRec.upd

theorem State.Spares.journalCompact (hs : s₀.Spares src s) : s₀.Spares src s.journalCompact :=
  (hs.erase.upd.foldl fun _ _ h => h.putRec).rawAppend.erase

theorem State.Spares.compactIfDue (hs : s₀.Spares src s) : s₀.Spares src s.compactIfDue := hs.journalCompact.ite hs

theorem State.Spares.bankHeader (hs : s₀.Spares src s) : s₀.Spares src s.bankHeader := hs.rawAppend.ite hs

theorem State.Spares.noteRec (hs : s₀.Spares src s) {r : JRec} {seq : Nat} : s₀.Spares src (s.noteRec r seq) := by
  unfold State.noteRec
  split
  · exact hs.updRecord
  · exact hs.updRecord
  exact hs

theorem State.Spares.appendRec (hs : s₀.Spares src s) {r : JRec} : s₀.Spares src (s.appendRec r) :=
  hs.bankHeader.rawAppend.noteRec.compactIfDue

theorem State.Spares.queueStep (hs : s₀.Spares src s) {g : GateStep} : s₀.Spares src (s.queueStep g) :=
  (hs.ite hs.upd.logLimited).upd

theorem State.Spares.setUpd (hs : s₀.Spares src s) {t : Target} {st : Nat} : s₀.Spares src (s.setUpd t st) := hs.updRecord

/-! ## Golden copies -/

theorem State.Spares.send (hs : s₀.Spares src s) {type dst : Nat} {payload : List Byte} : s₀.Spares src (s.send type dst payload) := by
  rw [State.send_eq]
  exact hs.upd

theorem State.Spares.requestShards (hs : s₀.Spares src s) {t : Target} {g : GoldenSet} : s₀.Spares src (s.requestShards t g) :=
  hs.foldl fun _ _ h => h.send

theorem State.Spares.putSets (hs : s₀.Spares src s) {t : Target} {f : List GoldenSet → List GoldenSet} : s₀.Spares src (s.putSets t f) :=
  hs.upd

theorem State.Spares.updSet (hs : s₀.Spares src s) {t : Target} {id : Nat} {f : GoldenSet → GoldenSet} : s₀.Spares src (s.updSet t id f) :=
  hs.putSets

theorem State.Spares.nextCommit (hs : s₀.Spares src s) : s₀.Spares src s.nextCommit := hs.ite (hs.upd.ite (hs.ite hs.queueStep))

theorem State.Spares.catChange (hs : s₀.Spares src s) {c : CatChange} : s₀.Spares src (s.catChange c) := hs.upd.nextCommit

theorem State.Spares.takeHandle (hs : s₀.Spares src s) : s₀.Spares src s.takeHandle.2 := hs.upd

theorem State.Spares.putGolden (hs : s₀.Spares src s) {t : Target} {b : List Byte} : s₀.Spares src (s.putGolden t b) :=
  hs.takeHandle.putSets.catChange.drawn

theorem State.Spares.goldenWrite (hs : s₀.Spares src s) {t : Target} {b : List Byte} : s₀.Spares src (s.goldenWrite t b) :=
  hs.raiseLog.ite (hs.upd.ite (hs.putGolden.ite hs.raiseLog))

theorem State.Spares.freeSet (hs : s₀.Spares src s) {t : Target} {g : GoldenSet} : s₀.Spares src (s.freeSet t g) :=
  hs.putSets.upd.ite hs.putSets.upd.catChange

theorem State.Spares.dispose (hs : s₀.Spares src s) {t : Target} : s₀.Spares src (s.dispose t) := (hs.foldl fun _ _ h => h.freeSet).ite hs

theorem State.Spares.startLanding (hs : s₀.Spares src s) {c : ChanId} : s₀.Spares src (s.startLanding c) := by
  unfold State.startLanding
  dsimp only
  split
  · exact hs.setUpd.updRecord.holdSet.ite hs.setUpd
  exact hs.setUpd

theorem State.Spares.applied (hs : s₀.Spares src s) {t : Target} : s₀.Spares src (s.applied t) := hs.upd.pldmTell.ite hs

theorem State.Spares.updProceed (hs : s₀.Spares src s) {t : Target} : s₀.Spares src (s.updProceed t) := by
  unfold State.updProceed
  refine .ite ?_ hs
  dsimp only
  split
  · exact hs.applied.startLanding.ite hs.applied
  exact hs.applied

theorem State.Spares.updDurable (hs : s₀.Spares src s) {t : Target} {root : Digest} : s₀.Spares src (s.updDurable t root) :=
  hs.updRecord.updProceed.ite hs

theorem State.Spares.setDurable (hs : s₀.Spares src s) {t : Target} {g : GoldenSet} : s₀.Spares src (s.setDurable t g) :=
  .dispose (by split; exacts [hs.updDurable.freeSet.updSet.raiseLog, hs.updDurable])

theorem State.Spares.goldenSync (hs : s₀.Spares src s) {c : ChanId} : s₀.Spares src (s.goldenSync c) := by
  unfold State.goldenSync
  split
  · exact State.Spares.ite (hs.store.updChan.repostDigest :) hs
  exact hs

theorem State.Spares.refreshSet (hs : s₀.Spares src s) {t : Target} {g0 : GoldenSet} : s₀.Spares src (s.refreshSet t g0) := by
  unfold State.refreshSet
  split
  · exact hs
  refine hs.ite ?_
  refine .ite (.setDurable (.logIt ?_)) (.logIt ?_) <;> split
  · exact hs.updSet.raise
  · exact hs.updSet
  · exact hs.updSet.raise
  · exact hs.updSet

theorem State.Spares.rebuildCheck (hs : s₀.Spares src s) : s₀.Spares src s.rebuildCheck := hs.upd.ite (hs.upd.ite hs.upd.raiseLog)

theorem State.Spares.refreshSets (hs : s₀.Spares src s) : s₀.Spares src s.refreshSets :=
  (hs.foldl fun _ _ h => h.foldl fun _ _ h2 => h2.refreshSet).rebuildCheck.foldl fun _ _ h => h.goldenSync

theorem State.Spares.dropGolden (hs : s₀.Spares src s) {t : Target} {root : Digest} : s₀.Spares src (s.dropGolden t root) :=
  hs.ite ((hs.upd.foldl fun _ _ h => h.freeSet).ite (hs.upd.foldl fun _ _ h => h.freeSet).catChange)

/-! ## A channel's records and updates -/

theorem State.Spares.landImage (hs : s₀.Spares src s) {c : ChanId} {b : List Byte} {page : Nat} : s₀.Spares src (s.landImage c b page) :=
  hs.foldl fun _ _ h => h.store.sealPage

theorem State.Spares.putField (hs : s₀.Spares src s) {c : ChanId} {off : Nat} {bs : List Byte} : s₀.Spares src (s.putField c off bs) :=
  hs.store

theorem State.Spares.invalidate (hs : s₀.Spares src s) {c : ChanId} {g : Nat} : s₀.Spares src (s.invalidate c g) :=
  hs.updRecord.chtInvalWrite.ite hs.updRecord

theorem State.Spares.newGeneration (hs : s₀.Spares src s) {c : ChanId} {k : EditKind} : s₀.Spares src (s.newGeneration c k) :=
  hs.updRecord.putField.repostDigest.invalidate

theorem State.Spares.editImage (hs : s₀.Spares src s) {c : ChanId} {r : JRec} : s₀.Spares src (s.editImage c r) :=
  .newGeneration (.foldl (.putField (.putField (.updRecord (by split; exacts [hs.store.putField, hs])))) fun _ _ h => h.putLeafDigest)

theorem State.Spares.runEditImage (hs : s₀.Spares src s) {c : ChanId} : s₀.Spares src (s.runEdit c .image) := by
  unfold State.runEdit
  dsimp only
  split
  · exact hs.editImage
  exact hs

theorem State.Spares.edit (hs : s₀.Spares src s) {c : ChanId} : s₀.Spares src (s.edit c .image) :=
  hs.setUpd.updRecord.ite hs.setUpd.runEditImage

theorem State.Spares.pldmSettled (hs : s₀.Spares src s) {t : Target} : s₀.Spares src (s.pldmSettled t) := hs.upd

end

theorem Target.ofCode_chan (c : ChanId) : Target.ofCode (Target.chan c).code = some (.chan c) := by
  show Target.ofCode c.val = _
  rw [Target.ofCode, dif_pos c.isLt]

/-- What follows a channel's COMMIT is the edit of its image; its ABANDON and RECOVERY are followed by nothing (R215, R218, R230). -/
theorem State.afterRec_chan (s : State) (c : ChanId) {r : JRec} (ht : r.target = (Target.chan c).code) :
    (r.type = .commit → s.afterRec r = (s.pldmSettled (.chan c)).edit c .image) ∧
    (r.type = .abandon ∨ r.type = .recovery → s.afterRec r = s) := by
  unfold State.afterRec
  rw [ht, Target.ofCode_chan]
  exact ⟨fun h => by rw [h], fun h => by rcases h with h | h <;> rw [h]⟩

section
variable {src : Prop} {s₀ s : State}

/-- A step of a channel's journal: its COMMIT, its ABANDON or a RECOVERY. -/
theorem State.Spares.journalStep (hs : s₀.Spares src s) {c : ChanId} {r : JRec} (ht : r.target = (Target.chan c).code)
    (hr : r.type = .commit ∨ r.type = .abandon ∨ r.type = .recovery) : s₀.Spares src (s.journalStep r) := by
  unfold State.journalStep
  split
  · obtain ⟨commit, rest⟩ := (s.appendRec r).afterRec_chan c ht
    rcases hr with h | h
    · rw [commit h]
      exact hs.appendRec.pldmSettled.edit
    · rw [rest h]
      exact hs.appendRec
  · exact hs.queueStep

theorem State.Spares.abandonChan (hs : s₀.Spares src s) {c : ChanId} {held : Option Half} : s₀.Spares src (s.abandonChan c held) := by
  unfold State.abandonChan
  have cleared : s₀.Spares src (match held with
      | some h => s.holdClear h (((s.chan c).output).getD 0)
      | none => s) := by
    split
    · exact hs.holdClear
    · exact hs
  exact (cleared.setChan.verifyChan.ite cleared.setChan).ite cleared

theorem State.Spares.abandon (hs : s₀.Spares src s) {c : ChanId} {code : Code} : s₀.Spares src (s.abandon (.chan c) code) :=
  have settled := hs.upd.pldmSettled
  have logged := (settled.upd.ite settled).journalStep (c := c) rfl (.inr (.inl rfl))
  hs.ite (logged.ite logged.dropGolden).endVers.updRecord.abandonChan

theorem State.Spares.startUpdVer (hs : s₀.Spares src s) {t : Target} : s₀.Spares src (s.startUpdVer t) := hs.startVer

theorem State.Spares.landCommit (hs : s₀.Spares src s) {c : ChanId} {page flags : Nat} {units : List Nat} :
    s₀.Spares src (s.landCommit c page flags units) := hs.updRecord.journalStep (c := c) rfl (.inl rfl)

/-! ## Recovery -/

theorem State.Spares.requestOrphan (hs : s₀.Spares src s) {e : CatEntry} : s₀.Spares src (s.requestOrphan e) :=
  hs.foldl fun _ _ h => h.foldl fun _ _ h2 => h2.ite h2.send

theorem State.Spares.askPeers (hs : s₀.Spares src s) {c : ChanId} : s₀.Spares src (s.askPeers c) :=
  ((hs.foldl fun _ _ h => h.requestShards).foldl fun _ _ h => h.requestOrphan).ite (hs.foldl fun _ _ h => h.requestShards)

theorem State.Spares.recoveryRecord (hs : s₀.Spares src s) {c : ChanId} {source : Nat} {code : Code} :
    s₀.Spares src (s.recoveryRecord (.chan c) source code) := hs.journalStep (c := c) rfl (.inr (.inr rfl))

theorem State.Spares.recoveredVerdicts (hs : s₀.Spares src s) {c : ChanId} {root : Digest} : s₀.Spares src (s.recoveredVerdicts c root) :=
  hs.endVers.updChan.postVerdict.postVerdict

theorem State.Spares.queueRepairs (hs : s₀.Spares src s) {c : ChanId} {source : Nat} {units : List Nat} :
    s₀.Spares src (s.queueRepairs c source units) := by
  unfold State.queueRepairs
  split
  · exact hs
  exact hs.updChan.startRepairFrom

theorem State.Spares.restoreLeaves (hs : s₀.Spares src s) {c : ChanId} {source : Nat} {b : List Byte} :
    s₀.Spares src (s.restoreLeaves c source b) :=
  have written := (hs.foldl fun _ _ h => h.mirrorWrite.putLeafDigest).updChan
  (written.rewriteDigests.ite written).queueRepairs

theorem State.Spares.recoverSame (hs : s₀.Spares src s) {c : ChanId} {source : Nat} {b : List Byte} :
    s₀.Spares src (s.recoverSame c source b) :=
  have posted := hs.setChan.restoreLeaves.recoveredVerdicts
  hs.startFill.startVer.ite (posted.repairEnds.ite posted)

theorem State.Spares.recoverOther (hs : s₀.Spares src s) {c : ChanId} {b : List Byte} : s₀.Spares src (s.recoverOther c b) := by
  unfold State.recoverOther
  dsimp only
  split
  · exact hs
  · refine .landCommit (.landImage (.updChan (.ite (.goldenWrite ?_) ?_)))
    · exact hs.setChan.updRecord
    · exact hs.setChan.updRecord

theorem State.Spares.noteCodes (hs : s₀.Spares src s) {c : ChanId} {codes : List Code} : s₀.Spares src (s.noteCodes c codes) := hs.updRecord

theorem State.Spares.streamClose (hs : s₀.Spares src s) {c : ChanId} : s₀.Spares src (s.streamClose c) := by
  unfold State.streamClose
  refine hs.ite ?_
  split
  · exact hs.abandon
  exact hs.updRecord.updRecord.startUpdVer

theorem State.Spares.resetStream (hs : s₀.Spares src s) {c : ChanId} : s₀.Spares src (s.resetStream c) := by
  unfold State.resetStream
  refine .ite ?_ hs
  exact .streamClose (by split; exacts [hs.updRecord.holdSet.ite hs, hs])

end

/-! ## Runs, which name their source -/

section
variable {s₀ s : State}

theorem State.Spares.recoveryEnds (hs : s₀.Spares False s) {t : Target} {source : Nat} : s₀.Spares False (s.recoveryEnds t source) :=
  hs.updTarget False.elim

theorem State.Spares.recoverMirror (hs : s₀.Spares False s) {c : ChanId} : s₀.Spares False (s.recoverMirror c) :=
  have ended := hs.recoveryRecord.recoveryEnds.setChan
  ended.repairEnds.ite ended

theorem State.Spares.recoverFrom (hs : s₀.Spares False s) {c : ChanId} {source : Nat} {b : List Byte} :
    s₀.Spares False (s.recoverFrom c source b) :=
  hs.recoveryRecord.recoveryEnds.recoverSame.ite hs.recoveryRecord.recoveryEnds.recoverOther

theorem State.Spares.recoveryQuarantine (hs : s₀.Spares False s) {c : ChanId} {code : Code} :
    s₀.Spares False (s.recoveryQuarantine c code) := (hs.recoveryRecord.updTarget False.elim).setChan.updChan

theorem State.Spares.recoveryFails (hs : s₀.Spares False s) {c : ChanId} : s₀.Spares False (s.recoveryFails c) := by
  unfold State.recoveryFails State.recoveryNone
  dsimp only
  split
  · exact hs.recoveryRecord.recoveryEnds.noSourceLog.ite hs.recoveryQuarantine
  · exact hs.recoveryRecord.updRecord
  exact hs.recoveryQuarantine

theorem State.Spares.recoveryRun (hs : s₀.Spares False s) {c : ChanId} {j : Judgement} : s₀.Spares False (s.recoveryRun c j) := by
  unfold State.recoveryRun
  refine hs.ite (hs.recoverMirror.ite ?_)
  dsimp only
  split
  · exact hs.recoverFrom
  exact hs.noteCodes.updRecord.askPeers.ite hs.noteCodes.updRecord.recoveryFails

theorem State.Spares.peerRecovers (hs : s₀.Spares False s) {c : ChanId} {b : List Byte} {code : Code} :
    s₀.Spares False (s.peerRecovers c b code) := hs.recoveryRun.ite (hs.recoveryRun.recoverFrom.ite hs.recoveryRun.noteCodes)

end

end Sys2Proof.Machine
end

section
/-!
PROOF. O12: laws of a target's record, of the journal's records that name no INTENT or COMMIT, and of the writes that are taken.
-/
namespace Sys2Proof.Machine

/-! ## A target's record -/

theorem State.target_updTarget (s : State) (t : Target) (f : TargetUpd → TargetUpd) : (s.updTarget t f).target t = f (s.target t) :=
  vupd_get s.upd.targets t.idx f

theorem State.target_congr {s t : State} (h : t.upd.targets = s.upd.targets) (T : Target) : t.target T = s.target T := by
  rw [State.target, State.target, h]

/-! ## Channels -/

theorem State.setChan_targets (s : State) (c : ChanId) (st : ChanState) : (s.setChan c st).upd.targets = s.upd.targets := by
  rw [State.setChan_eq]

/-- Outside the freeze form a channel comes to the state it is moved to (R39, R41). -/
theorem State.setChan_moves {s : State} (hf : s.dev.form ≠ .freeze) (c : ChanId) (st : ChanState) :
    ((s.setChan c st).chan c).state = st := by
  unfold State.setChan
  dsimp only
  split
  · next h => exact h.resolve_right fun hz => hf hz.1
  · exact s.enterChan_chan_state c st

theorem State.verifyChan_targets (s : State) (c : ChanId) : (s.verifyChan c).upd.targets = s.upd.targets := by
  unfold State.verifyChan
  dsimp only
  split <;> rfl

theorem State.repairEnds_targets (s : State) (c : ChanId) : (s.repairEnds c).upd.targets = s.upd.targets := by
  unfold State.repairEnds
  dsimp only
  split
  · rfl
  split
  · exact State.setChan_targets _ c _
  · rfl

theorem State.abandonChan_targets (s : State) (c : ChanId) (held : Option Half) : (s.abandonChan c held).upd.targets = s.upd.targets := by
  cases held with
  | none =>
    unfold State.abandonChan
    dsimp only
    split
    · exact State.setChan_targets _ _ _
    · rfl
  | some h =>
    unfold State.abandonChan
    dsimp only
    split
    · exact (State.verifyChan_targets _ _).trans (State.setChan_targets _ _ _)
    · rfl

/-! ## Records that name no INTENT or COMMIT -/

/-- `t` is `s` but for the cores, the memory, the log and the journal, the records of the targets left as they were. -/
def State.RecordOnly (s t : State) : Prop :=
  t = { s with cores := t.cores, mem := t.mem, log := t.log, upd := { t.upd with targets := s.upd.targets } }

theorem State.RecordOnly.trans {s t u : State} (h₁ : s.RecordOnly t) (h₂ : t.RecordOnly u) : s.RecordOnly u := by
  unfold State.RecordOnly at *
  rw [h₂, h₁]

theorem State.RecordOnly.targets {s t : State} (h : s.RecordOnly t) : t.upd.targets = s.upd.targets := by
  unfold State.RecordOnly at h
  rw [h]

theorem State.RecordOnly.rest {s t : State} (h : s.RecordOnly t) :
    t.time = s.time ∧ t.dev = s.dev ∧ t.hg = s.hg ∧ t.chans = s.chans ∧ t.rill = s.rill := by
  unfold State.RecordOnly at h
  rw [h]
  exact ⟨rfl, rfl, rfl, rfl, rfl⟩

theorem State.rawAppend_recordOnly (s : State) (r : JRec) : s.RecordOnly (s.rawAppend r) := rfl

theorem State.erase_recordOnly (s : State) (a n : Nat) : s.RecordOnly (s.erase a n) := rfl

theorem State.journalCompact_recordOnly (s : State) : s.RecordOnly s.journalCompact := by
  unfold State.journalCompact
  refine .trans (.trans (State.foldl_inv s.RecordOnly State.putRec ?_ _ _ ?_) (State.rawAppend_recordOnly _ _))
    (State.erase_recordOnly _ _ _)
  · exact fun t r h => h.trans rfl
  · exact rfl

theorem State.compactIfDue_recordOnly (s : State) : s.RecordOnly s.compactIfDue := by
  unfold State.compactIfDue
  split
  · exact s.journalCompact_recordOnly
  · rfl

theorem State.bankHeader_recordOnly (s : State) : s.RecordOnly s.bankHeader := by
  unfold State.bankHeader
  split <;> rfl

theorem State.noteRec_rest (s : State) {r : JRec} (hi : r.type ≠ .intent) (hc : r.type ≠ .commit) (seq : Nat) : s.noteRec r seq = s := by
  unfold State.noteRec
  split
  · next h => exact absurd h hi
  · next h => exact absurd h hc
  · rfl

theorem State.fillRef_type (s : State) (r : JRec) : (s.fillRef r).type = r.type := by
  unfold State.fillRef
  split <;> rfl

theorem State.appendRec_recordOnly (s : State) {r : JRec} (hi : r.type ≠ .intent) (hc : r.type ≠ .commit) :
    s.RecordOnly (s.appendRec r) := by
  have noted := State.noteRec_rest (s.bankHeader.rawAppend (s.bankHeader.fillRef r)) (r := s.bankHeader.fillRef r)
    (by rwa [State.fillRef_type]) (by rwa [State.fillRef_type]) s.bankHeader.upd.nextSeq
  refine s.bankHeader_recordOnly.trans (.trans (State.rawAppend_recordOnly _ (s.bankHeader.fillRef r)) ?_)
  show State.RecordOnly _ (State.compactIfDue _)
  rw [noted]
  exact State.compactIfDue_recordOnly _

theorem State.queueStep_recordOnly (s : State) (g : GateStep) : s.RecordOnly (s.queueStep g) := by
  unfold State.queueStep State.gateWait
  split
  · rfl
  · rw [State.logLimited_eq]
    rfl

/-- A channel's RECOVERY record writes the journal alone (R230). -/
theorem State.recoveryRecord_recordOnly (s : State) (c : ChanId) (source : Nat) (code : Code) :
    s.RecordOnly (s.recoveryRecord (.chan c) source code) := by
  unfold State.recoveryRecord State.journalStep
  dsimp only
  split
  · rw [((State.afterRec_chan _ c rfl).2 (.inr rfl))]
    exact s.appendRec_recordOnly (by simp [JRec.of]) (by simp [JRec.of])
  · exact s.queueStep_recordOnly _

/-! ## Writes that are taken -/

/-- A write that is taken acts and answers the act's code; none of the object's own conditions refuses it. -/
theorem State.objWrite_taken {s : State} {who : Requester} {acc : Access} {p : Bool} {index sub : Nat} {c : Option ChanId}
    {own : List Code} (h : s.takesWrite who acc p index sub c own = true) (op : ModeOp) (act : State → State × Code) :
    own = [] ∧ s.objWrite who op acc p index sub c own act = (act s).1.answer (act s).2 := by
  simp only [State.takesWrite, Bool.and_eq_true, Option.isNone_iff_eq_none] at h
  obtain ⟨ha, hf⟩ := h
  refine ⟨(List.append_eq_nil_iff.1 ((Code.first_eq_none_iff _).1 hf)).2, ?_⟩
  simp [State.objWrite, State.asked, ha, hf]

end Sys2Proof.Machine
end

section
/-!
PROOF. O12: a recovery run, its end at the peers' timeout and at the end of the upload wait (R230-R234).
-/
namespace Sys2Proof.Machine

/-! ## The run's branches -/

/-- The containers of the local Cistern, each with the code that both halves come to (R230). -/
def State.localTries (s : State) (c : ChanId) (j : Judgement) : List (List Byte × Code) :=
  (s.localCopies c).map fun b => (b, (s.judgeBoth (.chan c) b j).code)

/-- Does a container that was judged serve (R219, R577). -/
def State.serves (s : State) (c : ChanId) (x : List Byte × Code) : Bool := x.2 == .ok && s.installable c x.1

/-- The local sources have been tried (R230). -/
def State.localTried (s : State) (c : ChanId) (j : Judgement) : State :=
  (s.noteCodes c ((s.localTries c j).map fun x => x.2)).updTarget (.chan c) fun u => { u with recLocal := true }

/-- A run is under way whose local sources have not been tried. -/
structure State.InRun (s : State) (c : ChanId) : Prop where
  state : (s.target (.chan c)).recState = 1
  fresh : (s.target (.chan c)).recLocal = false

section
variable {s : State} {c : ChanId} {j : Judgement}

theorem State.recoveryRun_mirror (h : s.InRun c) (hm : s.mirrorSource c = true) : s.recoveryRun c j = s.recoverMirror c := by
  unfold State.recoveryRun
  dsimp only
  rw [if_neg (by simp [h.state, h.fresh]), if_pos hm]

theorem State.recoveryRun_local (h : s.InRun c) (hm : s.mirrorSource c = false) (ht : (s.localTries c j).any (s.serves c) = true) :
    ∃ b, s.recoveryRun c j = s.recoverFrom c 2 b := by
  have found : ((s.localTries c j).find? (s.serves c)).isSome = true := List.find?_isSome.2 (List.any_eq_true.1 ht)
  obtain ⟨x, hx⟩ := Option.isSome_iff_exists.1 found
  unfold State.localTries State.serves at hx
  refine ⟨x.1, ?_⟩
  unfold State.recoveryRun
  dsimp only
  rw [if_neg (by simp [h.state, h.fresh]), if_neg (by simp [hm]), hx]

theorem State.recoveryRun_tried (h : s.InRun c) (hm : s.mirrorSource c = false) (ht : (s.localTries c j).any (s.serves c) = false) :
    s.recoveryRun c j = if s.peerSource c then (s.localTried c j).askPeers c else (s.localTried c j).recoveryFails c := by
  have hx : (s.localTries c j).find? (s.serves c) = none := by
    rw [List.find?_eq_none]
    simpa using ht
  unfold State.localTries State.serves at hx
  unfold State.recoveryRun
  dsimp only
  rw [if_neg (by simp [h.state, h.fresh]), if_neg (by simp [hm]), hx]
  rfl

/-- A run that waits for its peers tries no source again. -/
theorem State.recoveryRun_waits (h : (s.target (.chan c)).recLocal = true) : s.recoveryRun c j = s := by
  unfold State.recoveryRun
  exact if_pos (.inr h)

theorem State.localTried_target (s : State) (c : ChanId) (j : Judgement) :
    (s.localTried c j).target (.chan c) =
      { s.target (.chan c) with recCodes := (s.target (.chan c)).recCodes ++ (s.localTries c j).map fun x => x.2, recLocal := true } := by
  rw [State.localTried, State.target_updTarget, State.noteCodes, State.target_updTarget]

end

/-! ## The sources -/

/-- The verified mirror ends the run as source 1. -/
theorem State.recoverMirror_source (s : State) (c : ChanId) :
    ((s.recoverMirror c).target (.chan c)).recSource = 1 ∧ ((s.recoverMirror c).target (.chan c)).recState = 0 := by
  have ended := (s.recoveryRecord (.chan c) 1 .ok).target_updTarget (.chan c)
    fun u => { u with recState := 0, recSource := 1, recUntil := none }
  have kept : (s.recoverMirror c).upd.targets = ((s.recoveryRecord (.chan c) 1 .ok).recoveryEnds (.chan c) 1).upd.targets := by
    unfold State.recoverMirror
    dsimp only
    split
    · exact (State.repairEnds_targets _ _).trans (State.setChan_targets _ _ _)
    · exact State.setChan_targets _ _ _
  rw [State.target_congr kept]
  exact ⟨congrArg TargetUpd.recSource ended, congrArg TargetUpd.recState ended⟩

/-- A container that is installed ends the run as its source. -/
theorem State.recoverFrom_source (s : State) (c : ChanId) (source : Nat) (b : List Byte) :
    ((s.recoverFrom c source b).target (.chan c)).recSource = source := by
  have ended := (s.recoveryRecord (.chan c) source .ok).target_updTarget (.chan c)
    fun u => { u with recState := 0, recSource := source, recUntil := none }
  have spared : ((s.recoveryRecord (.chan c) source .ok).recoveryEnds (.chan c) source).Spares True (s.recoverFrom c source b) := by
    unfold State.recoverFrom
    exact (State.Spares.refl _).recoverSame.ite (State.Spares.refl _).recoverOther
  exact (spared.sources trivial _).trans (congrArg TargetUpd.recSource ended)

/-- `t` is `s` but for Pakor. -/
def State.PakorOnly (s t : State) : Prop := t = { s with pak := t.pak }

theorem State.PakorOnly.trans {s t u : State} (h₁ : s.PakorOnly t) (h₂ : t.PakorOnly u) : s.PakorOnly u := by
  unfold State.PakorOnly at *
  rw [h₂, h₁]

theorem State.PakorOnly.foldl {s₀ s : State} {α : Type} {f : State → α → State} {l : List α} (hs : s₀.PakorOnly s)
    (hf : ∀ (t : State) a, t.PakorOnly (f t a)) : s₀.PakorOnly (l.foldl f s) :=
  State.foldl_inv s₀.PakorOnly f (fun t a h => h.trans (hf t a)) l s hs

theorem State.requestShards_pakorOnly (s : State) (t : Target) (g : GoldenSet) : s.PakorOnly (s.requestShards t g) :=
  .foldl rfl fun t _ => t.send_eq _ _ _

theorem State.requestOrphan_pakorOnly (s : State) (e : CatEntry) : s.PakorOnly (s.requestOrphan e) := by
  refine .foldl rfl fun t d => .foldl rfl fun t i => ?_
  split
  · rfl
  · exact t.send_eq _ _ _

/-- Asking the peers sends frames and writes nothing else. -/
theorem State.askPeers_pakorOnly (s : State) (c : ChanId) : s.PakorOnly (s.askPeers c) := by
  have sets : s.PakorOnly ((s.peerSets c).foldl (fun s g => s.requestShards (.chan c) g) s) :=
    .foldl rfl fun t _ => t.requestShards_pakorOnly _ _
  unfold State.askPeers
  dsimp only
  split
  · exact .foldl sets fun t e => t.requestOrphan_pakorOnly e
  · exact sets

/-! ## Ends without a source -/

section
variable {s : State} {c : ChanId}

/-- A channel that recovery quarantines, outside the freeze form (R230 source 5). -/
theorem State.recoveryQuarantine_leaves (hf : s.dev.form ≠ .freeze) (code : Code) :
    let t := s.recoveryQuarantine c code
    ((t.target (.chan c)).recState = 3 ∧ (t.target (.chan c)).recSource = 5 ∧ (t.target (.chan c)).status = code) ∧
      (t.chan c).state = .quarantined ∧ t.hg = s.hg := by
  obtain ⟨-, dev, hg, -, -⟩ := (s.recoveryRecord_recordOnly c 5 code).rest
  unfold State.recoveryQuarantine
  dsimp only
  generalize s.recoveryRecord (.chan c) 5 code = r at dev hg
  generalize hq : r.updTarget (.chan c) _ = q
  have hdev : q.dev = s.dev := by rw [← hq]; exact dev
  have hhg : q.hg = s.hg := by rw [← hq]; exact hg
  have kept : ((q.setChan c .quarantined).updChan c fun ch => { ch with fillNext := none }).target (.chan c) = q.target (.chan c) :=
    State.target_congr (q.setChan_targets c .quarantined) _
  refine ⟨?_, ?_, ?_⟩
  · rw [kept, ← hq, State.target_updTarget]
    exact ⟨rfl, rfl, rfl⟩
  · exact (congrArg Chan.state (State.chan_updChan _ c _)).trans (State.setChan_moves (by rwa [hdev]) c .quarantined)
  · exact (q.setChan_hg c .quarantined).trans hhg

theorem State.recoveryFails_held (h : (s.chan c).state = .held) :
    s.recoveryFails c = s.recoveryQuarantine c (runCode (s.target (.chan c)).recCodes) := by
  unfold State.recoveryFails State.recoveryNone
  rw [h]

/-- A FILLING channel without a source waits for an upload (R234). -/
theorem State.recoveryFails_filling (h : (s.chan c).state = .filling) :
    let t := s.recoveryFails c
    (t.target (.chan c)).recState = 2 ∧ (t.target (.chan c)).recUntil = some (s.time + s.uploadWait) ∧ (t.chan c).state = .filling ∧
      t.hg = s.hg ∧ (t.target (.chan c)).status = runCode (s.target (.chan c)).recCodes := by
  have logged := s.recoveryRecord_recordOnly c 0 (runCode (s.target (.chan c)).recCodes)
  unfold State.recoveryFails State.recoveryNone
  simp only [h]
  generalize s.recoveryRecord (.chan c) 0 (runCode (s.target (.chan c)).recCodes) = r at logged
  obtain ⟨time, -, hg, chans, rill⟩ := logged.rest
  rw [State.target_updTarget]
  refine ⟨rfl, ?_, ?_, hg, rfl⟩
  · simp only [time, State.uploadWait, State.pnat, rill]
  · show (r.chan c).state = _
    rw [State.chan, chans]
    exact h

end

/-! ## The run and its ends -/

section
variable {s : State} {c : ChanId} {j : Judgement}

/-- The codes of a run whose local containers have been judged. -/
def State.triedCodes (s : State) (c : ChanId) (j : Judgement) : List Code :=
  (s.target (.chan c)).recCodes ++ (s.localTries c j).map fun x => x.2

theorem State.recoveryRun_asks (h : s.InRun c) (hm : s.mirrorSource c = false) (ht : (s.localTries c j).any (s.serves c) = false)
    (hp : s.peerSource c = true) :
    let t := s.recoveryRun c j
    (t.target (.chan c)).recState = 1 ∧ (t.target (.chan c)).recLocal = true ∧ (t.target (.chan c)).recCodes = s.triedCodes c j ∧
      t.chans = s.chans ∧ t.hg = s.hg := by
  dsimp only
  rw [State.recoveryRun_tried h hm ht, if_pos hp, (s.localTried c j).askPeers_pakorOnly c]
  show (((s.localTried c j).target (.chan c)).recState = 1 ∧ ((s.localTried c j).target (.chan c)).recLocal = true ∧
    ((s.localTried c j).target (.chan c)).recCodes = _ ∧ _)
  rw [State.localTried_target]
  exact ⟨h.state, rfl, rfl, rfl, rfl⟩

theorem State.recoveryRun_fails (h : s.InRun c) (hm : s.mirrorSource c = false) (ht : (s.localTries c j).any (s.serves c) = false)
    (hp : s.peerSource c = false) :
    s.recoveryRun c j = (s.localTried c j).recoveryFails c ∧ ((s.localTried c j).target (.chan c)).recCodes = s.triedCodes c j := by
  rw [State.recoveryRun_tried h hm ht, if_neg (by simp [hp]), State.localTried_target]
  exact ⟨rfl, rfl⟩

/-- A FILLING channel waits for an upload (R234). -/
theorem State.recoveryRun_filling (h : s.InRun c) (hm : s.mirrorSource c = false) (ht : (s.localTries c j).any (s.serves c) = false)
    (hp : s.peerSource c = false) (hc : (s.chan c).state = .filling) :
    let t := s.recoveryRun c j
    (t.target (.chan c)).recState = 2 ∧ (t.target (.chan c)).recUntil = some (s.time + s.uploadWait) ∧ (t.chan c).state = .filling ∧
      t.hg = s.hg ∧ (t.target (.chan c)).status = runCode (s.triedCodes c j) := by
  obtain ⟨run, codes⟩ := State.recoveryRun_fails h hm ht hp
  rw [run, ← codes]
  exact State.recoveryFails_filling hc

/-- A HELD channel is quarantined (R41). -/
theorem State.recoveryRun_held (h : s.InRun c) (hm : s.mirrorSource c = false) (ht : (s.localTries c j).any (s.serves c) = false)
    (hp : s.peerSource c = false) (hc : (s.chan c).state = .held) (hf : s.dev.form ≠ .freeze) :
    let t := s.recoveryRun c j
    (t.target (.chan c)).recState = 3 ∧ (t.target (.chan c)).recSource = 5 ∧ (t.target (.chan c)).status = runCode (s.triedCodes c j) ∧
      (t.chan c).state = .quarantined ∧ t.hg = s.hg := by
  obtain ⟨run, codes⟩ := State.recoveryRun_fails h hm ht hp
  rw [run, ← codes, State.recoveryFails_held (s := s.localTried c j) hc]
  obtain ⟨⟨st, src, code⟩, chan, hg⟩ := State.recoveryQuarantine_leaves (s := s.localTried c j) (c := c) hf
    (runCode ((s.localTried c j).target (.chan c)).recCodes)
  exact ⟨st, src, code, chan, hg⟩

/-- The peers' time is over: a HELD channel is quarantined with the code of what was judged (R230). -/
theorem State.peersTimeout_held {a : Nat} (hu : (s.target (.chan c)).recUntil = some a) (hf : s.dev.form ≠ .freeze)
    (h1 : (s.target (.chan c)).recState = 1) (hl : (s.target (.chan c)).recLocal = true) (hc : (s.chan c).state = .held) :
    let t := s.peersTimeout c
    t.time = max s.time a ∧ (t.target (.chan c)).status = runCode (s.target (.chan c)).recCodes ∧ (t.chan c).state = .quarantined := by
  have e : s.peersTimeout c = (s.advanceTo a).recoveryQuarantine c (runCode (s.target (.chan c)).recCodes) := by
    unfold State.peersTimeout
    dsimp only
    rw [if_neg (by simp [h1]), hu, State.recoveryRun_waits (s := s.advanceTo _) hl]
    exact (if_pos h1).trans (State.recoveryFails_held (s := s.advanceTo a) hc)
  dsimp only
  rw [e]
  obtain ⟨⟨-, -, code⟩, chan, -⟩ := State.recoveryQuarantine_leaves (s := s.advanceTo a) (c := c) hf
    (runCode (s.target (.chan c)).recCodes)
  exact ⟨((State.Spares.refl (s.advanceTo a)).recoveryQuarantine (c := c)).time, code, chan⟩

/-- The upload wait is over: the channel is quarantined with the code of its run (R234). -/
theorem State.uploadWaitExpired_leaves {a : Nat} (hu : (s.target (.chan c)).recUntil = some a) (hf : s.dev.form ≠ .freeze)
    (h2 : (s.target (.chan c)).recState = 2) :
    let t := s.uploadWaitExpired c
    t.time = max s.time a ∧ (t.target (.chan c)).status = (s.target (.chan c)).status ∧ (t.target (.chan c)).recState = 3 ∧
      (t.chan c).state = .quarantined := by
  have e : s.uploadWaitExpired c = (s.advanceTo a).recoveryQuarantine c (s.target (.chan c)).status := by
    unfold State.uploadWaitExpired
    dsimp only
    rw [if_neg (by simp [h2]), hu]
    rfl
  dsimp only
  rw [e]
  obtain ⟨⟨st, -, code⟩, chan, -⟩ := State.recoveryQuarantine_leaves (s := s.advanceTo a) (c := c) hf (s.target (.chan c)).status
  exact ⟨((State.Spares.refl (s.advanceTo a)).recoveryQuarantine (c := c)).time, code, st, chan⟩

end

end Sys2Proof.Machine
end

section
/-!
PROOF. O12: a container reassembled from shards (R230, R265, R266).
-/
namespace Sys2Proof.Machine

/-! ## The staging region -/

/-- `t` is `s` with a container in the staging region and the engines charged. -/
structure State.Staged (s t : State) : Prop where
  only : t = { s with cores := t.cores, mem := t.mem, hash := t.hash
                      mir := { s.mir with writeCounter := t.mir.writeCounter, stageSeals := t.mir.stageSeals } }
  below : ∀ a, a < dramBase → t.byte a = s.byte a

theorem State.Staged.trans {s t u : State} (h₁ : s.Staged t) (h₂ : t.Staged u) : s.Staged u := by
  refine ⟨?_, fun a ha => (h₂.below a ha).trans (h₁.below a ha)⟩
  have only := h₂.only
  rw [h₁.only] at only
  exact only

theorem State.chargeBest_staged (s : State) (h : Half) (n : Nat) : s.Staged (s.chargeBest h n) := by
  unfold State.chargeBest
  split <;> exact ⟨rfl, fun _ _ => rfl⟩

theorem State.stagingWrite_staged (s : State) (o : Nat) (bs : List Byte) : s.Staged (s.stagingWrite o bs) := by
  have stored : s.Staged (s.store (dramBase + o) bs) :=
    ⟨rfl, fun a ha => s.store_byte_out (dramBase + o) a bs (.inl (Nat.lt_of_lt_of_le ha (Nat.le_add_right _ _)))⟩
  exact State.foldl_inv s.Staged State.sealStaging (fun t i h => h.trans ⟨rfl, fun _ _ => rfl⟩) _ _ stored

/-- The table lies below mirror DRAM: its base is a word (R89, R90). -/
theorem State.descBytes_below (s : State) (c : ChanId) : s.mir.chtBase.toNat + c.val * 0x100 + 256 ≤ dramBase := by
  have hb := s.mir.chtBase.isLt
  have hc := c.isLt
  unfold dramBase
  omega

section
variable {s t : State}

theorem State.Staged.descBytes (h : s.Staged t) (c : ChanId) : t.descBytes c = s.descBytes c := by
  have base : t.mir.chtBase = s.mir.chtBase := by rw [h.only]
  unfold State.descBytes
  rw [base]
  refine Memory.readN_congr _ _ _ _ fun a _ ha => h.below a ?_
  have hc := s.descBytes_below c
  omega

theorem State.Staged.judgeBoth (h : s.Staged t) (T : Target) (b : List Byte) (j : Judgement) : t.judgeBoth T b j = s.judgeBoth T b j := by
  rw [h.only]
  rfl

theorem State.Staged.target (h : s.Staged t) (T : Target) : t.target T = s.target T := by
  rw [h.only]
  rfl

theorem State.Staged.installable (h : s.Staged t) (c : ChanId) (b : List Byte) : t.installable c b = s.installable c b := by
  have bytes : t.descBytes = s.descBytes := funext h.descBytes
  have chan : t.chan = s.chan := by rw [h.only]; rfl
  have targets : t.upd = s.upd := by rw [h.only]
  have image : t.mir.imageBytes = s.mir.imageBytes := by rw [h.only]; rfl
  have cis : t.cis = s.cis := by rw [h.only]
  unfold State.installable State.freeLanding State.landingTaken State.sameRoot
  rw [bytes, chan, targets, image, cis]

end

/-! ## What a reassembled container does -/

section
variable {s : State} {c : ChanId} {l : List ShardCopy} {h : ShardHead} {j : Judgement}

/-- Too few shards, or no room to decode them: nothing happens. -/
theorem State.reassembled_waits (hh : agreedHead l = some h) (T : Target)
    (hw : (goodShards h l).length < h.k ∨ s.freeStaging (joinShards h (goodShards h l)).length = none) : s.reassembled T l j = s := by
  unfold State.reassembled
  rw [hh]
  dsimp only
  rcases hw with hk | hn
  · split
    · rfl
    · exact if_pos hk
  · rw [hn]

/-- Shards enough and room for them: the container is decoded and judged. -/
theorem State.reassembled_judged (hh : agreedHead l = some h) (T : Target) (hk : h.k ≤ (goodShards h l).length)
    (hs : (s.freeStaging (joinShards h (goodShards h l)).length).isSome = true) :
    ∃ t, s.Staged t ∧ s.reassembled T l j =
      t.judgeReassembled T h (((goodShards h l).take h.k).map fun x => x.1) (joinShards h (goodShards h l)) j := by
  obtain ⟨o, ho⟩ := Option.isSome_iff_exists.1 hs
  refine ⟨_, s.stagingWrite_staged o (joinShards h (goodShards h l)), ?_⟩
  unfold State.reassembled
  rw [hh]
  dsimp only
  rw [ho]
  exact if_neg (Nat.not_lt.2 hk)

theorem State.shardsBad_isPending (s : State) (T : Target) (h : ShardHead) (used : List Nat) :
    (s.shardsBad T h used).isPending 1081 = true := by
  unfold State.shardsBad
  exact (State.Spares.refl (src := False) _).refreshSets.events 1081 (State.raiseLog_isPending _ _ (by decide))

/-- A bad container raises its event (R265). -/
theorem State.judgeReassembled_bad {used : List Nat} {b : List Byte} (hbad : (s.judgeBoth (.chan c) b j).code ≠ .ok) :
    (s.judgeReassembled (.chan c) h used b j).isPending 1081 = true := by
  have charged := (s.chargeBest_staged .indigo (imgSize b)).trans (State.chargeBest_staged _ .amber (imgSize b))
  unfold State.judgeReassembled
  dsimp only
  rw [charged.judgeBoth, if_neg hbad]
  exact (State.Spares.refl _).peerRecovers.events 1081 (State.shardsBad_isPending _ _ _ _)

/-- A good container serves a run that waits for its peers, as source 3 (R266). -/
theorem State.peerRecovers_source {b : List Byte} (h1 : (s.target (.chan c)).recState = 1) (hl : (s.target (.chan c)).recLocal = true)
    (hi : s.installable c b = true) : ((s.peerRecovers c b .ok).target (.chan c)).recSource = 3 := by
  unfold State.peerRecovers
  dsimp only
  rw [State.recoveryRun_waits hl, if_neg (by simp [h1]), if_pos ⟨rfl, hi⟩]
  exact s.recoverFrom_source c 3 b

/-- A good container of another device's set is judged and then serves the run. -/
theorem State.judgeReassembled_good {used : List Nat} {b : List Byte} (hok : (s.judgeBoth (.chan c) b j).code = .ok)
    (hother : h.ownerId ≠ s.deviceId) : ∃ t, s.Staged t ∧ s.judgeReassembled (.chan c) h used b j = t.peerRecovers c b .ok := by
  have charged := (s.chargeBest_staged .indigo (imgSize b)).trans (State.chargeBest_staged _ .amber (imgSize b))
  refine ⟨_, charged, ?_⟩
  have none_own : ∀ gs : List GoldenSet, gs.find? (fun g => g.root == imgRoot b && h.ownerId == s.deviceId) = none := by
    intro gs
    simp [List.find?_eq_none, hother]
  have device : ((s.chargeBest .indigo (imgSize b)).chargeBest .amber (imgSize b)).deviceId = s.deviceId := by
    rw [charged.only]
    rfl
  unfold State.judgeReassembled
  dsimp only
  rw [charged.judgeBoth, if_pos hok, hok, device, none_own]

/-- A bad container raises its event. -/
theorem State.reassembled_bad (hh : agreedHead l = some h) (hk : h.k ≤ (goodShards h l).length)
    (hs : (s.freeStaging (joinShards h (goodShards h l)).length).isSome = true)
    (hbad : (s.judgeBoth (.chan c) (joinShards h (goodShards h l)) j).code ≠ .ok) :
    (s.reassembled (.chan c) l j).isPending 1081 = true := by
  obtain ⟨t, staged, e⟩ := State.reassembled_judged (j := j) hh (.chan c) hk hs
  rw [← staged.judgeBoth] at hbad
  rw [e]
  exact State.judgeReassembled_bad hbad

/-- A good container of another device's set serves a run that waits for its peers. -/
theorem State.reassembled_serves (hh : agreedHead l = some h) (hk : h.k ≤ (goodShards h l).length)
    (hs : (s.freeStaging (joinShards h (goodShards h l)).length).isSome = true)
    (hok : (s.judgeBoth (.chan c) (joinShards h (goodShards h l)) j).code = .ok) (hother : h.ownerId ≠ s.deviceId)
    (h1 : (s.target (.chan c)).recState = 1) (hl : (s.target (.chan c)).recLocal = true)
    (hi : s.installable c (joinShards h (goodShards h l)) = true) :
    ((s.reassembled (.chan c) l j).target (.chan c)).recSource = 3 := by
  obtain ⟨t, staged, e⟩ := State.reassembled_judged (j := j) hh (.chan c) hk hs
  have device : t.deviceId = s.deviceId := by
    rw [staged.only]
    rfl
  rw [← staged.judgeBoth] at hok
  rw [← device] at hother
  obtain ⟨v, again, e₂⟩ := State.judgeReassembled_good (used := ((goodShards h l).take h.k).map fun x => x.1) hok hother
  have both := staged.trans again
  rw [e, e₂]
  refine State.peerRecovers_source ?_ ?_ ?_
  · exact (congrArg TargetUpd.recState (both.target (.chan c))).trans h1
  · exact (congrArg TargetUpd.recLocal (both.target (.chan c))).trans hl
  · exact (both.installable c _).trans hi

end

end Sys2Proof.Machine
end

section
/-!
PROOF. O12: the ends of channel updates, uploads and streams (R206, R212, R213, R218, R234).
-/
namespace Sys2Proof.Machine

/-! ## An abandoned update -/

/-- The channel's update has been abandoned with a code, and its staging range has returned (R218). -/
def State.Abandoned (s : State) (c : ChanId) (code : Code) : Prop :=
  (s.target (.chan c)).state = 0 ∧ (s.target (.chan c)).status = code ∧ (s.target (.chan c)).staging = none

theorem State.Abandoned.congr {s t : State} {c : ChanId} {code : Code} (h : s.Abandoned c code)
    (targets : t.upd.targets = s.upd.targets) : t.Abandoned c code := by
  unfold State.Abandoned
  rw [State.target_congr targets]
  exact h

theorem State.freed_abandoned (s : State) (c : ChanId) (code : Code) :
    (s.updTarget (.chan c) fun u => { u.freed with state := 0, layout := 0, status := code }).Abandoned c code := by
  unfold State.Abandoned
  rw [State.target_updTarget]
  exact ⟨rfl, rfl, rfl⟩

theorem State.mayAbandon_iff (s : State) (T : Target) :
    s.mayAbandon T = true ↔ (1 ≤ (s.target T).state ∧ (s.target T).state ≤ 4) ∧ (s.target T).commit = 0 := by
  simp [State.mayAbandon]

theorem State.abandon_leaves {s : State} {c : ChanId} (h : s.mayAbandon (.chan c) = true) (code : Code) :
    (s.abandon (.chan c) code).Abandoned c code := by
  unfold State.abandon
  rw [if_neg (by simp [h])]
  exact (State.freed_abandoned _ c code).congr (State.abandonChan_targets _ _ _)

/-- An update that is abandoned at a time. -/
theorem State.abandon_advanced {s : State} {c : ChanId} (a : Nat) (h : s.mayAbandon (.chan c) = true) (code : Code) :
    ((s.advanceTo a).abandon (.chan c) code).Abandoned c code ∧ ((s.advanceTo a).abandon (.chan c) code).time = max s.time a :=
  ⟨State.abandon_leaves (s := s.advanceTo a) h code, (State.Spares.refl (src := False) (s.advanceTo a)).abandon.time⟩

theorem State.revokedUpdate_abandoned {s : State} {c : ChanId} {code : Code} (h : s.Abandoned c code) :
    (s.revokedUpdate (.chan c) code).Abandoned c code := by
  unfold State.revokedUpdate State.needRecovery
  dsimp only
  split
  · split
    · unfold State.Abandoned
      rw [State.target_updTarget]
      exact h
    · exact h
  · exact h

/-! ## Step 2 is over (R213) -/

theorem State.nextCommit_targets (s : State) : s.nextCommit.upd.targets = s.upd.targets := by
  unfold State.nextCommit
  split
  · rfl
  split
  · rfl
  split
  · rfl
  · exact (s.queueStep_recordOnly .catalogue).targets

/-- A golden write leaves the records of the targets. -/
theorem State.goldenWrite_targets (s : State) (T : Target) (b : List Byte) : (s.goldenWrite T b).upd.targets = s.upd.targets := by
  unfold State.goldenWrite
  split
  · rfl
  split
  · rfl
  dsimp only
  split
  · exact State.nextCommit_targets _
  · rfl

theorem State.pldmTell_targets (s : State) (T : Target) (command result : Nat) :
    (s.pldmTell T command result).upd.targets = s.upd.targets := by
  unfold State.pldmTell
  split <;> rfl

section
variable {s : State} {c : ChanId} {r : Both Code}

/-- A container that both halves find good waits for its golden copy. -/
theorem State.updVerified_ok (T : Target) (hr : r.code = .ok) :
    (s.updVerified T r).target T = { s.target T with
      verified := true, state := 3, idleAt := some (s.time + s.durableWait),
      digests := ⟨s.verDigests .indigo T, s.verDigests .amber T⟩, goldenHeld := 0 } := by
  unfold State.updVerified
  rw [if_pos hr]
  dsimp only
  rw [State.target_congr (State.goldenWrite_targets _ _ _), State.target_congr (State.pldmTell_targets _ _ _ _)]
  split
  · exact State.target_updTarget (s.endVers T) T _
  · exact State.target_updTarget (s.endVers T) T _

/-- A container that a half finds bad has its update abandoned with that half's code. -/
theorem State.updVerified_bad (h : s.mayAbandon (.chan c) = true) (hr : r.code ≠ .ok) :
    (s.updVerified (.chan c) r).Abandoned c r.code := by
  unfold State.updVerified
  rw [if_neg hr]
  refine State.revokedUpdate_abandoned (State.abandon_leaves ?_ r.code)
  rw [State.mayAbandon, State.target_congr (State.pldmTell_targets _ _ _ _)]
  exact h

theorem State.pldmTell_chans (s : State) (T : Target) (command result : Nat) : (s.pldmTell T command result).chans = s.chans := by
  unfold State.pldmTell
  split <;> rfl

theorem State.pldmRecovered_chans (s : State) (T : Target) (code : Code) : (s.pldmRecovered T code).chans = s.chans := by
  unfold State.pldmRecovered
  split
  · exact s.pldmTell_chans T _ _
  · rfl

/-- A container uploaded for a recovery that a half finds bad leaves its code (R234). -/
theorem State.uploadJudged_bad (hr : r.code ≠ .ok) : (s.uploadJudged c r).Abandoned c r.code ∧ (s.uploadJudged c r).chans = s.chans := by
  have code : (if r.code = .ok ∧ ! s.installable c (s.target (.chan c)).container then Code.full else r.code) = r.code :=
    if_neg fun h => hr h.1
  unfold State.uploadJudged
  dsimp only
  rw [code, if_neg hr]
  exact ⟨State.freed_abandoned _ c r.code, State.pldmRecovered_chans s (.chan c) r.code⟩

/-- Where both halves have finished step 2, the update goes on or an upload for a recovery is judged. -/
theorem State.channelVerified_done (h2 : (s.target (.chan c)).state = 2) (hr : s.halfResults (.chan c) = some r) :
    s.channelVerified c = if s.recoveringUpload c then s.uploadJudged c r else s.updVerified (.chan c) r := by
  unfold State.channelVerified
  dsimp only
  rw [hr]
  exact if_neg (by simp [h2])

theorem State.channelVerified_ok (h2 : (s.target (.chan c)).state = 2) (hr : s.halfResults (.chan c) = some r)
    (hu : s.recoveringUpload c = false) (hok : r.code = .ok) :
    (s.channelVerified c).target (.chan c) = { s.target (.chan c) with
      verified := true, state := 3, idleAt := some (s.time + s.durableWait),
      digests := ⟨s.verDigests .indigo (.chan c), s.verDigests .amber (.chan c)⟩, goldenHeld := 0 } := by
  rw [State.channelVerified_done h2 hr, if_neg (by simp [hu])]
  exact State.updVerified_ok (.chan c) hok

theorem State.channelVerified_bad (h2 : (s.target (.chan c)).state = 2) (hr : s.halfResults (.chan c) = some r)
    (hu : s.recoveringUpload c = false) (h0 : (s.target (.chan c)).commit = 0) (hbad : r.code ≠ .ok) :
    (s.channelVerified c).Abandoned c r.code := by
  rw [State.channelVerified_done h2 hr, if_neg (by simp [hu])]
  exact State.updVerified_bad ((State.mayAbandon_iff _ _).2 (by simp [h2, h0])) hbad

theorem State.channelVerified_recovery (h2 : (s.target (.chan c)).state = 2) (hr : s.halfResults (.chan c) = some r)
    (hu : s.recoveringUpload c = true) (hbad : r.code ≠ .ok) :
    (s.channelVerified c).Abandoned c r.code ∧ (s.channelVerified c).chans = s.chans := by
  rw [State.channelVerified_done h2 hr, if_pos hu]
  exact State.uploadJudged_bad hbad

end

/-! ## Idle uploads and streams (R206, R212) -/

section
variable {s : State} {c : ChanId} {a : Nat}

/-- No first segment came: the upload is abandoned at its time. -/
theorem State.uploadTimeout_leaves (ha : (s.target (.chan c)).idleAt = some a) (hc : (s.target (.chan c)).commit = 0)
    (ho : s.uploadOpen c = true) :
    (s.uploadTimeout c).Abandoned c .frameAbort ∧ (s.uploadTimeout c).time = max s.time a := by
  have h1 : (s.target (.chan c)).state = 1 := by
    simp only [State.uploadOpen, Bool.and_eq_true, beq_iff_eq] at ho
    exact ho.1.1
  unfold State.uploadTimeout
  rw [if_pos ho, ha]
  exact State.abandon_advanced a ((State.mayAbandon_iff _ _).2 (by simp [h1, hc])) .frameAbort

/-- No host command has touched the window: the stream is abandoned at its time. -/
theorem State.streamIdleExpired_leaves (ha : (s.target (.chan c)).idleAt = some a) (hc : (s.target (.chan c)).commit = 0)
    (h1 : (s.target (.chan c)).stream = 1) (hlo : 1 ≤ (s.target (.chan c)).state) (hhi : (s.target (.chan c)).state ≤ 4) :
    (s.streamIdleExpired c).Abandoned c .frameAbort ∧ (s.streamIdleExpired c).time = max s.time a := by
  unfold State.streamIdleExpired
  dsimp only
  rw [if_pos h1, ha]
  exact State.abandon_advanced a ((State.mayAbandon_iff _ _).2 ⟨⟨hlo, hhi⟩, hc⟩) .frameAbort

/-! ## A stream that its object ends (R212) -/

theorem State.streamRefusals_nil : s.streamRefusals c = [] ↔ (s.target (.chan c)).stream = 1 := by
  unfold State.streamRefusals
  split <;> simp_all

/-- A stream with a manifest closes for commit. -/
theorem State.streamClose_closes {m : List Byte} (h1 : (s.target (.chan c)).stream = 1)
    (hm : s.vget 0x0A22 (Target.chan c).sub [] = m) (hne : m ≠ []) :
    let t := s.streamClose c
    (t.target (.chan c)).stream = 2 ∧ (t.target (.chan c)).state = 2 ∧ (t.target (.chan c)).container = m ∧
      (t.target (.chan c)).activate = true ∧ t.hg = s.hg := by
  unfold State.streamClose
  dsimp only
  rw [if_neg (by simp [h1]), hm]
  cases m with
  | nil => exact absurd rfl hne
  | cons b bs =>
    dsimp only
    let w := s.updTarget (.chan c) fun u => { u with stream := 2, container := b :: bs, activate := true, idleAt := none }
    have staged := w.target_updTarget (.chan c) fun u => { u with
      state := 2, layout := w.layoutOf c (b :: bs),
      part1 := (List.range (imgLeaves (b :: bs))).filter fun i => w.inPart1 (.chan c) (b :: bs) i }
    have closed := s.target_updTarget (.chan c) fun u => { u with stream := 2, container := b :: bs, activate := true, idleAt := none }
    exact ⟨(congrArg TargetUpd.stream staged).trans (congrArg TargetUpd.stream closed), congrArg TargetUpd.state staged,
      (congrArg TargetUpd.container staged).trans (congrArg TargetUpd.container closed),
      (congrArg TargetUpd.activate staged).trans (congrArg TargetUpd.activate closed), rfl⟩

/-- STREAM_COMMIT that is taken closes the stream and answers OK. -/
theorem State.streamCommitObj_taken {who : Requester} {m : List Byte}
    (ht : s.takesWrite who .rwa false 0x0A21 (c.val + 1) none (s.streamRefusals c) = true)
    (hm : s.vget 0x0A22 (Target.chan c).sub [] = m) (hne : m ≠ []) :
    let t := s.streamCommitObj who c
    (t.target (.chan c)).stream = 2 ∧ (t.target (.chan c)).state = 2 ∧ (t.target (.chan c)).container = m ∧
      (t.target (.chan c)).activate = true ∧ t.rill.lastCode = .ok ∧ t.hg = s.hg := by
  obtain ⟨own, taken⟩ := State.objWrite_taken ht .write fun s => (s.streamClose c, .ok)
  obtain ⟨stream, state, container, activate, hg⟩ := State.streamClose_closes (State.streamRefusals_nil.1 own) hm hne
  dsimp only
  rw [State.streamCommitObj, taken]
  exact ⟨stream, state, container, activate, rfl, hg⟩

/-- STREAM_ABANDON that is taken abandons the stream and answers OK. -/
theorem State.streamAbandonObj_taken {who : Requester}
    (ht : s.takesWrite who .rwa false 0x0A21 (c.val + 1) none (s.streamRefusals c) = true) (hmay : s.mayAbandon (.chan c) = true) :
    (s.streamAbandonObj who c).Abandoned c .frameAbort ∧ (s.streamAbandonObj who c).rill.lastCode = .ok := by
  have taken := (State.objWrite_taken ht .write fun s => (s.abandon (.chan c) .frameAbort, .ok)).2
  rw [State.streamAbandonObj, taken]
  exact ⟨State.abandon_leaves hmay .frameAbort, rfl⟩

end

end Sys2Proof.Machine
end

section
/-!
PROOF. O12: segments of uploads that are taken (R206, R234, R357), and a host reset (R79).
-/
namespace Sys2Proof.Machine

/-! ## What a transfer holds -/

/-- The transfer of an update: its container, its state and the length it expects. -/
def TargetUpd.transfer (u : TargetUpd) : List Byte × Nat × Nat := (u.container, u.state, u.expect)

/-- `t` holds of every target the transfer that `s` holds. -/
def State.SameTransfers (s t : State) : Prop := ∀ T, (t.target T).transfer = (s.target T).transfer

theorem State.SameTransfers.trans {s t u : State} (h₁ : s.SameTransfers t) (h₂ : t.SameTransfers u) : s.SameTransfers u :=
  fun T => (h₂ T).trans (h₁ T)

theorem State.SameTransfers.of_targets {s t : State} (h : t.upd.targets = s.upd.targets) : s.SameTransfers t :=
  fun T => by rw [State.target_congr h]

theorem State.SameTransfers.updTarget (s : State) (T : Target) {f : TargetUpd → TargetUpd} (hf : ∀ u, (f u).transfer = u.transfer) :
    s.SameTransfers (s.updTarget T f) :=
  fun U => s.updTarget_apply TargetUpd.transfer hf T U

theorem State.noteRec_transfers (s : State) (r : JRec) (seq : Nat) : s.SameTransfers (s.noteRec r seq) := by
  unfold State.noteRec
  split
  · exact .updTarget s _ fun _ => rfl
  · exact .updTarget s _ fun _ => rfl
  · exact .of_targets rfl

theorem State.appendRec_transfers (s : State) (r : JRec) : s.SameTransfers (s.appendRec r) :=
  have headed : s.SameTransfers s.bankHeader := .of_targets s.bankHeader_recordOnly.targets
  have appended : s.bankHeader.SameTransfers (s.bankHeader.rawAppend (s.bankHeader.fillRef r)) := .of_targets rfl
  ((headed.trans appended).trans (State.noteRec_transfers _ _ _)).trans (.of_targets (State.compactIfDue_recordOnly _).targets)

theorem State.writeIntent_transfers (s : State) (T : Target) (b : List Byte) : s.SameTransfers (s.writeIntent T b) := by
  unfold State.writeIntent State.gatedAppend
  dsimp only
  split
  · exact s.appendRec_transfers _
  · exact .of_targets (s.queueStep_recordOnly _).targets

theorem State.stagingWrite_transfers (s : State) (o : Nat) (bs : List Byte) : s.SameTransfers (s.stagingWrite o bs) :=
  fun T => by rw [(s.stagingWrite_staged o bs).target]

theorem State.leafArrived_transfers (T : Target) (b : List Byte) (s : State) (i : Nat) : s.SameTransfers (s.leafArrived T b i) := by
  unfold State.leafArrived
  split
  · exact .of_targets rfl
  · dsimp only
    split
    · exact (s.stagingWrite_transfers _ _).trans (.updTarget _ T fun _ => rfl)
    · exact s.stagingWrite_transfers _ _

theorem State.SameTransfers.ite {s t u : State} {p : Prop} {_ : Decidable p} (ht : s.SameTransfers t) (hu : s.SameTransfers u) :
    s.SameTransfers (if p then t else u) := by
  split
  · exact ht
  · exact hu

theorem State.partIn_transfers (s : State) (T : Target) (was : Nat) : s.SameTransfers (s.partIn T was) := by
  unfold State.partIn
  extract_lets b n chan opened manifest judged
  have h₁ : s.SameTransfers opened := .ite (s.writeIntent_transfers T b) (.of_targets rfl)
  have h₂ : s.SameTransfers judged := .ite (h₁.trans (.of_targets rfl)) h₁
  refine .ite ?_ h₂
  exact State.foldl_inv s.SameTransfers _ (fun t i h => h.trans (t.leafArrived_transfers T b i)) _ _ h₂

section
variable {s : State} {c : ChanId} {data : List Byte}

/-- The data of a segment that the transfer has room for joins the container (R206, R213). -/
theorem State.takeData_transfer (h : (s.target (.chan c)).container.length + data.length ≤ (s.target (.chan c)).expect) :
    ((s.takeData (.chan c) data).target (.chan c)).transfer =
      ((s.target (.chan c)).container ++ data, (s.target (.chan c)).state, (s.target (.chan c)).expect) := by
  unfold State.takeData
  refine (State.partIn_transfers _ (.chan c) _ (.chan c)).trans ?_
  rw [State.target_updTarget, TargetUpd.transfer]
  dsimp only
  rw [List.take_of_length_le (by omega)]

/-- A segment before the last one that the transfer has room for. -/
theorem State.uploadPut_middle (h : (s.target (.chan c)).container.length + data.length ≤ (s.target (.chan c)).expect) :
    s.uploadPut (.chan c) false data = (s.takeData (.chan c) data, .ok) := by
  unfold State.uploadPut
  exact if_neg (Nat.not_lt.2 h)

end

/-! ## Segments that are taken -/

theorem TargetUpd.transfer_inj {u : TargetUpd} {b : List Byte} {st n : Nat} (h : u.transfer = (b, st, n)) :
    u.container = b ∧ u.state = st ∧ u.expect = n := by
  simpa [TargetUpd.transfer] using h

theorem TargetUpd.continues_iff (u : TargetUpd) (offset total : Nat) :
    u.continues offset total = true ↔
      u.state = 1 ∧ u.route = some .upload ∧ u.expect = total ∧ u.container.length = offset ∧ offset ≠ 0 := by
  simp [TargetUpd.continues, and_assoc]

section
variable {s : State} {who : Requester} {c : ChanId} {offset total : Nat} {data : List Byte}

/-- A segment that continues the upload joins its container. -/
theorem State.uploadSegment_continues
    (ht : s.takesWrite who .rwa false 0x0A42 (Target.chan c).sub none (s.uploadRefusals c offset total) = true)
    (hc : (s.target (.chan c)).continues offset total = true) (hl : (s.target (.chan c)).container.length + data.length ≤ total) :
    let t := s.uploadSegment who (.chan c) offset total false data
    (t.target (.chan c)).container = (s.target (.chan c)).container ++ data ∧ (t.target (.chan c)).state = 1 ∧ t.rill.lastCode = .ok := by
  obtain ⟨h1, -, he, -, h0⟩ := (TargetUpd.continues_iff _ _ _).1 hc
  have room : (s.target (.chan c)).container.length + data.length ≤ (s.target (.chan c)).expect := by rwa [he]
  have acts : s.uploadChan c offset total false data = (s.takeData (.chan c) data, .ok) := by
    unfold State.uploadChan
    dsimp only
    rw [if_neg h0, if_pos hc, State.uploadPut_middle room]
  have taken := (State.objWrite_taken ht .channelUpdate fun s => s.uploadChan c offset total false data).2
  rw [acts] at taken
  obtain ⟨container, state, -⟩ := TargetUpd.transfer_inj (State.takeData_transfer room)
  refine ⟨(congrArg (fun t : State => (t.target (.chan c)).container) taken).trans container,
    (congrArg (fun t : State => (t.target (.chan c)).state) taken).trans (state.trans h1), congrArg (fun t : State => t.rill.lastCode) taken⟩

/-- The first segment of a recovery upload opens it. -/
theorem State.uploadSegment_first
    (ht : s.takesWrite who .rwa false 0x0A42 (Target.chan c).sub none (s.uploadRefusals c 0 total) = true)
    (hr : s.recoveringUpload c = true) (hl : data.length ≤ total) :
    let t := s.uploadSegment who (.chan c) 0 total false data
    (t.target (.chan c)).container = data ∧ (t.target (.chan c)).expect = total ∧ (t.target (.chan c)).state = 1 ∧
      t.rill.lastCode = .ok := by
  have opened := s.target_updTarget (.chan c) fun u =>
    { u with state := 1, status := .ok, route := some .upload, container := [], expect := total }
  have acts : s.uploadChan c 0 total false data = State.uploadPut (s.updTarget (.chan c) fun u =>
      { u with state := 1, status := .ok, route := some .upload, container := [], expect := total }) (.chan c) false data := by
    unfold State.uploadChan State.uploadFirst
    dsimp only
    rw [if_pos rfl, if_pos hr]
  generalize (s.updTarget (.chan c) fun u =>
    { u with state := 1, status := .ok, route := some .upload, container := [], expect := total }) = v at opened acts
  have room : (v.target (.chan c)).container.length + data.length ≤ (v.target (.chan c)).expect := by
    rw [opened]
    simpa using hl
  have taken := (State.objWrite_taken ht .channelUpdate fun s => s.uploadChan c 0 total false data).2
  rw [acts, State.uploadPut_middle room] at taken
  obtain ⟨container, state, expect⟩ := TargetUpd.transfer_inj (State.takeData_transfer room)
  rw [opened] at container state expect
  exact ⟨(congrArg (fun t : State => (t.target (.chan c)).container) taken).trans container,
    (congrArg (fun t : State => (t.target (.chan c)).expect) taken).trans expect,
    (congrArg (fun t : State => (t.target (.chan c)).state) taken).trans state, congrArg (fun t : State => t.rill.lastCode) taken⟩

/-- A whole container in one segment is held for judgement while RECOVER serves (R357). -/
theorem State.uploadSegment_recover (ht : s.takesWrite who .rwa false 0x0A42 Target.mission.sub none s.recoverRefusals = true)
    (hm : s.dev.mode = .recover) (hl : data.length = total) :
    let t := s.uploadSegment who .mission 0 total true data
    t.boot = { s.boot with recoverImage := some (4, data) } ∧ t.rill.lastCode = .ok ∧ t.mem = s.mem := by
  have acts : s.recoverPut 0 total true data =
      ({ s.updTarget .mission fun u => { u.freed with state := 2 } with boot := { s.boot with recoverImage := some (4, data) } }, .ok) := by
    unfold State.recoverPut
    dsimp only
    rw [if_neg (by simp), if_neg (by simp), if_neg (by simp [hl])]
    rfl
  have taken := (State.objWrite_taken ht .deviceUpdate fun s => s.recoverPut 0 total true data).2
  rw [acts] at taken
  have served : s.uploadSegment who .mission 0 total true data = s.objWrite who .deviceUpdate .rwa false 0x0A42 Target.mission.sub none
      s.recoverRefusals fun s => s.recoverPut 0 total true data := by
    unfold State.uploadSegment
    dsimp only
    rw [if_pos hm]
  dsimp only
  rw [served, taken]
  exact ⟨rfl, rfl, rfl⟩

end

/-! ## A host reset (R79) -/

/-- A host reset holds its port in reset and ends what it drove; the other ports are as they were, and the reset is told. -/
theorem State.portReset_leaves (s : State) (p : PortId) :
    ((s.portReset p).port p).line = (true, none, []) ∧ (∀ q, q ≠ p → (s.portReset p).port q = s.port q) ∧
      (s.portReset p).isPending (portEvent p 14) = true := by
  have reset : ∀ q, (s.portReset p).port q = (s.updPort p fun q => { q with hreset := true, held := none, dq := [] }).port q :=
    ((State.personalityReset_personaOnly _ (chanOf p 0)).trans (State.personalityReset_personaOnly _ (chanOf p 1))).port
  refine ⟨?_, fun q hq => ?_, ?_⟩
  · rw [reset, State.port_updPort]
    rfl
  · rw [reset, State.port_updPort_ne _ _ _ _ hq]
  · have told := State.personalityReset_isPending ((s.updPort p fun q =>
      { q with hreset := true, held := none, dq := [] }).personalityReset (chanOf p 0)) (chanOf p 1)
    rwa [chanOf_port] at told

/-- What the streams' ends leave of it. -/
theorem State.hostReset_leaves (s : State) (p : PortId) :
    let t := ((s.portReset p).resetStream (chanOf p 0)).resetStream (chanOf p 1)
    (t.port p).hreset = true ∧ (t.port p).held = none ∧ (t.port p).dq = [] ∧
      (∀ q : PortId, q ≠ p → (t.port q).hreset = (s.port q).hreset) ∧ t.isPending (portEvent p 14) = true := by
  obtain ⟨line, others, told⟩ := s.portReset_leaves p
  have spared : (s.portReset p).Spares False (((s.portReset p).resetStream (chanOf p 0)).resetStream (chanOf p 1)) :=
    (State.Spares.refl _).resetStream.resetStream
  dsimp only
  generalize ((s.portReset p).resetStream (chanOf p 0)).resetStream (chanOf p 1) = t at spared
  have own := (spared.lines p).trans line
  simp only [Port.line, Prod.mk.injEq] at own
  obtain ⟨hreset, held, dq⟩ := own
  refine ⟨hreset, held, dq, fun q hq => ?_, spared.events _ told⟩
  rw [← others q hq]
  exact congrArg Prod.fst (spared.lines q)

end Sys2Proof.Machine
end

section
/-!
PROOF. O12: recovery, uploads, streams and host resets, each clause by the laws of its function.
-/
namespace Sys2Proof.Machine

/-- What RECOVERY_RUN does in a run whose local sources have not been tried (R230-R234). -/
theorem execRecoveryRun_sources {s : State} {c : ChanId} (j : Judgement) (run : s.quiet.InRun c) :
    let u := s.quiet
    let T : Target := .chan c
    (s.mirrorSource c = true → Completes (exec (.recoveryRun c j) s) fun t =>
      (t.target T).recSource = 1 ∧ (t.target T).recState = 0 ∧ t.pending = s.pending) ∧
    (s.mirrorSource c = false →
      ((u.localTries c j).any (u.serves c) = true → Completes (exec (.recoveryRun c j) s) fun t =>
        (t.target T).recSource = 2 ∧ t.pending = s.pending) ∧
      ((u.localTries c j).any (u.serves c) = false →
        (u.peerSource c = true → Completes (exec (.recoveryRun c j) s) fun t =>
          (t.target T).recState = 1 ∧ (t.target T).recLocal = true ∧ (t.target T).recCodes = u.triedCodes c j ∧ t.chans = s.chans ∧
          t.hg = s.hg) ∧
        (u.peerSource c = false → (s.chan c).state = .filling → Completes (exec (.recoveryRun c j) s) fun t =>
          (t.target T).recState = 2 ∧ (t.target T).recUntil = some (s.time + s.uploadWait) ∧ (t.chan c).state = .filling ∧ t.hg = s.hg ∧
          (t.target T).status = runCode (u.triedCodes c j)) ∧
        (u.peerSource c = false → (s.chan c).state = .held → s.dev.form ≠ .freeze → Completes (exec (.recoveryRun c j) s) fun t =>
          (t.target T).recState = 3 ∧ (t.target T).recSource = 5 ∧ (t.target T).status = runCode (u.triedCodes c j) ∧
          (t.chan c).state = .quarantined ∧ t.hg = s.hg))) := by
  intro u T
  have queue : (u.recoveryRun c j).pending = s.pending := ((State.Keeps.refl s).quiet.recoveryRun).queue
  refine ⟨fun hm => ⟨_, rfl, ?_⟩, fun hm => ⟨fun ht => ⟨_, rfl, ?_, queue⟩, fun ht => ⟨fun hp => ?_, fun hp hc => ?_, fun hp hc hf => ?_⟩⟩⟩
  · obtain ⟨source, state⟩ := u.recoverMirror_source c
    show ((u.recoveryRun c j).target T).recSource = 1 ∧ ((u.recoveryRun c j).target T).recState = 0 ∧ _
    refine ⟨?_, ?_, queue⟩
    · rwa [State.recoveryRun_mirror run hm]
    · rwa [State.recoveryRun_mirror run hm]
  · obtain ⟨b, e⟩ := State.recoveryRun_local run hm ht
    show ((u.recoveryRun c j).target T).recSource = 2
    rw [e]
    exact u.recoverFrom_source c 2 b
  · exact ⟨_, rfl, State.recoveryRun_asks run hm ht hp⟩
  · exact ⟨_, rfl, State.recoveryRun_filling run hm ht hp hc⟩
  · exact ⟨_, rfl, State.recoveryRun_held run hm ht hp hc hf⟩

/-- Settles O12: each command's clause is what its function does to the state with the outputs of the command before taken away. -/
theorem recoveryUploadsAndStreams : Obligations.RecoveryUploadsAndStreams := by
  intro s c u T U abandoned
  refine ⟨fun j h1 hl => execRecoveryRun_sources j ⟨h1, hl⟩, fun a ha hf => ⟨fun h1 hl hc => ?_, fun h2 => ?_⟩, fun l h j hh => ?_,
    fun r h2 hr => ?_, fun who data offset total => ⟨fun ht hc hl => ?_, fun ht hu hl => ?_, fun ht hm hl => ?_⟩,
    fun hc a ha => ⟨fun ho => ?_, fun h1 hlo hhi => ?_⟩, fun who ht => ⟨fun m hm hne => ?_, fun hmay => ?_⟩, fun p => ?_⟩
  · exact ⟨_, rfl, State.peersTimeout_held (s := u) ha hf h1 hl hc⟩
  · exact ⟨_, rfl, State.uploadWaitExpired_leaves (s := u) ha hf h2⟩
  · refine ⟨fun hw => congrArg _ (State.reassembled_waits (s := u) hh T hw), fun hk hs =>
      ⟨fun hbad => ⟨_, rfl, ?_⟩, fun hok hother h1 hl hi => ⟨_, rfl, ?_⟩⟩⟩
    · exact State.reassembled_bad (s := u) hh hk hs hbad
    · exact State.reassembled_serves (s := u) hh hk hs hok hother h1 hl hi
  · refine ⟨fun hu hok => ⟨_, rfl, ?_⟩, fun hu h0 hbad => ⟨_, rfl, ?_⟩, fun hu hbad => ⟨_, rfl, ?_⟩⟩
    · have e := State.channelVerified_ok (s := u) h2 hr hu hok
      exact ⟨congrArg TargetUpd.state e, congrArg TargetUpd.verified e, congrArg TargetUpd.idleAt e, congrArg TargetUpd.digests e⟩
    · exact State.channelVerified_bad (s := u) h2 hr hu h0 hbad
    · exact State.channelVerified_recovery (s := u) h2 hr hu hbad
  · exact ⟨_, rfl, State.uploadSegment_continues ht hc hl⟩
  · exact ⟨_, rfl, State.uploadSegment_first ht hu hl⟩
  · exact ⟨_, rfl, State.uploadSegment_recover (s := u) ht hm hl⟩
  · exact ⟨_, rfl, State.uploadTimeout_leaves (s := u) ha hc ho⟩
  · exact ⟨_, rfl, State.streamIdleExpired_leaves (s := u) ha hc h1 hlo hhi⟩
  · exact ⟨_, rfl, State.streamCommitObj_taken (s := u) ht hm hne⟩
  · exact ⟨_, rfl, State.streamAbandonObj_taken (s := u) ht hmay⟩
  · exact ⟨_, rfl, u.hostReset_leaves p⟩

end Sys2Proof.Machine
end
